-- ==== Sys2Proof/Word.lean ====
section
/-! DEFINITION. The word types of the TK8 (R2, R21): 64-bit words, 32-bit registers, bytes, and the names of units. -/

namespace Sys2Proof

/-- A 64-bit word: token words, instruction words, fan-out entries, values (R21, R63, R73). -/
abbrev Word := BitVec 64

/-- A 32-bit register or link word. -/
abbrev Reg := BitVec 32

/-- A byte. -/
abbrev Byte := BitVec 8

/-- A cell of the device, 0 to 1,023 (R13). -/
abbrev CellId := BitVec 10

/-- A graph slot (R37). -/
abbrev GraphId := BitVec 6

/-- A cluster, CELL[9:4] (R13). -/
abbrev ClusterId := BitVec 6

/-- A compute die or its HBM stack (R14). -/
abbrev DieId := BitVec 2

/-- A link index, 4 × port + link (R351, R355). -/
abbrev LinkId := BitVec 6

/-- A requester number of R411; only 0 to 64 exist. -/
abbrev Requester := BitVec 7

end Sys2Proof
end

