-- ==== Sys2Proof/Syntax.lean ====
section
/-! DEFINITION. The commands of the TK8 and their operands. One constructor of `Instr` per row of spec/opcode_table.json.
What a command brings from outside (host memory answers, packets, sensor readings, the SECDED outcome of a physical
upset) is an operand; what the device itself holds is in State. -/

namespace Sys2Proof

/-- What a SECDED decoder finds when a stored word is read (R89, R166, R183, R236, R291, R326). -/
inductive Upset where
  /-- The word is as it was written. -/
  | none
  /-- A single-bit error, corrected. -/
  | corrected
  /-- An uncorrectable error. -/
  | uncorrectable
deriving DecidableEq, Repr

/-- How a read of host memory ends (R251, R398, R513). -/
inductive HostStatus where
  | ok | unsupported | aborted | timeout | poisoned
deriving DecidableEq, Repr

/-- The host's answer to the reads of one command: its status, the 64-bit words read in ascending order, and the
indexes of the words that came in poisoned TLPs. -/
structure HostData where
  status : HostStatus
  words : List Word
  poisoned : List Nat
deriving DecidableEq, Repr

/-- Where a dispatch happens: the cell, its lane, whether it is the younger of the lane's two prefetch slots (R185),
and what the SECDED decoder finds when the lane reads the fan-out entries (R89). -/
structure Disp where
  cell : CellId
  lane : BitVec 3
  younger : Bool
  fanout : Upset
deriving DecidableEq, Repr

/-- The path by which a token reaches its cell's arrival stage (R158, R164). -/
inductive ArrivalSource where
  /-- the local result bypass -/
  | bypass
  /-- the crossbar ingress -/
  | ingress
  /-- the egress of a cell of the same cluster, through the cluster crossbar (R289) -/
  | sameCluster (src : CellId)
deriving DecidableEq, Repr

/-- A place where a token held too long is refused (R211, R375). -/
inductive RefuseSite where
  | ingress (c : CellId)
  | bypass (c : CellId)
  | portReceive (l : LinkId)
  | portTransmit (l : LinkId)
deriving DecidableEq, Repr

/-- A census participant below the hub (R218). -/
inductive Participant where
  | cell (c : CellId)
  | lockUnit (k : DieId)
  | proxy (l : LinkId)
deriving DecidableEq, Repr

/-- A census aggregator (R219). -/
inductive Aggregator where
  | cluster (n : ClusterId)
  | die (d : DieId)
  | hub
deriving DecidableEq, Repr

/-- A request's initiator (R188, R308). -/
inductive Initiator where
  /-- a continuation-table entry of a cell -/
  | cellEntry (c : CellId) (e : BitVec 10) (fo : Upset)
  /-- a host descriptor in progress: ring pair and tag of the descriptor -/
  | descriptor (r : BitVec 12) (k : Nat)
  /-- a host register access to a compute die: the data of a write, and its issue in ns of the running time -/
  | register (req : Requester) (off : Nat) (data : Option Reg) (issued : Nat)
  /-- a request of this module on the Fober fabric -/
  | fober (tag : BitVec 16)
deriving DecidableEq, Repr

/-- A unit that a router can declare dead (R309). -/
inductive Target where
  | crossbar (n : ClusterId)
  | hbm (k : DieId)
  | port (p : BitVec 4)
  /-- row-edge UCIe module: 0–3 between dies 0 and 1, 4–7 between dies 2 and 3 -/
  | d2d (m : BitVec 3)
  /-- hub UCIe module 2 × die + module -/
  | hubModule (m : BitVec 3)
  | hub
deriving DecidableEq, Repr

/-- A unit that containment isolates and reintegration tests (R438, R448, R452). -/
inductive DevUnit where
  | cell (c : CellId)
  | cluster (n : ClusterId)
  | die (d : DieId)
  | link (l : LinkId)
  | target (t : Target)
deriving DecidableEq, Repr

/-- A converter phase (R474). -/
inductive ConvPhase where
  | die (d : DieId)
  | hub
  | aon
deriving DecidableEq, Repr

/-- A ring by name (R390). -/
inductive RingName where
  | pair (r : BitVec 12)
  | output (o : BitVec 10)
deriving DecidableEq, Repr

/-- The CTRL HELLO message (R342). -/
structure HelloMsg where
  vermap : BitVec 16
  ver : Byte
  seen : Bool
  buf : List (BitVec 12)
deriving DecidableEq, Repr

/-- The CTRL RETRAIN message (R342). -/
structure RetrainMsg where
  width : Byte
  group : Byte
  failed : Byte
deriving DecidableEq, Repr

/-- A slot of a Fober flit: its header of R328 and three words of packet. -/
structure RawSlot where
  hdr : Reg
  w0 : Word
  w1 : Word
  w2 : Word
deriving DecidableEq, Repr

/-- A flit as it stands in a codeword: header (R327), four slots, link word and CRC (R329). -/
structure RawFlit where
  hdr : Word
  s0 : RawSlot
  s1 : RawSlot
  s2 : RawSlot
  s3 : RawSlot
  link : Reg
  crc : Reg
deriving DecidableEq, Repr

/-- What the decoder of a codeword finds (R326): nothing wrong, symbols corrected, by their place in the codeword, or more errors than
it corrects. -/
inductive CwOutcome where
  | clean
  | corrected (syms : List Nat)
  | uncorrectable
deriving DecidableEq, Repr

/-- What this side's receiver makes of a training frame on a lane: nothing, a request to the peer's transmitter (TAP and REQ of R339), or
that it has finished adapting. -/
inductive RxAdapt where
  | hold
  | ask (tap : BitVec 3) (req : BitVec 2)
  | ready
deriving DecidableEq, Repr

/-- A Fober packet (R328, R359): slot header fields and the packet's words, three to a slot. -/
structure FPacket where
  ptype : BitVec 5
  mc : BitVec 3
  epoch : Bool
  pspec : BitVec 16
  words : List Word
deriving DecidableEq, Repr

/-- An ID_ASSIGN packet (R352): its twelve words. -/
structure IdPacket where
  words : List Word
deriving DecidableEq, Repr

/-- The hub's read of one 64-byte submission entry (R394, R513). -/
structure EntryRead where
  status : HostStatus
  words : List Word
deriving DecidableEq, Repr

/-- What start-up meets (R478): the clocks present, the ROOT_N level, the FREEZE_N level at READY, the dies whose
SRAM self-test or HBM training fails, and the SECDED outcomes of the NV store's words that are not error-free, by word number (R480). -/
structure Startup where
  pclk : Bool
  fclk : Bool
  rootLow : Bool
  freezeLow : Bool
  perstHigh : Bool
  failedDies : BitVec 4
  nv : List (Nat × Upset)
deriving DecidableEq, Repr

/-- What an access from the host addresses: BAR0, BAR2 (R386), or the function's configuration space (R384). -/
inductive Space where
  | bar0 | bar2 | config
deriving DecidableEq, Repr

/-- A register access as it reaches the hub (R386, R414): its space, byte offset, size in bytes, data (little-endian),
and whether every byte enable is set. -/
structure Access where
  space : Space
  off : Nat
  size : Nat
  data : List Reg
  fullBe : Bool
deriving DecidableEq, Repr

/-- What the reads of a firing find: of its fan-out entries, of its microcode (R89). -/
structure FiringReads where
  fo : Upset
  uc : Upset
deriving DecidableEq, Repr

/-- What the reads of a token at the match stage find: of its instruction word (R89), of its matching-store entries (R183). -/
structure MatchReads where
  im : Upset
  ms : Upset
deriving DecidableEq, Repr

/-- The answer that a cell takes, by its place in the inbox, and what the read of the fan-out entries for its reply tokens finds. -/
structure ReplyRead where
  place : Nat
  fo : Upset
deriving DecidableEq, Repr

/-- The continuation-table entry that completes, and what the read of the fan-out entries for its reply tokens finds. -/
structure EntryFreed where
  entry : BitVec 10
  fo : Upset
deriving DecidableEq, Repr

/-- The crossbar that sends, and what the router finds when it checks the flit (R291). -/
structure CrossbarSend where
  cluster : ClusterId
  u : Upset
deriving DecidableEq, Repr

/-- A training frame on a lane: its marker came inverted (R320), its word, what the receiver makes of it. -/
structure TrainFrame where
  inv : Bool
  w : Word
  rx : RxAdapt
deriving DecidableEq, Repr

/-- An alignment codeword found on a link (R325): its symbol on each lane in use, and the lanes' skew in ns. -/
structure AlignFound where
  link : LinkId
  syms : List Nat
  skew : Nat
deriving DecidableEq, Repr

/-- A lane that fails in ACTIVE: by its errors, or because it lost lock (R341). -/
structure LaneFailure where
  lane : BitVec 3
  lost : Bool
deriving DecidableEq, Repr

/-- What a register read from the host addresses. -/
structure RegRead where
  space : Space
  off : Nat
  size : Nat
deriving DecidableEq, Repr

/-- The commands of the block: one constructor for each row of spec/opcode_table.json. -/
inductive Instr where
  /-- ADD (R102). Dispatch of an ADD activation: element-wise addition under SAT and U, with overflow handled by R101. -/
  | add (d : Disp)
  /-- SUB (R102). Dispatch of a SUB activation: element-wise subtraction under SAT and U. -/
  | sub (d : Disp)
  /-- MUL (R102). Dispatch of a MUL activation: low w bits of the element-wise product. -/
  | mul (d : Disp)
  /-- MULH (R102). Dispatch of a MULH activation: high w bits of the double-width product. -/
  | mulh (d : Disp)
  /-- DIV (R102). Dispatch of a DIV activation: truncating division, with INT_DIV_ZERO and MIN/ -1 handling, holding the lane for its latency. -/
  | div (d : Disp)
  /-- REM (R102). Dispatch of a REM activation: remainder whose sign follows a, with INT_DIV_ZERO handling. -/
  | rem (d : Disp)
  /-- AND (R102). Dispatch of an AND activation: bitwise and of the 64-bit operands. -/
  | and (d : Disp)
  /-- OR (R102). Dispatch of an OR activation: bitwise or of the 64-bit operands. -/
  | or (d : Disp)
  /-- XOR (R102). Dispatch of an XOR activation: bitwise exclusive or of the 64-bit operands. -/
  | xor (d : Disp)
  /-- ANDN (R102). Dispatch of an ANDN activation: a and not b. -/
  | andn (d : Disp)
  /-- NOT (R102). Dispatch of a NOT activation: bitwise complement of a. -/
  | not (d : Disp)
  /-- NEG (R102). Dispatch of a NEG activation: signed negation, with MIN handled under SAT. -/
  | neg (d : Disp)
  /-- ABS (R102). Dispatch of an ABS activation: signed absolute value, with MIN handled under SAT. -/
  | abs (d : Disp)
  /-- MIN (R102). Dispatch of a MIN activation: element-wise smaller value, signed or unsigned per U. -/
  | min (d : Disp)
  /-- MAX (R102). Dispatch of a MAX activation: element-wise larger value, signed or unsigned per U. -/
  | max (d : Disp)
  /-- ADDC (R103). Dispatch of an ADDC activation: the sum on slot 0 and the per-element carry on slot 1, always both. -/
  | addc (d : Disp)
  /-- SUBB (R103). Dispatch of a SUBB activation: the difference on slot 0 and the per-element borrow on slot 1. -/
  | subb (d : Disp)
  /-- MOV (R102). Dispatch of a MOV activation: copies a. -/
  | mov (d : Disp)
  /-- LDI (R104). Dispatch of an LDI activation: produces the sign-extended IMM20, with the left token acting only as a trigger. -/
  | ldi (d : Disp)
  /-- SHL (R106). Dispatch of an SHL activation: shifts each element left, saturating when SAT is 1. -/
  | shl (d : Disp)
  /-- SHR (R106). Dispatch of an SHR activation: logical right shift of each element. -/
  | shr (d : Disp)
  /-- SAR (R106). Dispatch of a SAR activation: arithmetic right shift of each element. -/
  | sar (d : Disp)
  /-- ROL (R106). Dispatch of an ROL activation: left rotate of each element. -/
  | rol (d : Disp)
  /-- ROR (R106). Dispatch of an ROR activation: right rotate of each element. -/
  | ror (d : Disp)
  /-- POPC (R106). Dispatch of a POPC activation: population count of each element. -/
  | popc (d : Disp)
  /-- CLZ (R106). Dispatch of a CLZ activation: leading-zero count of each element. -/
  | clz (d : Disp)
  /-- CTZ (R106). Dispatch of a CTZ activation: trailing-zero count of each element. -/
  | ctz (d : Disp)
  /-- BREV (R106). Dispatch of a BREV activation: reverses the 64 bits of a. -/
  | brev (d : Disp)
  /-- BSWAP (R106). Dispatch of a BSWAP activation: reverses the 8 bytes of a. -/
  | bswap (d : Disp)
  /-- SPLAT (R106). Dispatch of a SPLAT activation: copies element 0 of a into every element. -/
  | splat (d : Disp)
  /-- EXTR (R106). Dispatch of an EXTR activation: extracts one element of a, sign- or zero-extended. -/
  | extr (d : Disp)
  /-- FADD (R110). Dispatch of an FADD activation: correctly rounded floating-point addition. -/
  | fadd (d : Disp)
  /-- FSUB (R110). Dispatch of an FSUB activation: correctly rounded floating-point subtraction. -/
  | fsub (d : Disp)
  /-- FMUL (R110). Dispatch of an FMUL activation: correctly rounded floating-point multiplication. -/
  | fmul (d : Disp)
  /-- FDIV (R110). Dispatch of an FDIV activation: floating-point division, holding the lane for its latency. -/
  | fdiv (d : Disp)
  /-- FSQRT (R110). Dispatch of an FSQRT activation: floating-point square root, holding the lane for its latency. -/
  | fsqrt (d : Disp)
  /-- FMIN (R110). Dispatch of an FMIN activation: minimumNumber of a and b. -/
  | fmin (d : Disp)
  /-- FMAX (R110). Dispatch of an FMAX activation: maximumNumber of a and b. -/
  | fmax (d : Disp)
  /-- FNEG (R110). Dispatch of an FNEG activation: inverts the sign bit of each element. -/
  | fneg (d : Disp)
  /-- FABS (R110). Dispatch of an FABS activation: clears the sign bit of each element. -/
  | fabs (d : Disp)
  /-- FCVTD (R111). Dispatch of an FCVTD activation: widens element 0 to binary64. -/
  | fcvtd (d : Disp)
  /-- FCVTS (R111). Dispatch of an FCVTS activation: converts elements to binary32. -/
  | fcvts (d : Disp)
  /-- FCVTH (R111). Dispatch of an FCVTH activation: converts elements to binary16. -/
  | fcvth (d : Disp)
  /-- FTOI (R112). Dispatch of an FTOI activation: floating point to signed integer, saturating out-of-range values with FP_INVALID. -/
  | ftoi (d : Disp)
  /-- ITOF (R110). Dispatch of an ITOF activation: signed integer elements converted to floating point. -/
  | itof (d : Disp)
  /-- FRND (R110). Dispatch of an FRND activation: rounds each element to an integral value in the same format. -/
  | frnd (d : Disp)
  /-- DADD (R116). Dispatch of a DADD activation: PD15 addition, with a carry-out token or DEC_OVERFLOW. -/
  | dadd (d : Disp)
  /-- DSUB (R117). Dispatch of a DSUB activation: PD15 subtraction by the rules of DADD. -/
  | dsub (d : Disp)
  /-- DADJ (R118). Dispatch of a DADJ activation: propagates decimal carries through the digit nibbles. -/
  | dadj (d : Disp)
  /-- DMUL1 (R116). Dispatch of a DMUL1 activation: multiplies by a single digit, with the sixteenth digit on slot 1. -/
  | dmul1 (d : Disp)
  /-- DSHL (R119). Dispatch of a DSHL activation: decimal digit shift left, with DEC_OVERFLOW on lost non-zero digits. -/
  | dshl (d : Disp)
  /-- DSHR (R119). Dispatch of a DSHR activation: decimal digit shift right, rounded as MOD selects. -/
  | dshr (d : Disp)
  /-- DVAL (R115). Dispatch of a DVAL activation: steers a by whether it is valid PD15. -/
  | dval (d : Disp)
  /-- DTOB (R120). Dispatch of a DTOB activation: converts PD15 to a signed binary integer. -/
  | dtob (d : Disp)
  /-- BTOD (R120). Dispatch of a BTOD activation: converts int64 to PD15, with high digits on slot 1. -/
  | btod (d : Disp)
  /-- DNEG (R115). Dispatch of a DNEG activation: inverts the PD15 sign per R114. -/
  | dneg (d : Disp)
  /-- DSEQ (R115). Dispatch of a DSEQ activation: steers a by decimal equality. -/
  | dseq (d : Disp)
  /-- DSLT (R115). Dispatch of a DSLT activation: steers a by decimal less-than. -/
  | dslt (d : Disp)
  /-- DSLE (R115). Dispatch of a DSLE activation: steers a by decimal less-or-equal. -/
  | dsle (d : Disp)
  /-- SEQ (R124). Dispatch of a SEQ activation: steers a by integer equality. -/
  | seq (d : Disp)
  /-- SLT (R124). Dispatch of an SLT activation: steers a by integer less-than. -/
  | slt (d : Disp)
  /-- SLE (R124). Dispatch of an SLE activation: steers a by integer less-or-equal. -/
  | sle (d : Disp)
  /-- FSEQ (R124). Dispatch of an FSEQ activation: steers a by floating-point equality. -/
  | fseq (d : Disp)
  /-- FSLT (R124). Dispatch of an FSLT activation: steers a by floating-point less-than. -/
  | fslt (d : Disp)
  /-- FSLE (R124). Dispatch of an FSLE activation: steers a by floating-point less-or-equal. -/
  | fsle (d : Disp)
  /-- FSUN (R124). Dispatch of an FSUN activation: steers a by whether the operands are unordered. -/
  | fsun (d : Disp)
  /-- STEST (R124). Dispatch of an STEST activation: steers a by whether a is non-zero. -/
  | stest (d : Disp)
  /-- STEER (R124). Dispatch of a STEER activation: steers a by whether b is non-zero. -/
  | steer (d : Disp)
  /-- GATE (R124). Dispatch of a GATE activation: passes a once b has arrived. -/
  | gate (d : Disp)
  /-- MERGE (R124). Dispatch of a MERGE activation: passes a at the join of steered paths. -/
  | merge (d : Disp)
  /-- NEWF (R128). Dispatch of a NEWF activation: binds a new frame with its parent continuation, or waits for a record. -/
  | newf (d : Disp)
  /-- FREEF (R131). Dispatch of a FREEF activation: frees the activation's frame and discards its waiting, spilled and parked tokens. -/
  | freef (d : Disp)
  /-- LOOPW (R132). Dispatch of a LOOPW activation: sets the frame's loop window base and size. -/
  | loopw (d : Disp)
  /-- ADVW (R133). Dispatch of an ADVW activation: advances the frame's window base and starts reel-back of newly admitted tokens. -/
  | advw (d : Disp)
  /-- SETS (R134). Dispatch of a SETS activation: writes a into a frame slot and passes b. -/
  | sets (d : Disp)
  /-- GETS (R134). Dispatch of a GETS activation: reads a frame slot. -/
  | gets (d : Disp)
  /-- GETIT (R126). Dispatch of a GETIT activation: produces the activation's ITER. -/
  | getit (d : Disp)
  /-- SETIT (R126). Dispatch of a SETIT activation: sends a with an explicit ITER. -/
  | setit (d : Disp)
  /-- GETF (R126). Dispatch of a GETF activation: produces a continuation word for the current frame. -/
  | getf (d : Disp)
  /-- SETF (R126). Dispatch of a SETF activation: sends a with an explicit FRAME. -/
  | setf (d : Disp)
  /-- SETCL (R126). Dispatch of a SETCL activation: sends a with an explicit CLASS. -/
  | setcl (d : Disp)
  /-- SEND (R135). Dispatch of a SEND activation: creates a token addressed by a continuation word, plus local copies. -/
  | send (d : Disp)
  /-- SENDO (R136). Dispatch of a SENDO activation: sends an ordered-stream token carrying the next send-counter SEQ. -/
  | sendo (d : Disp)
  /-- LD (R139). Dispatch of an LD activation: issues a load request and holds a continuation entry. -/
  | ld (d : Disp)
  /-- ST (R139). Dispatch of an ST activation: issues a store request and holds a continuation entry. -/
  | st (d : Disp)
  /-- LDS (R141). Dispatch of an LDS activation: issues a structure read that may be deferred. -/
  | lds (d : Disp)
  /-- STS (R141). Dispatch of an STS activation: issues a structure fill. -/
  | sts (d : Disp)
  /-- AADD (R139). Dispatch of an AADD activation: issues an atomic add. -/
  | aadd (d : Disp)
  /-- AXCHG (R139). Dispatch of an AXCHG activation: issues an atomic exchange. -/
  | axchg (d : Disp)
  /-- ACAS (R142). Dispatch of an ACAS activation: issues a compare-and-swap, with e taken from b or from S1. -/
  | acas (d : Disp)
  /-- AMIN (R139). Dispatch of an AMIN activation: issues an atomic minimum. -/
  | amin (d : Disp)
  /-- AMAX (R139). Dispatch of an AMAX activation: issues an atomic maximum. -/
  | amax (d : Disp)
  /-- AAND (R139). Dispatch of an AAND activation: issues an atomic and. -/
  | aand (d : Disp)
  /-- AOR (R139). Dispatch of an AOR activation: issues an atomic or. -/
  | aor (d : Disp)
  /-- LOCK (R146). Dispatch of a LOCK activation: issues a lock request whose outcome returns as a grant token. -/
  | lock (d : Disp)
  /-- TRYLOCK (R147). Dispatch of a TRYLOCK activation: issues a non-waiting lock attempt. -/
  | trylock (d : Disp)
  /-- UNLOCK (R147). Dispatch of an UNLOCK activation: issues a lock release. -/
  | unlock (d : Disp)
  /-- FENCE (R143). Dispatch of a FENCE activation: replies once every earlier request of the graph from the cell is answered. -/
  | fence (d : Disp)
  /-- REP (R84). Dispatch of a REP activation: latches the count and stride for repeated firings of its target. -/
  | rep (d : Disp)
  /-- REP_FIRING (R153). Issue of the next firing of a repeated instruction, spaced by the target's hold time. -/
  | repFiring (c : CellId) (ln : BitVec 3) (u : FiringReads)
  /-- OUT (R148). Dispatch of an OUT activation: writes a to an output ring, waiting while the ring is full or disabled. -/
  | out (d : Disp)
  /-- RAISE (R149). Dispatch of a RAISE activation: raises a software event in this cell, another cell or another node. -/
  | raise (d : Disp)
  /-- RETE (R280). Dispatch of a RETE activation: pops the matching priority-stack level, or sets PRIO_STACK. -/
  | rete (d : Disp)
  /-- NOP (R151). Dispatch of a NOP activation: consumes its input. -/
  | nop (d : Disp)
  /-- TIMER (R152). Dispatch of a TIMER activation: arms a one-shot cell timer. -/
  | timer (d : Disp)
  /-- UDEF (R93). Dispatch of a UDEF activation: runs the microcode routine of its decode-table entry in the lane. -/
  | udef (d : Disp) (uc : Upset)
  /-- TOKEN_ARRIVAL (R35). A token arrives at its destination cell: it is checked and enters a token queue, the ordered-stream hold or the event controller. -/
  | tokenArrival (c : CellId) (src : ArrivalSource) (i : Nat)
  /-- ORDER_GAP_TIMEOUT (R175). The gap timer of an ordered stream expires: missing SEQ values are skipped, held tokens are released and the event is raised. -/
  | orderGapTimeout (c : CellId) (g : GraphId) (st : BitVec 4)
  /-- TOKEN_SELECT (R177). The arbiter selects a token, and the match stage parks it, diverts it, matches it or stores it. -/
  | tokenSelect (c : CellId) (qb : Upset) (u : MatchReads)
  /-- PREFETCH_FILL (R185). An activation moves from the ready list into a free prefetch slot, and its instruction word is read. -/
  | prefetchFill (c : CellId) (ln : BitVec 3) (im : Upset)
  /-- REPLY_RECEIVE (R187). A response reaches the issuing cell's continuation table: reply tokens are created and the entry is released. -/
  | replyReceive (c : CellId) (r : ReplyRead)
  /-- REQUEST_ACK (R188). A deferral or lock-queue acknowledgement reaches the cell and stops its initiator timeout. -/
  | requestAck (c : CellId) (i : Nat)
  /-- INITIATOR_TIMEOUT (R308). An initiator timeout expires, and a TIMEOUT response is synthesized. -/
  | initiatorTimeout (w : Initiator)
  /-- NEWF_RECORD_FREED (R130). A waiting NEWF completes when a frame record becomes available. -/
  | newfRecordFreed (c : CellId) (e : EntryFreed)
  /-- FRAME_EXHAUSTED (R204). A NEWF that has waited SCH.FRWAIT.WAIT raises FRAME_EXHAUSTED once. -/
  | frameExhausted (c : CellId) (e : BitVec 10)
  /-- OUT_ACCEPT (R148). The hub accepts a waiting OUT entry once its output ring has room and is enabled. -/
  | outAccept (c : CellId) (e : BitVec 10)
  /-- OUTPUT_ENTRY_WRITE (R405). The hub writes an accepted output entry to host memory. -/
  | outputEntryWrite (o : BitVec 10)
  /-- CELL_TIMER (R152). An armed cell timer expires and raises CELL_TIMER with its value. -/
  | cellTimer (c : CellId) (e : BitVec 10)
  /-- CELL_SLEEP (R190). A cell idle for 4,096 core cycles gates its clocks. -/
  | cellSleep (c : CellId)
  /-- MS_SCRUB (R183). A matching-store bank scrubs one set, correcting or discarding entries. -/
  | msScrub (c : CellId) (bank : Bool) (way : BitVec 3) (u : Upset)
  /-- SPILL_TRIGGER (R199). The Yo-yo scans for a victim frame when a cell's free pool falls below SPILL_LO. -/
  | spillTrigger (c : CellId)
  /-- SPILL_MOVE (R200). The Yo-yo moves one entry of a spilled frame to the cell's spill ring. -/
  | spillMove (c : CellId)
  /-- REEL_BACK_START (R201). The oldest demanded spilled frame fits and starts its reel-back with a reservation. -/
  | reelBackStart (c : CellId)
  /-- REEL_TOKEN (R202). The Yo-yo returns one token of a reel-back chain to the cell's token queues. -/
  | reelToken (c : CellId)
  /-- PARK_REEL (R208). The Yo-yo returns a parked token whose ITER has entered the window. -/
  | parkReel (c : CellId)
  /-- TOKEN_REFUSE (R211). A token held for BP_LIMIT is refused and sent in a REFUSE packet to its sender. -/
  | tokenRefuse (site : RefuseSite) (i : Nat)
  /-- REFUSE_STORE (R213). The Yo-yo stores a refused token in the return-to-sender ring with a backoff DUE time. -/
  | refuseStore (d : DieId) (i : Nat)
  /-- RETRY_SEND (R213). The Yo-yo sends a due return-ring record to its destination, or moves a record not yet due to the tail. -/
  | retrySend (d : DieId)
  /-- WAVE_START (R219). The hub begins a census wave GAP after the previous one ends. -/
  | waveStart (g : GraphId)
  /-- WAVE_RECEIVE (R219). A census participant receives WAVE, sets its colour and sends its counters up. -/
  | waveReceive (g : GraphId) (p : Participant)
  /-- SUMS_AGGREGATE (R220). An aggregator has every child's sums and sends them up; at the hub the completion decision is made. -/
  | sumsAggregate (g : GraphId) (a : Aggregator)
  /-- WAVE_ABANDON (R222). A census wave not ended after TMO is abandoned. -/
  | waveAbandon (g : GraphId)
  /-- FLIT_HOP (R288). A router moves a flit from an input to an output chosen by slot table and arbitration. -/
  | flitHop (r : ClusterId) (o : BitVec 3) (sub : Nat) (u : Upset)
  /-- CROSSBAR_FLIT_SEND (R289). The cluster crossbar sends a packed flit when it is full or after 2 idle mesh cycles. -/
  | crossbarFlitSend (x : CrossbarSend)
  /-- HUB_FORWARD (R300). The hub forwards a flit between die modules, the host interface and management. -/
  | hubForward (inp : BitVec 4)
  /-- CLUSTER_RETENTION (R305). A cluster idle for CL_IDLE commits to power-down and enters retention. -/
  | clusterRetention (n : ClusterId) (permit : Bool)
  /-- CLUSTER_WAKE (R306). A waking cluster powers up and receives its held flits, oldest first. -/
  | clusterWake (n : ClusterId)
  /-- TGT_DEAD (R309). A target that has taken no flit for DEAD and fails its liveness query is declared dead and isolated. -/
  | tgtDead (t : Target)
  /-- D2D_DOWN (R299). A UCIe module fails training or exhausts lane repair and goes down. -/
  | d2dDown (m : BitVec 4)
  /-- ROUTE_BANK_RETIRE (R302). RETIRING clears once every graph has drained and the old bank's non-graph packets are gone. -/
  | routeBankRetire
  /-- PROBE_MATCH (R314). A probe matches: it counts and traces, starts or stops tracing, or requests a freeze. -/
  | probeMatch (p : BitVec 4) (sel : Nat) (ns : Nat) (slot : BitVec 2)
  /-- TRAINING_FRAME_RECEIVE (R339). A training frame is received and its word is accepted after three consecutive frames, advancing equalization. -/
  | trainingFrameReceive (l : LinkId) (lane : BitVec 3) (f : TrainFrame)
  /-- DETECT_TIMEOUT (R340). No valid lane group 10 ms after the first lane lock sends the link to ISOLATED. -/
  | detectTimeout (l : LinkId)
  /-- EQ_TIMEOUT (R340). EQ lasts 20 ms without completion and falls back by R341. -/
  | eqTimeout (l : LinkId)
  /-- LOCK_TIMEOUT (R340). LOCK lasts 1 ms without codeword lock and returns the link to EQ. -/
  | lockTimeout (l : LinkId)
  /-- CODEWORD_LOCK (R340). Alignment and codeword lock on every lane move the link to HELLO, or to ACTIVE after RETRAIN. -/
  | codewordLock (a : AlignFound)
  /-- HELLO (R342). A CTRL HELLO is received: version negotiation, then entry to ACTIVE or ISOLATED. -/
  | hello (l : LinkId) (m : HelloMsg)
  /-- RETRAIN (R342). A CTRL RETRAIN message is received, and the link retrains at the named width. -/
  | retrain (l : LinkId) (m : RetrainMsg)
  /-- DOWN (R342). A CTRL DOWN message is received, and the link enters DETECT. -/
  | down (l : LinkId)
  /-- FLIT_RECEIVE (R335). A Fober flit is decoded and checked: it is accepted, discarded or a protocol error, and credits and acknowledgements are taken. -/
  | flitReceive (l : LinkId) (cw : Option CwOutcome) (f : RawFlit)
  /-- FLIT_TRANSMIT (R331). In each flit position the transmitter sends a replay, CTRL, DATA or NULL flit. -/
  | flitTransmit (l : LinkId)
  /-- REPLAY_TIMEOUT (R337). The oldest unacknowledged flit waits REPLAY_T, and a replay starts, or RETRAIN after LIMIT replays. -/
  | replayTimeout (l : LinkId)
  /-- LANE_FAIL (R341). A lane exceeds FAILTHR in 1 ms or loses lock, and the link retrains narrower. -/
  | laneFail (l : LinkId) (x : LaneFailure)
  /-- PACKET_ROUTE (R356). A TK8 routes a received Fober packet: delivers it, absorbs it or sends it on PRI or ALT. -/
  | packetRoute (l : LinkId) (i : Nat)
  /-- ID_ASSIGN_PROBE (R352). An ID_ASSIGN PROBE is received: it is forwarded, or answered with a REPLY. -/
  | idAssignProbe (l : LinkId) (p : IdPacket)
  /-- ID_ASSIGN_SET (R352). An ID_ASSIGN SET is received: it is forwarded, or the target takes NEWID and replies. -/
  | idAssignSet (l : LinkId) (p : IdPacket)
  /-- ID_ASSIGN_ROUTE (R352). A source-routed ID_ASSIGN ROUTE is received: the target performs RSUB on its route banks and replies. -/
  | idAssignRoute (l : LinkId) (p : IdPacket)
  /-- ID_ASSIGN_REPLY (R352). An ID_ASSIGN REPLY is forwarded back along its path, or consumed by the root's roll-call. -/
  | idAssignReply (l : LinkId) (p : IdPacket)
  /-- ROLL_CALL_AUTO (R350). The root starts roll-call by itself 100 ms after READY when ROLLAUTO is 1. -/
  | rollCallAuto
  /-- ROLL_PROBE_TIMEOUT (R351). A roll-call PROBE gets no REPLY within 1 ms and its link is skipped. -/
  | rollProbeTimeout
  /-- MEM_RD (R365). A Fober MEM_RD is performed under the rules of LD and answered with MEM_RESP. -/
  | memRd (p : FPacket) (us : List Upset)
  /-- MEM_WR (R365). A Fober MEM_WR is performed under the rules of ST and answered with MEM_RESP. -/
  | memWr (p : FPacket) (u : Upset)
  /-- ATOMIC_AADD (R365). A Fober ATOMIC add is performed and answered with the old value. -/
  | atomicAadd (p : FPacket) (u : Upset)
  /-- ATOMIC_AXCHG (R365). A Fober ATOMIC exchange is performed and answered. -/
  | atomicAxchg (p : FPacket) (u : Upset)
  /-- ATOMIC_ACAS (R365). A Fober ATOMIC compare-and-swap is performed and answered. -/
  | atomicAcas (p : FPacket) (u : Upset)
  /-- ATOMIC_AMIN (R365). A Fober ATOMIC minimum is performed and answered. -/
  | atomicAmin (p : FPacket) (u : Upset)
  /-- ATOMIC_AMAX (R365). A Fober ATOMIC maximum is performed and answered. -/
  | atomicAmax (p : FPacket) (u : Upset)
  /-- ATOMIC_AAND (R365). A Fober ATOMIC and is performed and answered. -/
  | atomicAand (p : FPacket) (u : Upset)
  /-- ATOMIC_AOR (R365). A Fober ATOMIC or is performed and answered. -/
  | atomicAor (p : FPacket) (u : Upset)
  /-- LOCK_REQ_LOCK (R366). A Fober LOCK_REQ LOCK is acknowledged, and a LOCK_GRANT follows when the lock is granted. -/
  | lockReqLock (p : FPacket)
  /-- LOCK_REQ_TRYLOCK (R366). A Fober LOCK_REQ TRYLOCK is answered with one status word. -/
  | lockReqTrylock (p : FPacket)
  /-- LOCK_REL_UNLOCK (R366). A Fober LOCK_REL UNLOCK releases the lock and answers. -/
  | lockRelUnlock (p : FPacket)
  /-- LOCK_REL_ABANDON (R366). A Fober LOCK_REL ABANDON abandons the sending node's locks for the graph. -/
  | lockRelAbandon (p : FPacket)
  /-- EVENT (R367). A Fober EVENT packet posts a software event in the named cell. -/
  | event (p : FPacket)
  /-- CENSUS_WAVE (R368). A CENSUS WAVE packet starts the wave on a child module. -/
  | censusWave (p : FPacket)
  /-- CENSUS_SUMS (R368). A CENSUS SUMS packet delivers a child module's sums to its parent. -/
  | censusSums (p : FPacket)
  /-- CENSUS_DONE (R225). A CENSUS DONE packet makes a module write its completion entries and pass DONE on. -/
  | censusDone (p : FPacket)
  /-- MGMT_RD (R369). A Fober MGMT_RD reads register or identity space and is answered. -/
  | mgmtRd (p : FPacket)
  /-- MGMT_WR (R369). A Fober MGMT_WR writes register space and is answered with its status. -/
  | mgmtWr (p : FPacket)
  /-- ROUTE_WRITE (R370). A ROUTE WRITE packet sets a range of Fober route entries. -/
  | routeWrite (p : FPacket)
  /-- ROUTE_FLIP (R357). A ROUTE FLIP packet toggles the bank in force. -/
  | routeFlip (p : FPacket)
  /-- ROUTE_STATUS (R370). A ROUTE STATUS packet is answered with LOCALDONE, RETIRING and CUR. -/
  | routeStatus (p : FPacket)
  /-- ROUTE_RETIRE (R358). A ROUTE RETIRE packet ends a node's retirement after a fabric flip. -/
  | routeRetire (p : FPacket)
  /-- ISOLATE_ORDER (R371). An ISOLATE ORDER packet isolates a node on this TK8. -/
  | isolateOrder (p : FPacket)
  /-- ISOLATE_RELEASE (R371). An ISOLATE RELEASE packet ends a node's isolation. -/
  | isolateRelease (p : FPacket)
  /-- ISOLATE_NOTICE (R371). An ISOLATE NOTICE of an isolated or dead link is received at the root. -/
  | isolateNotice (p : FPacket)
  /-- MEM_RESP (R372). A MEM_RESP is matched to its outstanding request by SRC and TAG, or discarded. -/
  | memResp (p : FPacket)
  /-- REFUSE_RECEIVE (R374). A REFUSE packet naming this TK8 stores its token in a return-to-sender ring. -/
  | refuseReceive (p : FPacket) (port : BitVec 4)
  /-- ENUM_FRAME (R349). A pulse frame on ENUM_IN is counted, and two agreeing frames fix the slot. -/
  | enumFrame (highs : List Nat)
  /-- ENUM_SLOT0_TIMEOUT (R349). ENUM_IN low for 10 ms makes the module take slot 0. -/
  | enumSlot0Timeout
  /-- ENUM_OUT_FRAME (R349). Every 500 µs the module sends slot + 1 pulses on ENUM_OUT. -/
  | enumOutFrame
  /-- CONTROLLER_READ (R255). A read request reaches its stack controller and is performed. -/
  | controllerRead (k : DieId) (i : Nat) (u : Upset)
  /-- CONTROLLER_WRITE (R237). A write request reaches its stack controller and is performed, storing poison where required. -/
  | controllerWrite (k : DieId) (i : Nat) (u : Upset)
  /-- CONTROLLER_ATOMIC (R249). An atomic request is performed indivisibly at its stack controller. -/
  | controllerAtomic (k : DieId) (i : Nat) (u : Upset)
  /-- CONTROLLER_LDS (R244). An LDS at the controller replies when the word is FULL, or is recorded as deferred. -/
  | controllerLds (k : DieId) (i : Nat) (pres : Upset) (u : Upset)
  /-- CONTROLLER_STS (R244). An STS at the controller fills the word, releases deferred reads, or meets STRUCT_WRITE_TWICE. -/
  | controllerSts (k : DieId) (i : Nat) (pres : Upset)
  /-- LDS_REISSUE (R246). An LDS answered not recorded is reissued every 1 µs. -/
  | ldsReissue (c : CellId) (e : BitVec 10)
  /-- LOCK_UNIT_LOCK (R260). The lock unit grants or queues a LOCK request. -/
  | lockUnitLock (k : DieId) (i : Nat)
  /-- LOCK_UNIT_TRYLOCK (R260). The lock unit acquires or answers BUSY to a TRYLOCK request. -/
  | lockUnitTrylock (k : DieId) (i : Nat)
  /-- LOCK_UNIT_UNLOCK (R260). The lock unit releases a lock and grants the first waiter, or answers NOT_OWNER. -/
  | lockUnitUnlock (k : DieId) (i : Nat)
  /-- HOST_MEM_REQUEST (R251). The hub performs a graph's host memory request as a PCIe transaction. -/
  | hostMemRequest (i : Nat) (a : HostData)
  /-- HBM_SELF_REFRESH (R239). A stack with no request for 1 ms enters self-refresh. -/
  | hbmSelfRefresh (k : DieId) (permit : Bool)
  /-- HBM_SCRUB (R238). The controller scrubs the next words of its stack. -/
  | hbmScrub (k : DieId) (u : Upset)
  /-- REGION_INIT_DONE (R243). The initialisation of a STRUCT region to EMPTY completes and RGN_INIT clears. -/
  | regionInitDone
  /-- EVENT_PRESENT (R279). The event controller presents the chosen presentable record as a handler activation. -/
  | eventPresent (c : CellId)
  /-- EVENT_RECORD_SEND (R274). The post cell resolves the target and, once a receive-buffer place is granted, sends the record. -/
  | eventRecordSend (c : CellId) (i : Nat)
  /-- RECEIVE_BUFFER_GRANT (R274). A target cell grants a receive-buffer place to a request. -/
  | receiveBufferGrant (c : CellId)
  /-- EVENT_RECORD_ARRIVAL (R279). A sent event record enters the target's receive buffer. -/
  | eventRecordArrival (c : CellId) (i : Nat)
  /-- PUPPETEER_POST (R266). The management complex posts a firmware event to a graph in a cell. -/
  | puppeteerPost (c : CellId) (g : GraphId) (v : Word) (vt : BitVec 4) (poison : Bool)
  /-- DESCRIPTOR_FETCH (R395). The hub fetches and starts descriptors from a ring in round robin. -/
  | descriptorFetch (reads : List EntryRead)
  /-- LOAD (R403). The LOAD descriptor checks and loads a graph image. -/
  | load (r : BitVec 12) (k : Nat) (h : HostData)
  /-- INJECT (R400). The INJECT descriptor injects tokens and may start a run. -/
  | inject (r : BitVec 12) (k : Nat) (h : HostData)
  /-- GRESET (R401). The GRESET descriptor resets a graph. -/
  | greset (r : BitVec 12) (k : Nat)
  /-- UNLOAD (R401). The UNLOAD descriptor discards a graph and releases its slot. -/
  | unload (r : BitVec 12) (k : Nat)
  /-- HBMRD (R398). The HBMRD descriptor copies HBM to host memory. -/
  | hbmrd (r : BitVec 12) (k : Nat) (us : List Upset)
  /-- HBMWR (R398). The HBMWR descriptor copies host memory to HBM. -/
  | hbmwr (r : BitVec 12) (k : Nat) (h : HostData)
  /-- SCLEAR (R398). The SCLEAR descriptor sets a range of STRUCT words EMPTY. -/
  | sclear (r : BitVec 12) (k : Nat)
  /-- EVPOST (R398). The EVPOST descriptor posts HOST_POST to a graph in a cell. -/
  | evpost (r : BitVec 12) (k : Nat)
  /-- LOCK_DESC_LOCK (R398). The LOCK descriptor with SUB 0 requests a lock for a host function. -/
  | lockDescLock (r : BitVec 12) (k : Nat)
  /-- LOCK_DESC_TRYLOCK (R398). The LOCK descriptor with SUB 1 tries a lock for a host function. -/
  | lockDescTrylock (r : BitVec 12) (k : Nat)
  /-- LOCK_DESC_UNLOCK (R398). The LOCK descriptor with SUB 2 releases a host function's lock. -/
  | lockDescUnlock (r : BitVec 12) (k : Nat)
  /-- ASSIGN_RING_PAIRS (R388). The ASSIGN descriptor with KIND 0 assigns ring pairs to a function. -/
  | assignRingPairs (r : BitVec 12) (k : Nat)
  /-- ASSIGN_OUTPUT_RINGS (R388). The ASSIGN descriptor with KIND 1 assigns output rings to a function. -/
  | assignOutputRings (r : BitVec 12) (k : Nat)
  /-- ASSIGN_CELLS (R388). The ASSIGN descriptor with KIND 2 assigns cells to a function. -/
  | assignCells (r : BitVec 12) (k : Nat)
  /-- ASSIGN_HBM_WINDOW (R388). The ASSIGN descriptor with KIND 3 assigns an HBM window to a function. -/
  | assignHbmWindow (r : BitVec 12) (k : Nat)
  /-- QUOTA (R197). The QUOTA descriptor changes a loaded graph's quotas in every cell. -/
  | quota (r : BitVec 12) (k : Nat)
  /-- UCODE_LOAD (R94). The UCODE descriptor sets a decode-table entry and writes its routine. -/
  | ucodeLoad (r : BitVec 12) (k : Nat) (h : HostData)
  /-- UCODE_CLEAR (R94). The UCODE descriptor with CLEAR set clears a decode-table entry. -/
  | ucodeClear (r : BitVec 12) (k : Nat)
  /-- FWPATCH (R485). The FWPATCH descriptor checks a patch image and commits it to the inactive half. -/
  | fwpatch (r : BitVec 12) (k : Nat) (h : HostData)
  /-- NVSTORE_READ (R479). The NVSTORE descriptor with DIR 0 reads NV store bytes. -/
  | nvstoreRead (r : BitVec 12) (k : Nat) (us : List Upset)
  /-- NVSTORE_WRITE (R479). The NVSTORE descriptor with DIR 1 writes NV store bytes. -/
  | nvstoreWrite (r : BitVec 12) (k : Nat) (h : HostData)
  /-- RESTORE_FACTORY (R483). The RESTORE_FACTORY descriptor erases user calibration and applies the factory groups. -/
  | restoreFactory (r : BitVec 12) (k : Nat)
  /-- SQTAIL_DOORBELL (R393). A write of SQTAIL in a doorbell page publishes new descriptors. -/
  | sqtailDoorbell (req : Requester) (r : BitVec 12) (v : Reg)
  /-- CQHEAD_DOORBELL (R393). A write of CQHEAD in a doorbell page frees completion entries. -/
  | cqheadDoorbell (req : Requester) (r : BitVec 12) (v : Reg)
  /-- OHEAD_DOORBELL (R393). A write of OHEAD in a doorbell page frees output entries. -/
  | oheadDoorbell (req : Requester) (o : BitVec 10) (v : Reg)
  /-- DOORBELL_POLL (R393). Every POLL µs the hub reads a function's host-memory doorbell words. -/
  | doorbellPoll (fn : GraphId) (reads : List HostData)
  /-- WAKE_GO (R393). A write of HIF.WAKE.GO makes the hub read the function's doorbell words within 1 µs. -/
  | wakeGo (req : Requester) (v : Reg)
  /-- RING_ENABLE (R392). A write of EN = 1 enables a ring and resets its indexes and expected phase. -/
  | ringEnable (req : Requester) (ring : RingName) (v : Reg)
  /-- RING_DISABLE (R392). A write of EN = 0 disables an idle ring. -/
  | ringDisable (req : Requester) (ring : RingName) (v : Reg)
  /-- NOTICE_WRITE_HELD (R404). A held notice is written once its completion ring has a free entry. -/
  | noticeWriteHeld (g : GraphId)
  /-- MSIX_TIME (R407). The oldest unsignalled entry of a vector waits TIME µs, and an MSI-X message is sent. -/
  | msixTime (fn : GraphId) (v : BitVec 5)
  /-- FUNCTION_LEVEL_RESET (R408). Function Level Reset aborts and unloads a function's graphs and resets its rings and log. -/
  | functionLevelReset (fn : GraphId)
  /-- PERST_N (R408). PERST_N resets the host interface of every function and returns assignments to the physical function. -/
  | perstN
  /-- MRST_N (R475). MRST_N resets the module except the NV store, and start-up runs from step 2. -/
  | mrstN (st : Startup)
  /-- POWER_ON (R478). VIN becomes valid and the start-up sequence runs to READY. -/
  | powerOn (st : Startup)
  /-- UVLO_FALL (R462). VIN falls below undervoltage lockout and every rail turns off. -/
  | uvloFall
  /-- OVLO_RISE (R462). VIN rises above overvoltage lockout and every rail but AON turns off. -/
  | ovloRise
  /-- OVLO_FALL (R462). VIN falls back below overvoltage lockout and start-up runs from step 2. -/
  | ovloFall (st : Startup)
  /-- GOVERNOR_SAMPLE (R464). Every 10 µs the governor samples power and applies one lever when it exceeds the cap. -/
  | governorSample (vin : BitVec 16) (iin : BitVec 16)
  /-- GOVERNOR_RELEASE (R465). Every 1 ms the governor reverses one lever when its estimate permits. -/
  | governorRelease (est : Nat)
  /-- OVERCURRENT_COMPARATOR (R466). Input current reaches 13.5 A, and the dispatch duty of every die is halved within 2 µs. -/
  | overcurrentComparator
  /-- THERMAL_STEP (R468). Every 100 µs a die sensor at 100 °C or above lowers the die's thermal point. -/
  | thermalStep (n : BitVec 5) (temp : BitVec 16)
  /-- THERMAL_RELEASE (R468). Every 10 ms below 97 °C the die's thermal point rises by one step. -/
  | thermalRelease (d : DieId) (temps : List (BitVec 16))
  /-- TEMP_HIGH (R469). A die sensor at 105 °C or above sets TEMP_HIGH. -/
  | tempHigh (n : BitVec 5) (temp : BitVec 16)
  /-- THERMAL_SHUTDOWN (R470). A sensor at 115 °C turns every rail but AON off and holds FAULT_N low. -/
  | thermalShutdown (n : BitVec 5) (temp : BitVec 16)
  /-- SENSOR (R471). A sensor that fails or reads out of range is replaced by its die's hottest sensor plus 10 °C. -/
  | sensor (n : BitVec 5) (reading : Option (BitVec 16))
  /-- CONV (R474). A converter phase fails, turning off the die it feeds or continuing on the redundant phase. -/
  | conv (phase : ConvPhase)
  /-- PCLK_LOSS (R473). PCLK absent for 2 µs after READY sets the clock-loss latch and freezes the module in scope 0. -/
  | pclkLoss
  /-- PCLK_RESTORED (R473). PCLK stable for 1 ms clears the clock-loss latch. -/
  | pclkRestored
  /-- FCLK_LOSS (R473). FCLK absent for 2 µs sends every Fober link to DETECT. -/
  | fclkLoss
  /-- FCLK_RESTORED (R473). FCLK returns, and the Fober links restart. -/
  | fclkRestored
  /-- MGT_WDOG (R487). A management core's 100 ms watchdog expires and the core restarts. -/
  | mgtWdog (core : Bool)
  /-- ESCALATION_STAGE_1 (R448). SPINT1 passes unacknowledged: the containment set is isolated and touching graphs are aborted. -/
  | escalationStage1
  /-- ESCALATION_STAGE_2 (R449). SPINT2 passes unacknowledged: the device is quiesced. -/
  | escalationStage2
  /-- ESCALATION_STAGE_3 (R450). SPINT3 passes unacknowledged with EN set: the module resets itself. -/
  | escalationStage3 (st : Startup)
  /-- EPISODE_CLOSE (R451). The quiet period ends without new DEGR faults and the episode closes. -/
  | episodeClose
  /-- REINTEGRATION_DONE (R452). A contained unit's self-test ends: it is reintegrated or stays isolated. -/
  | reintegrationDone (t : DevUnit) (pass : Bool)
  /-- FLT_ACK (R445). A write of FLT.ACK acknowledges the open episode when it carries the current ESEQ. -/
  | fltAck (req : Requester) (v : Reg)
  /-- FREEZE_N_LOW (R454). FREEZE_N driven low requests a freeze. -/
  | freezeNLow
  /-- FREEZE_N_HIGH (R458). FREEZE_N rises, and the freeze ends unless a latch still holds it. -/
  | freezeNHigh
  /-- FRZCTL_FREEZE (R454). A write of FLT.FRZCTL.FREEZE sets the freeze latch. -/
  | frzctlFreeze (req : Requester) (v : Reg)
  /-- FRZCTL_RESUME (R458). A write of FLT.FRZCTL.RESUME in scope 1 clears the freeze latch. -/
  | frzctlResume (req : Requester) (v : Reg)
  /-- CELL_RESET (R476). PWR.UNITRST with KIND 0 resets one cell. -/
  | cellReset (req : Requester) (v : Reg)
  /-- CLUSTER_RESET (R476). PWR.UNITRST with KIND 1 resets one cluster. -/
  | clusterReset (req : Requester) (v : Reg)
  /-- UNIT_RESET_DONE (R476). A cell or cluster reset completes and CEL.STATUS.RESET clears. -/
  | unitResetDone (t : DevUnit)
  /-- INJCMD_GO (R193). A write of CEL.INJCMD.GO injects the token in CEL.INJ0 to CEL.INJ2 into the cell. -/
  | injcmdGo (req : Requester) (c : CellId) (v : Reg)
  /-- ACCDATA_WRITE (R192). A write of CEL.ACCDATA replaces an instruction or fan-out word without checks. -/
  | accdataWrite (req : Requester) (c : CellId) (v : Word)
  /-- EVTDATA_WRITE (R285). A write of CEL.EVTDATA changes an event-table entry and re-resolves pending records. -/
  | evtdataWrite (req : Requester) (c : CellId) (v : Word)
  /-- ROUTECTL_FLIP (R302). A write of MSH.ROUTECTL.FLIP toggles the bank in force. -/
  | routectlFlip (req : Requester) (v : Reg)
  /-- ROLLCTL_GO (R350). A write of FBN.ROLLCTL.GO on the root starts roll-call. -/
  | rollctlGo (req : Requester) (v : Reg)
  /-- FFLIP (R358). A write of FBN.FLIPCTL.FFLIP starts a fabric flip from the root. -/
  | fflip (req : Requester) (v : Reg)
  /-- NODE_ISOLATE (R376). A write of FBN.ISODATA.ISO = 1 isolates a node. -/
  | nodeIsolate (req : Requester) (v : Reg)
  /-- NODE_RELEASE (R376). A write of FBN.ISODATA.ISO = 0 ends a node's isolation. -/
  | nodeRelease (req : Requester) (v : Reg)
  /-- NODE_ID_WRITE (R348). A write of GLB.NODE_ID sets the module's node ID once. -/
  | nodeIdWrite (req : Requester) (v : Reg)
  /-- LINK_ENABLE (R340). A write of FBP.CFG.EN = 1 takes the port's links from DISABLED to DETECT. -/
  | linkEnable (req : Requester) (p : BitVec 4) (v : Reg)
  /-- LINK_DISABLE (R340). A write of FBP.CFG.EN = 0 sends DOWN where needed and disables the links. -/
  | linkDisable (req : Requester) (p : BitVec 4) (v : Reg)
  /-- CMD_RETRAIN (R340). A write of FBP.CMD.RETRAIN puts an active link into RETRAIN. -/
  | cmdRetrain (req : Requester) (p : BitVec 4) (v : Reg)
  /-- CMD_RESTART (R340). A write of FBP.CMD.RESTART sends a link to DETECT. -/
  | cmdRestart (req : Requester) (p : BitVec 4) (v : Reg)
  /-- TRACE_CLEAR (R317). A write of KAL.TRCTL.CLR empties the trace buffer and zeroes KAL.TRLOST. -/
  | traceClear (req : Requester) (v : Reg)
  /-- ACC_COUNT_CLEAR (R430). A write of 0 to an ACC COUNT clears the access error log count. -/
  | accCountClear (req : Requester) (off : Nat) (v : Reg)
  /-- STATUS_CLEAR (R426). A sequence-clear write to a status register clears the bits written as 1, or is refused STALE. -/
  | statusClear (req : Requester) (off : Nat) (v : Reg)
  /-- STATUS_CLEAR_ON_READ (R427). A read of a status register in clear-on-read mode clears the bits it returns. -/
  | statusClearOnRead (req : Requester) (off : Nat)
  /-- REG_WRITE_LOW_HALF (R415). A 4-byte write to the low half of a 64-bit register is staged. -/
  | regWriteLowHalf (req : Requester) (off : Nat) (v : Reg)
  /-- REG_READ_LOW_HALF (R416). A 4-byte read of the low half of a 64-bit register latches the high half. Reads of every
  other size, and of BAR2 and configuration space, are this command too (R414, R386, R384). -/
  | regReadLowHalf (req : Requester) (r : RegRead)
  /-- REGISTER_WRITE (R419). A write to a register with no row of its own is checked by R5 and applied by class. -/
  | registerWrite (req : Requester) (a : Access)
  /-- EXTEST (R461). The TAP instruction EXTEST selects the boundary register. -/
  | extest
  /-- SAMPLE_PRELOAD (R461). The TAP instruction SAMPLE_PRELOAD samples the boundary register. -/
  | samplePreload (pins : BitVec 96)
  /-- IDCODE (R461). The TAP instruction IDCODE shifts out the 32-bit identification code. -/
  | idcode
  /-- TAP_FREEZE (R461). The TAP instruction FREEZE sets the freeze latch at Update-IR. -/
  | tapFreeze
  /-- TAP_RESUME (R461). The TAP instruction RESUME clears the freeze latch at Update-IR. -/
  | tapResume
  /-- ROSEL (R461). The TAP instruction ROSEL loads the read-out selection and base. -/
  | rosel (v : Word)
  /-- RODATA (R461). The TAP instruction RODATA shifts out the selected read-out space. -/
  | rodata (n : Nat)
  /-- IJTAG (R461). The TAP instruction IJTAG reaches the IEEE 1687 network. -/
  | ijtag (n : Nat)
  /-- BYPASS (R461). The TAP instruction BYPASS, or any unlisted code, selects the 1-bit bypass register. -/
  | bypass
  /-- TRST_N (R499). TRST_N low resets the test access port to Test-Logic-Reset. -/
  | trstN
  /-- ENTDAA (R489). The I3C CCC ENTDAA assigns a dynamic address by provisioned ID. -/
  | entdaa (da : BitVec 7)
  /-- RSTDAA (R489). The I3C CCC RSTDAA resets the dynamic address. -/
  | rstdaa
  /-- SETDASA (R489). The I3C CCC SETDASA sets the dynamic address from the static address. -/
  | setdasa (da : BitVec 7)
  /-- SETNEWDA (R489). The I3C CCC SETNEWDA changes the dynamic address. -/
  | setnewda (da : BitVec 7)
  /-- ENEC (R489). The I3C CCC ENEC enables in-band interrupts. -/
  | enec
  /-- DISEC (R489). The I3C CCC DISEC disables in-band interrupts. -/
  | disec
  /-- GETPID (R489). The I3C CCC GETPID returns the provisioned ID. -/
  | getpid
  /-- GETBCR (R489). The I3C CCC GETBCR returns the BCR. -/
  | getbcr
  /-- GETDCR (R489). The I3C CCC GETDCR returns the DCR. -/
  | getdcr
  /-- GETSTATUS (R489). The I3C CCC GETSTATUS returns the device status. -/
  | getstatus
  /-- SETMRL (R489). The I3C CCC SETMRL sets the maximum read length. -/
  | setmrl (n : BitVec 16)
  /-- GETMRL (R489). The I3C CCC GETMRL returns the maximum read length. -/
  | getmrl
  /-- I3C_POINTER_WRITE (R490). A private or I2C write sets the telemetry read pointer. -/
  | i3cPointerWrite (b : List Byte)
  /-- I3C_TELEMETRY_READ (R490). A private or I2C read snapshots and returns the telemetry page from the pointer. -/
  | i3cTelemetryRead (n : Nat)
  /-- LANE_LOCK (R340). A lane's receiver locks to the peer's training frames, which moves the link from DETECT toward EQ, or from RETRAIN to LOCK. -/
  | laneLock (l : LinkId) (lane : BitVec 3)
  /-- CODEWORD_LOCK_LOSS (R340). An ACTIVE link loses codeword lock and enters RETRAIN. -/
  | codewordLockLoss (l : LinkId)
  /-- PCLK_ARRIVAL (R478). PCLK appears while start-up waits at step 3, so start-up continues and PCLK_OK sets. -/
  | pclkArrival (st : Startup)
  /-- HOT_RESET (R384). A PCIe hot reset is received on the host link. -/
  | hotReset
  /-- VF_ENABLE_CLEAR (R408). Clearing VF Enable aborts and unloads the graphs of the virtual functions that cease and resets their host interface. -/
  | vfEnableClear (fns : List GraphId)
  /-- HOST_WRITE_FAILED (R252). The host reports the failure of a posted write after the fact, and the hub sets HIF.ERR.WRITE, a DEGR fault. -/
  | hostWriteFailed
  /-- HBM_THERMAL_THROTTLE (R468). An HBM sensor reaching 95 °C halves its stack's request rate, and falling below 92 °C restores the rate. -/
  | hbmThermalThrottle (n : BitVec 5) (temp : BitVec 16)
deriving DecidableEq, Repr

end Sys2Proof
end

