-- ==== Sys2Proof/Config.lean ====
section
/-! DEFINITION. What an implementation fixes and the spec gives no value for: the module's identity, and the free
values. None has a body, so nothing can be proved of its value. -/

namespace Sys2Proof.Config

/-- GLB.REV.STEP: the silicon stepping (R434). -/
opaque stepping : BitVec 8

/-- MGT.FWVER.ROMVER: the ROM version (R491). -/
opaque romVersion : BitVec 16

/-- A value the spec leaves open, by the number of such values used so far (Dev.freeCtr). -/
opaque freeValue : Nat → BitVec 64

/-- The bytes of NV store region 0, the factory calibration (R479, R480): serial number, equalizer seeds. -/
opaque factoryByte : Nat → BitVec 8

/-- PWR.DIESTAT.HBMRATE for a request rate that its coding does not name: 3/8 (true) or 1/8 (false) of full (R468, R491). -/
opaque hbmRateCode : Bool → BitVec 2

/-- Byte of a scan chain (R459: order specific to the stepping) or past the end of a read-out space, by unit, offset and the
running time, which stands still in a freeze. -/
opaque scanByte : Nat → Nat → Nat → BitVec 8

/-- The preset transmitter taps of the ROM, by rate, for a lane without a valid factory seed (R481). -/
opaque presetTaps : Nat → BitVec 26

/-- Whether, at a time, every graph whose census root is another module has drained after a fabric flip: the spec gives the root no packet
that tells it (R358 step 3, log 31). -/
opaque spansDrained : Nat → Bool

end Sys2Proof.Config
end

