-- ==== Sys2Proof/Machine/State.lean ====
section
/-! DEFINITION. The state of the TK8 as plain data: every register, queue, table, counter, mode and pin of the spec,
and the queue of waiting commands. Sparse tables are lists of (key, value) with strictly rising keys and no entry equal
to what an unlisted key reads as (Sys2Proof/Machine/Bits.lean reads and writes them). -/

namespace Sys2Proof.Machine

/-- A sparse table: keys strictly rising, no entry equal to its default. -/
abbrev Map (α : Type) := List (Nat × α)

/-! ### Tokens, operands and activations (chapter 2) -/

/-- A token: word 0 routes it, word 1 is its tag, word 2 its value (R21 to R23). -/
structure Token where
  w0 : Word
  w1 : Word
  w2 : Word
deriving DecidableEq, Repr

/-- A value with its VTYPE and POISON, as an event carries it (R266, R511). -/
structure Val where
  bits : Word
  vtype : BitVec 4
  poison : Bool
deriving DecidableEq, Repr

/-- An operand of an activation; a sticky operand is not consumed with it (R43, R60). -/
structure Opnd where
  tok : Token
  sticky : Bool
deriving DecidableEq, Repr

/-- A formed activation (R40, R184). `handler`: it came from the event controller (R270). `freeing`: its frame was freed
after it formed, so it still reads the FREEING record (R50). -/
structure Act where
  graph : GraphId
  frame : BitVec 12
  iter : BitVec 32
  instr : BitVec 14
  left : Option Opnd
  right : Option Opnd
  pred : Option Opnd
  handler : Bool
  freeing : Bool
deriving DecidableEq, Repr

/-- A token in a token queue, with the core cycle of its entry (R170). `reeled`: it comes from its own frame's reel-back
(R202); `resv`: it holds a reserved entry. `installed`: it is a frame sticky operand on its way back, no longer an item (R60). `asks`:
it comes from parking or a return-to-sender ring, so it is demand for a spilled frame (R201). -/
structure QTok where
  tok : Token
  since : Nat
  reeled : Bool
  resv : Bool
  installed : Bool
  asks : Bool
deriving DecidableEq, Repr

/-- A token in the ordered-stream hold with the running time of its entry (R173, R175). -/
structure Held where
  tok : Token
  asks : Bool
  since : Nat
deriving DecidableEq, Repr

/-- A matching-store entry (R178, R179): its bank, set and way (none: overflow buffer), CONST, STICKY, the touch stamp
of R199 and a number that orders touches. -/
structure MsEntry where
  tok : Token
  bank : Bool
  set : BitVec 11
  way : Option (BitVec 3)
  const : Bool
  sticky : Bool
  stamp : BitVec 16
  lru : Nat
deriving DecidableEq, Repr

/-- A parent continuation (R46, R51). -/
structure Cont where
  node : BitVec 16
  cell : CellId
  frame : BitVec 12
  instr : BitVec 14
  port : BitVec 2
  iter : BitVec 32
deriving DecidableEq, Repr

/-- STATE of a frame record (R46); an unlisted record is FREE. -/
inductive FrameState where
  | live | spilled | freeing
deriving DecidableEq, Repr

/-- A frame record (R46) with the touch stamp beside it (R203). `entry`: it is the graph's entry frame (R49). -/
structure FrameRec where
  st : FrameState
  pv : Bool
  parent : Cont
  wbase : BitVec 32
  w : BitVec 11
  s0 : Word
  s1 : Word
  s2 : Word
  s3 : Word
  entry : Bool
  stamp : BitVec 16
deriving DecidableEq, Repr

/-- A record of a spill ring (R207): TYPE 1 spilled or diverted token, 2 parked token, 3 to 5 saved frame record. -/
inductive SpillBody where
  | spilled (t : Token) (sticky : Bool)
  | parked (t : Token)
  | saved (r : FrameRec)
deriving DecidableEq, Repr

/-- A record with its frame and its record numbers in the ring: one, or three for a saved frame record (R206, R207). -/
structure SpillRec where
  key : Nat
  body : SpillBody
  nums : List Nat
deriving DecidableEq, Repr

/-- A prefetch slot: the activation, the word read for it, and the target's word for a REP (R185). `waits`: its turn among
the slots that found no free continuation-table entry (R186). -/
structure Slot where
  act : Act
  word : Word
  target : Word
  bad : Upset
  since : Nat
  waits : Option Nat
deriving DecidableEq, Repr

/-- A REP sequence in its lane (R84, R153): the next firing, the count latched at dispatch. -/
structure RepSeq where
  act : Act
  word : Word
  target : Word
  next : Nat
  count : Nat
deriving DecidableEq, Repr

/-- A lane: its prefetch slots, older first, its REP sequence, and whether its spare event record is used (R273). -/
structure Lane where
  slots : List Slot
  rep : Option RepSeq
  spareUsed : Bool
deriving DecidableEq, Repr

/-- Who sent a token, to whom it returns when it is refused: a cell, the hub, or another node (R212, R374). -/
inductive Sender where
  | cell (c : CellId)
  | hub
  | node (n : BitVec 16)
deriving DecidableEq, Repr

/-- A token in a lane's result buffer, on the local bypass, or in a crossbar buffer, with the always-on time since which
it is held, its sender, and how often it was refused (R162, R211, R213). -/
structure Res where
  tok : Token
  lane : Option (BitVec 3)
  src : Sender
  count : Nat
  since : Nat
deriving DecidableEq, Repr

/-! ### Requests (chapters 5 and 8) -/

/-- The operations of R139 and of the lock unit. -/
inductive MemOp where
  | ld | st | lds | sts | aadd | axchg | acas | amin | amax | aand | aor | lock | trylock | unlock
deriving DecidableEq, Repr

/-- Who issued a request: a cell's continuation entry, a host descriptor, or a Fober node (R259). `uid` tells one use of an
entry from the next, so that a late response is discarded (R188). -/
inductive ReqSrc where
  | cell (c : CellId) (e : BitVec 10) (uid : Nat)
  | desc (r : BitVec 12) (fn : GraphId) (index : Nat)
  | fober (node : BitVec 16) (tag : BitVec 16) (c : CellId)
deriving DecidableEq, Repr

/-- A request to a stack's controller or lock unit, or to host memory. For LOCK, `data` holds the continuation instruction
in [13:0] and `cmp` the ITER of the grant. -/
structure MemReq where
  op : MemOp
  sz : BitVec 2
  sx : Bool
  addr : BitVec 48
  data : Word
  cmp : Word
  dpoison : Bool
  graph : GraphId
  frame : BitVec 12
  src : ReqSrc
deriving DecidableEq, Repr

/-- How a request is answered (R140, R141, R146, R188, R246). -/
inductive Answer where
  /-- the reply value and whether it is poisoned -/
  | value (v : Word) (poison : Bool)
  | memError
  | writeTwice
  | notOwner (v : Word)
  /-- deferral recorded, or LOCK queued or granted -/
  | ack
  /-- the deferral was not recorded (R246) -/
  | notRecorded
deriving DecidableEq, Repr

/-- A response to a cell's request; `graph`: whose request it answers (R290). -/
structure MemRsp where
  dst : CellId
  entry : BitVec 10
  uid : Nat
  graph : GraphId
  ans : Answer
deriving DecidableEq, Repr

/-- What a continuation-table entry waits for (R144, R186). -/
inductive CtKind where
  | mem (r : MemReq)
  | lockReq (r : MemReq)
  /-- the entries whose answers FENCE waits for (R143) -/
  | fence (waits : List Nat)
  /-- a NEWF without a record; `raised`: FRAME_EXHAUSTED was raised (R204) -/
  | newf (raised : Bool)
  /-- an OUT: ring, user code, immediate MSI-X (R148) -/
  | out (ring : BitVec 10) (ucode : BitVec 10) (now : Bool) (order : Nat)
  /-- an armed timer and the running time in ns at which it ends (R152) -/
  | timer (due : Nat)
deriving DecidableEq, Repr

/-- A continuation-table entry (R186). `acked`: the deferral or lock acknowledgement has arrived (R188). `again`: its LDS was
answered not recorded (R246). -/
structure CtEntry where
  act : Act
  word : Word
  kind : CtKind
  acked : Bool
  again : Bool
  uid : Nat
  issued : Nat
  colour : Bool
deriving DecidableEq, Repr

/-! ### Events (chapter 9) -/

/-- Which record of the controller holds an event (R273). -/
inductive RecPlace where
  | spare (ln : BitVec 3)
  | shared
  | receive
deriving DecidableEq, Repr

/-- An event record (R266, R273): source, carried values, origin frame and ITER, post cell, pending time. `grant`: the
grant token of LOCK_GRANT (R272). `asked`: the cell that has been asked for a place in its receive buffer, `granted`: the one that
has granted it (R274). `returns`: its entry was retargeted while it was on its way, so it goes back to its post cell (R275). -/
structure EvRec where
  graph : GraphId
  source : BitVec 6
  left : Val
  right : Option Val
  oframe : Option (BitVec 12)
  oiter : BitVec 32
  post : CellId
  grant : Option Token
  place : RecPlace
  since : Nat
  born : Nat
  asked : Option CellId
  granted : Option CellId
  returns : Bool
  colour : Bool
deriving DecidableEq, Repr

/-- A level of the priority stack (R278). -/
structure Level where
  pri : Byte
  graph : GraphId
deriving DecidableEq, Repr

/-- The four census counters and the colour of a participant for a graph (R217). -/
structure Census where
  cr0 : Word
  cr1 : Word
  cn0 : Word
  cn1 : Word
  colour : Bool
deriving DecidableEq, Repr

/-! ### Packets and flits (chapter 10) -/

/-- A packet of the on-package fabric (R292). -/
inductive Pkt where
  /-- a token, its sender and how often it was refused (R213) -/
  | tok (t : Token) (src : Sender) (count : Nat)
  | req (r : MemReq)
  | rsp (r : MemRsp)
  | ev (target : CellId) (e : EvRec)
  /-- a request of cell `asker` for a receive-buffer place for its record of that number, the grant of it, and a place that is
  not needed any more and goes back (R274) -/
  | evAsk (target asker : CellId) (graph : GraphId) (born : Nat)
  | evGrant (target granter : CellId) (graph : GraphId) (born : Nat)
  | evGive (target : CellId) (graph : GraphId)
  /-- a REFUSE packet: the token, its sender, and how often it was refused before -/
  | refuse (t : Token) (src : Sender) (count : Nat)
  /-- a Fober packet crossing the module -/
  | fob (p : FPacket)
deriving DecidableEq, Repr

/-- A mesh flit (R290): header fields and up to four packets. `packed` is the mesh cycle at which it was packed, from
which AGE follows. `out`: the output it takes at the router it stands at, chosen while it crossed the one before (R288). `inj`: the
INJECT descriptor, by ring and number, whose token it carries while it is in host injection staging (R398). -/
structure Flit where
  tgt : BitVec 7
  mc : BitVec 3
  esc : Bool
  epoch : Bool
  cls : BitVec 3
  graph : GraphId
  src : CellId
  packed : Nat
  out : Option Nat
  inj : Option (BitVec 12 × Nat)
  pkts : List Pkt
deriving DecidableEq, Repr

/-- One end of a UCIe module (R299, R304): the crossing from router or hub switch to the adapter, flits sent and not yet
acknowledged with their SEQ, how many of those are to be sent again, the SEQ of the next flit, the SEQ expected from the other
end, the last SEQ accepted, whether a flit is to be asked for again, the crossing from the adapter. -/
structure D2dEnd where
  out : List Flit
  retry : List (BitVec 12 × Flit)
  replay : Nat
  txSeq : BitVec 12
  exp : BitVec 12
  ackSeq : BitVec 12
  nak : Bool
  inq : List Flit
deriving DecidableEq, Repr

/-- A packet in a cell's egress (R162, R289). -/
structure OutPkt where
  pkt : Pkt
  epoch : Bool
  lane : Option (BitVec 3)
  since : Nat
deriving DecidableEq, Repr

/-- Power state of a cluster (R305, R306). -/
inductive ClPower where
  | retained | waking
deriving DecidableEq, Repr

/-! ### The cell (chapters 2, 6, 7, 9) -/

/-- The stores of a cell that graphs load and fill: instruction memory, fan-out store, matching store, frame table with
in-use and spilled bits, spill ring; the Yo-yo's work on it (frames being swept out, demanded frames in order of first
demand, the frame under reel-back and its reserved tokens still to return, entries reserved by graph, whether the pool trigger
is in force, scan pointer); the scrub pointer of each bank; instructions whose waiting partners a sticky operand still
fires (R182); the input buffer of each bank, oldest first (R170), and whether the bank is under set pressure (R180); the words
of the cell's ring that the Yo-yo has written and the host has not written since (R206, R255), and whether it found the ring full
and nothing has gone in since (R209). -/
structure CellStore where
  im : Map Word
  fo : Map Word
  ms : List MsEntry
  frames : Map FrameRec
  inUse : List Nat
  spilled : List Nat
  ring : List SpillRec
  sweep : List Nat
  demand : List Nat
  reel : Option Nat
  reelLeft : Nat
  reserved : Map Nat
  spilling : Bool
  lru : Nat
  scan : Nat
  scrub : Map Nat
  fires : List Nat
  in0 : List QTok
  in1 : List QTok
  setp0 : Bool
  setp1 : Bool
  ringWords : List Nat
  ringFull : Bool
deriving DecidableEq, Repr

/-- The queues and pipeline of a cell. `waitSeq`: the turn of the next slot that waits for a continuation-table entry. -/
structure CellPipe where
  qs : Map (List QTok)
  credit : Map Nat
  rr : Map Nat
  held : List Held
  expSeq : Map (BitVec 9)
  sendCtr : Map (BitVec 9)
  skips : List Nat
  rdyH : List Act
  rdy : List Act
  lanes : Map Lane
  ct : Map CtEntry
  uid : Nat
  waitSeq : Nat
  bypass : List Res
  ingress : List Res
  egress : List OutPkt
  inbox : List Pkt
deriving DecidableEq, Repr

/-- The event controller of a cell. `pmargin`: the margin in force while its stack is not empty; `rbReq`: requests for a
receive-buffer place, by cell, graph and number of the record; `rbGrant`: places granted and not yet filled (R274, R277). -/
structure CellEvents where
  evt : Map Word
  recs : List EvRec
  stack : List Level
  pmargin : Byte
  born : Nat
  rbReq : List (CellId × GraphId × Nat)
  rbGrant : Nat
deriving DecidableEq, Repr

/-- A compute cell. `cen`: census counters by graph. `idleSince`: the core cycle since which it has been idle (R190).
`lastCen`: what it returned at its last census read, which its absorber goes on from (R311). -/
structure Cell where
  store : CellStore
  pipe : CellPipe
  ev : CellEvents
  cen : Map Census
  lastCen : Map Census
  asleep : Bool
  idleSince : Nat
  isolated : Bool
  resetting : Bool
deriving DecidableEq, Repr

/-! ### HBM, structures and locks (chapter 8) -/

/-- The contents of the four stacks: bytes by device address, poison marks and FULL marks by word (address / 8).
Unlisted bytes read 0 (log 4), unlisted words are unpoisoned and not FULL. A STRUCT word that is not FULL is DEFERRED
while a read is recorded for it, and EMPTY otherwise (R244, R247). -/
structure Hbm where
  bytes : List Host.Cell
  poison : List (Nat × Bool)
  full : List (Nat × Bool)
deriving DecidableEq, Repr

/-- A recorded deferred read (R245): in the stack's table, or in an overflow record of the word's region; `graph`: whose
(R247). -/
structure Deferred where
  word : Nat
  src : ReqSrc
  graph : GraphId
  overflow : Bool
deriving DecidableEq, Repr

/-- An owner or waiter of a lock (R259). -/
inductive Owner where
  | cell (c : CellId) (g : GraphId) (f : BitVec 12)
  | fn (f : GraphId)
  | fober (node : BitVec 16) (c : CellId) (g : GraphId) (f : BitVec 12)
deriving DecidableEq, Repr

/-- A queued LOCK: who waits, and what its grant needs. -/
structure Waiter where
  owner : Owner
  req : MemReq
deriving DecidableEq, Repr

/-- A held-lock entry (R258). `owner` none: free with the abandoned mark kept; `freed` orders such entries by age. -/
structure LockEnt where
  addr : BitVec 48
  owner : Option Owner
  abandoned : Bool
  waiters : List Waiter
  freed : Nat
deriving DecidableEq, Repr

/-- A stack's controller, deferred-read table and lock unit. -/
structure Stack where
  reqs : List MemReq
  deferred : List Deferred
  locks : List LockEnt
  lockSeq : Nat
  lost : Nat
  eccCnt : Nat
  selfRef : Bool
  lastReq : Nat
  scrub : Nat
  cen : Map Census
deriving DecidableEq, Repr

/-- A record of a return-to-sender ring (R213). -/
structure RtsRec where
  tok : Token
  due : BitVec 16
  count : Nat
  hub : Bool
  src : CellId
deriving DecidableEq, Repr

/-- The spill/fill engine of a die: LFSR (none: it still holds its seed of R213), return-to-sender ring with its HEAD index, REFUSE packets waiting;
`words`: the words of the ring that the Yo-yo has written and the host has not written since (R206, R255). -/
structure Yoyo where
  lfsr : Option (BitVec 16)
  rts : List RtsRec
  head : Nat
  refused : List RtsRec
  words : List Nat
deriving DecidableEq, Repr

/-! ### The fabric (chapter 10) -/

/-- The fabric: input channels of routers, adaptive channels whose head has no adaptive credit with the mesh cycle since which it
has none (R294), input channels of the hub and the staging before those of its own units, crossings into routers from Fober ports
and HBM controllers, ends of UCIe modules, the last mesh cycle in which an output has sent (R288), outputs whose attached target
takes no flit with the running time since which one waits (R309), route banks and the bank in force, modules that a route change has
still to remove (R299), graphs still to drain after a flip (R302), slot tables in force and staged, round-robin pointers, mesh cycles
of urgent grants, clusters in retention or waking and the flits held for them, dead targets and UCIe modules that are down. -/
structure Fabric where
  vcs : Map (List Flit)
  dry : Map Nat
  hubq : Map (List Flit)
  cross : Map (List Flit)
  d2d : Map D2dEnd
  sent : Map Nat
  waits : Map Nat
  rt : Map (BitVec 16)
  routeTodo : BitVec 16
  cur : Bool
  retiring : Bool
  drains : Map Nat
  slots : Map Byte
  slotsNew : Map Byte
  rr : Map Nat
  urgent : Map (List Nat)
  power : Map ClPower
  hold : Map (List Flit)
  idleSince : Map Nat
  dead : List Target
  d2dDown : BitVec 16
deriving DecidableEq, Repr

/-! ### Fober ports and network (chapters 11 and 12) -/

/-- The link states of R340, in the coding of FBP.LSTATk.STATE. -/
inductive LinkState where
  | disabled | detect | eq | lock | hello | active | retrain | isolated
deriving DecidableEq, Repr

/-- A lane in training: last word seen and how often, accepted word, whether it is locked, whether its marker came inverted (R320); this
side's answer to the peer (RSP), its own request (TAP, REQ), and whether its receiver has finished adapting (R339). -/
structure LaneTrain where
  last : Word
  seen : Nat
  word : Option Word
  locked : Bool
  inv : Bool
  rsp : BitVec 2
  tap : BitVec 3
  req : BitVec 2
  rdy : Bool
deriving DecidableEq, Repr

/-- A DATA flit kept until acknowledged (R336), with the time it was sent. -/
structure Sent where
  seq : BitVec 12
  slots : List RawSlot
  at_ : Nat
deriving DecidableEq, Repr

/-- A Fober packet waiting in a link's transmit queue or receive buffer. `counted`: its slots were taken since the link last left
DETECT, so freeing them is reported (R332). -/
structure PortPkt where
  pkt : FPacket
  since : Nat
  counted : Bool
deriving DecidableEq, Repr

/-- A Fober link: its state (R340), rate, width and lanes, the version handshake (R342), retry and replay (R335 to R337), credits
(R332: `lim` the peer's limits, `sentCr` slots sent, `freed` slots freed, `adv` the limits last reported, `got` slots received), its
queues and lanes in training, the codeword being filled and the number of codewords sent modulo 16,384 (R325), whether the
codeword being received could not be decoded (R326), frames sent since EQ was complete (R340). -/
structure Link where
  st : LinkState
  since : Nat
  firstLock : Option Nat
  rate : BitVec 2
  width : BitVec 2
  lanes : Byte
  failed : Byte
  ver : BitVec 4
  peerVermap : BitVec 16
  fromRetrain : Bool
  helloSeen : Bool
  helloSent : Bool
  peerSeen : Bool
  retrainDue : Nat
  txSeq : BitVec 12
  exp : BitVec 12
  ackSeq : BitVec 12
  nak : Bool
  lastNak : Option (BitVec 12)
  retry : List Sent
  replay : List (BitVec 12)
  replays : Nat
  sentCr : Map (BitVec 12)
  lim : Map (BitVec 12)
  freed : Map (BitVec 12)
  adv : Map (BitVec 12)
  got : Map (BitVec 12)
  reported : Nat
  cw : List RawFlit
  cwCount : Nat
  rxBad : Bool
  eqFrames : Nat
  tx : List PortPkt
  rx : List PortPkt
  train : Map LaneTrain
  fecc : Nat
  fecu : Nat
  replayCnt : Nat
deriving DecidableEq, Repr

/-- An outstanding request of this module on the Fober fabric (R372, R378). -/
structure FobReq where
  node : BitVec 16
  tag : BitVec 16
  issued : Nat
deriving DecidableEq, Repr

/-- A node that roll-call has found (R351): its path, the link of its own at the end of that path (none: the root), its ID,
its kind and classes, its links in ACTIVE, its inactive bank, and that the root has written a valid entry there (R353, R358). -/
structure RollNode where
  path : List LinkId
  up : Option LinkId
  id : BitVec 16
  fwd : Bool
  tk8 : Bool
  cls : BitVec 3
  links : Word
  bank : Bool
  wrote : Bool
deriving DecidableEq, Repr

/-- A ROUTE command of the root for a node: SUB and, for WRITE, bank, first entry, count and entry (R370). -/
structure RouteCmd where
  node : RollNode
  sub : BitVec 4
  bank : Bool
  first : Nat
  count : Nat
  entry : BitVec 16
deriving DecidableEq, Repr

/-- What the root of the fabric is doing (R351, R353, R358). -/
inductive RollStage where
  /-- roll-call: probing the links of the nodes found -/
  | probe
  /-- roll-call: STATUS of each forwarding node, for its inactive bank -/
  | survey
  /-- roll-call: route entries -/
  | write
  /-- FLIP to each forwarding node -/
  | flip
  /-- STATUS until each reports LOCALDONE -/
  | poll
  /-- the graphs that span modules drain -/
  | drain
  | retire
deriving DecidableEq, Repr

/-- Roll-call or a fabric flip in progress at the root: nodes still to probe, the node whose links are probed and the next
link, the node that a SET names, the tag and time of the packet outstanding, the nodes found, the ROUTE commands still to be
answered. `ends`: which link of which node leads to which link of which, as the replies showed. `byRoll`: the flip ends a
roll-call, so it is source-routed. -/
structure Roll where
  stage : RollStage
  byRoll : Bool
  queue : List RollNode
  cur : Option RollNode
  link : Nat
  set_ : Option RollNode
  tag : BitVec 16
  sentAt : Nat
  nodes : List RollNode
  ends : List (BitVec 16 × Nat × BitVec 16 × Nat)
  cmds : List RouteCmd
deriving DecidableEq, Repr

/-- The Fober network of the module. `handed`: the IDs that roll-call has given; `known`: the nodes of the last
roll-call; `tag`: the next request's; `enumFrom`: the end of step 1 of start-up, `enumHigh`: ENUM_IN has been
high since then, `enumOut`: ENUM_OUT is at its wait level (R349); `refusedOut`: tokens of Class C endpoints that went
back to them refused, which their proxies have counted already (R62, R379). -/
structure Fbn where
  nodeId : BitVec 16
  nodeHeld : Bool
  root : Bool
  rootId : Option (BitVec 16)
  slot : Byte
  slotKnown : Bool
  enumLast : Option Nat
  enumHigh : Bool
  enumOut : Bool
  enumFrom : Nat
  rt : Map (BitVec 16)
  isolated : List Nat
  delivered : List FPacket
  reqs : List FobReq
  tag : BitVec 16
  roll : Option Roll
  handed : List (BitVec 16)
  known : List RollNode
  tk8s : Nat
  nodes : Nat
  retireWait : Bool
  proxyCen : Map Census
  refusedOut : List (LinkId × Token)
deriving DecidableEq, Repr

/-! ### Host interface (chapter 13) -/

/-- A descriptor in progress: its words W0 to W7, its number among those its ring ever fetched, whether it waits (a queued
LOCK or an UNLOAD) (R394, R395). -/
structure Desc where
  words : List Word
  index : Nat
  waiting : Bool
  issued : Nat
deriving DecidableEq, Repr

/-- A ring pair (R390 to R395). `fenced`: the next entry has been read and waits for the earlier ones (R394). -/
structure Pair where
  sqHead : BitVec 16
  sqTail : BitVec 16
  cqHead : BitVec 16
  cqTail : BitVec 16
  phase : Bool
  reserved : Nat
  fetched : Nat
  fenced : Bool
  started : List Desc
deriving DecidableEq, Repr

/-- An output entry accepted by the hub and not yet written (R216, R405). -/
structure OutEnt where
  w0 : Word
  w1 : Word
  w2hi : BitVec 32
  graph : GraphId
  colour : Bool
  now : Bool
deriving DecidableEq, Repr

/-- An output ring (R390, R391). -/
structure ORing where
  oHead : BitVec 16
  oTail : BitVec 16
  phase : Bool
  count : BitVec 32
  accepted : List OutEnt
deriving DecidableEq, Repr

/-- Moderation of one vector of one function (R407) and its MSI-X table entry. -/
structure Vector where
  pend : Nat
  oldest : Nat
  unmasked : Bool
  pba : Bool
  addr : Word
  data : Reg
deriving DecidableEq, Repr

/-- The PCI Express configuration of a function (R251, R384): Bus Master Enable, Memory Space Enable, power state D3hot, the
uncorrectable error status of Advanced Error Reporting. -/
structure PciFn where
  bme : Bool
  memSpace : Bool
  d3hot : Bool
  aer : Reg
deriving DecidableEq, Repr

/-- An access of a function that stands in the queue between the PCIe core and the hub (R387). -/
inductive HostTlp where
  | write (req : Requester) (a : Access)
  | read (req : Requester) (space : Space) (off size : Nat)
deriving DecidableEq, Repr

/-- The host interface. `polled`: when a function's doorbell words were last read (R393); `pci`: configuration by function, `vfEn` and `numVfs` of SR-IOV (R384); `tlps`: accesses that a full
freeze holds (R387). -/
structure Hif where
  pairs : Map Pair
  orings : Map ORing
  vectors : Map Vector
  pairFn : Map GraphId
  oringFn : Map GraphId
  cellFn : Map GraphId
  window : Map (Nat × Nat)
  rr : Nat
  wake : List GraphId
  polled : Map Nat
  hostReqs : List MemReq
  pci : Map PciFn
  vfEn : Bool
  numVfs : Nat
  tlps : List HostTlp
deriving DecidableEq, Repr

/-! ### Graphs (chapters 2, 7, 13) -/

/-- A graph's ranges in one cell of its mask (R38, R48, R74). -/
structure CellCfg where
  ibase : Nat
  icount : Nat
  fbase : Nat
  fcount : Nat
  nfbase : Nat
deriving DecidableEq, Repr

/-- The quotas of R194; the stall window stands in SCH.GSTALLg. -/
structure Quota where
  msmin : Nat
  mscap : Nat
  frcap : Nat
  ctcap : Nat
  waitcap : Nat
deriving DecidableEq, Repr

/-- Sums of a census wave (R219). -/
structure Sums where
  cr0 : Word
  cr1 : Word
  cn0 : Word
  cn1 : Word
deriving DecidableEq, Repr

/-- A census wave in progress (R219): its start, the node that sent it (none on the root), the answers of participants, of
aggregators, of child modules. `tmo`: SCH.CENCFG.TMO in ns as it stood when the wave began (R226). -/
structure Wave where
  began : Nat
  tmo : Nat
  asker : Option (BitVec 16)
  parts : List (Participant × Sums)
  aggs : List (Aggregator × Sums)
  childs : List (BitVec 16 × Sums)
  abandonedBelow : Bool
deriving DecidableEq, Repr

/-- A notice held for a graph (R404). -/
structure Notice where
  type_ : BitVec 4
  status : Byte
  result : Word
deriving DecidableEq, Repr

/-- A graph slot with a graph (R37). `fresh`: an INJECT was accepted here after this module's last answered wave, so that DONE
ends a run and begins the next (R223); `stallHeld`: the item count of a STALL event that waits for a record (R227, R273). -/
structure Graph where
  owner : GraphId
  ring : BitVec 12
  mask : List Nat
  cfg : Map CellCfg
  entryFrame : BitVec 12
  home : CellId
  croot : BitVec 16
  tree : List (BitVec 16 × BitVec 16 × Bool)
  quota : Quota
  launched : Bool
  run : Nat
  running : Bool
  complete : Bool
  stalled : Bool
  drained : Bool
  drains : Nat
  unloading : Option (Option (BitVec 12 × Nat))
  held : Bool
  wave : Nat
  waveNow : Option Wave
  waveEnd : Nat
  last : Option Sums
  lastWave : Nat
  abandons : Nat
  consumed : Word
  consumedAt : Nat
  fresh : Bool
  stallHeld : Option Word
  notices : List Notice
  cen : Census
deriving DecidableEq, Repr

/-! ### Faults, power, management, debug (chapters 10, 15, 16, 17) -/

/-- What a source without a unit aborts at stage 1 (R448). -/
inductive AbortCause where
  | graph (g : GraphId)
  | udef (n : Nat)
  | spillRing (c : CellId)
  | rtsRing (d : DieId)
deriving DecidableEq, Repr

/-- An open episode (R442 to R446): its containment set and the graphs its sources without a unit abort. -/
structure Episode where
  sev : BitVec 2
  stage : Nat
  acked : Bool
  quiesced : Bool
  opened : Nat
  lastAt : Nat
  set_ : List DevUnit
  causes : List AbortCause
deriving DecidableEq, Repr

/-- A reset of the host interface whose effects wait for the end of a freeze (R457): the function (none: PERST_N), and whether
those on the host interface wait too. -/
structure PutOff where
  fn : Option GraphId
  host : Bool
deriving DecidableEq, Repr

structure Flt where
  episode : Option Episode
  eseq : BitVec 16
  recov : BitVec 16
  selfRst : BitVec 16
  isolated : List DevUnit
  testing : List DevUnit
  failed : List DevUnit
  freezeLatch : Bool
  clockLatch : Bool
  freezePinLow : Bool
  absorbed : List GraphId
  resetAtResume : List PutOff
deriving DecidableEq, Repr

/-- Power. `ovlo`: VIN is above overvoltage lockout (R462); `hotHold`: off since a thermal shutdown (R470). -/
structure Pwr where
  vin : BitVec 16
  iin : BitVec 16
  ceiling : Nat
  duty : Nat
  hbmStep : Nat
  shed : List Nat
  thermal : Map Nat
  thermalDuty : Map Nat
  hbmHot : BitVec 4
  temps : Map (BitVec 16)
  fails : BitVec 32
  tshut : Bool
  off : Bool
  dieOff : BitVec 4
  below : BitVec 4
  capSeen : Bool
  ovlo : Bool
  hotHold : Bool
deriving DecidableEq, Repr

/-- The management complex. `calUser`, `calBad`: groups of calibration taken from region 1, and factory groups that are invalid
(R481); `cal`: region 1 as it stood at start-up. -/
structure Mgt where
  phase : BitVec 4
  ready : Bool
  pclk : Bool
  fclk : Bool
  restoring : Bool
  ucfgErr : Bool
  ucfgIdx : Reg
  patchVer : BitVec 16
  patched : Bool
  mismatch : Bool
  stored : BitVec 16
  calUser : BitVec 5
  calBad : BitVec 5
  cal : Map Byte
  nv : Map Byte
  pupDepth : Byte
  pupPend : BitVec 12
  da : Option (BitVec 7)
  ibi : Bool
  mrl : BitVec 16
  ptr : Byte
  readyAt : Nat
deriving DecidableEq, Repr

/-- The test access port (R461). `rtest`: the reserved register bits that it has set as test controls, by offset (R418). -/
structure Tap where
  ir : Byte
  rosel : Word
  boundary : BitVec 96
  rtest : Map Word
deriving DecidableEq, Repr

/-- The trace buffer of the fabric probes: its records by index, the index written next, records lost (R315, R317), the hub cycle
of the last record and how many were written in it. -/
structure Kal where
  trace : List (List Word)
  next : Nat
  lost : Reg
  cycle : Nat
  inCycle : Nat
deriving DecidableEq, Repr

/-- The writable decode table (R90). -/
structure Uct where
  entries : Map Reg
  uwords : Map Word
deriving DecidableEq, Repr

/-- One access error log (R435). -/
structure AccLog where
  last : Reg
  offset : Reg
  data : Reg
  count : Reg
deriving DecidableEq, Repr

/-- Registers: values in force and staged values by BAR0 offset (HIF fields of a function by function too), status
registers with their SEQ, access error logs, write stages and read latches by requester (R415, R416, R422, R425, R429). -/
structure RegFile where
  cfg : Map Word
  staged : Map Word
  status : Map Reg
  logs : Map AccLog
  stage : Map (Nat × Reg)
  latch : Map (Nat × Reg)
deriving DecidableEq, Repr

/-- Time (log 1): the always-on timebase and the running time (which stops in a freeze) in ns, and the core cycles each
die has run. -/
structure Clock where
  aon : Nat
  run : Nat
  core : Map Nat
deriving DecidableEq, Repr

/-- What the device sends out (log 3): writes to host memory, MSI-X messages, flits, training and control, answers to
reads, TAP and I3C data. -/
inductive Out where
  | hostWrite (fn : GraphId) (addr : Word) (bytes : Nat) (words : List Word) (poisoned : List Nat)
  | hostRead (fn : GraphId) (addr : Word) (bytes : Nat)
  | msix (fn : GraphId) (vec : BitVec 5)
  | flit (l : LinkId) (f : RawFlit)
  | codeword (l : LinkId) (lanes : List (Nat × List Int))
  | frame (l : LinkId) (lane : Nat) (levels : List Int)
  | packet (p : FPacket)
  | regData (req : Requester) (off : Nat) (data : List Reg)
  | tdo (bits : List Bool)
  | i3c (data : List Byte)
  | ibi (b : Byte)
  | enumPulses (n : Nat)
  | puppeteer (stage : Nat)
deriving DecidableEq, Repr

/-- Everything but the command queue and the contents of HBM. `symTimes`: symbols corrected on a lane in the last ms, with the running time
of each codeword (R341). -/
structure Dev where
  out : List Out
  clock : Clock
  regs : RegFile
  cells : Map Cell
  stks : Map Stack
  yoyos : Map Yoyo
  fab : Fabric
  links : Map Link
  lsym : Map Nat
  symTimes : Map (List (Nat × Nat))
  fbn : Fbn
  hif : Hif
  graphs : Map Graph
  flt : Flt
  pwr : Pwr
  mgt : Mgt
  tap : Tap
  kal : Kal
  uct : Uct
  rgnInit : List Nat
  freeCtr : Nat
deriving DecidableEq, Repr

/-- The state of the block: the waiting commands, first in, first out; the HBM contents; the rest of the device. -/
structure State where
  pending : List Instr
  hbm : Hbm
  dev : Dev
deriving DecidableEq, Repr

/-- Why the machine stops with a fault: no step of this model does, since the TK8 has no undefined behaviour that stops
it; the one constructor is raised by nobody (safe). -/
inductive Fault where
  /-- Raised by no meaning; kept so that the type has a value. Safe. -/
  | unused
deriving DecidableEq, Repr

/-- Why a command is refused. -/
inductive Refusal where
  /-- The command has no meaning in this model yet, named by its row of the opcode table. Raised by an arm of exec alone;
  safe, since nothing is claimed of such a step. -/
  | notModelled (mnemonic : String)
  /-- The command names no unit of the device: a requester above 64, or above 63 at BAR2 (R411). Raised by every register
  access; safe, since no such requester exists. -/
  | noSuchRequester
deriving DecidableEq, Repr

/-- The device when AON has just been released at power-on, before the start-up sequence (R478 step 1): every register at
its reset value, MGT.STATUS.PHASE 1, GLB.STATUS.READY 0, no graph, no command waiting (log 7). -/
def State.reset : State where
  pending := []
  hbm := { bytes := [], poison := [], full := [] }
  dev :=
    { out := []
      clock := { aon := 0, run := 0, core := [] }
      regs := { cfg := [], staged := [], status := [], logs := [], stage := [], latch := [] }
      cells := []
      stks := []
      yoyos := []
      fab :=
        { vcs := [], dry := [], hubq := [], cross := [], d2d := [], sent := [], waits := [], rt := [], routeTodo := 0, cur := false, retiring := false, drains := [], slots := []
          slotsNew := [], rr := [], urgent := [], power := [], hold := [], idleSince := [], dead := []
          d2dDown := 0 }
      links := []
      lsym := []
      symTimes := []
      fbn :=
        { nodeId := 0, nodeHeld := false, root := false, rootId := none, slot := 0, slotKnown := false, enumLast := none
          enumHigh := false, enumOut := false, enumFrom := 0, rt := [], isolated := [], delivered := [], reqs := [], tag := 0, roll := none, handed := [], known := []
          tk8s := 0, nodes := 0, retireWait := false, proxyCen := [], refusedOut := [] }
      hif :=
        { pairs := [], orings := [], vectors := [], pairFn := [], oringFn := [], cellFn := [], window := [], rr := 0
          wake := [], polled := [], hostReqs := [], pci := [], vfEn := false, numVfs := 0, tlps := [] }
      graphs := []
      flt :=
        { episode := none, eseq := 0, recov := 0, selfRst := 0, isolated := [], testing := [], failed := []
          freezeLatch := false, clockLatch := false, freezePinLow := false, absorbed := [], resetAtResume := [] }
      pwr :=
        { vin := 0, iin := 0, ceiling := 6, duty := 0, hbmStep := 0, shed := [], thermal := [], thermalDuty := []
          hbmHot := 0, temps := [], fails := 0, tshut := false, off := true, dieOff := 0, below := 0
          capSeen := false, ovlo := false, hotHold := false }
      mgt :=
        { phase := 1, ready := false, pclk := false, fclk := false, restoring := false
          ucfgErr := false, ucfgIdx := 0, patchVer := 0, patched := false, mismatch := false, stored := 0, calUser := 0, calBad := 0
          cal := [], nv := [], pupDepth := 0, pupPend := 0, da := none, ibi := true, mrl := 256, ptr := 0
          readyAt := 0 }
      tap := { ir := 0x02, rosel := 0, boundary := 0, rtest := [] }
      kal := { trace := [], next := 0, lost := 0, cycle := 0, inCycle := 0 }
      uct := { entries := [], uwords := [] }
      rgnInit := []
      freeCtr := 0 }

end Sys2Proof.Machine
end

