-- ==== Sys2Proof/Machine/Bits.lean ====
section
/-! DEFINITION. Bit fields, sparse tables, and the fields of token words (R2, R22, R23). -/

namespace Sys2Proof.Machine

/-- Bits [lo + len − 1 : lo] of a word. -/
def bits {n : Nat} (w : BitVec n) (lo len : Nat) : BitVec len := w.extractLsb' lo len

/-- The same field as a number. -/
def nbits {n : Nat} (w : BitVec n) (lo len : Nat) : Nat := (w.toNat >>> lo) % 2 ^ len

/-- One bit of a word. -/
def bit {n : Nat} (w : BitVec n) (i : Nat) : Bool := w.getLsbD i

/-- A word with one field replaced. -/
def setBits {n : Nat} (w : BitVec n) (lo len : Nat) (v : Nat) : BitVec n :=
  BitVec.ofNat n (w.toNat - ((w.toNat >>> lo) % 2 ^ len) <<< lo + (v % 2 ^ len) <<< lo)

/-- A Bool as a number. -/
def b2n (b : Bool) : Nat := if b then 1 else 0

/-- A Bool as a bit. -/
def b2v (b : Bool) : BitVec 1 := if b then 1 else 0

/-- The value of a sparse table at a key; `d` is what unlisted keys read as. -/
def mget {α : Type} (d : α) : Map α → Nat → α
  | [], _ => d
  | (k, v) :: m, i => if k = i then v else if i < k then d else mget d m i

/-- A sparse table without its first entries up to a key. -/
def mdrop {α : Type} (i : Nat) : Map α → Map α
  | [] => []
  | (k, v) :: m => if k ≤ i then mdrop i m else (k, v) :: m

/-- A sparse table with one value replaced; a value equal to the default is not listed. -/
def mset {α : Type} [DecidableEq α] (d : α) : Map α → Nat → α → Map α
  | [], i, v => if v = d then [] else [(i, v)]
  | (k, w) :: m, i, v =>
    if i < k then (if v = d then (k, w) :: m else (i, v) :: (k, w) :: m)
    else if i = k then (if v = d then mdrop i m else (i, v) :: m)
    else (k, w) :: mset d m i v

/-- Whether a key is listed. -/
def mfind {α : Type} : Map α → Nat → Option α
  | [], _ => none
  | (k, v) :: m, i => if k = i then some v else if i < k then none else mfind m i

/-- A sparse table of options with one entry listed. -/
def minsert {α : Type} : Map α → Nat → α → Map α
  | [], i, v => [(i, v)]
  | (k, w) :: m, i, v =>
    if i < k then (i, v) :: (k, w) :: m else if i = k then (i, v) :: m else (k, w) :: minsert m i v

/-- A sparse table with one entry removed. -/
def merase {α : Type} : Map α → Nat → Map α
  | [], _ => []
  | (k, w) :: m, i => if i < k then (k, w) :: m else if k = i then mdrop i m else (k, w) :: merase m i

/-- The canonical form of a sparse table: keys strictly rising and below `bound`, no entry equal to its default. -/
def mwf {α : Type} [DecidableEq α] (d : α) (lo : Nat) : Map α → Bool
  | [] => true
  | (k, v) :: m => decide (lo ≤ k) && decide (v ≠ d) && mwf d (k + 1) m

/-- The first element that meets a test, with the list without it. -/
def takeFirst {α : Type} (p : α → Bool) : List α → Option (α × List α)
  | [] => none
  | a :: l => if p a then some (a, l) else (takeFirst p l).map fun (x, r) => (x, a :: r)

/-- The element at an index, with the list without it. -/
def takeAt {α : Type} : List α → Nat → Option (α × List α)
  | [], _ => none
  | a :: l, 0 => some (a, l)
  | a :: l, i + 1 => (takeAt l i).map fun (x, r) => (x, a :: r)

/-- A list with the element at an index replaced. -/
def putAt {α : Type} : List α → Nat → α → List α
  | [], _, _ => []
  | _ :: l, 0, x => x :: l
  | a :: l, i + 1, x => a :: putAt l i x

/-- An element of least key; the first of equals. -/
def minBy {α : Type} (key : α → Nat) : List α → Option α
  | [] => none
  | a :: l =>
    match minBy key l with
    | none => some a
    | some b => if key b < key a then some b else some a

/-- How many elements meet a test. -/
def count {α : Type} (p : α → Bool) (l : List α) : Nat := (l.filter p).length

/-- A little-endian number of n bytes at an offset of a byte table (R3). -/
def leNat (f : Nat → Byte) (o : Nat) : Nat → Nat
  | 0 => 0
  | n + 1 => (f o).toNat + 256 * leNat f (o + 1) n

/-! ### Token fields (R22, R23) -/

def Token.node (t : Token) : BitVec 16 := bits t.w0 48 16
def Token.cell (t : Token) : CellId := bits t.w0 38 10
def Token.graph (t : Token) : GraphId := bits t.w0 32 6
def Token.cls (t : Token) : BitVec 3 := bits t.w0 29 3
def Token.stream (t : Token) : BitVec 4 := bits t.w0 25 4
def Token.seq (t : Token) : BitVec 9 := bits t.w0 16 9
/-- A token with SEQ 0 when its STREAM is 0 (R28). -/
def Token.plainSeq (t : Token) : Token := if t.stream = 0 then { t with w0 := setBits t.w0 16 9 0 } else t
def Token.kind (t : Token) : BitVec 4 := bits t.w0 12 4
def Token.vtype (t : Token) : BitVec 4 := bits t.w0 8 4
def Token.poison (t : Token) : Bool := bit t.w0 7
def Token.epoch (t : Token) : Bool := bit t.w0 6
def Token.colour (t : Token) : Bool := bit t.w0 5
def Token.frame (t : Token) : BitVec 12 := bits t.w1 52 12
def Token.instr (t : Token) : BitVec 14 := bits t.w1 38 14
def Token.port (t : Token) : BitVec 2 := bits t.w1 36 2
def Token.iter (t : Token) : BitVec 32 := bits t.w1 0 32

/-- The fields of a token before they are packed (R22, R23). -/
structure TokenFields where
  node : BitVec 16
  cell : CellId
  graph : GraphId
  cls : BitVec 3
  stream : BitVec 4
  seq : BitVec 9
  kind : BitVec 4
  vtype : BitVec 4
  poison : Bool
  epoch : Bool
  colour : Bool
  frame : BitVec 12
  instr : BitVec 14
  port : BitVec 2
  iter : BitVec 32
  value : Word
deriving DecidableEq, Repr

/-- The token with given fields; its reserved bits are zero (R22, R23, R33). -/
def TokenFields.pack (f : TokenFields) : Token where
  w0 := f.node ++ f.cell ++ f.graph ++ f.cls ++ f.stream ++ f.seq ++ f.kind ++ f.vtype ++ b2v f.poison ++
    b2v f.epoch ++ b2v f.colour ++ (0 : BitVec 5)
  w1 := f.frame ++ f.instr ++ f.port ++ (0 : BitVec 4) ++ f.iter
  w2 := f.value

/-- The value a token carries. -/
def Token.val (t : Token) : Val := { bits := t.w2, vtype := t.vtype, poison := t.poison }

/-- A VTYPE of R24. -/
def vtypeOk (v : BitVec 4) : Bool := v.toNat ≤ 8

/-! ### Cells (R13) -/

def cellDie (c : CellId) : DieId := bits c 8 2
def cellCluster (c : CellId) : ClusterId := bits c 4 6
def clusterDie (n : ClusterId) : DieId := bits n 4 2

end Sys2Proof.Machine
end

