-- ==== Sys2Proof/Machine/Flags.lean ====
section
/-! DEFINITION. What an operation answers: its two result slots and the exceptions it met; and how an exception or a
poisoned input decides what leaves (R57, R58, R95 to R97). The TK8 has no flags: this is what stands in their place. -/

namespace Sys2Proof.Machine

/-! ### Event sources of arithmetic (R266) -/

def srcIllegalOp : Nat := 0
def srcIllegalField : Nat := 1
def srcTagRange : Nat := 2
def srcIntDivZero : Nat := 3
def srcIntOverflow : Nat := 4
def srcDigitInvalid : Nat := 5
def srcDecOverflow : Nat := 6
def srcFpInvalid : Nat := 7
def srcFpDivZero : Nat := 8
def srcFpOverflow : Nat := 9
def srcFpUnderflow : Nat := 10
def srcFpInexact : Nat := 11
def srcLockGrant : Nat := 12
def srcLockNotOwner : Nat := 13
def srcStructWriteTwice : Nat := 14
def srcMemError : Nat := 15
def srcOrderGap : Nat := 16
def srcFrameExhausted : Nat := 17
def srcStall : Nat := 18
def srcReturnExhausted : Nat := 19
def srcCellTimer : Nat := 20
def srcHostPost : Nat := 21
def srcPuppeteerPost : Nat := 22

/-! ### Status codes (R6) -/

def stOk : Byte := 0x00
def stBadValue : Byte := 0x01
def stBadWidth : Byte := 0x02
def stUnaligned : Byte := 0x03
def stLocked : Byte := 0x04
def stBusy : Byte := 0x05
def stReservedChanged : Byte := 0x06
def stNoAccess : Byte := 0x07
def stUnknownVersion : Byte := 0x08
def stNoResource : Byte := 0x09
def stNotFound : Byte := 0x0A
def stAbandoned : Byte := 0x0B
def stTimeout : Byte := 0x0C
def stIsolated : Byte := 0x0D
def stPoisoned : Byte := 0x0E
def stFormat : Byte := 0x0F
def stStale : Byte := 0x10
def stNotOwner : Byte := 0x11
def stAborted : Byte := 0x13
def stMismatch : Byte := 0x14

/-- A status received from a Fober endpoint as its initiator sees it: a reserved code is FORMAT (R8). -/
def receivedStatus (s : Byte) : Byte := if s.toNat ≤ 0x14 then s else stFormat

/-- A result: its value and its VTYPE. -/
structure Result where
  val : Word
  vt : BitVec 4
deriving DecidableEq, Repr

/-- What an operation answers: result slots 0 and 1 and the exceptions met, by event source. For a steer, `steer` tells
that slots 0 and 1 are the two sides of a decision (R123). -/
structure OpRes where
  s0 : Option Result
  s1 : Option Result
  exc : List Nat
deriving DecidableEq, Repr

/-- The operands of an operation: a with its VTYPE, b, and MOD. -/
structure Opn where
  a : Word
  vt : BitVec 4
  b : Word
  mod : BitVec 4
deriving DecidableEq, Repr

/-- A single result (R65). -/
def OpRes.one (v : Word) (vt : BitVec 4) (exc : List Nat) : OpRes := { s0 := some ⟨v, vt⟩, s1 := none, exc := exc }

/-- A steer: a on slot 0 when the condition holds, on slot 1 when it does not (R123). -/
def OpRes.steer (v : Word) (vt : BitVec 4) (cond : Bool) (exc : List Nat) : OpRes :=
  if cond then { s0 := some ⟨v, vt⟩, s1 := none, exc := exc } else { s0 := none, s1 := some ⟨v, vt⟩, exc := exc }

/-- The lowest-numbered enabled source among the exceptions met (R96). -/
def lowestEnabled (enabled : Nat → Bool) (exc : List Nat) : Option Nat :=
  minBy id (exc.filter enabled)

end Sys2Proof.Machine
end

