-- ==== Sys2Proof/Machine/Alu.lean ====
section
/-! DEFINITION. Integer, shift, bit and packed-lane operations (R98 to R106) and the integer steers (R123, R124). -/

namespace Sys2Proof.Machine

/-- Element width of layout I, by MOD[1:0] (R78). -/
def ewWidth (m : BitVec 4) : Nat := 64 >>> (nbits m 0 2)

def modU (m : BitVec 4) : Bool := bit m 2
def modSat (m : BitVec 4) : Bool := bit m 3

/-- VTYPE of a layout I result (R100). -/
def ewVtype (m : BitVec 4) : BitVec 4 := BitVec.ofNat 4 (nbits m 0 2)

/-- Element i of width w of a word, unsigned (R25). -/
def elemAt (w : Nat) (x : Word) (i : Nat) : Nat := (x.toNat >>> (w * i)) % 2 ^ w

/-- The value of a w-bit pattern read as signed or unsigned. -/
def elemVal (u : Bool) (w e : Nat) : Int := if u || e < 2 ^ (w - 1) then (e : Int) else (e : Int) - 2 ^ w

/-- The low w bits of an integer. -/
def wrapTo (w : Nat) (x : Int) : Nat := (x % 2 ^ w).toNat

def minOf (u : Bool) (w : Nat) : Int := if u then 0 else -2 ^ (w - 1)
def maxOf (u : Bool) (w : Nat) : Int := if u then 2 ^ w - 1 else 2 ^ (w - 1) - 1

/-- Whether an exact result fits in w bits. -/
def fits (u : Bool) (w : Nat) (x : Int) : Bool := decide (minOf u w ≤ x) && decide (x ≤ maxOf u w)

/-- An exact result brought into w bits, and the exceptions met (R101). -/
def narrow (sat u : Bool) (w : Nat) (x : Int) : Nat × List Nat :=
  if fits u w x then (wrapTo w x, [])
  else if sat then (wrapTo w (if x < minOf u w then minOf u w else maxOf u w), [])
  else (wrapTo w x, if u then [] else [srcIntOverflow])

/-- A word put together from its elements, element 0 lowest (R25). -/
def packElems (w : Nat) (f : Nat → Nat) : Word :=
  BitVec.ofNat 64 ((List.range (64 / w)).foldl (fun acc i => acc + (f i % 2 ^ w) <<< (w * i)) 0)

/-- An element-wise operation: each result element from the elements of one index alone (R98). -/
def mapElems (w : Nat) (f : Nat → Nat × List Nat) : Word × List Nat :=
  (packElems w fun i => (f i).1, (List.range (64 / w)).flatMap fun i => (f i).2)

/-- An element-wise operation of layout I on the elements of a and b, by their values under U. -/
def intOp (o : Opn) (f : Nat → Int → Int → Nat × List Nat) : OpRes :=
  let w := ewWidth o.mod
  let u := modU o.mod
  let r := mapElems w fun i => f w (elemVal u w (elemAt w o.a i)) (elemVal u w (elemAt w o.b i))
  .one r.1 (ewVtype o.mod) r.2

/-- ADD (R102). -/
def opAdd (o : Opn) : OpRes := intOp o fun w a b => narrow (modSat o.mod) (modU o.mod) w (a + b)
/-- SUB (R102). -/
def opSub (o : Opn) : OpRes := intOp o fun w a b => narrow (modSat o.mod) (modU o.mod) w (a - b)
/-- MUL (R102). -/
def opMul (o : Opn) : OpRes := intOp o fun w a b => narrow (modSat o.mod) (modU o.mod) w (a * b)
/-- MULH (R102): the high w bits of the 2w-bit product. -/
def opMulh (o : Opn) : OpRes := intOp o fun w a b => (wrapTo w ((a * b) / 2 ^ w), [])
/-- DIV (R102): truncated toward zero; a zero divisor gives 0. -/
def opDiv (o : Opn) : OpRes :=
  intOp o fun w a b => if b = 0 then (0, [srcIntDivZero]) else narrow (modSat o.mod) (modU o.mod) w (Int.tdiv a b)
/-- REM (R102): the sign follows a; a zero divisor gives a. -/
def opRem (o : Opn) : OpRes :=
  intOp o fun w a b => if b = 0 then (wrapTo w a, [srcIntDivZero]) else (wrapTo w (Int.tmod a b), [])
/-- NEG (R102), signed. -/
def opNeg (o : Opn) : OpRes := intOp o fun w a _ => narrow (modSat o.mod) false w (-a)
/-- ABS (R102), signed. -/
def opAbs (o : Opn) : OpRes := intOp o fun w a _ => narrow (modSat o.mod) false w (if a < 0 then -a else a)
/-- MIN (R102). -/
def opMin (o : Opn) : OpRes := intOp o fun w a b => (wrapTo w (if b < a then b else a), [])
/-- MAX (R102). -/
def opMax (o : Opn) : OpRes := intOp o fun w a b => (wrapTo w (if a < b then b else a), [])

/-- A bitwise operation on 64 bits; VTYPE of a (R102). -/
def opAnd (o : Opn) : OpRes := .one (o.a &&& o.b) o.vt []
def opOr (o : Opn) : OpRes := .one (o.a ||| o.b) o.vt []
def opXor (o : Opn) : OpRes := .one (o.a ^^^ o.b) o.vt []
def opAndn (o : Opn) : OpRes := .one (o.a &&& ~~~o.b) o.vt []
def opNot (o : Opn) : OpRes := .one (~~~o.a) o.vt []
/-- MOV, MERGE and GATE: a with its VTYPE (R102, R124). -/
def opMov (o : Opn) : OpRes := .one o.a o.vt []
/-- LDI (R104): IMM20 sign-extended, which is the right operand of the word. -/
def opLdi (o : Opn) : OpRes := .one o.b 0 []

/-- Sum or difference with its carry or borrow elements (R103). -/
def carryOp (o : Opn) (f : Int → Int → Int) : OpRes :=
  let w := ewWidth o.mod
  let u := modU o.mod
  let x := fun i => f (elemVal u w (elemAt w o.a i)) (elemVal u w (elemAt w o.b i))
  { s0 := some ⟨packElems w fun i => wrapTo w (x i), ewVtype o.mod⟩
    s1 := some ⟨packElems w fun i => b2n (!fits u w (x i)), ewVtype o.mod⟩
    exc := [] }

/-- ADDC (R103). -/
def opAddc (o : Opn) : OpRes := carryOp o fun a b => a + b
/-- SUBB (R103). -/
def opSubb (o : Opn) : OpRes := carryOp o fun a b => a - b

/-- The shift amount: b[5:0] modulo w (R105). -/
def shiftAmt (w : Nat) (b : Word) : Nat := nbits b 0 6 % w

/-- An operation on each element of a, with the shift amount of b. -/
def shiftOp (o : Opn) (f : Nat → Nat → Nat → Nat) : OpRes :=
  let w := ewWidth o.mod
  .one (packElems w fun i => f w (elemAt w o.a i) (shiftAmt w o.b)) (ewVtype o.mod) []

/-- SHL (R106): with SAT a value that cannot be represented saturates; without it the bits are lost. -/
def opShl (o : Opn) : OpRes :=
  shiftOp o fun w e s =>
    if modSat o.mod then (narrow true (modU o.mod) w (elemVal (modU o.mod) w e * 2 ^ s)).1 else (e <<< s) % 2 ^ w
/-- SHR (R106). -/
def opShr (o : Opn) : OpRes := shiftOp o fun _ e s => e >>> s
/-- SAR (R106). -/
def opSar (o : Opn) : OpRes := shiftOp o fun w e s => wrapTo w (elemVal false w e / 2 ^ s)

def rotl (w e s : Nat) : Nat := ((e <<< s) ||| (e >>> (w - s))) % 2 ^ w

/-- ROL (R106). -/
def opRol (o : Opn) : OpRes := shiftOp o fun w e s => rotl w e s
/-- ROR (R106). -/
def opRor (o : Opn) : OpRes := shiftOp o fun w e s => rotl w e ((w - s) % w)

/-- Number of 1 bits among the low n bits. -/
def popCount (e : Nat) : Nat → Nat
  | 0 => 0
  | n + 1 => popCount e n + (e >>> n) % 2

/-- Leading zero bits of a w-bit pattern; w if it is 0. -/
def leadZeros (w e : Nat) : Nat := if e = 0 then w else w - 1 - Nat.log2 e

/-- Trailing zero bits, counted up to n. -/
def trailZeros (e : Nat) : Nat → Nat
  | 0 => 0
  | n + 1 => if e % 2 = 1 then 0 else 1 + trailZeros (e / 2) n

/-- POPC (R106). -/
def opPopc (o : Opn) : OpRes := shiftOp o fun w e _ => popCount e w
/-- CLZ (R106). -/
def opClz (o : Opn) : OpRes := shiftOp o fun w e _ => leadZeros w e
/-- CTZ (R106). -/
def opCtz (o : Opn) : OpRes := shiftOp o fun w e _ => trailZeros e w
/-- BREV (R106): bit k to bit 63 − k. -/
def opBrev (o : Opn) : OpRes := .one (packElems 1 fun i => elemAt 1 o.a (63 - i)) 8 []
/-- BSWAP (R106): byte k to byte 7 − k. -/
def opBswap (o : Opn) : OpRes := .one (packElems 8 fun i => elemAt 8 o.a (7 - i)) 8 []
/-- SPLAT (R106): element 0 in every element. -/
def opSplat (o : Opn) : OpRes :=
  let w := ewWidth o.mod
  .one (packElems w fun _ => elemAt w o.a 0) (ewVtype o.mod) []
/-- EXTR (R106): element b[2:0] mod n, extended to 64 bits under U. -/
def opExtr (o : Opn) : OpRes :=
  let w := ewWidth o.mod
  .one (BitVec.ofInt 64 (elemVal (modU o.mod) w (elemAt w o.a (nbits o.b 0 3 % (64 / w))))) 0 []

/-! ### Integer steers (R123, R124) -/

/-- A packed comparison: it holds when it holds for every element; a is steered. -/
def cmpOp (o : Opn) (f : Int → Int → Bool) : OpRes :=
  let w := ewWidth o.mod
  let u := modU o.mod
  .steer o.a o.vt
    ((List.range (64 / w)).all fun i => f (elemVal u w (elemAt w o.a i)) (elemVal u w (elemAt w o.b i))) []

/-- SEQ (R124). -/
def opSeq (o : Opn) : OpRes := cmpOp o fun a b => decide (a = b)
/-- SLT (R124). -/
def opSlt (o : Opn) : OpRes := cmpOp o fun a b => decide (a < b)
/-- SLE (R124). -/
def opSle (o : Opn) : OpRes := cmpOp o fun a b => decide (a ≤ b)
/-- STEST (R124). -/
def opStest (o : Opn) : OpRes := .steer o.a o.vt (o.a ≠ 0) []
/-- STEER (R124). -/
def opSteer (o : Opn) : OpRes := .steer o.a o.vt (o.b ≠ 0) []

end Sys2Proof.Machine
end

