-- ==== Sys2Proof/Machine/Decimal.lean ====
section
/-! DEFINITION. Packed decimal, PD15 (R25, R113 to R120). -/

namespace Sys2Proof.Machine

/-- Nibble k of a word; digit k stands in nibble k, the sign in nibble 0 (R25). -/
def nib (x : Word) (k : Nat) : Nat := elemAt 4 x k

/-- A valid PD15 value (R113). -/
def pdValid (x : Word) : Bool :=
  (nib x 0 = 10 || nib x 0 = 11) && (List.range 15).all fun k => nib x (k + 1) ≤ 9

/-- The sum of the digit nibbles by their decimal weight; for a valid value, its magnitude. -/
def pdMag (x : Word) : Nat := (List.range 15).foldl (fun acc k => acc + nib x (k + 1) * 10 ^ k) 0

def pdNeg (x : Word) : Bool := nib x 0 = 11

/-- The value of a PD15 operand; negative zero is zero (R114). -/
def pdVal (x : Word) : Int := if pdNeg x then -(pdMag x) else pdMag x

/-- The PD15 value with the low 15 digits of a magnitude; a zero always has sign 0xA (R114). -/
def pdPack (neg : Bool) (mag : Nat) : Word :=
  let m := mag % 10 ^ 15
  packElems 4 fun k => if k = 0 then (if neg && m ≠ 0 then 11 else 10) else m / 10 ^ (k - 1) % 10

/-- +0, the default of an invalid operand (R115). -/
def pdZero : Word := 0xA

/-- A decimal result with VTYPE 7. -/
def pdOne (neg : Bool) (mag : Nat) (exc : List Nat) : OpRes := .one (pdPack neg mag) 7 exc

/-- The outcome of an invalid operand (R113, R115). -/
def pdInvalid : OpRes := .one pdZero 7 [srcDigitInvalid]

/-- DADD, DSUB and DMUL1 after the exact result: the low 15 digits, and the digits above them on slot 1 with MOD 0, or
DEC_OVERFLOW with MOD 1 (R116). -/
def pdPair (o : Opn) (neg : Bool) (mag : Nat) : OpRes :=
  let hi := mag / 10 ^ 15
  let r : Result := ⟨pdPack neg mag, 7⟩
  if hi = 0 then { s0 := some r, s1 := none, exc := [] }
  else if o.mod = 0 then { s0 := some r, s1 := some ⟨pdPack neg hi, 7⟩, exc := [] }
  else { s0 := some r, s1 := none, exc := [srcDecOverflow] }

def pdSum (o : Opn) (v : Int) : OpRes :=
  if pdValid o.a && pdValid o.b then pdPair o (v < 0) v.natAbs else pdInvalid

/-- DADD (R115, R116). -/
def opDadd (o : Opn) : OpRes := pdSum o (pdVal o.a + pdVal o.b)
/-- DSUB (R115, R117). -/
def opDsub (o : Opn) : OpRes := pdSum o (pdVal o.a - pdVal o.b)

/-- DADJ (R118): digit nibbles 0x0 to 0xF with decimal carries propagated; the digits of their weighted sum. -/
def opDadj (o : Opn) : OpRes :=
  if nib o.a 0 = 10 || nib o.a 0 = 11 then
    pdOne (pdNeg o.a) (pdMag o.a) (if 10 ^ 15 ≤ pdMag o.a then [srcDecOverflow] else [])
  else pdInvalid

/-- DMUL1 (R115, R116): b is an integer 0 to 9. -/
def opDmul1 (o : Opn) : OpRes :=
  if pdValid o.a && o.b.toNat ≤ 9 then pdPair o (pdNeg o.a) (pdMag o.a * o.b.toNat) else pdInvalid

/-- DSHL (R119). -/
def opDshl (o : Opn) : OpRes :=
  if pdValid o.a then
    let v := pdMag o.a * 10 ^ (min o.b.toNat 15)
    pdOne (pdNeg o.a) v (if 10 ^ 15 ≤ v then [srcDecOverflow] else [])
  else pdInvalid

/-- DSHR (R119): the discarded part is compared with one half. Beyond 16 digits nothing changes. -/
def opDshr (o : Opn) : OpRes :=
  if pdValid o.a then
    let d := 10 ^ (min o.b.toNat 16)
    let q := pdMag o.a / d
    let r := 2 * (pdMag o.a % d)
    let up : Bool := match o.mod.toNat with
      | 1 => decide (d ≤ r)
      | 2 => decide (d < r) || (d = r && q % 2 = 1)
      | _ => false
    pdOne (pdNeg o.a) (if up then q + 1 else q) []
  else pdInvalid

/-- DVAL (R115): a goes to slot 0 with VTYPE 7 when valid, to slot 1 with VTYPE 8 when not. -/
def opDval (o : Opn) : OpRes :=
  if pdValid o.a then { s0 := some ⟨o.a, 7⟩, s1 := none, exc := [] }
  else { s0 := none, s1 := some ⟨o.a, 8⟩, exc := [] }

/-- DTOB (R115, R120). -/
def opDtob (o : Opn) : OpRes :=
  if pdValid o.a then .one (BitVec.ofInt 64 (pdVal o.a)) 0 [] else .one 0 0 [srcDigitInvalid]

/-- BTOD (R120): slot 1 exists only when the magnitude has more than 15 digits. -/
def opBtod (o : Opn) : OpRes :=
  let m := o.a.toInt.natAbs
  let n := decide (o.a.toInt < 0)
  { s0 := some ⟨pdPack n m, 7⟩
    s1 := if 10 ^ 15 ≤ m then some ⟨pdPack n (m / 10 ^ 15), 7⟩ else none
    exc := [] }

/-- DNEG (R115). -/
def opDneg (o : Opn) : OpRes := if pdValid o.a then pdOne (!pdNeg o.a) (pdMag o.a) [] else pdInvalid

/-- A decimal comparison steers a with VTYPE 7; an invalid operand goes to slot 1 (R115). -/
def pdCmp (o : Opn) (f : Int → Int → Bool) : OpRes :=
  if pdValid o.a && pdValid o.b then .steer o.a 7 (f (pdVal o.a) (pdVal o.b)) []
  else .steer o.a 7 false [srcDigitInvalid]

/-- DSEQ (R115). -/
def opDseq (o : Opn) : OpRes := pdCmp o fun a b => decide (a = b)
/-- DSLT (R115). -/
def opDslt (o : Opn) : OpRes := pdCmp o fun a b => decide (a < b)
/-- DSLE (R115). -/
def opDsle (o : Opn) : OpRes := pdCmp o fun a b => decide (a ≤ b)

end Sys2Proof.Machine
end

