-- ==== Sys2Proof/Machine/Float.lean ====
section
/-! DEFINITION. Floating point (R107 to R112): exact arithmetic on integers, rounded once. -/

namespace Sys2Proof.Machine

/-- A format: element width, precision in bits (hidden bit included) and largest exponent. -/
structure Fmt where
  w : Nat
  p : Nat
  emax : Nat
deriving DecidableEq, Repr

def fmt64 : Fmt := ⟨64, 53, 1023⟩
def fmt32 : Fmt := ⟨32, 24, 127⟩
def fmt16 : Fmt := ⟨16, 11, 15⟩

/-- FMT, MOD[3:2] (R78). -/
def modFmt (m : BitVec 4) : Fmt :=
  match nbits m 2 2 with
  | 0 => fmt64
  | 1 => fmt32
  | _ => fmt16

/-- VTYPE of a layout F result (R100). -/
def fmtVtype (m : BitVec 4) : BitVec 4 := BitVec.ofNat 4 (4 + nbits m 2 2)

/-- Rounding modes (R78). -/
inductive RM where
  | rne | rtz | rup | rdn
deriving DecidableEq, Repr

def modRM (m : BitVec 4) : RM :=
  match nbits m 0 2 with
  | 0 => .rne
  | 1 => .rtz
  | 2 => .rup
  | _ => .rdn

/-- An element unpacked: a NaN (signalling or not), an infinity, or a finite value m × 2^e; `s` is the sign. -/
inductive FP where
  | nan (signalling : Bool)
  | inf (s : Bool)
  | fin (s : Bool) (m : Nat) (e : Int)
deriving DecidableEq, Repr

/-- Exponent of the least subnormal. -/
def Fmt.qmin (f : Fmt) : Int := 2 - (f.emax : Int) - (f.p : Int)

def Fmt.expMax (f : Fmt) : Nat := 2 * f.emax + 1

def unpackF (f : Fmt) (x : Nat) : FP :=
  let s := x / 2 ^ (f.w - 1) % 2 = 1
  let e := x / 2 ^ (f.p - 1) % (f.expMax + 1)
  let m := x % 2 ^ (f.p - 1)
  if e = f.expMax then (if m = 0 then .inf s else .nan (m < 2 ^ (f.p - 2)))
  else if e = 0 then .fin s m f.qmin
  else .fin s (m + 2 ^ (f.p - 1)) (f.qmin + (e - 1 : Nat))

def signBit (f : Fmt) (s : Bool) : Nat := b2n s <<< (f.w - 1)

/-- The canonical quiet NaN (R108). -/
def Fmt.nan (f : Fmt) : Nat := f.expMax <<< (f.p - 1) + 2 ^ (f.p - 2)
def Fmt.inf (f : Fmt) (s : Bool) : Nat := signBit f s + f.expMax <<< (f.p - 1)
def Fmt.zero (f : Fmt) (s : Bool) : Nat := signBit f s
def Fmt.max (f : Fmt) (s : Bool) : Nat := f.inf s - 1

/-- Whether a discarded part raises the kept integer by one: `half` compares twice the discarded part with one unit (less,
equal, greater); `exact` says nothing was discarded. -/
def roundsUp (rm : RM) (s odd exact : Bool) (half : Ordering) : Bool :=
  match rm with
  | .rne => match half with
    | .lt => false
    | .eq => odd
    | .gt => true
  | .rtz => false
  | .rup => !exact && !s
  | .rdn => !exact && s

/-- m × 2^e (more by less than one unit of m when `sticky`) rounded to a multiple of 2^q: the integer and whether it is
exact. -/
def roundAt (rm : RM) (s : Bool) (m : Nat) (e : Int) (sticky : Bool) (q : Int) : Nat × Bool :=
  if q ≤ e then
    (m <<< (e - q).toNat, !sticky)
  else
    let k := (q - e).toNat
    let n := m >>> k
    let r := m % 2 ^ k
    let exact := r = 0 && !sticky
    let half := if 2 * r < 2 ^ k then .lt else if 2 * r = 2 ^ k && !sticky then .eq else .gt
    (if roundsUp rm s (n % 2 = 1) exact half then n + 1 else n, exact)

/-- A non-zero value rounded to a format, with the exceptions met (R107, R109). Callers give `sticky` only with more bits
in m than the format keeps. -/
def roundF (f : Fmt) (rm : RM) (s : Bool) (m : Nat) (e : Int) (sticky : Bool) : Nat × List Nat :=
  let qFree := e + (Nat.log2 m + 1 : Nat) - f.p
  let q := max qFree f.qmin
  let (n, exact) := roundAt rm s m e sticky q
  let (n, q) := if n = 2 ^ f.p then (2 ^ (f.p - 1), q + 1) else (n, q)
  let inexact := if exact then [] else [srcFpInexact]
  -- tiny after rounding: rounded with unbounded exponent it is below the least normal value
  let tiny := qFree < f.qmin && !(qFree + 1 = f.qmin && (roundAt rm s m e sticky qFree).1 = 2 ^ f.p)
  if n ≥ 2 ^ (f.p - 1) && q > (f.emax : Int) + 1 - f.p then
    let toInf := match rm with
      | .rne => true
      | .rtz => false
      | .rup => !s
      | .rdn => s
    (if toInf then f.inf s else f.max s, [srcFpOverflow, srcFpInexact])
  else
    let under := if tiny && !exact then [srcFpUnderflow] else []
    let biased := if n ≥ 2 ^ (f.p - 1) then (q - f.qmin + 1).toNat else 0
    (signBit f s + biased <<< (f.p - 1) + n % 2 ^ (f.p - 1), under ++ inexact)

/-- Any signalling NaN among the operands (R108). -/
def sigExc (xs : List FP) : List Nat := if xs.any (· = .nan true) then [srcFpInvalid] else []

def FP.isNan : FP → Bool
  | .nan _ => true
  | _ => false

/-- The sum of two elements (R110). -/
def fAdd (f : Fmt) (rm : RM) (x y : FP) : Nat × List Nat :=
  match x, y with
  | .nan _, _ => (f.nan, sigExc [x, y])
  | _, .nan _ => (f.nan, sigExc [x, y])
  | .inf s, .inf t => if s = t then (f.inf s, []) else (f.nan, [srcFpInvalid])
  | .inf s, .fin _ _ _ => (f.inf s, [])
  | .fin _ _ _, .inf t => (f.inf t, [])
  | .fin s m e, .fin t n g =>
    let q := min e g
    let a : Int := (m <<< (e - q).toNat : Nat)
    let b : Int := (n <<< (g - q).toNat : Nat)
    let v := (if s then -a else a) + (if t then -b else b)
    if v = 0 then
      (f.zero (if m = 0 && n = 0 && s = t then s else rm = .rdn), [])
    else roundF f rm (v < 0) v.natAbs q false

def FP.neg : FP → FP
  | .nan s => .nan s
  | .inf s => .inf !s
  | .fin s m e => .fin (!s) m e

/-- The product of two elements. -/
def fMul (f : Fmt) (rm : RM) (x y : FP) : Nat × List Nat :=
  match x, y with
  | .nan _, _ => (f.nan, sigExc [x, y])
  | _, .nan _ => (f.nan, sigExc [x, y])
  | .inf s, .inf t => (f.inf (s != t), [])
  | .inf s, .fin t n _ => if n = 0 then (f.nan, [srcFpInvalid]) else (f.inf (s != t), [])
  | .fin s m _, .inf t => if m = 0 then (f.nan, [srcFpInvalid]) else (f.inf (s != t), [])
  | .fin s m e, .fin t n g => if m * n = 0 then (f.zero (s != t), []) else roundF f rm (s != t) (m * n) (e + g) false

/-- The quotient of two elements: a zero divisor meets FP_DIVZERO (R109). -/
def fDiv (f : Fmt) (rm : RM) (x y : FP) : Nat × List Nat :=
  match x, y with
  | .nan _, _ => (f.nan, sigExc [x, y])
  | _, .nan _ => (f.nan, sigExc [x, y])
  | .inf _, .inf _ => (f.nan, [srcFpInvalid])
  | .inf s, .fin t _ _ => (f.inf (s != t), [])
  | .fin s _ _, .inf t => (f.zero (s != t), [])
  | .fin s m e, .fin t n g =>
    if n = 0 then (if m = 0 then (f.nan, [srcFpInvalid]) else (f.inf (s != t), [srcFpDivZero]))
    else if m = 0 then (f.zero (s != t), [])
    else
      let k := Nat.log2 n + f.p + 3
      let a := m <<< k
      roundF f rm (s != t) (a / n) (e - g - k) (a % n ≠ 0)

/-- Integer square root by bits, from bit i − 1 down. -/
def isqrtFrom (x : Nat) : Nat → Nat → Nat
  | 0, r => r
  | i + 1, r => isqrtFrom x i (if (r + 2 ^ i) * (r + 2 ^ i) ≤ x then r + 2 ^ i else r)

/-- The square root of an element; of −0 it is −0. -/
def fSqrt (f : Fmt) (rm : RM) (x : FP) : Nat × List Nat :=
  match x with
  | .nan _ => (f.nan, sigExc [x])
  | .inf s => if s then (f.nan, [srcFpInvalid]) else (f.inf false, [])
  | .fin s m e =>
    if m = 0 then (f.zero s, [])
    else if s then (f.nan, [srcFpInvalid])
    else
      let k := 2 * f.p + 4 + (e % 2).toNat
      let a := m <<< k
      let r := isqrtFrom a (Nat.log2 a / 2 + 1) 0
      roundF f rm false r ((e - k) / 2) (r * r ≠ a)

/-- The order of two elements that are no NaN, −0 below +0 (R110). -/
def fLess (x y : FP) : Bool :=
  match x, y with
  | .inf s, .inf t => s && !t
  | .inf s, .fin _ _ _ => s
  | .fin _ _ _, .inf t => !t
  | .fin s m e, .fin t n g =>
    let q := min e g
    let a : Int := (m <<< (e - q).toNat : Nat)
    let b : Int := (n <<< (g - q).toNat : Nat)
    let a := if s then -a else a
    let b := if t then -b else b
    decide (a < b) || (a = b && s && !t)
  | _, _ => false

/-- Equality of two elements: +0 equals −0, a NaN equals nothing (R124). -/
def fEq (x y : FP) : Bool :=
  match x, y with
  | .nan _, _ => false
  | _, .nan _ => false
  | .fin _ 0 _, .fin _ 0 _ => true
  | _, _ => !fLess x y && !fLess y x

/-- a < b with zeros equal; false with a NaN. -/
def fLt (x y : FP) : Bool :=
  match x, y with
  | .fin _ 0 _, .fin _ 0 _ => false
  | _, _ => fLess x y

/-- An operation on each element in the format of MOD. -/
def fOp (o : Opn) (g : Fmt → RM → Nat → Nat → Nat × List Nat) : OpRes :=
  let f := modFmt o.mod
  let r := mapElems f.w fun i => g f (modRM o.mod) (elemAt f.w o.a i) (elemAt f.w o.b i)
  .one r.1 (fmtVtype o.mod) r.2

/-- FADD (R110). -/
def opFadd (o : Opn) : OpRes := fOp o fun f rm a b => fAdd f rm (unpackF f a) (unpackF f b)
/-- FSUB (R110). -/
def opFsub (o : Opn) : OpRes := fOp o fun f rm a b => fAdd f rm (unpackF f a) (unpackF f b).neg
/-- FMUL (R110). -/
def opFmul (o : Opn) : OpRes := fOp o fun f rm a b => fMul f rm (unpackF f a) (unpackF f b)
/-- FDIV (R110). -/
def opFdiv (o : Opn) : OpRes := fOp o fun f rm a b => fDiv f rm (unpackF f a) (unpackF f b)
/-- FSQRT (R110). -/
def opFsqrt (o : Opn) : OpRes := fOp o fun f rm a _ => fSqrt f rm (unpackF f a)

/-- minimumNumber or maximumNumber: a number beats a NaN; two NaNs give the canonical one (R109, R110). -/
def fMinMax (f : Fmt) (max : Bool) (a b : Nat) : Nat × List Nat :=
  let x := unpackF f a
  let y := unpackF f b
  let r := if x.isNan then (if y.isNan then f.nan else b)
    else if y.isNan then a
    else if fLess x y = max then b else a
  (r, sigExc [x, y])

/-- FMIN (R110). -/
def opFmin (o : Opn) : OpRes := fOp o fun f _ a b => fMinMax f false a b
/-- FMAX (R110). -/
def opFmax (o : Opn) : OpRes := fOp o fun f _ a b => fMinMax f true a b
/-- FNEG (R110): the sign bit inverted. -/
def opFneg (o : Opn) : OpRes := fOp o fun f _ a _ => ((a + 2 ^ (f.w - 1)) % 2 ^ f.w, [])
/-- FABS (R110): the sign bit cleared. -/
def opFabs (o : Opn) : OpRes := fOp o fun f _ a _ => (a % 2 ^ (f.w - 1), [])

/-- An element converted to another format (R111). -/
def fCvt (g : Fmt) (rm : RM) (x : FP) : Nat × List Nat :=
  match x with
  | .nan _ => (g.nan, sigExc [x])
  | .inf s => (g.inf s, [])
  | .fin s m e => if m = 0 then (g.zero s, []) else roundF g rm s m e false

/-- A conversion of the first n elements of a; the other result elements are +0 (R111). -/
def cvtOp (o : Opn) (g : Fmt) (vt : BitVec 4) (n : Nat) : OpRes :=
  let f := modFmt o.mod
  let r := mapElems g.w fun i => if i < n then fCvt g (modRM o.mod) (unpackF f (elemAt f.w o.a i)) else (0, [])
  .one r.1 vt r.2

/-- FCVTD (R111): element 0 to binary64. -/
def opFcvtd (o : Opn) : OpRes := cvtOp o fmt64 4 1
/-- FCVTS (R111): one element from binary64, two from binary16. -/
def opFcvts (o : Opn) : OpRes := cvtOp o fmt32 5 (if nbits o.mod 2 2 = 0 then 1 else 2)
/-- FCVTH (R111): one element from binary64, two from binary32. -/
def opFcvth (o : Opn) : OpRes := cvtOp o fmt16 6 (if nbits o.mod 2 2 = 0 then 1 else 2)

/-- FTOI (R112): out of range saturates and a NaN gives 0, both with FP_INVALID. -/
def fToInt (w : Nat) (rm : RM) (x : FP) : Nat × List Nat :=
  match x with
  | .nan _ => (0, [srcFpInvalid])
  | .inf s => (wrapTo w (if s then minOf false w else maxOf false w), [srcFpInvalid])
  | .fin s m e =>
    let (n, exact) := roundAt rm s m e false 0
    let v : Int := if s then -n else n
    if fits false w v then (wrapTo w v, if exact then [] else [srcFpInexact])
    else (wrapTo w (if s then minOf false w else maxOf false w), [srcFpInvalid])

def opFtoi (o : Opn) : OpRes :=
  let r := fOp o fun f rm a _ => fToInt f.w rm (unpackF f a)
  { r with s0 := r.s0.map fun x => ⟨x.val, BitVec.ofNat 4 (nbits o.mod 2 2)⟩ }

/-- ITOF (R110): a signed integer element to the format of MOD. -/
def opItof (o : Opn) : OpRes :=
  fOp o fun f rm a _ =>
    let v := elemVal false f.w a
    if v = 0 then (0, []) else roundF f rm (v < 0) v.natAbs 0 false

/-- FRND (R110): to an integral value in the same format; never FP_INEXACT. -/
def opFrnd (o : Opn) : OpRes :=
  fOp o fun f rm a _ =>
    match unpackF f a with
    | .nan s => (f.nan, sigExc [.nan s])
    | .inf s => (f.inf s, [])
    | .fin s m e =>
      if 0 ≤ e then (a, [])
      else
        let n := (roundAt rm s m e false 0).1
        if n = 0 then (f.zero s, []) else ((roundF f rm s n 0 false).1, [])

/-! ### Floating-point steers (R124) -/

/-- A packed comparison; `quiet`: only a signalling NaN meets FP_INVALID. -/
def fCmpOp (o : Opn) (quiet : Bool) (g : FP → FP → Bool) : OpRes :=
  let f := modFmt o.mod
  let el := (List.range (64 / f.w)).map fun i => (unpackF f (elemAt f.w o.a i), unpackF f (elemAt f.w o.b i))
  .steer o.a o.vt (el.all fun p => g p.1 p.2)
    (el.flatMap fun p => if quiet then sigExc [p.1, p.2] else if p.1.isNan || p.2.isNan then [srcFpInvalid] else [])

/-- FSEQ (R124). -/
def opFseq (o : Opn) : OpRes := fCmpOp o true fEq
/-- FSLT (R124). -/
def opFslt (o : Opn) : OpRes := fCmpOp o false fLt
/-- FSLE (R124). -/
def opFsle (o : Opn) : OpRes := fCmpOp o false fun x y => fLt x y || fEq x y
/-- FSUN (R124). -/
def opFsun (o : Opn) : OpRes := fCmpOp o true fun x y => x.isNan || y.isNan

end Sys2Proof.Machine
end

