-- ==== Sys2Proof/Machine/Microcode.lean ====
section
/-! DEFINITION. The micro-operations of the writable decode table (R91 to R94). -/

namespace Sys2Proof.Machine

/-! ### Fields of a micro-word (R91) -/

def mUop (w : Word) : Nat := nbits w 58 6
def mMd (w : Word) : Nat := nbits w 56 2
def mMa (w : Word) : Nat := nbits w 54 2
def mMb (w : Word) : Nat := nbits w 52 2
def mBi (w : Word) : Bool := bit w 51
def mEw (w : Word) : Nat := nbits w 49 2
def mU (w : Word) : Bool := bit w 48
def mSk (w : Word) : Nat := nbits w 42 6
def mImm (w : Word) : Nat := nbits w 0 32

/-- The micro-registers, the two result slots, and how many free values have been used (log 6). -/
structure Micro where
  m0 : Word
  m1 : Word
  m2 : Word
  m3 : Word
  out0 : Option Word
  out1 : Option Word
  free : Nat
deriving DecidableEq, Repr

def Micro.get (s : Micro) (i : Nat) : Word :=
  match i with
  | 0 => s.m0
  | 1 => s.m1
  | 2 => s.m2
  | _ => s.m3

def Micro.set (s : Micro) (i : Nat) (v : Word) : Micro :=
  match i with
  | 0 => { s with m0 := v }
  | 1 => { s with m1 := v }
  | 2 => { s with m2 := v }
  | _ => { s with m3 := v }

/-- BCDADD: 16 unsigned BCD digits with decimal carries; the carry out of digit 16 is discarded (R92). -/
def bcdAdd (a b : Word) : Word :=
  let r := (List.range 16).foldl (fun (acc : Nat × Nat) k =>
    let s := nbits a (4 * k) 4 + nbits b (4 * k) 4 + acc.2
    (acc.1 + (s % 10) <<< (4 * k), s / 10)) (0, 0)
  BitVec.ofNat 64 r.1

/-- Every nibble is a BCD digit. The sum of others is a free value: R92 gives none (log 15). -/
def bcdOk (x : Word) : Bool := (List.range 16).all fun k => nbits x (4 * k) 4 ≤ 9

/-- An element-wise wrapping sum or difference. -/
def packedAdd (w : Nat) (sub : Bool) (a b : Word) : Word :=
  packElems w fun i => elemAt w a i + (if sub then 2 ^ w - elemAt w b i else elemAt w b i)

/-- One micro-word: none at END, otherwise the new registers and how many words it skips (R92). -/
def microStep (w : Word) (s : Micro) : Option (Micro × Nat) :=
  let a := s.get (mMa w)
  let b := if mBi w then (BitVec.ofNat 32 (mImm w)).signExtend 64 else s.get (mMb w)
  let put := fun (v : Word) => some (s.set (mMd w) v, 0)
  let sk := fun (c : Bool) => some (s, if c then mSk w else 0)
  let sh := nbits b 0 6
  let sv := fun (x : Word) => elemVal (mU w) 64 x.toNat
  match mUop w with
  | 0x00 => none
  | 0x01 => put b
  | 0x02 => put (a + b)
  | 0x03 => put (a - b)
  | 0x04 => put (a * b)
  | 0x05 => put (BitVec.ofNat 64 (wrapTo 64 (sv a * sv b / 2 ^ 64)))
  | 0x06 => put (a &&& b)
  | 0x07 => put (a ||| b)
  | 0x08 => put (a ^^^ b)
  | 0x09 => put (a <<< sh)
  | 0x0A => put (a >>> sh)
  | 0x0B => put (a.sshiftRight sh)
  | 0x0C => put (BitVec.ofNat 64 (rotl 64 a.toNat sh))
  | 0x0D => put (BitVec.ofNat 64 (popCount a.toNat 64))
  | 0x0E => put (BitVec.ofNat 64 (leadZeros 64 a.toNat))
  | 0x0F => put (if sv b < sv a then b else a)
  | 0x10 => put (if sv a < sv b then b else a)
  | 0x11 => put (packedAdd (64 >>> mEw w) false a b)
  | 0x12 => put (packedAdd (64 >>> mEw w) true a b)
  | 0x13 =>
    if bcdOk a && bcdOk b then put (bcdAdd a b)
    else some ({ s.set (mMd w) (Config.freeValue s.free) with free := s.free + 1 }, 0)
  | 0x20 => sk (a = 0)
  | 0x21 => sk (a ≠ 0)
  | 0x22 => sk (sv a < sv b)
  | 0x23 => sk (a = b)
  | 0x30 => some ({ s with out0 := some a }, 0)
  | 0x31 => some ({ s with out1 := some a }, 0)
  | _ => none

/-- A routine run to END or past its last word; skips run forward only (R93, R94). `skip` counts words still skipped. -/
def microRun : List Word → Nat → Micro → Micro
  | [], _, s => s
  | _ :: ws, k + 1, s => microRun ws k s
  | w :: ws, 0, s =>
    match microStep w s with
    | none => s
    | some (s, k) => microRun ws k s

/-- The registers on entry (R93). -/
def microEntry (a b : Word) (mod : BitVec 4) (free : Nat) : Micro :=
  { m0 := a, m1 := b, m2 := mod.setWidth 64, m3 := 0, out0 := none, out1 := none, free := free }

/-! ### Checks of a routine (R92, R94) -/

/-- The fields a micro-operation uses, as (MD, MA, operand B, EW, U, SK); none for a reserved UOP. -/
def microUse (uop : Nat) : Option (Bool × Bool × Bool × Bool × Bool × Bool) :=
  match uop with
  | 0x00 => some (false, false, false, false, false, false)
  | 0x01 => some (true, false, true, false, false, false)
  | 0x05 => some (true, true, true, false, true, false)
  | 0x0D => some (true, true, false, false, false, false)
  | 0x0E => some (true, true, false, false, false, false)
  | 0x0F => some (true, true, true, false, true, false)
  | 0x10 => some (true, true, true, false, true, false)
  | 0x11 => some (true, true, true, true, false, false)
  | 0x12 => some (true, true, true, true, false, false)
  | 0x20 => some (false, true, false, false, false, true)
  | 0x21 => some (false, true, false, false, false, true)
  | 0x22 => some (false, true, true, false, true, true)
  | 0x23 => some (false, true, true, false, false, true)
  | 0x30 => some (false, true, false, false, false, false)
  | 0x31 => some (false, true, false, false, false, false)
  | n => if 0x02 ≤ n && n ≤ 0x13 then some (true, true, true, false, false, false) else none

/-- A well-formed micro-word: a known UOP and zero in every field it does not use; with BI the MB field, without it
IMM32, is unused; a skip is at least 1. -/
def microWordOk (w : Word) : Bool :=
  match microUse (mUop w) with
  | none => false
  | some (md, ma, b, ew, u, sk) =>
    (md || mMd w = 0) && (ma || mMa w = 0) && (ew || mEw w = 0) && (u || !mU w) &&
    (if sk then 1 ≤ mSk w else mSk w = 0) && nbits w 32 10 = 0 &&
    (if b then (if mBi w then mMb w = 0 else mImm w = 0) else !mBi w && mMb w = 0 && mImm w = 0)

/-- The checks of R94 on a routine of a given length. -/
def microOk (copy : Bool) (ws : List Word) : Bool :=
  ws.all microWordOk &&
  ((List.range ws.length).zip ws).all (fun (i, w) => i + 1 + mSk w ≤ ws.length) &&
  (!copy || ws.all fun w => mUop w ≠ 0x31)

end Sys2Proof.Machine
end

