-- ==== Sys2Proof/Machine/Encoding.lean ====
section
/-! DEFINITION. The Phozon instruction word (chapter 3): fields, opcode map, accepted MOD values, the checks of R86 and
R87, port use (R40, R508), fan-out entries and local destinations. -/

namespace Sys2Proof.Machine

/-! ### Fields of the word (R63, R68, R72, R83) -/

def wOpc (w : Word) : Nat := nbits w 54 10
def wDfmt (w : Word) : Nat := nbits w 52 2
def wMod (w : Word) : BitVec 4 := bits w 48 4
def wStk (w : Word) : Nat := nbits w 46 2
def wPred (w : Word) : Nat := nbits w 44 2
def wD1 (w : Word) : BitVec 21 := bits w 21 21
def wD0 (w : Word) : BitVec 21 := bits w 0 21
/-- D0[16] of a fan-out reference (R72). -/
def wImmf (w : Word) : Bool := bit w 16
def wCnt (w : Word) : Nat := nbits w 12 4
def wStart (w : Word) : Nat := nbits w 0 12
/-- IMM20 sign-extended to 64 bits (R68). -/
def wImm (w : Word) : Word := (bits w 22 20).signExtend 64
/-- The word holds IMM20 (R68). -/
def wHasImm (w : Word) : Bool := wDfmt w = 1 || (wDfmt w = 2 && wImmf w)

/-- REP fields (R83). -/
def rStep (w : Word) : Nat := nbits w 49 2
def rCsrc (w : Word) : Bool := bit w 48
def rStride (w : Word) : Word := (bits w 22 20).signExtend 64
def rCount (w : Word) : Nat := nbits w 0 13

/-- Local destination fields (R70). -/
def dPort (d : BitVec 21) : BitVec 2 := bits d 19 2
def dTop (d : BitVec 21) : Nat := nbits d 15 4
def dInstr (d : BitVec 21) : BitVec 14 := bits d 0 14
/-- The discard field (R71). -/
def dDiscard : BitVec 21 := 0x180000

/-- Fan-out entry fields (R73). -/
def eNode (e : Word) : BitVec 16 := bits e 48 16
def eCell (e : Word) : CellId := bits e 38 10
def ePort (e : Word) : BitVec 2 := bits e 36 2
def eTop (e : Word) : Nat := nbits e 32 4
def eRes (e : Word) : Nat := nbits e 14 18
def eInstr (e : Word) : BitVec 14 := bits e 0 14

/-! ### Opcode map (R79 to R81) -/

/-- Result kinds (R65). -/
inductive ResultKind where
  | one | pair | steer | none
deriving DecidableEq, Repr

/-- A row of the opcode map: opcode, whether the right port is used, result kind, and the accepted MOD values as a mask
(bit m: MOD = m is accepted). -/
structure OpInfo where
  opc : Nat
  right : Bool
  kind : ResultKind
  mods : Nat
deriving DecidableEq, Repr

/-- Opcodes 0x0 to 0x3f (R80): ADD, SUB, MUL, MULH, DIV, REM, AND, OR, XOR, ANDN, NOT, NEG, ABS, MIN, MAX, ADDC, SUBB, MOV, LDI. -/
def opcInteger : List OpInfo :=
  [
    ⟨0x000, true, .one, 0xFFFF⟩,
    ⟨0x001, true, .one, 0xFFFF⟩,
    ⟨0x002, true, .one, 0xFFFF⟩,
    ⟨0x003, true, .one, 0x00FF⟩,
    ⟨0x004, true, .one, 0x0FFF⟩,
    ⟨0x005, true, .one, 0x00FF⟩,
    ⟨0x006, true, .one, 0x0001⟩,
    ⟨0x007, true, .one, 0x0001⟩,
    ⟨0x008, true, .one, 0x0001⟩,
    ⟨0x009, true, .one, 0x0001⟩,
    ⟨0x00A, false, .one, 0x0001⟩,
    ⟨0x00B, false, .one, 0x0F0F⟩,
    ⟨0x00C, false, .one, 0x0F0F⟩,
    ⟨0x00D, true, .one, 0x00FF⟩,
    ⟨0x00E, true, .one, 0x00FF⟩,
    ⟨0x00F, true, .pair, 0x00FF⟩,
    ⟨0x010, true, .pair, 0x00FF⟩,
    ⟨0x011, false, .one, 0x0001⟩,
    ⟨0x012, false, .one, 0x0001⟩]

/-- Opcodes 0x40 to 0x7f (R80): SHL, SHR, SAR, ROL, ROR, POPC, CLZ, CTZ, BREV, BSWAP, SPLAT, EXTR. -/
def opcShift : List OpInfo :=
  [
    ⟨0x040, true, .one, 0xFF0F⟩,
    ⟨0x041, true, .one, 0x000F⟩,
    ⟨0x042, true, .one, 0x000F⟩,
    ⟨0x043, true, .one, 0x000F⟩,
    ⟨0x044, true, .one, 0x000F⟩,
    ⟨0x045, false, .one, 0x000F⟩,
    ⟨0x046, false, .one, 0x000F⟩,
    ⟨0x047, false, .one, 0x000F⟩,
    ⟨0x048, false, .one, 0x0001⟩,
    ⟨0x049, false, .one, 0x0001⟩,
    ⟨0x04A, false, .one, 0x000F⟩,
    ⟨0x04B, true, .one, 0x00FF⟩]

/-- Opcodes 0x80 to 0xbf (R80): FADD, FSUB, FMUL, FDIV, FSQRT, FMIN, FMAX, FNEG, FABS, FCVTD, FCVTS, FCVTH, FTOI, ITOF, FRND. -/
def opcFloat : List OpInfo :=
  [
    ⟨0x080, true, .one, 0x0FFF⟩,
    ⟨0x081, true, .one, 0x0FFF⟩,
    ⟨0x082, true, .one, 0x0FFF⟩,
    ⟨0x083, true, .one, 0x0FFF⟩,
    ⟨0x084, false, .one, 0x0FFF⟩,
    ⟨0x085, true, .one, 0x0111⟩,
    ⟨0x086, true, .one, 0x0111⟩,
    ⟨0x087, false, .one, 0x0111⟩,
    ⟨0x088, false, .one, 0x0111⟩,
    ⟨0x089, false, .one, 0x0110⟩,
    ⟨0x08A, false, .one, 0x0F0F⟩,
    ⟨0x08B, false, .one, 0x00FF⟩,
    ⟨0x08C, false, .one, 0x0FFF⟩,
    ⟨0x08D, false, .one, 0x0FFF⟩,
    ⟨0x08E, false, .one, 0x0FFF⟩]

/-- Opcodes 0xc0 to 0xff (R80): DADD, DSUB, DADJ, DMUL1, DSHL, DSHR, DVAL, DTOB, BTOD, DNEG, DSEQ, DSLT, DSLE. -/
def opcDecimal : List OpInfo :=
  [
    ⟨0x0C0, true, .pair, 0x0003⟩,
    ⟨0x0C1, true, .pair, 0x0003⟩,
    ⟨0x0C2, false, .one, 0x0001⟩,
    ⟨0x0C3, true, .pair, 0x0003⟩,
    ⟨0x0C4, true, .one, 0x0001⟩,
    ⟨0x0C5, true, .one, 0x0007⟩,
    ⟨0x0C6, false, .steer, 0x0001⟩,
    ⟨0x0C7, false, .one, 0x0001⟩,
    ⟨0x0C8, false, .pair, 0x0001⟩,
    ⟨0x0C9, false, .one, 0x0001⟩,
    ⟨0x0D0, true, .steer, 0x0001⟩,
    ⟨0x0D1, true, .steer, 0x0001⟩,
    ⟨0x0D2, true, .steer, 0x0001⟩]

/-- Opcodes 0x100 to 0x13f (R80): SEQ, SLT, SLE, FSEQ, FSLT, FSLE, FSUN, STEST, STEER, GATE, MERGE. -/
def opcSteer : List OpInfo :=
  [
    ⟨0x100, true, .steer, 0x00FF⟩,
    ⟨0x101, true, .steer, 0x00FF⟩,
    ⟨0x102, true, .steer, 0x00FF⟩,
    ⟨0x103, true, .steer, 0x0111⟩,
    ⟨0x104, true, .steer, 0x0111⟩,
    ⟨0x105, true, .steer, 0x0111⟩,
    ⟨0x106, true, .steer, 0x0111⟩,
    ⟨0x107, false, .steer, 0x0001⟩,
    ⟨0x108, true, .steer, 0x0001⟩,
    ⟨0x109, true, .one, 0x0001⟩,
    ⟨0x10A, false, .one, 0x0001⟩]

/-- Opcodes 0x140 to 0x17f (R80): NEWF, FREEF, LOOPW, ADVW, SETS, GETS, GETIT, SETIT, GETF, SETF, SETCL, SEND, SENDO. -/
def opcTag : List OpInfo :=
  [
    ⟨0x140, false, .one, 0x0007⟩,
    ⟨0x141, false, .none, 0x0001⟩,
    ⟨0x142, true, .one, 0x0001⟩,
    ⟨0x143, true, .none, 0x0001⟩,
    ⟨0x144, true, .one, 0x000F⟩,
    ⟨0x145, false, .one, 0x000F⟩,
    ⟨0x146, false, .one, 0x0001⟩,
    ⟨0x147, true, .one, 0x0001⟩,
    ⟨0x148, false, .one, 0x0001⟩,
    ⟨0x149, true, .one, 0x0001⟩,
    ⟨0x14A, true, .one, 0x0001⟩,
    ⟨0x14B, true, .one, 0x000F⟩,
    ⟨0x14C, true, .one, 0xFFFE⟩]

/-- Opcodes 0x180 to 0x1bf (R80): LD, ST, LDS, STS, AADD, AXCHG, ACAS, AMIN, AMAX, AAND, AOR, LOCK, TRYLOCK, UNLOCK, FENCE. -/
def opcMemory : List OpInfo :=
  [
    ⟨0x180, false, .one, 0x00EF⟩,
    ⟨0x181, true, .one, 0x000F⟩,
    ⟨0x182, false, .one, 0x0001⟩,
    ⟨0x183, true, .one, 0x0001⟩,
    ⟨0x184, true, .one, 0x0003⟩,
    ⟨0x185, true, .one, 0x0003⟩,
    ⟨0x186, true, .one, 0x0003⟩,
    ⟨0x187, true, .one, 0x0033⟩,
    ⟨0x188, true, .one, 0x0033⟩,
    ⟨0x189, true, .one, 0x0003⟩,
    ⟨0x18A, true, .one, 0x0003⟩,
    ⟨0x18B, false, .none, 0x0001⟩,
    ⟨0x18C, false, .one, 0x0001⟩,
    ⟨0x18D, false, .one, 0x0001⟩,
    ⟨0x18E, false, .one, 0x0001⟩]

/-- Opcodes 0x1c0 to 0x1df (R80): OUT, RAISE, RETE, NOP, TIMER. -/
def opcControl : List OpInfo :=
  [
    ⟨0x1C1, true, .none, 0x0003⟩,
    ⟨0x1C2, true, .none, 0x0007⟩,
    ⟨0x1C3, false, .none, 0x0001⟩,
    ⟨0x1C4, false, .none, 0x0001⟩,
    ⟨0x1C5, true, .none, 0x0001⟩]

/-- The opcode map but for REP and UDEF (R80). -/
def opcRows (opc : Nat) : List OpInfo :=
  match opc / 64 with
  | 0 => opcInteger
  | 1 => opcShift
  | 2 => opcFloat
  | 3 => opcDecimal
  | 4 => opcSteer
  | 5 => opcTag
  | 6 => opcMemory
  | 7 => opcControl
  | _ => []

/-- Opcode of REP. -/
def opcRep : Nat := 0x1C0

/-- Opcodes that are UDEF0 to UDEF15. -/
def isUdef (opc : Nat) : Bool := 0x3F0 ≤ opc

/-- UCT.ENTRY fields (R90). -/
def uValid (e : Reg) : Bool := bit e 31
def uVt1 (e : Reg) : BitVec 4 := bits e 23 4
def uVt0 (e : Reg) : BitVec 4 := bits e 19 4
def uCopy (e : Reg) : Bool := bit e 18
def uDyad (e : Reg) : Bool := bit e 17
def uLen (e : Reg) : Nat := nbits e 10 7
def uStart (e : Reg) : Nat := nbits e 0 10

/-- The row of an opcode, none when it is undefined (R81); `uct` gives the decode-table entries. -/
def opInfo (uct : Map Reg) (opc : Nat) : Option OpInfo :=
  if isUdef opc then
    let e := mget 0 uct (opc - 0x3F0)
    if uValid e then some ⟨opc, uDyad e, if uCopy e then .one else .pair, 0xFFFF⟩ else none
  else (opcRows opc).find? fun r => r.opc = opc

/-! ### Ports (R40, R508) -/

/-- The ports a word uses. -/
structure Ports where
  left : Bool
  right : Bool
  pred : Bool
deriving DecidableEq, Repr

def Ports.uses (p : Ports) (port : BitVec 2) : Bool :=
  match port.toNat with
  | 0 => p.left
  | 1 => p.right
  | 2 => p.pred
  | _ => false

def Ports.number (p : Ports) : Nat := b2n p.left + b2n p.right + b2n p.pred

/-- DFMT as the match stage reads it: the reserved value reads as 0b00 (R508). -/
def wHasImmMatch (w : Word) : Bool := wDfmt w ≠ 3 && wHasImm w

/-- Port use of a word that is not REP, by R40 and, for words that graph load would refuse, R508. -/
def portUse (uct : Map Reg) (w : Word) : Ports where
  left := true
  right := match opInfo uct (wOpc w) with
    | some r => r.right && !wHasImmMatch w
    | none => false
  pred := wPred w = 1 || wPred w = 2

/-- STK as the match stage reads it: reserved, or naming a port the word does not use, is ignored (R508). The result is
the sticky port. -/
def stickyPort (uct : Map Reg) (w : Word) : Option (BitVec 2) :=
  match wStk w with
  | 1 => some 0
  | 2 => if (portUse uct w).right then some 1 else none
  | _ => none

/-! ### Checks on a word (R86 items 1 to 5 and 8, R129) -/

/-- What a check of a word finds: nothing, an undefined opcode, or a bad field (R87). -/
inductive WordFault where
  | op | field
deriving DecidableEq, Repr

/-- The local destination fields a word holds: D0 with DFMT 00 and 01, D1 with DFMT 00 and with DFMT 10 when IMMF is 0. -/
def localDests (w : Word) : List (BitVec 21) :=
  match wDfmt w with
  | 0 => [wD0 w, wD1 w]
  | 1 => [wD0 w]
  | 2 => if wImmf w then [] else [wD1 w]
  | _ => []

/-- R66 and R69, R129: the destination format an opcode may have. -/
def dfmtOk (r : OpInfo) (w : Word) : Bool :=
  let dfmt := wDfmt w
  dfmt ≠ 3 &&
  (if r.kind = .none then
    (dfmt = 0 && wD0 w = dDiscard && wD1 w = dDiscard) || (dfmt = 1 && r.right && wD0 w = dDiscard)
  else true) &&
  (if r.opc = 0x012 then dfmt = 1 else if r.right then true else !wHasImm w) &&
  (if r.opc = 0x140 && wMod w = 1 then dfmt = 0 && dPort (wD1 w) ≠ 3 && dTop (wD1 w) ≤ 3 else true)

/-- R64 and R76: STK and PRED. -/
def stkOk (uct : Map Reg) (w : Word) : Bool :=
  let p := portUse uct w
  wPred w ≠ 3 &&
  (match wStk w with
    | 0 => true
    | 1 => 2 ≤ p.number
    | 2 => p.right && 2 ≤ p.number
    | _ => false)

/-- R86 item 5: reserved bits. -/
def reservedOk (w : Word) : Bool :=
  nbits w 42 2 = 0 && (if wHasImm w then !bit w 21 else true) && (if wDfmt w = 2 then nbits w 17 4 = 0 else true) &&
  (localDests w).all fun d => !bit d 14

/-- The checks of R86 items 1 to 5 on a word that is not REP. -/
def checkWord (uct : Map Reg) (w : Word) : Option WordFault :=
  match opInfo uct (wOpc w) with
  | none => some .op
  | some r =>
    if dfmtOk r w && (r.mods >>> (wMod w).toNat) % 2 = 1 && stkOk uct w && reservedOk w then none else some .field

/-- The format of a REP word (R83) with a COUNT of at most 4,096. -/
def repFormOk (w : Word) : Bool :=
  wDfmt w = 0 && !bit w 51 && rStep w ≠ 3 && nbits w 42 6 = 0 && nbits w 13 9 = 0 && rCount w ≤ 4096 &&
  (!rCsrc w || rCount w = 0)

/-- R86 item 8 on a REP whose target lies in range: the target is no REP and STEP names a token port it uses (R84). -/
def repTargetOk (uct : Map Reg) (w target : Word) : Bool :=
  wOpc target ≠ opcRep &&
  (match rStep w with
    | 0 => true
    | 1 => true
    | 2 => (portUse uct target).right
    | _ => false)

/-- A fan-out entry's own format (R73, R86 item 7). -/
def entryOk (e : Word) : Bool :=
  ePort e ≠ 3 && eTop e ≤ 4 && eRes e = 0 &&
  (if eTop e = 4 then eNode e = 0 && eCell e = 0 && ePort e = 0 && eInstr e = 0 else true)

/-- A fan-out list lies in the graph's range and never wraps (R74). -/
def listRangeOk (fbase fcount : Nat) (w : Word) : Bool :=
  wDfmt w ≠ 2 || (wStart w + wCnt w ≤ 4095 && fbase ≤ wStart w && wStart w + wCnt w < fbase + fcount)

/-- The entries that a word references, in ascending order (R75). -/
def fanoutList (fo : Map Word) (w : Word) : List Word :=
  if wDfmt w = 2 then (List.range (wCnt w + 1)).map fun i => mget 0 fo (wStart w + i) else []

/-- R86 item 6 on a local destination: TOP, R71, and unless it is a discard or TOP = 4 field its INSTR in the graph's
range and its PORT used by the instruction there (`uses`). -/
def localOk (ibase icount : Nat) (uses : Nat → BitVec 2 → Bool) (d : BitVec 21) : Bool :=
  if dPort d = 3 then d = dDiscard
  else if dTop d = 4 then dPort d = 0 && dInstr d = 0
  else dTop d ≤ 3 && ibase ≤ (dInstr d).toNat && (dInstr d).toNat < ibase + icount &&
    uses (dInstr d).toNat (dPort d)

/-- Result tokens a word can produce at most (R67): its list, its local destinations, and the addressed token of SEND and
SENDO. -/
def maxTokens (w : Word) : Nat :=
  (if wDfmt w = 2 then wCnt w + 1 else 0) + (localDests w).length + (if wOpc w = 0x14B || wOpc w = 0x14C then 1 else 0)

end Sys2Proof.Machine
end

