-- ==== Sys2Proof/Machine/RegMap.lean ====
section
/-! DEFINITION. Where the registers stand (R432 and the offset tables of the chapters) and what a configuration register
holds at reset. Register offsets are BAR0 offsets; a register of HIF that each function sees for itself is keyed by
offset + fn × 2^32. -/

namespace Sys2Proof.Machine

/-! ### Offsets -/

def rStatmode : Nat := 0x18
def rEvcfg : Nat := 0x1C
def rLock : Nat := 0x20
def rHif : Nat := 0x20000
def rHifErr : Nat := 0x20004
def rFncfg (fn : Nat) : Nat := 0x20008 + fn * 2 ^ 32
def rMsimod (fn v : Nat) : Nat := 0x20100 + 4 * v + fn * 2 ^ 32
def rSqbase (r : Nat) : Nat := 0x30000 + 32 * r
def rCqbase (r : Nat) : Nat := 0x30008 + 32 * r
def rDbaddr (r : Nat) : Nat := 0x30010 + 32 * r
def rRcfg (r : Nat) : Nat := 0x30018 + 32 * r
def rRstat (r : Nat) : Nat := 0x3001C + 32 * r
def rObase (o : Nat) : Nat := 0x50000 + 32 * o
def rOdbaddr (o : Nat) : Nat := 0x50008 + 32 * o
def rOcfg (o : Nat) : Nat := 0x50010 + 32 * o
def rOstat (o : Nat) : Nat := 0x50014 + 32 * o
def rAgecap : Nat := 0x100000
def rBplimit : Nat := 0x100004
def rRetry : Nat := 0x100008
def rMswm : Nat := 0x10000C
def rYocfg : Nat := 0x100010
def rSpillcfg : Nat := 0x100014
def rCencfg : Nat := 0x100018
def rFrwait : Nat := 0x10001C
def rSchErr : Nat := 0x100020
def rGstall (g : Nat) : Nat := 0x101008 + 16 * g
def rMshErr : Nat := 0x200004
def rRoutectl : Nat := 0x200008
def rArbcfg : Nat := 0x20000C
def rTmocfg : Nat := 0x200010
def rPwrcfg : Nat := 0x200014
def rMshRtaddr : Nat := 0x200018
def rSlotaddr : Nat := 0x200020
def rFbp (p : Nat) : Nat := 0x300000 + 0x1000 * p
def rFbpErr (p : Nat) : Nat := rFbp p + 0x008
def rFbpRetry (p : Nat) : Nat := rFbp p + 0x010
def rFbpEqctl (p : Nat) : Nat := rFbp p + 0x014
def rFbpLanecfg (p : Nat) : Nat := rFbp p + 0x018
def rFbpTxeq (p l : Nat) : Nat := rFbp p + 0x040 + 4 * l
def rFbn : Nat := 0x380000
def rFbnErr : Nat := 0x380008
def rRollcfg : Nat := 0x38000C
def rFbnRtaddr : Nat := 0x380018
def rIsoaddr : Nat := 0x380020
def rProxylo : Nat := 0x380028
def rProxyhi : Nat := 0x38002C
def rMemErr : Nat := 0x400004
def rMemCfg : Nat := 0x400008
def rRgn (n : Nat) : Nat := 0x400100 + 4 * n
def rFbcell (n : Nat) : Nat := 0x500100 + 4 * n
def rFltSrc (r : Nat) : Nat := 0x600000 + 4 * r
def rFltSev (n : Nat) : Nat := 0x600020 + 4 * n
def rFltCfg : Nat := 0x600040
def rSpint (n : Nat) : Nat := 0x600040 + 4 * n
def rQuiet : Nat := 0x600050
def rFrzcfg : Nat := 0x600080
def rRosel : Nat := 0x600090
def rRobase : Nat := 0x600094
def rPwrErr : Nat := 0x700004
def rPwrCfg : Nat := 0x700008
def rDiectl (d : Nat) : Nat := 0x700020 + 4 * d
def rMgtErr : Nat := 0x800004
def rTrctl : Nat := 0x900000
def rPsel (p : Nat) : Nat := 0x900100 + 32 * p
def rPctl (p : Nat) : Nat := 0x900104 + 32 * p
def rPmask (p : Nat) : Nat := 0x900108 + 32 * p
def rPval (p : Nat) : Nat := 0x900110 + 32 * p
def rPcnt (p : Nat) : Nat := 0x900118 + 32 * p
def rCel (c : Nat) : Nat := 0x1000000 + 0x4000 * c
def rCelErr (c : Nat) : Nat := rCel c + 0x0004
def rQovr (c q : Nat) : Nat := rCel c + 0x0008 + 4 * (q / 16)
def rOrdcfg (c : Nat) : Nat := rCel c + 0x0010
def rAccaddr (c : Nat) : Nat := rCel c + 0x0020
def rInj (c i : Nat) : Nat := rCel c + 0x0040 + 8 * i
def rQcfg (c q : Nat) : Nat := rCel c + 0x0100 + 4 * q
def rQmap (c n : Nat) : Nat := rCel c + 0x0400 + 4 * n
def rEverr (c : Nat) : Nat := rCel c + 0x2004
def rEvtaddr (c : Nat) : Nat := rCel c + 0x2040

def rNodeId : Nat := 0x14
def rFlipctl : Nat := 0x380030
def rRollctl : Nat := 0x380010
def rIsodata : Nat := 0x380024
def rFbnRtdata : Nat := 0x38001C
def rMshRtdata : Nat := 0x20001C
def rSlotdata : Nat := 0x200024
def rWake : Nat := 0x2000C
def rFltAck : Nat := 0x600064
def rFrzctl : Nat := 0x600084
def rUnitrst : Nat := 0x700100
def rFbpCmd (p : Nat) : Nat := rFbp p + 0x00C
def rAccdata (c : Nat) : Nat := rCel c + 0x0028
def rInjcmd (c : Nat) : Nat := rCel c + 0x0058
def rEvtdata (c : Nat) : Nat := rCel c + 0x2048

/-! ### Fault sources (R438) -/

/-- A fault source: its number and its reset severity. -/
def sevTable : List (Nat × Nat) :=
  [(0, 1), (1, 2), (2, 1), (3, 2), (4, 1), (5, 2), (6, 1), (7, 2), (8, 0), (9, 0), (10, 0), (11, 0), (12, 2), (13, 0),
   (14, 0), (15, 1), (16, 2)] ++
  [(32, 2), (33, 2), (34, 2), (35, 1), (36, 2), (37, 2), (38, 0), (39, 0), (40, 0), (41, 0)] ++
  [(64, 0), (65, 1), (66, 3), (67, 2), (68, 2), (69, 1), (70, 1), (71, 0), (72, 2), (73, 2), (74, 2), (75, 0), (76, 2),
   (77, 0), (78, 2), (79, 2), (80, 0), (81, 0), (82, 0)] ++
  [(96, 0), (97, 0), (98, 2), (99, 0), (100, 2), (101, 2), (102, 2), (103, 0), (104, 1), (105, 2), (106, 0), (107, 2),
   (108, 0), (109, 0)]

/-- The reset severity of a source (R438); unlisted sources have none. -/
def sevReset (s : Nat) : Nat := mget 0 sevTable s

/-- Reset value of FLT.SEVn: two bits for each of 16 sources (R453). -/
def sevRegReset (n : Nat) : Nat :=
  (List.range 16).foldl (fun acc i => acc + sevReset (32 * (n / 2) + 16 * (n % 2) + i) * 4 ^ i) 0

/-! ### Reset values -/

/-- CEL.QMAPn at reset (R167, R193). -/
def qmapReset (n : Nat) : Nat :=
  let m := n / 2 % 4
  (if n % 2 = 0 then 0x0C080400 else 0x1C181410) + m * 0x01010101

/-- Reset value of a register of a cell's window (R191, R233, R284). -/
def celReset (o : Nat) : Nat :=
  if o = 0x10 then 100 <<< 16 + 512
  else if 0x100 ≤ o && o < 0x180 then 16 <<< 24 + 2
  else if 0x400 ≤ o && o < 0x600 then qmapReset ((o - 0x400) / 4)
  else 0

/-- The seed of Fober lane n (0 to 127) at a rate, from a calibration region (R480). -/
def seedAt (f : Nat → Byte) (n rate : Nat) : Word := BitVec.ofNat 64 (leNat f (0x1000 + 32 * n + 4 * rate) 4 % 2 ^ 26)

/-- GLB.SERIAL, from the factory calibration (R434, R480). -/
def glbSerial : Word := BitVec.ofNat 64 (leNat Config.factoryByte 8 8)

/-- Reset value of a register of a Fober port (chapter 11). Equalizer taps come from the factory calibration (log 5). -/
def fbpReset (p o : Nat) : Nat :=
  match o with
  | 0x000 => 2 <<< 6 + 1
  | 0x010 => 8 <<< 16 + 40
  | 0x018 => 4096 <<< 16
  | _ => if 0x40 ≤ o && o < 0x60 then (seedAt Config.factoryByte (8 * p + (o - 0x40) / 4) 2).toNat else 0

/-- Reset value of a register of HIF, by its offset in HIF (R410). -/
def hifReset (o : Nat) : Nat :=
  if o = 0x8 then 100 <<< 16
  else if 0x100 ≤ o && o < 0x180 then 1 <<< 16
  else if 0x10000 ≤ o && o < 0x30000 then (if o % 32 = 0x18 then 4 else 0)
  else if 0x30000 ≤ o && o < 0x38000 then (if o % 32 = 0x10 then 4 else 0)
  else 0

/-- Reset value of a configuration register. -/
def regReset (key : Nat) : Nat :=
  let off := key % 2 ^ 32
  if off < 0x20000 then (if off = 0x1C then 15 else 0)
  else if off < 0x100000 then hifReset (off - 0x20000)
  else if off < 0x200000 then
    match off - 0x100000 with
    | 0x00 => 65536
    | 0x04 => 50
    | 0x08 => 1280 <<< 16 + 20
    | 0x0C => 4096 <<< 16 + 1024
    | 0x10 => 2 <<< 12 + 64
    | 0x14 => 4 <<< 8 + 3
    | 0x18 => 100 <<< 16 + 20
    | 0x1C => 10000
    | o => if 0x1000 ≤ o && o < 0x1400 && o % 16 = 8 then 100 else 0
  else if off < 0x300000 then
    match off - 0x200000 with
    | 0x0C => 8 <<< 24 + 32 <<< 16 + 2048
    | 0x10 => 100 <<< 16 + 100
    | 0x14 => 100 <<< 16 + 1
    | _ => 0
  else if off < 0x310000 then fbpReset ((off - 0x300000) / 0x1000) (off % 0x1000)
  else if off < 0x380000 then 0
  else if off < 0x400000 then
    match off - 0x380000 with
    | 0x00 => 0x14
    | 0x0C => 0xFFFF0000
    | _ => 0
  else if off < 0x500000 then (if off = 0x400008 then 24 else 0)
  else if off < 0x600000 then 0
  else if off < 0x700000 then
    match off - 0x600000 with
    | 0x40 => 31 <<< 8 + 2
    | 0x44 => 5
    | 0x48 => 50
    | 0x4C => 500
    | 0x50 => 100
    | o => if 0x20 ≤ o && o < 0x40 then sevRegReset ((o - 0x20) / 4) else 0
  else if off < 0x800000 then
    let o := off - 0x700000
    if o = 8 then 380 <<< 16 else if 0x20 ≤ o && o < 0x30 then 4 <<< 4 + 6 else 0
  else if off < 0x1000000 then 0
  else if off < 0x2000000 then celReset (off % 0x4000)
  else 0

/-- The value in force of a configuration register. -/
def Dev.reg (d : Dev) (key : Nat) : Word := mget (BitVec.ofNat 64 (regReset key)) d.regs.cfg key

/-- A field of the value in force of a configuration register. -/
def Dev.fld (d : Dev) (key lo len : Nat) : Nat := nbits (d.reg key) lo len

/-- A configuration register given a new value in force. -/
def Dev.setReg (d : Dev) (key : Nat) (v : Word) : Dev :=
  { d with regs := { d.regs with cfg := mset (BitVec.ofNat 64 (regReset key)) d.regs.cfg key v } }

/-- A staged value comes into force (SHADOW, R422). -/
def Dev.applyStaged (d : Dev) (key : Nat) : Dev :=
  match mfind d.regs.staged key with
  | none => d
  | some v =>
    let d := d.setReg key v
    { d with regs := { d.regs with staged := merase d.regs.staged key } }

/-- A status register: SEQ and its sticky bits. -/
def Dev.statusReg (d : Dev) (key : Nat) : Reg := mget 0 d.regs.status key

/-- Sticky bits set; SEQ increases by one when at least one goes from 0 to 1 (R425). -/
def Dev.setSticky (d : Dev) (key : Nat) (mask : Reg) : Dev :=
  let r := d.statusReg key
  if mask &&& ~~~r = 0 then d
  else
    let v := setBits (r ||| mask) 24 8 (nbits r 24 8 + 1)
    { d with regs := { d.regs with status := mset 0 d.regs.status key v } }

/-- Sticky bits cleared; SEQ is unchanged (R425, R426). -/
def Dev.clearSticky (d : Dev) (key : Nat) (mask : Reg) : Dev :=
  let v := d.statusReg key &&& ~~~(mask &&& 0x00FFFFFF)
  { d with regs := { d.regs with status := mset 0 d.regs.status key v } }

end Sys2Proof.Machine
end

