-- ==== Sys2Proof/Machine/Ops.lean ====
section
/-! DEFINITION. The shared operations of the device: the units by number, time and freeze, output to the outside, census
counts, faults and episodes, and events. -/

namespace Sys2Proof.Machine

/-! ### What an unlisted unit holds -/

def censusZero : Census := { cr0 := 0, cr1 := 0, cn0 := 0, cn1 := 0, colour := false }

def laneReset : Lane := { slots := [], rep := none, spareUsed := false }

def cellReset : Cell where
  store := { im := [], fo := [], ms := [], frames := [], inUse := [], spilled := [], ring := [], sweep := []
             demand := [], reel := none, reelLeft := 0, reserved := [], spilling := false, lru := 0, scan := 0, scrub := [], fires := []
             in0 := [], in1 := [], setp0 := false, setp1 := false, ringWords := [], ringFull := false }
  pipe := { qs := [], credit := [], rr := [], held := [], expSeq := [], sendCtr := [], skips := [], rdyH := []
            rdy := [], lanes := [], ct := [], uid := 0, waitSeq := 0, bypass := [], ingress := [], egress := [], inbox := [] }
  ev := { evt := [], recs := [], stack := [], pmargin := 15, born := 0, rbReq := [], rbGrant := 0 }
  cen := []
  lastCen := []
  asleep := false
  idleSince := 0
  isolated := false
  resetting := false

def stackReset : Stack :=
  { reqs := [], deferred := [], locks := [], lockSeq := 0, lost := 0, eccCnt := 0, selfRef := false, lastReq := 0
    scrub := 0, cen := [] }

def yoyoReset : Yoyo := { lfsr := none, rts := [], head := 0, refused := [], words := [] }

/-! ### Units by number -/

def Dev.cell (d : Dev) (c : CellId) : Cell := mget cellReset d.cells c.toNat
def Dev.setCell (d : Dev) (c : CellId) (x : Cell) : Dev := { d with cells := mset cellReset d.cells c.toNat x }
def Dev.modCell (d : Dev) (c : CellId) (f : Cell → Cell) : Dev := d.setCell c (f (d.cell c))
def Dev.modStore (d : Dev) (c : CellId) (f : CellStore → CellStore) : Dev :=
  d.modCell c fun x => { x with store := f x.store }
def Dev.modPipe (d : Dev) (c : CellId) (f : CellPipe → CellPipe) : Dev :=
  d.modCell c fun x => { x with pipe := f x.pipe }
def Dev.modEv (d : Dev) (c : CellId) (f : CellEvents → CellEvents) : Dev := d.modCell c fun x => { x with ev := f x.ev }

/-- A lane of a cell, and the device with it changed. -/
def CellPipe.lane (p : CellPipe) (ln : Nat) : Lane := mget laneReset p.lanes ln
def Dev.modLane (d : Dev) (c : CellId) (ln : BitVec 3) (f : Lane → Lane) : Dev :=
  d.modPipe c fun p => { p with lanes := mset laneReset p.lanes ln.toNat (f (p.lane ln.toNat)) }

def Dev.stack (d : Dev) (s : DieId) : Stack := mget stackReset d.stks s.toNat
def Dev.setStack (d : Dev) (s : DieId) (x : Stack) : Dev := { d with stks := mset stackReset d.stks s.toNat x }
def Dev.modStack (d : Dev) (s : DieId) (f : Stack → Stack) : Dev := d.setStack s (f (d.stack s))

def Dev.yoyo (d : Dev) (k : DieId) : Yoyo := mget yoyoReset d.yoyos k.toNat
def Dev.setYoyo (d : Dev) (k : DieId) (x : Yoyo) : Dev := { d with yoyos := mset yoyoReset d.yoyos k.toNat x }

def Dev.graph (d : Dev) (g : GraphId) : Option Graph := mfind d.graphs g.toNat
def Dev.setGraph (d : Dev) (g : GraphId) (x : Graph) : Dev := { d with graphs := minsert d.graphs g.toNat x }
def Dev.modGraph (d : Dev) (g : GraphId) (f : Graph → Graph) : Dev :=
  match d.graph g with
  | none => d
  | some x => d.setGraph g (f x)

def Graph.has (x : Graph) (c : CellId) : Bool := x.mask.contains c.toNat

def cellCfgZero : CellCfg := { ibase := 0, icount := 0, fbase := 0, fcount := 0, nfbase := 0 }

/-- A graph's ranges in a cell. -/
def Graph.at (x : Graph) (c : CellId) : CellCfg := mget cellCfgZero x.cfg c.toNat

/-- An instruction address lies in the graph's range in a cell (R35, R38). -/
def Graph.inRange (x : Graph) (c : CellId) (i : BitVec 14) : Bool :=
  (x.at c).ibase ≤ i.toNat && i.toNat < (x.at c).ibase + (x.at c).icount

/-! ### Time and freeze (R454 to R456) -/

def Dev.frozen (d : Dev) : Bool := d.flt.freezePinLow || d.flt.freezeLatch || d.flt.clockLatch

/-- FLT.FRZCFG.SCOPE is 1: the hub runs in a freeze (R455). -/
def Dev.hubScope (d : Dev) : Bool := d.fld rFrzcfg 0 2 = 1

/-- The hub runs: its rails are on, and no freeze stops it. A loss of PCLK stops it in either scope (R473). -/
def Dev.hubRuns (d : Dev) : Bool := !d.pwr.off && (!d.frozen || (d.hubScope && !d.flt.clockLatch))

/-- The compute dies stand still: frozen, or without power. -/
def Dev.diesStop (d : Dev) : Bool := d.frozen || d.pwr.off

/-- Core cycles run by a cell's die. -/
def Dev.coreNow (d : Dev) (c : CellId) : Nat := mget 0 d.clock.core (cellDie c).toNat

/-- A touch stamp: 16 bits in units of 256 core cycles (R199). -/
def Dev.stampNow (d : Dev) (c : CellId) : BitVec 16 := BitVec.ofNat 16 (d.coreNow c / 256)

/-- A cell whose pipeline runs: not isolated and not held in reset. -/
def Cell.runs (x : Cell) : Bool := !x.isolated && !x.resetting

/-- A free value (log 6) and the device that has used it. -/
def Dev.free (d : Dev) : Word × Dev := (Config.freeValue d.freeCtr, { d with freeCtr := d.freeCtr + 1 })

/-! ### To the outside -/

def Dev.emit (d : Dev) (o : Out) : Dev := { d with out := d.out ++ [o] }

/-- Configuration of a function at reset: no bus mastering, D0 (PRESUMED from PCI Express, log 25). -/
def pciReset : PciFn := { bme := false, memSpace := false, d3hot := false, aer := 0 }

def Dev.pci (d : Dev) (fn : GraphId) : PciFn := mget pciReset d.hif.pci fn.toNat
def Dev.modPci (d : Dev) (fn : GraphId) (f : PciFn → PciFn) : Dev :=
  { d with hif := { d.hif with pci := mset pciReset d.hif.pci fn.toNat (f (d.pci fn)) } }

/-- A function may send requests to the host (R251, R384). -/
def Dev.busMaster (d : Dev) (fn : GraphId) : Bool := (d.pci fn).bme && !(d.pci fn).d3hot

/-- What Advanced Error Reporting logs of a read's end: poisoned TLP received, completion timeout (PRESUMED bits, log 25). -/
def aerBits (s : HostStatus) : Reg :=
  match s with
  | .poisoned => 0x1000
  | .timeout => 0x4000
  | _ => 0

/-- A read of host memory and how it ends. -/
def Dev.readHost (d : Dev) (fn : GraphId) (addr : Word) (bytes : Nat) (s : HostStatus) (poisoned : Bool) : Dev :=
  (d.emit (.hostRead fn addr bytes)).modPci fn fun x =>
    { x with aer := x.aer ||| aerBits s ||| (if poisoned then aerBits .poisoned else 0) }

/-- An in-band interrupt, when enabled and an address is assigned (R489). -/
def Dev.ibiSend (d : Dev) (b : Byte) : Dev := if d.mgt.ibi && d.mgt.da.isSome then d.emit (.ibi b) else d

/-- Vectors of a function at reset: masked (log 11). -/
def vectorReset : Vector := { pend := 0, oldest := 0, unmasked := false, pba := false, addr := 0, data := 0 }

def vecKey (fn : GraphId) (v : BitVec 5) : Nat := fn.toNat * 32 + v.toNat

def Dev.vector (d : Dev) (fn : GraphId) (v : BitVec 5) : Vector := mget vectorReset d.hif.vectors (vecKey fn v)
def Dev.setVector (d : Dev) (fn : GraphId) (v : BitVec 5) (x : Vector) : Dev :=
  { d with hif := { d.hif with vectors := mset vectorReset d.hif.vectors (vecKey fn v) x } }

/-- A vector signals: a message, or its pending bit when it is masked (R407). -/
def Dev.msix (d : Dev) (fn : GraphId) (v : BitVec 5) : Dev :=
  let x := d.vector fn v
  if x.unmasked then (d.setVector fn v { x with pend := 0 }).emit (.msix fn v)
  else d.setVector fn v { x with pend := 0, pba := true }

/-- An entry was written on a ring with this vector; `now` asks for an immediate message (R407). -/
def Dev.signal (d : Dev) (fn : GraphId) (v : BitVec 5) (now : Bool) : Dev :=
  let x := d.vector fn v
  let y := { x with pend := x.pend + 1, oldest := if x.pend = 0 then d.clock.run else x.oldest }
  let d := d.setVector fn v y
  if now || d.fld (rMsimod fn.toNat v.toNat) 16 8 ≤ y.pend then d.msix fn v else d

/-! ### Census (R216 to R218) -/

def Census.create (x : Census) (colour : Bool) : Census :=
  if colour then { x with cr1 := x.cr1 + 1 } else { x with cr0 := x.cr0 + 1 }

/-- A consumption of a colour is taken back. -/
def Census.unconsume (x : Census) (colour : Bool) : Census :=
  if colour then { x with cn1 := x.cn1 - 1 } else { x with cn0 := x.cn0 - 1 }

def Census.consume (x : Census) (colour : Bool) : Census :=
  if colour then { x with cn1 := x.cn1 + 1 } else { x with cn0 := x.cn0 + 1 }

/-- A cell's census of a graph. -/
def Cell.census (x : Cell) (g : GraphId) : Census := mget censusZero x.cen g.toNat

def Cell.modCensus (x : Cell) (g : GraphId) (f : Census → Census) : Cell :=
  { x with cen := mset censusZero x.cen g.toNat (f (x.census g)) }

/-- A cell's current colour for a graph. -/
def Dev.colour (d : Dev) (c : CellId) (g : GraphId) : Bool := ((d.cell c).census g).colour

/-- STALLED clears at the first consumption (R227). -/
def Dev.unstall (d : Dev) (g : GraphId) : Dev := d.modGraph g fun x => { x with stalled := false }

def Dev.cellCreate (d : Dev) (c : CellId) (g : GraphId) (colour : Bool) : Dev :=
  d.modCell c fun x => x.modCensus g fun y => y.create colour

def Dev.cellConsume (d : Dev) (c : CellId) (g : GraphId) (colour : Bool) : Dev :=
  (d.modCell c fun x => x.modCensus g fun y => y.consume colour).unstall g

def Dev.hubCreate (d : Dev) (g : GraphId) (colour : Bool) : Dev :=
  d.modGraph g fun x => { x with cen := x.cen.create colour }

def Dev.hubConsume (d : Dev) (g : GraphId) (colour : Bool) : Dev :=
  (d.modGraph g fun x => { x with cen := x.cen.consume colour }).unstall g

/-- A graph is under unload (R39). -/
def Dev.graphUnloading (d : Dev) (g : GraphId) : Bool :=
  match d.graph g with
  | none => false
  | some x => x.unloading.isSome

/-- The hub's current colour for a graph. -/
def Dev.hubColour (d : Dev) (g : GraphId) : Bool :=
  match d.graph g with
  | none => false
  | some x => x.cen.colour

/-- A request reaches a stack: it leaves self-refresh (R239). -/
def Dev.wakeStack (d : Dev) (s : DieId) : Dev := d.modStack s fun x => { x with lastReq := d.clock.run, selfRef := false }

/-- A lock unit creates a grant token in its current colour for the graph (R218, R509). -/
def Dev.lockCreate (d : Dev) (s : DieId) (g : GraphId) : Dev :=
  d.modStack s fun x =>
    let y := mget censusZero x.cen g.toNat
    { x with cen := mset censusZero x.cen g.toNat (y.create y.colour) }

/-! ### Faults and episodes (R437 to R446) -/

/-- The current severity of a source (R440). -/
def Dev.severity (d : Dev) (s : Nat) : Nat :=
  d.fld (rFltSev (s / 32 * 2 + s % 32 / 16)) (2 * (s % 16)) 2

/-- MSI-X on FVEC of the physical function, and a notice to the management complex (R446). -/
def Dev.episodeNotice (d : Dev) (stage : Nat) : Dev :=
  (d.msix 0 (BitVec.ofNat 5 (d.fld rFltCfg 8 5))).emit (.puppeteer stage)

/-- The episode reached a severity: a freeze is requested by FLT.FRZCFG.ONSEV (R454). -/
def Dev.onSeverity (d : Dev) (old new : Nat) : Dev :=
  let on := d.fld rFrzcfg 4 2
  if on ≠ 0 && on ≤ new && old < on then { d with flt := { d.flt with freezeLatch := true } } else d

/-- An occurrence of DEGR or above opens an episode or joins the open one (R442 to R444). -/
def Dev.occur (d : Dev) (sev : Nat) (units : List DevUnit) (causes : List AbortCause) : Dev :=
  match d.flt.episode with
  | none =>
    let e : Episode :=
      { sev := BitVec.ofNat 2 sev, stage := 0, acked := false, quiesced := false, opened := d.clock.run
        lastAt := d.clock.run, set_ := units, causes := causes }
    ({ d with flt := { d.flt with episode := some e, eseq := d.flt.eseq + 1 } }.episodeNotice 0).ibiSend 1 |>.onSeverity 0 sev
  | some e =>
    let e' := { e with lastAt := d.clock.run, set_ := e.set_ ++ units.filter fun u => !e.set_.contains u
                       causes := e.causes ++ causes.filter fun u => !e.causes.contains u }
    if e.sev.toNat < sev then
      ({ d with flt := { d.flt with episode := some { e' with sev := BitVec.ofNat 2 sev, acked := false }
                                    eseq := d.flt.eseq + 1 } }.episodeNotice e.stage).onSeverity e.sev.toNat sev
    else { d with flt := { d.flt with episode := some e' } }

/-- A fault source occurs: its FLT bit sets, and at DEGR or above it opens or joins an episode. No fault occurs in a
freeze (R456). -/
def Dev.faultOnly (d : Dev) (s : Nat) (units : List DevUnit) (causes : List AbortCause) : Dev :=
  if d.frozen then d
  else
    let d := d.setSticky (rFltSrc (s / 32)) (BitVec.ofNat 32 (2 ^ (s % 32)))
    if 2 ≤ d.severity s then d.occur (d.severity s) units causes else d

/-- A fault with its unit bit: bit `b` of the status register at `key` (R437). -/
def Dev.fault (d : Dev) (key b s : Nat) (units : List DevUnit) (causes : List AbortCause) : Dev :=
  if d.frozen then d else (d.setSticky key (BitVec.ofNat 32 (2 ^ b))).faultOnly s units causes

/-- A fault with a bit in CEL.ERR; bits 0 to 7 are sources 0 to 7, SETP 8, ORDSKIP 9 (R191, R438). -/
def Dev.celFault (d : Dev) (c : CellId) (b : Nat) : Dev :=
  d.fault (rCelErr c.toNat) b b (if b % 2 = 1 && b < 8 then [.cell c] else []) []

/-- A SECDED outcome: a correctable error sets bit `b` of CEL.ERR, an uncorrectable one bit b + 1 (R89, R166, R183). -/
def Dev.upsetFault (d : Dev) (c : CellId) (u : Upset) (b : Nat) : Dev :=
  match u with
  | .none => d
  | .corrected => d.celFault c b
  | .uncorrectable => d.celFault c (b + 1)

/-- An uncorrectable error in a word consumes what needs it without result (R89). -/
def upsetBad : Upset → Bool
  | .uncorrectable => true
  | _ => false

/-- A graph that is to be aborted: the next tick of time does it. -/
def Dev.abortDue (d : Dev) (g : GraphId) : Dev :=
  if d.flt.absorbed.contains g then d else { d with flt := { d.flt with absorbed := d.flt.absorbed ++ [g] } }

/-! ### Events (R266 to R273) -/

/-- Fields of an event-table entry (R267). -/
def evEn (e : Word) : Bool := bit e 63
def evLvl (e : Word) : Bool := bit e 62
def evFi (e : Word) : Bool := bit e 61
def evTgtv (e : Word) : Bool := bit e 60
def evTgt (e : Word) : CellId := bits e 50 10
def evPri (e : Word) : Byte := bits e 42 8
def evHclass (e : Word) : BitVec 3 := bits e 26 3
def evHframe (e : Word) : BitVec 12 := bits e 14 12
def evHinstr (e : Word) : BitVec 14 := bits e 0 14

/-- An entry of a cell's event table. -/
def Cell.entry (x : Cell) (g : GraphId) (src : Nat) : Word := mget 0 x.ev.evt (g.toNat * 64 + src)

/-- A source is enabled for a graph in a cell (R269); LOCK_GRANT always is (R268). -/
def Cell.enabled (x : Cell) (g : GraphId) (src : Nat) : Bool := src = srcLockGrant || evEn (x.entry g src)

/-- Records in the shared part of a controller. -/
def Cell.sharedUsed (x : Cell) : Nat := count (fun r => r.place = .shared) x.ev.recs

/-- Places of R273. -/
def sharedRecords : Nat := 240
def receivePlaces : Nat := 8

/-- What an event carries and where it comes from (R266). -/
structure Carried where
  left : Val
  right : Option Val
  oframe : Option (BitVec 12)
  oiter : BitVec 32
deriving DecidableEq, Repr

/-- An event record written in a cell, counted as created by `created` there (R283). -/
def Dev.addRecord (d : Dev) (c : CellId) (g : GraphId) (src : Nat) (k : Carried) (grant : Option Token)
    (place : RecPlace) : Dev :=
  let x := d.cell c
  let r : EvRec :=
    { graph := g, source := BitVec.ofNat 6 src, left := k.left, right := k.right, oframe := k.oframe, oiter := k.oiter
      post := c, grant := grant, place := place, since := d.coreNow c, born := x.ev.born, asked := none, granted := none, returns := false
      colour := (x.census g).colour }
  d.modEv c fun e => { e with recs := e.recs ++ [r], born := e.born + 1 }

/-- A unit of a cell raises an event. A lane takes a shared record while one is free and its spare otherwise (R273); the
EN bit is tested now (R269). -/
def Dev.raise (d : Dev) (c : CellId) (who : Option (BitVec 3)) (g : GraphId) (src : Nat) (k : Carried) : Dev :=
  let x := d.cell c
  if x.enabled g src then
    let place := match who with
      | some ln => if x.sharedUsed < sharedRecords then .shared else .spare ln
      | none => .shared
    let d := (d.addRecord c g src k none place).cellCreate c g (d.colour c g)
    match place with
    | .spare ln => d.modLane c ln fun l => { l with spareUsed := true }
    | _ => d
  else d

/-- The result of a unit other than a lane, held when it would need a shared record and none is free (R273). -/
def Dev.ifRoom (d d' : Dev) (c : CellId) : Dev :=
  if (d'.cell c).sharedUsed ≤ max sharedRecords (d.cell c).sharedUsed then d' else d

/-- A record leaves a controller; a lane without a spare record is refilled first, lowest lane first (R273). -/
def Dev.dropRecord (d : Dev) (c : CellId) (born : Nat) : Dev :=
  let x := d.cell c
  match takeFirst (fun r => r.born = born) x.ev.recs with
  | none => d
  | some (r, rest) =>
    let d := d.modEv c fun e => { e with recs := rest }
    let refill := fun (ln : BitVec 3) (d : Dev) => d.modLane c ln fun l => { l with spareUsed := false }
    match r.place with
    | .receive => d
    | .spare ln => refill ln d
    | .shared =>
      match (List.range 8).find? fun ln => (x.pipe.lane ln).spareUsed with
      | none => d
      | some ln =>
        refill (BitVec.ofNat 3 ln) (d.modEv c fun e =>
          { e with recs := e.recs.map fun r =>
              if r.place = .spare (BitVec.ofNat 3 ln) then { r with place := .shared } else r })

/-- What an event carries for a dropped token (R511). -/
def droppedCarried (t : Token) : Carried :=
  { left := { bits := t.w2, vtype := if vtypeOk t.vtype then t.vtype else 8, poison := t.poison }
    right := some { bits := t.w1, vtype := 8, poison := false }
    oframe := some t.frame
    oiter := t.iter }

/-- A raw value carried by an event without an origin (R175, R204, R227). -/
def rawCarried (v : Word) : Carried :=
  { left := { bits := v, vtype := 8, poison := false }, right := none, oframe := none, oiter := 0 }

/-! ### Running a meaning -/

/-- The effect of a command of a compute die: nothing while the device is frozen (R455) or off. -/
def onDies (f : Dev → Dev) (s : State) : Host.Outcome State Fault Refusal :=
  .next { s with dev := if s.dev.diesStop then s.dev else f s.dev }

/-- The effect of a command of the hub: nothing in a freeze that stops the hub. -/
def onHub (f : Dev → Dev) (s : State) : Host.Outcome State Fault Refusal :=
  .next { s with dev := if s.dev.hubRuns then f s.dev else s.dev }

/-- The effect of a command of the domains outside every freeze. -/
def onAlways (f : Dev → Dev) (s : State) : Host.Outcome State Fault Refusal :=
  .next { s with dev := f s.dev }

end Sys2Proof.Machine
end

