-- ==== Sys2Proof/Machine/Operands.lean ====
section
/-! DEFINITION. An activation's operands, where its results go, and how a result becomes a token (R29, R51, R65, R68,
R75, R77, R127). -/

namespace Sys2Proof.Machine

/-! ### Frames (R45 to R51) -/

def frameKey (g : GraphId) (f : BitVec 12) : Nat := g.toNat * 4096 + f.toNat

/-- The record of a frame, none while it is FREE. -/
def Cell.frame (x : Cell) (g : GraphId) (f : BitVec 12) : Option FrameRec := mfind x.store.frames (frameKey g f)

/-- The record an activation reads: a FREEING record only when the activation formed before the frame was freed, a bound
one otherwise (R47, R50). -/
def Cell.actFrame (x : Cell) (a : Act) : Option FrameRec :=
  match x.frame a.graph a.frame with
  | none => none
  | some r => if decide (r.st = .freeing) = a.freeing then some r else none

/-- A frame slot as an activation reads it; an unbound frame reads 0 (R47). -/
def Cell.slot (x : Cell) (a : Act) (i : Nat) : Word :=
  match x.actFrame a with
  | none => 0
  | some r => match i with
    | 0 => r.s0
    | 1 => r.s1
    | 2 => r.s2
    | _ => r.s3

/-- An activation writes its frame's record. A frame that is unbound or being freed keeps its contents (R47, R50). -/
def Dev.writeFrame (d : Dev) (c : CellId) (a : Act) (f : FrameRec → FrameRec) : Dev :=
  match (d.cell c).frame a.graph a.frame with
  | none => d
  | some r =>
    if r.st = .freeing then d
    else d.modStore c fun s =>
      { s with frames := minsert s.frames (frameKey a.graph a.frame) { f r with stamp := d.stampNow c } }

/-! ### A firing and its operands -/

/-- One firing of an instruction: where, what it holds, and the word it executes. -/
structure Firing where
  cell : CellId
  lane : BitVec 3
  act : Act
  word : Word
deriving DecidableEq, Repr

/-- The tokens an activation holds. -/
def Act.tokens (a : Act) : List Opnd := a.left.toList ++ a.right.toList ++ a.pred.toList

/-- Whether an input token is poisoned (R57). -/
def Act.poisoned (a : Act) : Bool := a.tokens.any fun o => o.tok.poison

/-- The highest CLASS among the input tokens (R29). -/
def Act.cls (a : Act) : BitVec 3 :=
  a.tokens.foldl (fun m o => if m.toNat < o.tok.cls.toNat then o.tok.cls else m) 0

/-- An operand the activation does not hold reads as 0 (R88), with VTYPE 0 (log 71). -/
def valZero : Val := { bits := 0, vtype := 0, poison := false }

def opndVal (o : Option Opnd) : Val :=
  match o with
  | none => valZero
  | some x => x.tok.val

/-- Whether the opcode uses the right operand at all. -/
def usesRight (uct : Map Reg) (w : Word) : Bool :=
  match opInfo uct (wOpc w) with
  | none => false
  | some r => r.right

/-- The right operand: IMM20, or the right token, or none for an opcode that has none (R68). IMM20 has VTYPE 0 where a result
takes the right operand's VTYPE, which R68 leaves open (log 71). -/
def Firing.right (f : Firing) (uct : Map Reg) : Option Val :=
  if usesRight uct f.word then
    some (if wHasImm f.word then { bits := wImm f.word, vtype := 0, poison := false } else opndVal f.act.right)
  else if (opInfo uct (wOpc f.word)).isNone then f.act.right.map fun o => o.tok.val
  else none

def Firing.a (f : Firing) : Val := opndVal f.act.left

/-- b as a value: LDI reads IMM20 (R104); an operand that is not used reads 0. -/
def Firing.b (f : Firing) (uct : Map Reg) : Val :=
  if wOpc f.word = 0x012 then { bits := wImm f.word, vtype := 0, poison := false }
  else match f.right uct with
    | none => valZero
    | some v => v

def Firing.opn (f : Firing) (uct : Map Reg) : Opn :=
  { a := f.a.bits, vt := f.a.vtype, b := (f.b uct).bits, mod := wMod f.word }

/-- What an event raised by an activation carries: its inputs (R266). Of a word that cannot be read the stored word still
says whether the right input is IMM20, which R89 leaves open (log 71). -/
def Firing.inputs (f : Firing) (uct : Map Reg) : Carried :=
  { left := f.a, right := f.right uct, oframe := some f.act.frame, oiter := f.act.iter }

/-- The lane raises an event with the inputs. -/
def Firing.raise (f : Firing) (src : Nat) (d : Dev) : Dev :=
  d.raise f.cell (some f.lane) f.act.graph src (f.inputs d.uct.entries)

/-- The predicate's outcome (R58, R77): a handler's counts as met (R270), a poisoned one is false. -/
def predMet (a : Act) (w : Word) : Bool :=
  let v := opndVal a.pred
  let true_ := !v.poison && v.bits ≠ 0
  a.handler ||
  (match wPred w with
    | 1 => true_
    | 2 => !true_
    | _ => true)

/-! ### Destinations -/

/-- A destination: a local field or a fan-out entry (R70, R73). -/
inductive Dest where
  | local_ (d : BitVec 21)
  | entry (e : Word)
deriving DecidableEq, Repr

/-- Where the slots of a result kind go, in the order of creation: (takes slot 1, destination) (R65, R75). -/
def resultPlan (kind : ResultKind) (w : Word) (fo : List Word) : List (Bool × Dest) :=
  match kind with
  | .none => []
  | _ =>
    let two : Bool := decide (kind ≠ .one)
    match wDfmt w with
    | 0 => [(false, .local_ (wD0 w)), (two, .local_ (wD1 w))]
    | 1 => [(false, .local_ (wD0 w))]
    | _ => fo.map (fun e => (false, .entry e)) ++ (if wImmf w then [] else [(two, .local_ (wD1 w))])

/-- What a token made of a result takes from its maker (R29): the cell, the lane (none for the continuation table), KIND,
the activation, POISON, and the ITER, FRAME and CLASS before TOP. -/
structure Maker where
  cell : CellId
  lane : Option (BitVec 3)
  kind : BitVec 4
  act : Act
  poison : Bool
  iter : BitVec 32
  frame : BitVec 12
  cls : BitVec 3
deriving DecidableEq, Repr

/-- A firing as the maker of its results. -/
def Firing.maker (f : Firing) : Maker :=
  { cell := f.cell, lane := some f.lane, kind := 0, act := f.act, poison := f.act.poisoned, iter := f.act.iter
    frame := f.act.frame, cls := f.act.cls }

/-- ITER under TOP 0 to 3 (R29, R30). -/
def topIter (top : Nat) (iter : BitVec 32) : BitVec 32 :=
  match top with
  | 1 => iter + 1
  | 2 => iter - 1
  | 3 => 0
  | _ => iter

/-- A token leaves its maker: onto the local bypass when it is for the same cell, into the crossbar egress otherwise. It is
counted as created (R61, R218). -/
def Dev.sendToken (d : Dev) (c : CellId) (lane : Option (BitVec 3)) (t : Token) : Dev :=
  (d.modPipe c fun p =>
    if t.node = d.fbn.nodeId && t.cell = c then
      { p with bypass := p.bypass ++ [{ tok := t, lane := lane, src := .cell c, count := 0, since := d.clock.aon }] }
    else { p with egress := p.egress ++ [{ pkt := .tok t (.cell c) 0, epoch := t.epoch, lane := lane, since := d.clock.aon }] }).cellCreate
      c t.graph t.colour

/-- A token made by R29 for an addressed destination, in a stream (R136). -/
def Maker.tokenIn (m : Maker) (d : Dev) (stream : BitVec 4) (seq : BitVec 9) (node : BitVec 16) (cell : CellId) (instr : BitVec 14) (port : BitVec 2)
    (iter : BitVec 32) (frame : BitVec 12) (r : Result) : Token :=
  TokenFields.pack
    { node := node, cell := cell, graph := m.act.graph, cls := m.cls, stream := stream, seq := seq, kind := m.kind
      vtype := r.vt, poison := m.poison, epoch := d.fab.cur, colour := d.colour m.cell m.act.graph
      frame := frame, instr := instr, port := port, iter := iter, value := r.val }

/-- A token made by R29 for an addressed destination, in stream 0. -/
def Maker.token (m : Maker) (d : Dev) (node : BitVec 16) (cell : CellId) (instr : BitVec 14) (port : BitVec 2)
    (iter : BitVec 32) (frame : BitVec 12) (r : Result) : Token := m.tokenIn d 0 0 node cell instr port iter frame r

/-- A return to the parent continuation; without one the cell raises RETURN_EXHAUSTED (R51). -/
def Maker.toParent (m : Maker) (r : Result) (d : Dev) : Dev :=
  let no := d.raise m.cell m.lane m.act.graph srcReturnExhausted
    { left := { bits := r.val, vtype := r.vt, poison := m.poison }, right := none, oframe := some m.act.frame
      oiter := m.act.iter }
  match (d.cell m.cell).actFrame m.act with
  | none => no
  | some f =>
    if f.pv then
      let p := f.parent
      d.sendToken m.cell m.lane (m.token d p.node p.cell p.instr p.port p.iter p.frame r)
    else no

/-- The ITER of a token under TOP. A field or an entry rewritten after its check can hold TOP 5 to 15, to which the spec
gives no ITER: a free value (R87, R88, log 6). -/
def Maker.destIter (m : Maker) (top : Nat) (d : Dev) : BitVec 32 × Dev :=
  if top < 4 then (topIter top m.iter, d) else (d.free.1.setWidth 32, d.free.2)

/-- A result goes to one destination; PORT 3 discards it (R33, R66). -/
def Maker.toDest (m : Maker) (x : Dest) (r : Result) (d : Dev) : Dev :=
  match x with
  | .local_ f =>
    if dPort f = 3 then d
    else if dTop f = 4 then m.toParent r d
    else
      let (iter, d) := m.destIter (dTop f) d
      d.sendToken m.cell m.lane (m.token d d.fbn.nodeId m.cell (dInstr f) (dPort f) iter m.frame r)
  | .entry e =>
    if ePort e = 3 then d
    else if eTop e = 4 then m.toParent r d
    else
      let (iter, d) := m.destIter (eTop e) d
      d.sendToken m.cell m.lane (m.token d (eNode e) (eCell e) (eInstr e) (ePort e) iter m.frame r)

/-- The slots of a result to their destinations, in order. -/
def Maker.results (m : Maker) (plan : List (Bool × Dest)) (s0 s1 : Option Result) (d : Dev) : Dev :=
  plan.foldl (fun d p =>
    match if p.1 then s1 else s0 with
    | none => d
    | some r => m.toDest p.2 r d) d

/-- The plan of a word in a cell. -/
def Dev.plan (d : Dev) (c : CellId) (kind : ResultKind) (w : Word) : List (Bool × Dest) :=
  resultPlan kind w (fanoutList (d.cell c).store.fo w)

/-- A single result to every destination of the word. -/
def Maker.one (m : Maker) (w : Word) (r : Result) (d : Dev) : Dev :=
  m.results (d.plan m.cell .one w) (some r) none d

end Sys2Proof.Machine
end

