-- ==== Sys2Proof/Machine/Fire.lean ====
section
/-! DEFINITION. What an operation is to the lane that dispatches it, and the continuation table (R95 to R97, R144, R186,
R205). -/

namespace Sys2Proof.Machine

/-- An operation: whether a firing needs a continuation-table entry, whether that entry is wait-capable (R205), and what
the firing does. -/
structure OpSpec where
  need : Firing → Dev → Bool
  wait : Bool
  fire : Firing → Dev → Dev

/-- An operation that never needs an entry. -/
def OpSpec.plain (f : Firing → Dev → Dev) : OpSpec := { need := fun _ _ => false, wait := false, fire := f }

/-! ### Compute (R95 to R97, R58) -/

/-- The slots of a steer whose operand is poisoned: false, that is slot 1 (R58, R123). DVAL's false path has VTYPE 8. -/
def poisonedSteer (opc : Nat) (r : OpRes) : OpRes :=
  match r.s0 with
  | none => r
  | some x => { r with s0 := none, s1 := some { x with vt := if opc = 0x0C6 then 8 else x.vt } }

/-- An operand that decides a steer is poisoned: the left or the right one, not the predicate (R58, R123). -/
def Act.steerPoisoned (a : Act) : Bool := (a.left.toList ++ a.right.toList).any fun o => o.tok.poison

/-- A compute activation: an enabled exception raises the lowest such event in place of any result; otherwise each slot
goes to its destinations (R95, R96). With a poisoned input there is no event (R97); with a poisoned operand a steer is
false (R58). -/
def fireCompute (op : Opn → OpRes) (f : Firing) (d : Dev) : Dev :=
  let uct := d.uct.entries
  let kind := match opInfo uct (wOpc f.word) with
    | none => .none
    | some r => r.kind
  let r := op (f.opn uct)
  let poison := f.act.poisoned
  let r := if f.act.steerPoisoned && kind = .steer then poisonedSteer (wOpc f.word) r else r
  match if poison then none else lowestEnabled ((d.cell f.cell).enabled f.act.graph) r.exc with
  | some src => f.raise src d
  | none => f.maker.results (d.plan f.cell kind f.word) r.s0 r.s1 d

def OpSpec.compute (op : Opn → OpRes) : OpSpec := .plain (fireCompute op)

/-- UDEF (R93, R156): the routine of its decode-table entry. -/
def fireUdef (f : Firing) (d : Dev) : Dev :=
  let e := mget 0 d.uct.entries (wOpc f.word - 0x3F0)
  let ws := (List.range (uLen e)).map fun i => mget 0 d.uct.uwords (uStart e + i)
  let o := f.opn d.uct.entries
  let m := microRun ws 0 (microEntry o.a (if uDyad e then o.b else 0) o.mod d.freeCtr)
  let d := { d with freeCtr := m.free }
  let kind : ResultKind := if uCopy e then .one else .pair
  f.maker.results (d.plan f.cell kind f.word) (m.out0.map fun v => ⟨v, uVt0 e⟩) (m.out1.map fun v => ⟨v, uVt1 e⟩) d

/-! ### Continuation table (R144, R186, R205) -/

def ctEntries : Nat := 1024

/-- Ready-list places of ordinary activations and of handler activations (R184). -/
def readyOrdinary : Nat := 248
def handlerPlaces : Nat := 8

/-- An activation as it enters a lane's slot, its word read, and the target's for a REP (R88, R185). -/
def Cell.slotOf (x : Cell) (a : Act) (bad : Upset) (now : Nat) : Slot :=
  { act := a, word := mget 0 x.store.im a.instr.toNat, target := mget 0 x.store.im (a.instr.toNat + 1), bad := bad, since := now
    waits := none }

/-- The lowest free entry of a cell. -/
def Cell.freeEntry (x : Cell) : Option Nat := (List.range ctEntries).find? fun i => (mfind x.pipe.ct i).isNone

/-- Entries a graph holds. -/
def Cell.entriesOf (x : Cell) (g : GraphId) : List CtEntry :=
  (x.pipe.ct.filter fun p => p.2.act.graph = g).map Prod.snd

/-- Wait-capable entries (R205). -/
def CtKind.waitCapable : CtKind → Bool
  | .mem r => r.op = .lds
  | .lockReq r => r.op = .lock
  | .fence _ => false
  | .newf _ => true
  | .out _ _ _ _ => true
  | .timer _ => true

def quotaReset : Quota := { msmin := 1024, mscap := 32768, frcap := 4096, ctcap := 1024, waitcap := 12 }

def Dev.quota (d : Dev) (g : GraphId) : Quota :=
  match d.graph g with
  | none => quotaReset
  | some x => x.quota

/-- A graph is below its continuation cap (R205). -/
def Dev.belowCap (d : Dev) (c : CellId) (g : GraphId) (wait : Bool) : Bool :=
  let es := (d.cell c).entriesOf g
  es.length < (d.quota g).ctcap && (!wait || count (fun e => e.kind.waitCapable) es < (d.quota g).waitcap)

/-- An entry taken for a firing, counted as an item of the cell (R216); the entry's number. -/
def Dev.takeEntry (d : Dev) (f : Firing) (kind : CtKind) : Dev × Nat :=
  let x := d.cell f.cell
  let e := x.freeEntry.getD 0
  let n : CtEntry :=
    { act := f.act, word := f.word, kind := kind, acked := false, again := false, uid := x.pipe.uid, issued := d.clock.run
      colour := d.colour f.cell f.act.graph }
  ((d.modPipe f.cell fun p => { p with ct := minsert p.ct e n, uid := p.uid + 1 }).cellCreate f.cell f.act.graph
    n.colour, e)

/-! ### Activations in flight (R50) -/

/-- Every activation that stands in a cell's ready list, prefetch slots, lanes or continuation table. -/
def CellPipe.acts (p : CellPipe) : List Act :=
  p.rdyH ++ p.rdy ++ p.lanes.flatMap (fun l => l.2.slots.map (·.act) ++ (l.2.rep.toList.map (·.act))) ++
  p.ct.map fun e => e.2.act

/-- FREEING records whose last activation has finished return to FREE (R50). -/
def CellStore.sweepFreeing (s : CellStore) (acts : List Act) : CellStore :=
  { s with frames := s.frames.filter fun (k, r) =>
      r.st ≠ .freeing || acts.any fun a => a.freeing && frameKey a.graph a.frame = k }

def Dev.sweepFreeing (d : Dev) (c : CellId) : Dev :=
  d.modCell c fun x => { x with store := x.store.sweepFreeing x.pipe.acts }

/-- An entry is released, counted as consumed (R186, R216). -/
def Dev.releaseEntry (d : Dev) (c : CellId) (e : Nat) : Dev :=
  match mfind (d.cell c).pipe.ct e with
  | none => d
  | some n =>
    ((d.modPipe c fun p => { p with ct := merase p.ct e }).cellConsume c n.act.graph n.colour).sweepFreeing c

/-- A continuation-table entry as the maker of its replies: KIND 2, no lane (R144, R187). -/
def CtEntry.maker (n : CtEntry) (c : CellId) (poison : Bool) : Maker :=
  { cell := c, lane := none, kind := 2, act := n.act, poison := poison || n.act.poisoned, iter := n.act.iter
    frame := n.act.frame, cls := n.act.cls }

/-- An entry as a firing, for the inputs an event carries. -/
def CtEntry.firing (n : CtEntry) (c : CellId) : Firing := { cell := c, lane := 0, act := n.act, word := n.word }

/-- The continuation table raises an event with an entry's inputs. -/
def CtEntry.raise (n : CtEntry) (c : CellId) (src : Nat) (d : Dev) : Dev :=
  d.raise c none n.act.graph src ((n.firing c).inputs d.uct.entries)

/-- A result of an entry goes to its destinations; the fan-out entries are read now, and an uncorrectable one leaves
ILLEGAL_OP in place of the result (R88, R89). -/
def CtEntry.reply (n : CtEntry) (c : CellId) (fo : Upset) (make : Dev → Dev) (d : Dev) : Dev :=
  if wDfmt n.word = 2 then
    let d := d.upsetFault c fo 2
    if upsetBad fo then n.raise c srcIllegalOp d else make d
  else make d

end Sys2Proof.Machine
end

