-- ==== Sys2Proof/Machine/Spill.lean ====
section
/-! DEFINITION. The matching store's room, the spill ring, and frames going out and coming back (R194 to R209). -/

namespace Sys2Proof.Machine

/-! ### Matching-store usage (R196, R197) -/

def msEntries : Nat := 32768

/-- U(g): the graph's entries in the cell and those reserved for a reel-back. -/
def CellStore.usage (s : CellStore) (g : GraphId) : Nat :=
  count (fun e => e.tok.graph = g) s.ms + mget 0 s.reserved g.toNat

/-- A graph's reservations with `n` of them released (R202). -/
def CellStore.dropReserved (s : CellStore) (g : GraphId) (n : Nat) : Map Nat :=
  mset 0 s.reserved g.toNat (mget 0 s.reserved g.toNat - n)

/-- The loaded graphs of a cell. -/
def Dev.cellGraphs (d : Dev) (c : CellId) : List (GraphId × Graph) :=
  (d.graphs.filter fun p => p.2.has c).map fun p => (BitVec.ofNat 6 p.1, p.2)

/-- The cell's pool: what the guarantees of its graphs leave. -/
def Dev.poolSize (d : Dev) (c : CellId) : Nat :=
  msEntries - (d.cellGraphs c).foldl (fun n p => n + p.2.quota.msmin) 0

/-- Pool entries free. -/
def Dev.poolFree (d : Dev) (c : CellId) : Nat :=
  d.poolSize c -
    (d.cellGraphs c).foldl (fun n p => n + ((d.cell c).store.usage p.1 - p.2.quota.msmin)) 0

/-- A token that needs a new entry is admitted (R197). -/
def Dev.admits (d : Dev) (c : CellId) (g : GraphId) : Bool :=
  let u := (d.cell c).store.usage g
  let q := d.quota g
  u < q.msmin || (u < q.mscap && 0 < d.poolFree c)

/-! ### The spill ring (R206, R207, R209) -/

/-- Records of a cell's ring: 32 bytes each, from 0x08_8000 to the end of 2^(20 + k) bytes; 15,360 of them fit when k is 0. -/
def Dev.ringSize (d : Dev) : Nat := 15360 + (2 ^ d.fld rSpillcfg 0 3 - 1) * 32768

def SpillBody.records : SpillBody → Nat
  | .saved _ => 3
  | _ => 1

def CellStore.recordsUsed (s : CellStore) : Nat := s.ring.foldl (fun n r => n + r.body.records) 0

/-- The lowest number at or above `n` that is not in `used`, looked for in `fuel` steps. -/
def freshNum (used : List Nat) (n : Nat) : Nat → Nat
  | 0 => n
  | k + 1 => if used.contains n then freshNum used (n + 1) k else n

/-- `k` record numbers that no record of the ring has, the lowest first (log 22). -/
def freshNums (used : List Nat) : Nat → List Nat
  | 0 => []
  | k + 1 =>
    let n := freshNum used 0 used.length
    n :: freshNums (n :: used) k

/-- The record numbers in use in a ring. -/
def CellStore.numsUsed (s : CellStore) : List Nat := s.ring.flatMap (·.nums)

/-- Elements added to a list, each once. -/
def addAll (l m : List Nat) : List Nat := m.foldl (fun l n => if l.contains n then l else l ++ [n]) l

/-- The word of a spill ring that holds the chain head of a record: 65,536 parking chains, then 4,096 spill chains (R206, R207). -/
def chainHead (key : Nat) (b : SpillBody) : Nat :=
  let g := key / 4096 % 64
  let f := key % 4096
  match b with
  | .parked t => t.iter.toNat % 1024 * 64 + (f % 64 ^^^ g)
  | _ => 65536 + (f ^^^ (64 * g))

/-- The words of record n of a spill ring, which stands at 0x08_8000 + 32 × n. -/
def recordWords (n : Nat) : List Nat := (List.range 4).map fun j => 69632 + 4 * n + j

/-- A record appended to the cell's ring; none when the ring is full (R209). -/
def Dev.ringPut (d : Dev) (c : CellId) (k : Nat) (b : SpillBody) : Option Dev :=
  if (d.cell c).store.recordsUsed + b.records ≤ d.ringSize then
    some (d.modStore c fun s =>
      let nums := freshNums s.numsUsed b.records
      { s with ring := s.ring ++ [{ key := k, body := b, nums := nums }]
               ringWords := addAll s.ringWords (chainHead k b :: nums.flatMap recordWords)
               ringFull := false })
  else none

/-- SPILL_FULL, with the graphs that hold records in the ring (R209, R448): once, until a record goes in again. -/
def Dev.spillFull (d : Dev) (c : CellId) : Dev :=
  if (d.cell c).store.ringFull then d
  else (d.modStore c fun s => { s with ringFull := true }).fault rSchErr 0 32 [] [.spillRing c]

/-- The frame of an entry. -/
def MsEntry.key (e : MsEntry) : Nat := frameKey e.tok.graph e.tok.frame

def keyGraph (k : Nat) : GraphId := BitVec.ofNat 6 (k / 4096)
def keyFrame (k : Nat) : BitVec 12 := BitVec.ofNat 12 k

/-- The words of a token and a fourth word. -/
def tokenWord (t : Token) (last : Word) (i : Nat) : Word :=
  match i with
  | 0 => t.w0
  | 1 => t.w1
  | 2 => t.w2
  | _ => last

/-- A bound frame record, its fields packed from bit 0 in the order of R46. -/
def frameBits (key : Nat) (r : FrameRec) : Nat :=
  let st := match r.st with
    | .live => 1
    | .spilled => 2
    | .freeing => 3
  let parts : List (Nat × Nat) :=
    [(6, (keyGraph key).toNat), (12, (keyFrame key).toNat), (2, st), (1, b2n r.pv), (16, r.parent.node.toNat),
      (10, r.parent.cell.toNat), (12, r.parent.frame.toNat), (14, r.parent.instr.toNat), (2, r.parent.port.toNat),
      (32, r.parent.iter.toNat), (32, r.wbase.toNat), (11, r.w.toNat), (64, r.s0.toNat), (64, r.s1.toNat),
      (64, r.s2.toNat), (64, r.s3.toNat)]
  (parts.foldl (fun (acc : Nat × Nat) p => (acc.1 + p.2 * 2 ^ acc.2, acc.2 + p.1)) (0, 0)).1

/-- A frame is spilled: its bit sets and its entries are swept out (R200 step 1). -/
def Dev.spillFrame (d : Dev) (c : CellId) (k : Nat) : Dev :=
  d.modStore c fun s =>
    if s.spilled.contains k then s
    else
      { s with
        spilled := s.spilled ++ [k]
        sweep := s.sweep ++ [k]
        frames := match mfind s.frames k with
          | none => s.frames
          | some r => if r.st = .live then minsert s.frames k { r with st := .spilled } else s.frames }

/-- Demand for a spilled frame: in order of first demand (R201). -/
def CellStore.demandFor (s : CellStore) (k : Nat) : CellStore :=
  if s.demand.contains k || s.reel = some k then s else { s with demand := s.demand ++ [k] }

/-- A token diverted to its spilled frame's chain; it is demand once the frame's sweep has completed, or at once when it
comes from parking (R200 step 3, R201). None when the ring is full. -/
def Dev.divert (d : Dev) (c : CellId) (t : QTok) : Option Dev :=
  let k := frameKey t.tok.graph t.tok.frame
  (d.ringPut c k (.spilled t.tok t.installed)).map fun d =>
    d.modStore c fun s => if s.sweep.contains k && !t.asks then s else s.demandFor k

/-- The order in which a sweep takes entries: ways in set order, then the overflow buffers (R200 step 2, log 16). -/
def MsEntry.sweepOrder (e : MsEntry) : Nat :=
  match e.way with
  | some w => e.set.toNat * 16 + b2n e.bank * 8 + w.toNat
  | none => 2 ^ 16 + b2n e.bank

/-- One entry of a frame being swept moves to the ring; a frame without entries left is swept (R200 step 2). -/
def Dev.sweepOne (d : Dev) (c : CellId) : Dev :=
  match (d.cell c).store.sweep with
  | [] => d
  | k :: rest =>
    let mine := fun (e : MsEntry) => !e.const && frameKey e.tok.graph e.tok.frame = k
    match minBy MsEntry.sweepOrder ((d.cell c).store.ms.filter mine) with
    | none => d.modStore c fun s => { s with sweep := rest }
    | some e =>
      match d.ringPut c k (.spilled e.tok e.sticky) with
      | none => d.spillFull c
      | some d =>
        d.modStore c fun s =>
          let ms := s.ms.erase e
          { s with ms := ms, sweep := if ms.any mine then k :: rest else rest }

/-- Free frame records of a cell. -/
def CellStore.freeRecords (s : CellStore) : Nat := 4096 - s.frames.length

/-- Frame numbers of a graph in use (R48). -/
def CellStore.numbersInUse (s : CellStore) (g : GraphId) : Nat := count (fun k => keyGraph k = g) s.inUse

/-- Age of a 16-bit touch stamp. -/
def stampAge (now s : BitVec 16) : Nat := (now - s).toNat

/-- The Yo-yo evicts one frame for a NEWF of graph g: the eligible frame with the oldest stamp; ties go to the lower graph,
then the lower frame (R203). Its record is saved first in its chain and becomes FREE. -/
def Dev.evict (d : Dev) (c : CellId) (g : GraphId) : Dev :=
  let x := d.cell c
  let s := x.store
  let atCap := decide ((d.quota g).frcap ≤ s.numbersInUse g)
  let eligible := s.frames.filter fun (k, r) =>
    r.st = .live && !r.entry && s.reel ≠ some k && (!atCap || keyGraph k = g) &&
    !x.pipe.acts.any fun a => frameKey a.graph a.frame = k
  match minBy (fun p => 65535 - stampAge (d.stampNow c) p.2.stamp) eligible with
  | none => d
  | some (k, r) =>
    match d.ringPut c k (.saved r) with
    | none => d.spillFull c
    | some d =>
      let d := d.spillFrame c k
      d.modStore c fun s => { s with frames := merase s.frames k }

/-- The saved records of a frame in the ring. -/
def CellStore.evicted (s : CellStore) (k : Nat) : Option FrameRec :=
  s.ring.findSome? fun r =>
    match r.body with
    | .saved f => if r.key = k then some f else none
    | _ => none

/-- Spilled tokens of a frame's chain, in chain order. -/
def CellStore.chain (s : CellStore) (k : Nat) : List SpillRec :=
  s.ring.filter fun r =>
    match r.body with
    | .spilled _ _ => r.key = k
    | _ => false

/-- Demanded frames whose records are evicted wait for free records ahead of NEWF (R203). -/
def CellStore.recordsWanted (s : CellStore) : Nat := count (fun k => (s.evicted k).isSome) s.demand

end Sys2Proof.Machine
end

