-- ==== Sys2Proof/Machine/Flow.lean ====
section
/-! DEFINITION. Tag, frame, send, memory, lock, event and control operations as their lane performs them (chapter 5). -/

namespace Sys2Proof.Machine

/-! ### Continuation words and tags (R125 to R127) -/

def cwNode (w : Word) : BitVec 16 := bits w 48 16
def cwCell (w : Word) : CellId := bits w 38 10
def cwPort (w : Word) : BitVec 2 := bits w 36 2
def cwFrame (w : Word) : BitVec 12 := bits w 24 12
def cwInstr (w : Word) : BitVec 14 := bits w 0 14

/-- PORT 3 or a non-zero reserved bit makes a continuation word bad (R129, R137). -/
def cwOk (w : Word) : Bool := cwPort w ≠ 3 && nbits w 14 10 = 0

def packCw (node : BitVec 16) (cell : CellId) (frame : BitVec 12) : Word :=
  node ++ cell ++ (0 : BitVec 2) ++ frame ++ (0 : BitVec 24)

def Firing.resultA (f : Firing) : Result := ⟨f.a.bits, f.a.vtype⟩

/-- b as a value. -/
def Firing.bv (f : Firing) (d : Dev) : Word := (f.b d.uct.entries).bits

/-- GETIT (R126). -/
def fireGetit (f : Firing) (d : Dev) : Dev := f.maker.one f.word ⟨f.act.iter.setWidth 64, 0⟩ d

/-- SETIT (R126): every result token's ITER is b[31:0], then TOP (R127). -/
def fireSetit (f : Firing) (d : Dev) : Dev :=
  { f.maker with iter := bits (f.bv d) 0 32 }.one f.word f.resultA d

/-- GETF (R126). -/
def fireGetf (f : Firing) (d : Dev) : Dev :=
  f.maker.one f.word ⟨packCw d.fbn.nodeId f.cell f.act.frame, 8⟩ d

/-- SETF (R126). -/
def fireSetf (f : Firing) (d : Dev) : Dev :=
  { f.maker with frame := bits (f.bv d) 0 12 }.one f.word f.resultA d

/-- SETCL (R126). -/
def fireSetcl (f : Firing) (d : Dev) : Dev :=
  { f.maker with cls := bits (f.bv d) 0 3 }.one f.word f.resultA d

/-! ### Sends (R135 to R137) -/

/-- A token addressed by a continuation word. -/
def Maker.addressed (m : Maker) (d : Dev) (stream : BitVec 4) (seq : BitVec 9) (w : Word) (iter : BitVec 32) (r : Result) :
    Token :=
  m.tokenIn d stream seq (cwNode w) (cwCell w) (cwInstr w) (cwPort w) iter (cwFrame w) r

/-- SEND (R135): the addressed token first, then the local copies. -/
def fireSend (f : Firing) (d : Dev) : Dev :=
  let w := f.bv d
  if cwOk w then
    let m := f.maker
    let d := d.sendToken f.cell m.lane (m.addressed d 0 0 w (topIter (nbits (wMod f.word) 0 2) f.act.iter) f.resultA)
    m.one f.word f.resultA d
  else f.raise srcIllegalField d

def streamKey (g : GraphId) (s : BitVec 4) : Nat := g.toNat * 16 + s.toNat

/-- SENDO (R136): the token carries the send counter, which then advances. -/
def fireSendo (f : Firing) (d : Dev) : Dev :=
  let w := f.bv d
  if cwOk w then
    let m := f.maker
    let k := streamKey f.act.graph (wMod f.word)
    let seq := mget 0 (d.cell f.cell).pipe.sendCtr k
    let d := d.sendToken f.cell m.lane (m.addressed d (wMod f.word) seq w f.act.iter f.resultA)
    let d := d.modPipe f.cell fun p => { p with sendCtr := mset 0 p.sendCtr k (seq + 1) }
    m.one f.word f.resultA d
  else f.raise srcIllegalField d

/-! ### Frames (R128 to R134) -/

/-- The number NEWF binds: the lowest at or above the graph's base that is neither in use nor FREEING, within the cell's
records and FRCAP (R48, R130, R203). -/
def Dev.newfNumber (d : Dev) (c : CellId) (g : GraphId) : Option (BitVec 12) :=
  let s := (d.cell c).store
  let base := match d.graph g with
    | none => 0
    | some x => (x.at c).nfbase
  if s.freeRecords = 0 || (d.quota g).frcap ≤ s.numbersInUse g then none
  else
    ((List.range 4096).find? fun f =>
      base ≤ f && !s.inUse.contains (g.toNat * 4096 + f) && (mfind s.frames (g.toNat * 4096 + f)).isNone).map
      (BitVec.ofNat 12)

/-- Insertion of a number in a rising list. -/
def insertNum (n : Nat) : List Nat → List Nat
  | [] => [n]
  | m :: l => if n < m then n :: m :: l else if n = m then m :: l else m :: insertNum n l

def contZero : Cont := { node := 0, cell := 0, frame := 0, instr := 0, port := 0, iter := 0 }

/-- The parent continuation a NEWF gives its frame; none: PV is 0 (R128). -/
def newfParent (d : Dev) (c : CellId) (a : Act) (w : Word) : Option Cont :=
  match (wMod w).toNat with
  | 1 => some { node := d.fbn.nodeId, cell := c, frame := a.frame, instr := dInstr (wD1 w), port := dPort (wD1 w)
                iter := topIter (dTop (wD1 w)) a.iter }
  | 2 =>
    let v := (opndVal a.left).bits
    some { node := cwNode v, cell := cwCell v, frame := cwFrame v, instr := cwInstr v, port := cwPort v, iter := a.iter }
  | _ => none

/-- A frame bound with NEWF's fields (R46, R128). -/
def Dev.bindFrame (d : Dev) (c : CellId) (g : GraphId) (f : BitVec 12) (parent : Option Cont) : Dev :=
  let r : FrameRec :=
    { st := .live, pv := parent.isSome, parent := parent.getD contZero, wbase := 0, w := 0, s0 := 0, s1 := 0, s2 := 0
      s3 := 0, entry := false, stamp := d.stampNow c }
  d.modStore c fun s =>
    { s with frames := minsert s.frames (frameKey g f) r, inUse := insertNum (frameKey g f) s.inUse }

/-- NEWF completes in frame f: its results carry the new number; with MOD 1 they go to D0 only (R128). -/
def newfDone (m : Maker) (w : Word) (f : BitVec 12) (d : Dev) : Dev :=
  let d := d.bindFrame m.cell m.act.graph f (newfParent d m.cell m.act w)
  let plan := if wMod w = 1 then [(false, Dest.local_ (wD0 w))] else d.plan m.cell .one w
  { m with frame := f }.results plan (some ⟨(opndVal m.act.left).bits, (opndVal m.act.left).vtype⟩) none d

/-- A NEWF whose continuation word is bad binds nothing (R129). -/
def newfBad (f : Firing) : Bool := wMod f.word = 2 && !cwOk f.a.bits

/-- NEWF (R128, R130): without a free record it holds an entry while the Yo-yo evicts a frame (R203). -/
def fireNewf (f : Firing) (d : Dev) : Dev :=
  if newfBad f then f.raise srcIllegalField d
  else
    match d.newfNumber f.cell f.act.graph with
    | some n => newfDone f.maker f.word n d
    | none => ((d.takeEntry f (.newf false)).1).evict f.cell f.act.graph

/-- The tokens of a frame that a FREEF or a reset discards from a spill ring: those that are still items (R50, R60). -/
def SpillBody.item : SpillBody → Option Token
  | .spilled t false => some t
  | .parked t => some t
  | _ => none

/-- Tokens discarded and counted as consumed (R60). -/
def Dev.consumeTokens (d : Dev) (c : CellId) (ts : List Token) : Dev :=
  ts.foldl (fun d t => d.cellConsume c t.graph t.colour) d

/-- An entry of the matching store that is still an item: no constant and no installed sticky operand. -/
def MsEntry.item (e : MsEntry) : Bool := !e.const && !e.sticky

def markFreeing (k : Nat) (a : Act) : Act := if frameKey a.graph a.frame = k then { a with freeing := true } else a

def Lane.mapActs (f : Act → Act) (l : Lane) : Lane :=
  { l with slots := l.slots.map (fun s => { s with act := f s.act })
           rep := l.rep.map fun r => { r with act := f r.act } }

/-- A function applied to every activation in flight in a cell. -/
def CellPipe.mapActs (f : Act → Act) (p : CellPipe) : CellPipe :=
  { p with rdyH := p.rdyH.map f, rdy := p.rdy.map f, lanes := p.lanes.map fun (k, l) => (k, l.mapActs f)
           ct := p.ct.map fun (k, e) => (k, { e with act := f e.act }) }

/-- The frame has a record that is not FREEING. -/
def CellStore.bound (s : CellStore) (k : Nat) : Bool :=
  match mfind s.frames k with
  | none => false
  | some r => r.st ≠ .freeing

/-- Frame (g, f) is freed: its waiting, spilled and parked tokens go, its in-use and spilled bits clear, and its record is
FREEING while activations of it remain in flight (R48, R50). An activation that formed while the number's record was already
FREEING is in an unbound frame, and a second FREEF leaves it there (R47). -/
def Dev.freeFrame (d : Dev) (c : CellId) (k : Nat) : Dev :=
  let s := (d.cell c).store
  let mine := fun (e : MsEntry) => !e.const && frameKey e.tok.graph e.tok.frame = k
  let gone := (s.ms.filter fun e => mine e && e.item).map (·.tok) ++
    (s.ring.filter fun r => r.key = k).filterMap fun r => r.body.item
  let d := d.modCell c fun x =>
    { x with
      store := { x.store with
        ms := x.store.ms.filter fun e => !mine e
        ring := x.store.ring.filter fun r => r.key ≠ k
        inUse := x.store.inUse.erase k
        spilled := x.store.spilled.erase k
        sweep := x.store.sweep.erase k
        demand := x.store.demand.erase k
        reel := if x.store.reel = some k then none else x.store.reel
        reelLeft := if x.store.reel = some k then 0 else x.store.reelLeft
        reserved := if x.store.reel = some k then x.store.dropReserved (BitVec.ofNat 6 (k / 4096)) x.store.reelLeft
          else x.store.reserved
        frames := match mfind x.store.frames k with
          | none => x.store.frames
          | some r => minsert x.store.frames k { r with st := .freeing } }
      pipe := if x.store.bound k then x.pipe.mapActs (markFreeing k) else x.pipe }
  (d.consumeTokens c gone).sweepFreeing c

/-- FREEF (R131): of an entry frame it raises ILLEGAL_FIELD (R49). -/
def fireFreef (f : Firing) (d : Dev) : Dev :=
  let isEntry := match (d.cell f.cell).frame f.act.graph f.act.frame with
    | none => false
    | some r => r.entry
  if isEntry then f.raise srcIllegalField d else d.freeFrame f.cell (frameKey f.act.graph f.act.frame)

/-- LOOPW (R132). -/
def fireLoopw (f : Firing) (d : Dev) : Dev :=
  let b := f.bv d
  if 1024 < b.toNat then f.raise srcIllegalField d
  else
    f.maker.one f.word f.resultA
      (d.writeFrame f.cell f.act fun r => { r with wbase := f.act.iter, w := bits b 0 11 })

/-- ADVW (R54, R133): WBASE := min(WBASE + n, 0xFFFF_FFFF); without a window nothing happens. -/
def fireAdvw (f : Firing) (d : Dev) : Dev :=
  d.writeFrame f.cell f.act fun r =>
    if r.w = 0 then r
    else { r with wbase := BitVec.ofNat 32 (min (r.wbase.toNat + nbits (f.bv d) 0 32) 0xFFFFFFFF) }

/-- A slot of a record written. -/
def FrameRec.setSlot (r : FrameRec) (i : Nat) (v : Word) : FrameRec :=
  match i with
  | 0 => { r with s0 := v }
  | 1 => { r with s1 := v }
  | 2 => { r with s2 := v }
  | _ => { r with s3 := v }

/-- SETS (R134): the result is b with b's VTYPE. -/
def fireSets (f : Firing) (d : Dev) : Dev :=
  let b := f.b d.uct.entries
  f.maker.one f.word ⟨b.bits, b.vtype⟩
    (d.writeFrame f.cell f.act fun r => r.setSlot (nbits (wMod f.word) 0 2) f.a.bits)

/-- GETS (R134). -/
def fireGets (f : Firing) (d : Dev) : Dev :=
  f.maker.one f.word ⟨(d.cell f.cell).slot f.act (nbits (wMod f.word) 0 2), 8⟩ d

/-! ### Memory, structures, atomics and locks (R138 to R147, R509) -/

def hbmEnd : Nat := 0x1800000000

/-- Bytes of an access by SZ (R78). -/
def szBytes (sz : BitVec 2) : Nat := 8 >>> sz.toNat

/-- What the issuing cell sees of R138: the address as a whole word, its size, whether host memory is allowed. -/
def addrBad (a : Word) (sz : BitVec 2) (hostOk : Bool) : Bool :=
  let addr := nbits a 0 48
  nbits a 48 16 ≠ 0 || addr % szBytes sz ≠ 0 || (if bit a 47 then !hostOk else hbmEnd ≤ addr)

/-- Word 2 of a grant or lock reply (R146). -/
def lockWord (addr : BitVec 48) (status : Byte) : Word := addr ++ (0 : Byte) ++ status

/-- What the issuing cell answers itself: a poisoned address gives a poisoned 0 (R59), a break of R138 MEM_ERROR, a bad
lock address its status in the layout of R146 (R509). -/
def selfAnswer (op : MemOp) (a : Val) (sz : BitVec 2) : Option Answer :=
  let status := fun (st : Byte) => some (Answer.value (lockWord (bits a.bits 0 48) st) false)
  if a.poison then some (.value 0 true)
  else if op = .lock || op = .trylock || op = .unlock then
    if nbits a.bits 0 3 ≠ 0 then status stUnaligned
    else if nbits a.bits 62 2 ≠ 0 || (op ≠ .lock && nbits a.bits 48 14 ≠ 0) || hbmEnd ≤ nbits a.bits 0 48 then status stBadValue
    else none
  else if addrBad a.bits sz (op = .ld || op = .st) then some .memError
  else none

/-- The request of a memory, structure, atomic or lock opcode (R139, R142, R145). For LOCK, `data` is the continuation
instruction and `cmp` the ITER of its grant. -/
def Firing.request (f : Firing) (op : MemOp) (d : Dev) : MemReq :=
  let b := f.b d.uct.entries
  let sz := bits (wMod f.word) 0 2
  let lockOp := op = .lock || op = .trylock || op = .unlock
  let cas4 := decide (op = .acas) && decide (sz = 1)
  { op := op
    sz := if lockOp then 0 else sz
    sx := bit (wMod f.word) 2
    addr := bits f.a.bits 0 48
    data := if op = .lock then (bits f.a.bits 48 14).setWidth 64
      else if cas4 then (bits b.bits 0 32).setWidth 64 else b.bits
    cmp := if op = .lock then f.act.iter.setWidth 64
      else if cas4 then (bits b.bits 32 32).setWidth 64
      else if op = .acas then (d.cell f.cell).slot f.act 1 else 0
    dpoison := b.poison
    graph := f.act.graph
    frame := f.act.frame
    src := .cell f.cell 0 0 }

/-- A packet leaves a cell for the fabric. -/
def Dev.sendPkt (d : Dev) (c : CellId) (p : Pkt) : Dev :=
  d.modPipe c fun q => { q with egress := q.egress ++ [{ pkt := p, epoch := d.fab.cur, lane := none, since := d.clock.aon }] }

/-- A memory, structure, atomic or lock opcode issues: it takes its entry; the request leaves the cell, or the cell answers
it itself (R59, R140, R144, R509). -/
def fireMem (op : MemOp) (f : Firing) (d : Dev) : Dev :=
  let lockOp := op = .lock || op = .trylock || op = .unlock
  let r := f.request op d
  let uid := (d.cell f.cell).pipe.uid
  let (d1, e) := d.takeEntry f (if lockOp then .lockReq r else .mem r)
  let e := BitVec.ofNat 10 e
  match selfAnswer op f.a (if lockOp then 0 else bits (wMod f.word) 0 2) with
  | some ans =>
    d1.modPipe f.cell fun p =>
      { p with inbox := p.inbox ++ [.rsp { dst := f.cell, entry := e, uid := uid, graph := f.act.graph, ans := ans }] }
  | none => d1.sendPkt f.cell (.req { r with src := .cell f.cell e uid })

def OpSpec.mem (op : MemOp) : OpSpec :=
  { need := fun _ _ => true, wait := op = .lds || op = .lock, fire := fireMem op }

/-- Earlier requests of the graph whose answers have not reached the cell (R143). -/
def Cell.openRequests (x : Cell) (g : GraphId) : List Nat :=
  (x.entriesOf g).filterMap fun e =>
    match e.kind with
    | .mem _ => if e.acked then none else some e.uid
    | .lockReq _ => if e.acked then none else some e.uid
    | _ => none

/-- FENCE entries of a graph whose requests are all answered reply with a (R143). -/
def Dev.completeFences (d : Dev) (c : CellId) (g : GraphId) : Dev :=
  let open_ := (d.cell c).openRequests g
  (d.cell c).pipe.ct.foldl (fun d (i, n) =>
    match n.kind with
    | .fence waits =>
      if n.act.graph = g && !waits.any (open_.contains ·) then
        let v := opndVal n.act.left
        ((n.maker c false).one n.word ⟨v.bits, v.vtype⟩ d).releaseEntry c i
      else d
    | _ => d) d

/-- FENCE (R143). -/
def fireFence (f : Firing) (d : Dev) : Dev :=
  ((d.takeEntry f (.fence ((d.cell f.cell).openRequests f.act.graph))).1).completeFences f.cell f.act.graph

/-! ### OUT, RAISE, RETE, TIMER (R148 to R152) -/

/-- The function that owns a graph. -/
def Dev.owner (d : Dev) (g : GraphId) : GraphId :=
  match d.graph g with
  | none => 0
  | some x => x.owner

/-- The function an output ring is assigned to; the physical function at first (R388). -/
def Dev.oringFn (d : Dev) (o : Nat) : GraphId := mget 0 d.hif.oringFn o

def outRing (b : Word) : BitVec 10 := bits b 0 10

/-- The ring of an OUT is assigned to the graph's function. -/
def outAssigned (f : Firing) (d : Dev) : Bool := d.oringFn (outRing (f.bv d)).toNat = d.owner f.act.graph

/-- OUT (R148): it holds its entry until the hub accepts it. -/
def fireOut (f : Firing) (d : Dev) : Dev :=
  let b := f.bv d
  if outAssigned f d then
    (d.takeEntry f (.out (outRing b) (bits b 10 10) (wMod f.word = 1) (d.cell f.cell).pipe.uid)).1
  else f.raise srcIllegalField d

/-- An EVENT packet of a RAISE for another node (R149, R367). -/
def eventPacket (d : Dev) (f : Firing) (b : Word) : FPacket :=
  { ptype := 10, mc := 3, epoch := d.fab.cur, pspec := bits b 16 16
    words := [d.fbn.nodeId ++ bits b 6 10 ++ f.act.graph ++ bits b 0 6 ++ (0 : BitVec 26),
      f.act.frame ++ (0 : BitVec 8) ++ f.act.iter ++ f.a.vtype ++ b2v f.act.poisoned ++ (0 : BitVec 7), f.a.bits] }

/-- The value RAISE carries: a, poisoned with the activation (R57, R149). -/
def Firing.raised (f : Firing) : Carried :=
  { left := { f.a with poison := f.act.poisoned }, right := none, oframe := some f.act.frame, oiter := f.act.iter }

/-- RAISE (R149): in this cell, in another cell of this node, or on another node. For another cell the record waits here
for a place there (R274); the named cell's entry decides whether it is raised. -/
def fireRaise (f : Firing) (d : Dev) : Dev :=
  let b := f.bv d
  let src := nbits b 0 6
  let target := bits b 6 10
  let here := wMod f.word = 0 || (target = f.cell && (wMod f.word = 1 || bits b 16 16 = d.fbn.nodeId))
  if src < 32 then f.raise srcIllegalField d
  else if here then d.raise f.cell (some f.lane) f.act.graph src f.raised
  else if wMod f.word = 1 || bits b 16 16 = d.fbn.nodeId then
    if (d.cell target).enabled f.act.graph src then
      let x := d.cell f.cell
      let place : RecPlace := if x.sharedUsed < sharedRecords then .shared else .spare f.lane
      let d := (d.addRecord f.cell f.act.graph src f.raised none place).cellCreate f.cell f.act.graph
        (d.colour f.cell f.act.graph)
      let d := d.modEv f.cell fun e =>
        { e with recs := e.recs.map fun r => if r.born + 1 = e.born then { r with post := target } else r }
      if place = .shared then d else d.modLane f.cell f.lane fun l => { l with spareUsed := true }
    else d
  else (d.cellCreate f.cell f.act.graph (d.colour f.cell f.act.graph)).sendPkt f.cell (.fob (eventPacket d f b))

/-- PRIO_STACK, an INFO fault (R280). -/
def Dev.prioStack (d : Dev) (c : CellId) : Dev := d.fault (rEverr c.toNat) 0 14 [] []

/-- RETE (R150, R280): it pops the top level when PRI and graph match. -/
def fireRete (f : Firing) (d : Dev) : Dev :=
  match (d.cell f.cell).ev.stack.getLast? with
  | none => d.prioStack f.cell
  | some l =>
    if l.pri = bits f.a.bits 0 8 && l.graph = f.act.graph then
      d.modEv f.cell fun e => { e with stack := e.stack.dropLast }
    else d.prioStack f.cell

/-- TIMER (R152): b[31:0] × 8 ns of running time. -/
def fireTimer (f : Firing) (d : Dev) : Dev := (d.takeEntry f (.timer (d.clock.run + 8 * nbits (f.bv d) 0 32))).1

end Sys2Proof.Machine
end

