-- ==== Sys2Proof/Machine/Arrive.lean ====
section
/-! DEFINITION. The arrival stage of a cell: the checks of R35, ordered streams, the queue map and the queue buffer (R35, R36,
R163 to R176, R190). -/

namespace Sys2Proof.Machine

/-! ### The queue buffer (R163, R167) -/

/-- The queue of an arriving token: CEL.QMAP for its GRAPH and CLASS (R167). -/
def Dev.queueOf (d : Dev) (c : CellId) (t : Token) : Nat :=
  d.fld (rQmap c.toNat (2 * t.graph.toNat + t.cls.toNat / 4)) (8 * (t.cls.toNat % 4)) 5

def Dev.qRes (d : Dev) (c : CellId) (q : Nat) : Nat := 16 * d.fld (rQcfg c.toNat q) 0 6

/-- CAP in tokens; 0 stands for 4,096. -/
def Dev.qCap (d : Dev) (c : CellId) (q : Nat) : Nat :=
  let n := d.fld (rQcfg c.toNat q) 8 8
  if n = 0 then 4096 else 16 * n

def CellPipe.queue (p : CellPipe) (q : Nat) : List QTok := mget [] p.qs q

/-- Places of the shared pool, and those in use: above the reserves, and the ordered-stream hold. -/
def Dev.qPool (d : Dev) (c : CellId) : Nat := 4096 - (List.range 32).foldl (fun n q => n + d.qRes c q) 0

def Dev.qPoolUsed (d : Dev) (c : CellId) : Nat :=
  (List.range 32).foldl (fun n q => n + (((d.cell c).pipe.queue q).length - d.qRes c q)) 0 + (d.cell c).pipe.held.length

/-- Queue q is full (R163). -/
def Dev.qFull (d : Dev) (c : CellId) (q : Nat) : Bool :=
  let n := ((d.cell c).pipe.queue q).length
  d.qCap c q ≤ n || (d.qRes c q ≤ n && d.qPool c ≤ d.qPoolUsed c)

/-- A token enters its queue. -/
def Dev.enqueue (d : Dev) (c : CellId) (t : QTok) : Dev :=
  let q := d.queueOf c t.tok
  d.modPipe c fun p => { p with qs := mset [] p.qs q (p.queue q ++ [{ t with since := d.coreNow c }]) }

def plainQTok (t : Token) : QTok := { tok := t, since := 0, reeled := false, resv := false, installed := false, asks := false }

/-! ### Ordered streams (R172 to R176) -/

def Token.streamKey (t : Token) : Nat := Machine.streamKey t.graph t.stream
def skipKey (k : Nat) (seq : BitVec 9) : Nat := k * 512 + seq.toNat
def CellPipe.expected (p : CellPipe) (k : Nat) : BitVec 9 := mget 0 p.expSeq k

/-- The expected number advances past `s`, whose skip mark clears. -/
def CellPipe.advance (p : CellPipe) (k : Nat) (s : BitVec 9) : CellPipe :=
  { p with expSeq := mset 0 p.expSeq k (s + 1), skips := p.skips.erase (skipKey k s) }

/-- Held tokens whose SEQ is expected and whose queue has room follow, at most `n` of them (R173). A held token takes the queue
that CEL.QMAP gives at its release: R169 leaves open whether arrival or entry into the queue counts (log 72). -/
def Dev.releaseHeld (d : Dev) (c : CellId) : Nat → Dev
  | 0 => d
  | n + 1 =>
    let p := (d.cell c).pipe
    match takeFirst (fun h => h.tok.seq = p.expected h.tok.streamKey && !d.qFull c (d.queueOf c h.tok)) p.held with
    | none => d
    | some (h, rest) =>
      ((d.modPipe c fun p => ({ p with held := rest }).advance h.tok.streamKey h.tok.seq).enqueue c
        { plainQTok h.tok with asks := h.asks }).releaseHeld c n

/-- Every held token that can follow now. -/
def Dev.release (d : Dev) (c : CellId) : Dev := d.releaseHeld c (d.cell c).pipe.held.length

def Dev.ordMax (d : Dev) (c : CellId) : Nat := d.fld (rOrdcfg c.toNat) 0 11

/-! ### Drops and events at arrival (R35, R36, R174, R511) -/

/-- The cell counts a token it drops, or the hub when the cell is outside the mask of a loaded graph (R36). -/
def Dev.countDropped (d : Dev) (c : CellId) (t : Token) : Dev :=
  match d.graph t.graph with
  | none => d
  | some x => if x.has c then d.cellConsume c t.graph t.colour else d.hubConsume t.graph t.colour

/-- Reserved bits, KIND, VTYPE and PORT of an arriving token (R35 step 1). -/
def Token.wellFormed (t : Token) : Bool :=
  nbits t.w0 0 5 = 0 && nbits t.w1 32 4 = 0 && (t.kind = 0 || t.kind = 2 || t.kind = 3) && vtypeOk t.vtype && t.port ≠ 3

/-- The graph is loaded and its mask includes the cell. -/
def Dev.inMask (d : Dev) (c : CellId) (g : GraphId) : Bool :=
  match d.graph g with
  | none => false
  | some x => x.has c

/-- A unit other than a lane raises an event, or is held for want of a shared record (R273). -/
def Dev.tryRaise (d : Dev) (c : CellId) (g : GraphId) (src : Nat) (k : Carried) : Option Dev :=
  if (d.cell c).enabled g src && sharedRecords ≤ (d.cell c).sharedUsed then none else some (d.raise c none g src k)

/-- The entry of the LOCK that a grant token answers: the oldest with its address, frame, instruction and ITER. -/
def Cell.lockEntryOf (x : Cell) (t : Token) : Option Nat :=
  (minBy (fun p => p.2.uid) (x.pipe.ct.filter fun p =>
    match p.2.kind with
    | .lockReq r =>
      r.op = .lock && p.2.act.graph = t.graph && p.2.act.frame = t.frame && p.2.act.iter = t.iter &&
      r.addr = bits t.w2 16 48 && bits r.data 0 14 = t.instr
    | _ => false)).map Prod.fst

/-- The arrival of a grant token releases its LOCK's entry (R144, R262); a FENCE may have waited for it (R143). `own`: the
cell's continuation table made the grant itself and has released the entry already (R509). -/
def Dev.releaseLock (d : Dev) (c : CellId) (t : Token) (own : Bool) : Dev :=
  if t.kind ≠ 3 || own then d
  else
    match (d.cell c).lockEntryOf t with
    | none => d
    | some e => (d.releaseEntry c e).completeFences c t.graph

/-- A grant token handed to the event controller (R35 step 4, R272); no second item forms (R283). A reserved
status is delivered as FORMAT (R8). -/
def Dev.tryGrant (d : Dev) (c : CellId) (t : Token) (own : Bool) : Option Dev :=
  if sharedRecords ≤ (d.cell c).sharedUsed then none
  else
    let t : Token := { t with w2 := setBits t.w2 0 8 (receivedStatus (bits t.w2 0 8)).toNat }
    let k : Carried := { left := t.val, right := none, oframe := some t.frame, oiter := t.iter }
    let d := d.addRecord c t.graph srcLockGrant k (some t) .shared
    some ((d.modEv c fun e =>
      { e with recs := e.recs.map fun r => if r.born + 1 = e.born then { r with colour := t.colour } else r }).releaseLock
        c t own)

/-- A token of an ordered stream (R173, R174, R176). None: it stays on its path. -/
def Dev.arriveOrdered (d : Dev) (c : CellId) (q : QTok) : Option Dev :=
  let t := q.tok
  let p := (d.cell c).pipe
  let k := t.streamKey
  let full := d.qFull c (d.queueOf c t)
  if p.held.any fun h => h.tok.streamKey = k && h.tok.seq = t.seq then
    (d.tryRaise c t.graph srcIllegalField (droppedCarried t)).map fun d => d.countDropped c t
  else if t.seq = p.expected k then
    if full then none
    else some (((d.enqueue c q).modPipe c fun p => p.advance k t.seq).release c)
  else if p.skips.contains (skipKey k t.seq) then
    if full then none
    else some ((d.enqueue c q).modPipe c fun p => { p with skips := p.skips.erase (skipKey k t.seq) })
  else if d.ordMax c ≤ p.held.length || d.qPool c ≤ d.qPoolUsed c then none
  else some (d.modPipe c fun p => { p with held := p.held ++ [{ tok := t, asks := q.asks, since := d.clock.run }] })

/-! ### Arrival -/

/-- Something arrives in a cell: it wakes, and is no longer idle (R190). -/
def Dev.wakeCell (d : Dev) (c : CellId) : Dev := d.modCell c fun x => { x with asleep := false, idleSince := d.coreNow c }

/-- A token at the arrival stage: R35 in order, then ordered streams, then its queue. Tokens of a graph under unload or held
under reset are discarded (R39, R448). `back`: the Yo-yo brings the token back, and it was ordered when it first arrived (log 18).
`own`: a grant that this cell made itself. None: the token stays on its path. -/
def Dev.arrive (d : Dev) (c : CellId) (q : QTok) (back own : Bool) : Option Dev :=
  let t := q.tok
  if !t.wellFormed then
    if d.inMask c t.graph then
      (d.tryRaise c t.graph srcIllegalField (droppedCarried t)).map fun d =>
        ((d.faultOnly 10 [] []).countDropped c t).releaseLock c t own
    else some ((d.faultOnly 10 [] []).countDropped c t)
  else
    match d.graph t.graph with
    | none => some (d.faultOnly 11 [] [])
    | some x =>
      if !x.has c then some ((d.faultOnly 11 [] []).countDropped c t)
      else if x.unloading.isSome || x.held then
        some (if q.installed then d else d.countDropped c t)
      else if !x.inRange c t.instr then
        (d.tryRaise c t.graph srcTagRange (droppedCarried t)).map fun d =>
          ((d.faultOnly 11 [] []).countDropped c t).releaseLock c t own
      else if t.kind = 3 then d.tryGrant c t own
      else if t.stream ≠ 0 && !back then d.arriveOrdered c q
      else if d.qFull c (d.queueOf c t) then none
      else some (d.enqueue c q)

/-- An item absorbed at an isolated cell: counted by its absorber, and its graph is aborted (R310, R311, R448). -/
def Dev.absorb (d : Dev) (c : CellId) (g : GraphId) (colour : Bool) : Dev :=
  (if d.inMask c g then d.cellConsume c g colour else d.hubConsume g colour).abortDue g

/-- A token of a path as it enters its queue: a retried token is demand for a spilled frame (R201). -/
def Res.qtok (r : Res) : QTok := { plainQTok r.tok with asks := r.count ≠ 0 }

/-- Place i of the local bypass. -/
def arriveBypass (c : CellId) (i : Nat) (d : Dev) : Dev :=
  match takeAt (d.cell c).pipe.bypass i with
  | none => d
  | some (r, rest) =>
    d.ifRoom ((((d.modPipe c fun p => { p with bypass := rest }).wakeCell c).arrive c r.qtok false true).getD d) c

/-- Place i of the crossbar ingress; an earlier token for the same queue goes first (R161). -/
def arriveIngress (c : CellId) (i : Nat) (d : Dev) : Dev :=
  let ins := (d.cell c).pipe.ingress
  match takeAt ins i with
  | none => d
  | some (r, rest) =>
    if (ins.take i).any fun x => d.queueOf c x.tok = d.queueOf c r.tok then d
    else d.ifRoom ((((d.modPipe c fun p => { p with ingress := rest }).wakeCell c).arrive c r.qtok false false).getD d) c

/-- Places of the crossbar ingress (R161) and of the crossbar egress (R162). -/
def ingressPlaces : Nat := 64
def egressPlaces : Nat := 64

/-- A token enters a cell's ingress, or is absorbed at an isolated cell; none while the ingress is full or the cell is in
reset. -/
def Dev.toIngress (d : Dev) (c : CellId) (t : Token) (src : Sender) (count : Nat) : Option Dev :=
  let x := d.cell c
  if x.isolated then some (d.absorb c t.graph t.colour)
  else if x.resetting || ingressPlaces ≤ x.pipe.ingress.length then none
  else
    some ((d.modPipe c fun p =>
      { p with ingress := p.ingress ++ [{ tok := t, lane := none, src := src, count := count, since := d.clock.aon }] }).wakeCell c)

/-- Place i of the egress of another cell of the cluster: the cluster crossbar takes the token to the ingress, from where it
goes on at once when it can (R289). -/
def arriveSameCluster (c src : CellId) (i : Nat) (d : Dev) : Dev :=
  match takeAt (d.cell src).pipe.egress i with
  | some (⟨.tok t from_ n, _, _, _⟩, rest) =>
    if i < egressPlaces && src ≠ c && cellCluster src = cellCluster c && t.node = d.fbn.nodeId && t.cell = c then
      match (d.modPipe src fun p => { p with egress := rest }).toIngress c t from_ n with
      | none => d
      | some d => if (d.cell c).isolated then d else arriveIngress c ((d.cell c).pipe.ingress.length - 1) d
    else d
  | _ => d

/-- TOKEN_ARRIVAL. -/
def arrival (c : CellId) (src : ArrivalSource) (i : Nat) (d : Dev) : Dev :=
  match src with
  | .sameCluster s => if (d.cell s).runs then arriveSameCluster c s i d else d
  | .bypass => if (d.cell c).runs then arriveBypass c i d else d
  | .ingress => if (d.cell c).runs then arriveIngress c i d else d

/-! ### The gap timer (R175) -/

/-- The held SEQ that comes first after `e`, as its distance from `e`. -/
def gapTo (e : BitVec 9) (held : List (BitVec 9)) : Option Nat := minBy id (held.map fun s => (s - e).toNat)

/-- The raw value of ORDER_GAP_TIMEOUT. -/
def gapValue (st : BitVec 4) (first : BitVec 9) (n : Nat) : Word :=
  (0 : BitVec 35) ++ st ++ first ++ (0 : BitVec 7) ++ BitVec.ofNat 9 n

/-- The oldest held token of a stream has waited GAP_T µs, and the expected one is not here. -/
def Dev.gapDue (d : Dev) (c : CellId) (k : Nat) : Bool :=
  let mine := (d.cell c).pipe.held.filter fun h => h.tok.streamKey = k
  mine.any (fun h => h.since + 1000 * d.fld (rOrdcfg c.toNat) 16 16 ≤ d.clock.run) &&
    mine.all fun h => h.tok.seq ≠ (d.cell c).pipe.expected k

/-- ORDER_GAP_TIMEOUT: nothing happens while its event would find no record (R273). -/
def orderGap (c : CellId) (g : GraphId) (st : BitVec 4) (d : Dev) : Dev :=
  let k := streamKey g st
  let p := (d.cell c).pipe
  let e := p.expected k
  if !(d.cell c).runs || !d.gapDue c k then d
  else
    match gapTo e ((p.held.filter fun h => h.tok.streamKey = k).map fun h => h.tok.seq) with
    | none => d
    | some n =>
      let marks := (List.range n).map fun i => skipKey k (e + BitVec.ofNat 9 i)
      let d1 := d.modPipe c fun p =>
        { p with expSeq := mset 0 p.expSeq k (e + BitVec.ofNat 9 n), skips := p.skips ++ marks.filter fun m => !p.skips.contains m }
      let d2 := (d1.release c).celFault c 9
      (d2.tryRaise c g srcOrderGap (rawCarried (gapValue st e n))).getD d

/-! ### The commands -/

/-- TOKEN_ARRIVAL. -/
def execTokenArrival (c : CellId) (src : ArrivalSource) (i : Nat) (s : State) : Host.Outcome State Fault Refusal :=
  onDies (arrival c src i) s

/-- ORDER_GAP_TIMEOUT. -/
def execOrderGapTimeout (c : CellId) (g : GraphId) (st : BitVec 4) (s : State) : Host.Outcome State Fault Refusal :=
  onDies (orderGap c g st) s

end Sys2Proof.Machine
end

