-- ==== Sys2Proof/Machine/Replies.lean ====
section
/-! DEFINITION. Prefetch, answers to requests, timeouts and timers of a cell, and its sleep (R130, R140, R141, R146, R147, R152,
R185 to R190, R203, R204, R246). -/

namespace Sys2Proof.Machine

/-! ### Prefetch (R184, R185) -/

/-- The head of the ready list, handlers first (R184). -/
def CellPipe.popReady (p : CellPipe) : Option (Act × CellPipe) :=
  match p.rdyH with
  | a :: l => some (a, { p with rdyH := l })
  | [] =>
    match p.rdy with
    | a :: l => some (a, { p with rdy := l })
    | [] => none

/-- PREFETCH_FILL: an activation enters a lane's free slot and its word is read, and the target's for a REP (R88, R89). -/
def prefetch (c : CellId) (ln : BitVec 3) (im : Upset) (d : Dev) : Dev :=
  let x := d.cell c
  if !x.runs || 2 ≤ (x.pipe.lane ln.toNat).slots.length then d
  else
    match x.pipe.popReady with
    | none => d
    | some (a, p) =>
      let s := x.slotOf a im (d.coreNow c)
      ((d.modPipe c fun _ => p).modLane c ln fun l => { l with slots := l.slots ++ [s] }).upsetFault c im 0

/-! ### Answers -/

/-- The entry that a response names, while it is the same use of that entry (R188). -/
def Cell.entryFor (x : Cell) (r : MemRsp) : Option CtEntry :=
  match mfind x.pipe.ct r.entry.toNat with
  | none => none
  | some n => if n.uid = r.uid then some n else none

/-- The grant token that the continuation table makes for a LOCK it answers itself (R146, R509). -/
def CtEntry.grantToken (n : CtEntry) (c : CellId) (r : MemReq) (v : Word) (poison : Bool) (d : Dev) : Token :=
  { n.maker c poison with kind := 3 }.token d d.fbn.nodeId c (bits r.data 0 14) 0 n.act.iter n.act.frame ⟨v, 8⟩

/-- The value an operation replies with: ST and STS reply with a, the others with the data; VTYPE 8 (R139). -/
def MemReq.replyValue (r : MemReq) (n : CtEntry) (v : Word) : Word :=
  match r.op with
  | .st => (opndVal n.act.left).bits
  | .sts => (opndVal n.act.left).bits
  | _ => v

/-- A request's answer: a reply of KIND 2, the grant of a LOCK, or an event in place of the reply (R140, R141, R146, R147). -/
def CtEntry.answer (n : CtEntry) (c : CellId) (r : MemReq) (a : Answer) (fo : Upset) (d : Dev) : Dev :=
  let enabled := (d.cell c).enabled n.act.graph
  let reply := fun (v : Word) (p : Bool) => n.reply c fo ((n.maker c p).one n.word ⟨v, 8⟩) d
  match a with
  | .value v p =>
    if r.op = .lock then d.sendToken c none (n.grantToken c r v p d)
    else if (opndVal n.act.left).poison then reply v p
    else reply (r.replyValue n v) p
  | .memError => if enabled srcMemError then n.raise c srcMemError d else reply 0 false
  | .writeTwice =>
    if enabled srcStructWriteTwice then n.raise c srcStructWriteTwice d else reply (r.replyValue n 0) false
  | .notOwner v => if enabled srcLockNotOwner then n.raise c srcLockNotOwner d else reply v false
  | .ack => d
  | .notRecorded => d

/-- The request of an entry. -/
def CtEntry.request (n : CtEntry) : Option MemReq :=
  match n.kind with
  | .mem r => some r
  | .lockReq r => some r
  | _ => none

/-- An entry ends with an answer: the reply or event, its release, and any FENCE that waited for it. Held while its event
finds no record (R273). -/
def Dev.finishEntry (d : Dev) (c : CellId) (e : Nat) (n : CtEntry) (r : MemReq) (a : Answer) (fo : Upset) : Dev :=
  d.ifRoom (((n.answer c r a fo d).releaseEntry c e).completeFences c n.act.graph) c

def MemRsp.isAck (r : MemRsp) : Bool :=
  match r.ans with
  | .ack => true
  | .notRecorded => true
  | _ => false

/-- REPLY_RECEIVE: place i of the cell's inbox; an answer for an entry already completed is discarded (R187, R188). -/
def replyReceive (c : CellId) (i : Nat) (fo : Upset) (d : Dev) : Dev :=
  let x := d.cell c
  match takeAt x.pipe.inbox i with
  | some (.rsp r, rest) =>
    if !x.runs || r.isAck then d
    else
      let d' := d.modPipe c fun p => { p with inbox := rest }
      match x.entryFor r with
      | none => d'
      | some n =>
        match n.request with
        | none => d'
        | some q =>
          let done := d'.finishEntry c r.entry.toNat n q r.ans fo
          if (mfind (done.cell c).pipe.ct r.entry.toNat).isSome then d else done
  | _ => d

/-- REQUEST_ACK: the acknowledgement of a deferral or of a queued or granted LOCK, or the answer that a deferral was not
recorded (R188, R246). -/
def requestAck (c : CellId) (i : Nat) (d : Dev) : Dev :=
  let x := d.cell c
  match takeAt x.pipe.inbox i with
  | some (.rsp r, rest) =>
    if !x.runs || !r.isAck then d
    else
      let d' := d.modPipe c fun p => { p with inbox := rest }
      match x.entryFor r with
      | none => d'
      | some n =>
        let n' := if r.ans = .ack then { n with acked := true } else { n with again := true }
        d.ifRoom ((d'.modPipe c fun p => { p with ct := minsert p.ct r.entry.toNat n' }).completeFences c n.act.graph) c
  | _ => d

/-- LDS_REISSUE: an LDS answered not recorded goes out again; its initiator timeout runs on (R246). -/
def ldsReissue (c : CellId) (e : BitVec 10) (d : Dev) : Dev :=
  match mfind (d.cell c).pipe.ct e.toNat with
  | none => d
  | some n =>
    match n.again && (d.cell c).runs, n.kind with
    | true, .mem r =>
      (d.modPipe c fun p => { p with ct := minsert p.ct e.toNat { n with again := false } }).sendPkt c
        (.req { r with src := .cell c e n.uid })
    | _, _ => d

/-! ### Timeouts (R188, R308) -/

/-- The initiator timeout in ns: MSH.TMOCFG.INIT, in units of 100 µs. -/
def Dev.initTimeout (d : Dev) : Nat := 100000 * d.fld rTmocfg 16 16

/-- TIMEOUT, an INFO fault. -/
def Dev.timeoutFault (d : Dev) : Dev := d.fault rMshErr 0 64 [] []

/-- A request's entry whose timeout has passed: MEM_ERROR, or a lock's status TIMEOUT (R188). -/
def cellTimeout (c : CellId) (e : BitVec 10) (fo : Upset) (d : Dev) : Dev :=
  match mfind (d.cell c).pipe.ct e.toNat with
  | none => d
  | some n =>
    match n.request with
    | none => d
    | some r =>
      if n.acked || d.clock.run < n.issued + d.initTimeout || !(d.cell c).runs then d
      else
        let a : Answer := match n.kind with
          | .lockReq r => .value (lockWord r.addr stTimeout) false
          | _ => .memError
        let done := d.finishEntry c e.toNat n r a fo
        if (mfind (done.cell c).pipe.ct e.toNat).isSome then d else done.timeoutFault

/-! ### NEWF waiting (R130, R203, R204) -/

/-- A NEWF's entry. -/
def Cell.newfEntry (x : Cell) (e : BitVec 10) : Option (CtEntry × Bool) :=
  match mfind x.pipe.ct e.toNat with
  | some n =>
    match n.kind with
    | .newf raised => some (n, raised)
    | _ => none
  | none => none

/-- A waiting NEWF completes with a number, if free records go beyond what demanded reel-backs take first. -/
def Dev.newfTry (d : Dev) (c : CellId) (e : BitVec 10) (n : CtEntry) (fo : Upset) : Option Dev :=
  match d.newfNumber c n.act.graph with
  | none => none
  | some f =>
    if (d.cell c).store.freeRecords ≤ (d.cell c).store.recordsWanted then none
    else some (d.ifRoom ((n.reply c fo (newfDone { n.maker c false with kind := 0 } n.word f) d).releaseEntry c e.toNat) c)

/-- NEWF_RECORD_FREED: the NEWF completes, if need be after an eviction (R130, R203). -/
def newfFreed (c : CellId) (e : BitVec 10) (fo : Upset) (d : Dev) : Dev :=
  match (d.cell c).newfEntry e with
  | none => d
  | some (n, _) =>
    if !(d.cell c).runs then d
    else
      match d.newfTry c e n fo with
      | some d' => d'
      | none =>
        let d := d.evict c n.act.graph
        (d.newfTry c e n fo).getD d

/-- The value of FRAME_EXHAUSTED (R204). -/
def Dev.frameValue (d : Dev) (c : CellId) (g : GraphId) : Word :=
  let waiting := count (fun n => match n.kind with | .newf _ => true | _ => false) ((d.cell c).entriesOf g)
  let atCap := decide ((d.quota g).frcap ≤ (d.cell c).store.numbersInUse g)
  BitVec.ofNat 64 (4096 * b2n atCap + min waiting 4095)

/-- FRAME_EXHAUSTED: a NEWF that has waited SCH.FRWAIT.WAIT µs raises it once. -/
def frameExhausted (c : CellId) (e : BitVec 10) (d : Dev) : Dev :=
  match (d.cell c).newfEntry e with
  | some (n, false) =>
    if !(d.cell c).runs || !(d.cell c).enabled n.act.graph srcFrameExhausted ||
        d.clock.run < n.issued + 1000 * d.fld rFrwait 0 16 then d
    else
      match d.tryRaise c n.act.graph srcFrameExhausted (rawCarried (d.frameValue c n.act.graph)) with
      | none => d
      | some d => d.modPipe c fun p => { p with ct := minsert p.ct e.toNat { n with kind := .newf true } }
  | _ => d

/-! ### Timers and sleep (R152, R190) -/

/-- CELL_TIMER: the timer's delay has ended; the event carries a. -/
def timerEnds (c : CellId) (e : BitVec 10) (d : Dev) : Dev :=
  match mfind (d.cell c).pipe.ct e.toNat with
  | none => d
  | some n =>
    match n.kind with
    | .timer due =>
      if !(d.cell c).runs || d.clock.run < due then d
      else
        let k : Carried :=
          { left := opndVal n.act.left, right := none, oframe := some n.act.frame, oiter := n.act.iter }
        match d.tryRaise c n.act.graph srcCellTimer k with
        | none => d
        | some d => d.releaseEntry c e.toNat
    | _ => d

/-- CEL.STATUS.IDLE: no token in the queues, at a bank's input, in the hold or in a lane's result buffer, no activation and no
entry, and only constants in the matching store (R162, R191). -/
def Cell.idle (x : Cell) : Bool :=
  x.pipe.qs.isEmpty && x.store.in0.isEmpty && x.store.in1.isEmpty && (x.pipe.bypass.all fun r => r.lane.isNone) &&
  ((x.pipe.egress.drop egressPlaces).all fun r => r.lane.isNone) && x.pipe.held.isEmpty && x.pipe.rdyH.isEmpty && x.pipe.rdy.isEmpty && x.pipe.ct.isEmpty &&
  x.pipe.lanes.all (fun l => l.2.slots.isEmpty && l.2.rep.isNone) && x.store.ms.all (·.const)

/-- CELL_SLEEP: idle for 4,096 core cycles, with no event record held (R190, R276). -/
def cellSleep (c : CellId) (d : Dev) : Dev :=
  let x := d.cell c
  if x.runs && x.idle && x.ev.recs.isEmpty && x.idleSince + 4096 ≤ d.coreNow c then
    d.modCell c fun x => { x with asleep := true }
  else d

/-! ### The commands -/

/-- PREFETCH_FILL. -/
def execPrefetchFill (c : CellId) (ln : BitVec 3) (im : Upset) (s : State) : Host.Outcome State Fault Refusal :=
  onDies (prefetch c ln im) s

/-- REPLY_RECEIVE. -/
def execReplyReceive (c : CellId) (r : ReplyRead) (s : State) : Host.Outcome State Fault Refusal :=
  onDies (replyReceive c r.place r.fo) s

/-- REQUEST_ACK. -/
def execRequestAck (c : CellId) (i : Nat) (s : State) : Host.Outcome State Fault Refusal :=
  onDies (requestAck c i) s

/-- NEWF_RECORD_FREED. -/
def execNewfRecordFreed (c : CellId) (e : EntryFreed) (s : State) : Host.Outcome State Fault Refusal :=
  onDies (newfFreed c e.entry e.fo) s

/-- FRAME_EXHAUSTED. -/
def execFrameExhausted (c : CellId) (e : BitVec 10) (s : State) : Host.Outcome State Fault Refusal :=
  onDies (frameExhausted c e) s

/-- CELL_TIMER. -/
def execCellTimer (c : CellId) (e : BitVec 10) (s : State) : Host.Outcome State Fault Refusal :=
  onDies (timerEnds c e) s

/-- CELL_SLEEP. -/
def execCellSleep (c : CellId) (s : State) : Host.Outcome State Fault Refusal :=
  onDies (cellSleep c) s

/-- LDS_REISSUE. -/
def execLdsReissue (c : CellId) (e : BitVec 10) (s : State) : Host.Outcome State Fault Refusal :=
  onDies (ldsReissue c e) s

end Sys2Proof.Machine
end

