-- ==== Sys2Proof/Machine/Match.lean ====
section
/-! DEFINITION. The arbiter and the match stage: choosing a token, the steps of R177, the matching store, and the ready list
(R40 to R44, R52, R53, R165, R166, R170, R171, R177 to R184). -/

namespace Sys2Proof.Machine

/-! ### Places of the matching store (R178, R179) -/

/-- Parity of a number. -/
def oddBits (n : Nat) : Nat → Bool
  | 0 => false
  | k + 1 => xor (n % 2 = 1) (oddBits (n / 2) k)

/-- The bank of an instruction of a graph (R178): parity of INSTR and GRAPH. -/
def bankOf (g : GraphId) (i : BitVec 14) : Bool := oddBits (i.toNat * 64 + g.toNat) 20

/-- The set within the bank (R178). -/
def setOf (g : GraphId) (f : BitVec 12) (i : BitVec 14) (iter : BitVec 32) : BitVec 11 :=
  bits iter 0 11 ^^^ bits f 0 11 ^^^ bits i 1 11 ^^^ (g.setWidth 11 <<< 5)

/-- Ways of a set and entries of a bank's overflow buffer (R179). -/
def msWays : Nat := 8
def msOverflow : Nat := 64

def CellStore.inSet (s : CellStore) (bank : Bool) (set : BitVec 11) : List MsEntry :=
  s.ms.filter fun e => e.bank = bank && e.set = set && e.way.isSome

def CellStore.overflow (s : CellStore) (bank : Bool) : List MsEntry := s.ms.filter fun e => e.bank = bank && e.way.isNone

/-- The lowest free way of a set. -/
def CellStore.freeWay (s : CellStore) (bank : Bool) (set : BitVec 11) : Option (BitVec 3) :=
  ((List.range msWays).find? fun w => !(s.inSet bank set).any fun e => e.way = some (BitVec.ofNat 3 w)).map
    (BitVec.ofNat 3)

/-- An entry touched now (R179, R199). -/
def MsEntry.touch (e : MsEntry) (stamp : BitVec 16) (lru : Nat) : MsEntry := { e with stamp := stamp, lru := lru }

/-- What a token becomes as an entry. With STK, ITER counts as 0 for the set (R178). -/
structure Placing where
  tok : Token
  bank : Bool
  set : BitVec 11
  sticky : Bool
deriving DecidableEq, Repr

def placing (t : Token) (stk sticky : Bool) : Placing :=
  { tok := t, bank := bankOf t.graph t.instr, set := setOf t.graph t.frame t.instr (if stk then 0 else t.iter)
    sticky := sticky }

/-- A new entry in the store: a free way, or the way of the least recently touched unpinned entry, which moves to the
overflow buffer. None under set pressure (R179, R180). -/
def CellStore.place (s : CellStore) (p : Placing) (stamp : BitVec 16) : Option CellStore :=
  let e : MsEntry :=
    { tok := p.tok, bank := p.bank, set := p.set, way := none, const := false, sticky := p.sticky, stamp := stamp
      lru := s.lru }
  match s.freeWay p.bank p.set with
  | some w => some { s with ms := s.ms ++ [{ e with way := some w }], lru := s.lru + 1 }
  | none =>
    if msOverflow ≤ (s.overflow p.bank).length then none
    else
      match minBy (·.lru) ((s.inSet p.bank p.set).filter fun e => !e.const) with
      | none => none
      | some v =>
        some
          { s with
            ms := (s.ms.map fun x => if x = v then { x with way := none } else x) ++ [{ e with way := v.way }]
            lru := s.lru + 1 }

/-! ### Frames as the match stage sees them -/

/-- The frame's touch stamp is set (R203). -/
def Dev.touchFrame (d : Dev) (c : CellId) (g : GraphId) (f : BitVec 12) : Dev :=
  match (d.cell c).frame g f with
  | none => d
  | some r =>
    if r.st = .freeing then d
    else d.modStore c fun s => { s with frames := minsert s.frames (frameKey g f) { r with stamp := d.stampNow c } }

/-- A token that takes an entry marks its frame number in use (R48). -/
def Dev.markInUse (d : Dev) (c : CellId) (g : GraphId) (f : BitVec 12) : Dev :=
  d.modStore c fun s => { s with inUse := insertNum (frameKey g f) s.inUse }

/-- The window test (R52, R53): the frame is bound and has a window, and ITER is at or above WBASE + W. -/
def Cell.beyondWindow (x : Cell) (t : Token) : Bool :=
  match x.frame t.graph t.frame with
  | none => false
  | some r => r.st ≠ .freeing && r.w ≠ 0 && r.wbase.toNat + r.w.toNat ≤ t.iter.toNat

/-! ### Activations form (R40, R42 to R44) -/

/-- The word whose port use, STK and PRED govern an instruction: the next one for a REP (R82, R88). Where that word is itself a
REP, its own port use counts (R40, R508), and past address 0x3FFF a word of zeros is read (log 71). -/
def Cell.matchWord (x : Cell) (i : BitVec 14) : Word :=
  let w := mget 0 x.store.im i.toNat
  if wOpc w = opcRep then mget 0 x.store.im (i.toNat + 1) else w

/-- An activation enters the ready list, and its frame is touched. -/
def Dev.form (d : Dev) (c : CellId) (a : Act) : Dev :=
  (d.modPipe c fun p => { p with rdy := p.rdy ++ [a] }).touchFrame c a.graph a.frame

/-- The sticky operand for an instruction's port: the frame's own before the graph constant (R44). -/
def CellStore.stickyFor (s : CellStore) (g : GraphId) (f : BitVec 12) (i : BitVec 14) (port : BitVec 2) : Option MsEntry :=
  let at_ := s.ms.filter fun e => e.tok.graph = g && e.tok.instr = i && e.tok.port = port
  match at_.find? fun e => e.sticky && !e.const && e.tok.frame = f with
  | some e => some e
  | none => at_.find? fun e => e.const

/-- The oldest waiting token for a key and port (R42). -/
def CellStore.waiting (s : CellStore) (g : GraphId) (f : BitVec 12) (i : BitVec 14) (iter : BitVec 32) (port : BitVec 2) :
    Option MsEntry :=
  s.ms.find? fun e =>
    !e.const && !e.sticky && e.tok.graph = g && e.tok.frame = f && e.tok.instr = i && e.tok.iter = iter && e.tok.port = port

/-- What stands on each port for an activation: nothing needed, the arriving token, an entry, or missing. -/
inductive PortHas where
  | unused
  | here (t : Token)
  | held (e : MsEntry)
  | missing
deriving DecidableEq, Repr

def PortHas.opnd : PortHas → Option Opnd
  | .here t => some { tok := t, sticky := false }
  | .held e => some { tok := e.tok, sticky := e.sticky || e.const }
  | _ => none

/-- A port of an activation that token `t` may complete; `arriving`: t itself is not yet in the store. -/
def CellStore.portHas (s : CellStore) (uct : Map Reg) (w : Word) (t : Token) (arriving : Bool) (port : BitVec 2) : PortHas :=
  if !(portUse uct w).uses port then .unused
  else if arriving && t.port = port then .here t
  else
    match if stickyPort uct w = some port then s.stickyFor t.graph t.frame t.instr port
      else s.waiting t.graph t.frame t.instr t.iter port with
    | some e => .held e
    | none => .missing

/-- The activation of a token when every port it uses is there, with the entries that it joins. -/
def CellStore.complete (s : CellStore) (uct : Map Reg) (w : Word) (t : Token) (arriving : Bool) :
    Option (Act × List MsEntry) :=
  let l := s.portHas uct w t arriving 0
  let r := s.portHas uct w t arriving 1
  let p := s.portHas uct w t arriving 2
  if l = .missing || r = .missing || p = .missing then none
  else
    some ({ graph := t.graph, frame := t.frame, iter := t.iter, instr := t.instr, left := l.opnd, right := r.opnd
            pred := p.opnd, handler := false, freeing := false },
      [l, r, p].filterMap fun x => match x with | .held e => some e | _ => none)

/-- The entries of an activation that forms: waiting tokens leave the store, sticky ones are touched. -/
def CellStore.join (s : CellStore) (es : List MsEntry) (stamp : BitVec 16) : CellStore :=
  { s with
    ms := (s.ms.filter fun e => !(es.contains e && e.item)).map fun e => if es.contains e then e.touch stamp s.lru else e
    lru := s.lru + 1 }

/-- Entries that a lookup matched are touched (R179). -/
def CellStore.touchAll (s : CellStore) (es : List MsEntry) (stamp : BitVec 16) : CellStore :=
  { s with ms := s.ms.map fun e => if es.contains e then e.touch stamp s.lru else e, lru := s.lru + 1 }

/-- The entries that the lookup of an arriving token meets: what stands on the other ports of its instruction (R42, R43). -/
def CellStore.met (s : CellStore) (uct : Map Reg) (w : Word) (t : Token) : List MsEntry :=
  [0, 1, 2].filterMap fun port =>
    match s.portHas uct w t true port with
    | .held e => some e
    | _ => none

/-- The entries that the lookup of a sticky operand meets: its frame's earlier one and the graph constant (R44, R177). -/
def CellStore.metSticky (s : CellStore) (t : Token) : List MsEntry :=
  s.ms.filter fun e =>
    e.tok.graph = t.graph && e.tok.instr = t.instr && e.tok.port = t.port && (e.const || (e.sticky && e.tok.frame = t.frame))

/-- An instruction of a frame, as CellStore.fires lists it. -/
def fireKey (g : GraphId) (f : BitVec 12) (i : BitVec 14) : Nat := frameKey g f * 16384 + i.toNat

def MsEntry.fireKey (e : MsEntry) : Nat := Machine.fireKey e.tok.graph e.tok.frame e.tok.instr

/-- The entries of a bank's waiting partners form one activation, oldest first; an instruction none of whose partners is
complete leaves the list (R43, R182). Nothing forms while the ready list is full. -/
def Dev.formWaiting (d : Dev) (c : CellId) (bank : Bool) : Dev :=
  let x := d.cell c
  match x.store.fires.find? fun k => bankOf (keyGraph (k / 16384)) (BitVec.ofNat 14 k) = bank with
  | none => d
  | some k =>
    if readyOrdinary ≤ x.pipe.rdy.length then d
    else
      match x.store.ms.findSome? fun e =>
        if e.item && e.fireKey = k then x.store.complete d.uct.entries (x.matchWord e.tok.instr) e.tok false
        else none with
      | none => d.modStore c fun s => { s with fires := s.fires.erase k }
      | some (a, es) => (d.modStore c fun s => s.join es (d.stampNow c)).form c a

def QTok.bank (q : QTok) : Bool := bankOf q.tok.graph q.tok.instr

/-! ### The steps of R177 -/

/-- What becomes of a token at the match stage: its fate is decided, or it stays at the head of its bank, `pressure` by set
pressure (R180, R209). -/
inductive MatchEnd where
  | done (d : Dev)
  | stalled (pressure : Bool) (d : Dev)

/-- Step 3, and an admission that fails: the token goes to its frame's chain. -/
def Dev.divertOr (d : Dev) (c : CellId) (t : QTok) : MatchEnd :=
  match d.divert c t with
  | some d => .done d
  | none => .stalled false (d.spillFull c)

/-- The last touch of a frame among its matching-store entries (R179, log 72). -/
def CellStore.lastTouch (s : CellStore) (k : Nat) : Nat :=
  (s.ms.filter fun e => !e.const && e.key = k).foldl (fun m e => max m e.lru) 0

/-- The frame that set pressure spills: the least recently touched of those in the set or the overflow buffer (R180). -/
def CellStore.pressureVictim (s : CellStore) (p : Placing) : Option Nat :=
  minBy s.lastTouch (((s.inSet p.bank p.set ++ s.overflow p.bank).filter fun e => !e.const && s.reel ≠ some e.key).map (·.key))

/-- Whether a bank is under set pressure now (R180). -/
def CellStore.setp (s : CellStore) (bank : Bool) : Bool := if bank then s.setp1 else s.setp0
def CellStore.setSetp (s : CellStore) (bank v : Bool) : CellStore :=
  if bank then { s with setp1 := v } else { s with setp0 := v }

/-- A token takes an entry: admission (R197), a place (R179), or set pressure (R180), recorded as it sets in. -/
def Dev.store (d : Dev) (c : CellId) (q : QTok) (p : Placing) : MatchEnd :=
  let k := frameKey q.tok.graph q.tok.frame
  if !d.admits c q.tok.graph then (d.spillFrame c k).divertOr c q
  else
    match (d.cell c).store.place p (d.stampNow c) with
    | some s =>
      .done (((d.modStore c fun _ => s).markInUse c q.tok.graph q.tok.frame).touchFrame c q.tok.graph q.tok.frame)
    | none =>
      let d := if (d.cell c).store.setp p.bank then d else d.celFault c 8
      match (d.cell c).store.pressureVictim p with
      | none => .stalled true d
      | some v => if v = k then (d.spillFrame c v).divertOr c q else .stalled true (d.spillFrame c v)

/-- Step 6 (R43, R44): a sticky operand replaces its frame's earlier one, or takes an entry; then its partners form, the oldest
now. It is consumed as it takes its place, unless it was already installed (R60). -/
def Dev.matchSticky (d : Dev) (c : CellId) (q : QTok) : MatchEnd :=
  let t := q.tok
  let x := d.cell c
  let earlier := x.store.ms.find? fun e =>
    e.sticky && !e.const && e.tok.graph = t.graph && e.tok.frame = t.frame && e.tok.instr = t.instr && e.tok.port = t.port
  let taken : MatchEnd := match earlier with
    | some e =>
      .done ((d.modStore c fun s =>
        { s with ms := s.ms.map fun y => if y = e then { e.touch (d.stampNow c) s.lru with tok := t } else y
                 lru := s.lru + 1 }).touchFrame c t.graph t.frame)
    | none => d.store c q (placing t true true)
  match taken with
  | .stalled p d => .stalled p d
  | .done d' =>
    if (d'.cell c).store.ms.any fun e => e.sticky && e.tok = t then
      let d' := if q.installed then d' else d'.cellConsume c t.graph t.colour
      let k := fireKey t.graph t.frame t.instr
      let d' := d'.modStore c fun s => { s with fires := if s.fires.contains k then s.fires else s.fires ++ [k] }
      .done (d'.formWaiting c q.bank)
    else .done d'

/-- Step 7 (R42): the token completes its activation or waits. -/
def Dev.matchPlain (d : Dev) (c : CellId) (q : QTok) (w : Word) : MatchEnd :=
  let x := d.cell c
  match x.store.complete d.uct.entries w q.tok true with
  | some (a, es) => .done ((d.modStore c fun s => s.join es (d.stampNow c)).form c a)
  | none =>
    let d := d.modStore c fun s => s.touchAll (s.met d.uct.entries w q.tok) (d.stampNow c)
    d.store c q (placing q.tok (stickyPort d.uct.entries w).isSome false)

/-- The way of a token through the steps of R177. -/
inductive MatchPath where
  | unused | divert | park | single | sticky | plain
deriving DecidableEq, Repr

/-- The step of R177 that decides a token's fate. A token that a spill swept out of the matching store and that is reeled
back takes the same way as a diverted one: R177 says that of diverted tokens, and R54 leaves swept ones open (log 72). -/
def Cell.matchPath (x : Cell) (uct : Map Reg) (q : QTok) : MatchPath :=
  let t := q.tok
  let k := frameKey t.graph t.frame
  let w := x.matchWord t.instr
  let p := portUse uct w
  let sticky : Bool := stickyPort uct w = some t.port && decide (p.number ≠ 1)
  if !p.uses t.port then .unused
  else if x.store.spilled.contains k && !(q.reeled && x.store.reel = some k) then .divert
  else if !sticky && x.beyondWindow t then .park
  else if p.number = 1 then .single
  else if sticky then .sticky
  else .plain

/-- The match stage's steps 1 to 7 (R177). -/
def Dev.matchToken (d : Dev) (c : CellId) (q : QTok) : MatchEnd :=
  let x := d.cell c
  let t := q.tok
  match x.matchPath d.uct.entries q with
  | .unused =>
    match d.tryRaise c t.graph srcIllegalField (droppedCarried t) with
    | none => .stalled false d
    | some d => .done (if q.installed then d else d.cellConsume c t.graph t.colour)
  | .divert => d.divertOr c q
  | .park =>
    match d.ringPut c (frameKey t.graph t.frame) (.parked t) with
    | some d => .done d
    | none => .stalled false (d.spillFull c)
  | .single =>
    .done (d.form c
      { graph := t.graph, frame := t.frame, iter := t.iter, instr := t.instr
        left := some { tok := t, sticky := false }, right := none, pred := none, handler := false, freeing := false })
  | .sticky => d.matchSticky c q
  | .plain => d.matchPlain c q (x.matchWord t.instr)

/-! ### The arbiter (R165, R170, R171) -/

/-- Tokens that wait at a bank's input, oldest first, and the places of its buffer (R170). -/
def CellStore.bankIn (s : CellStore) (bank : Bool) : List QTok := if bank then s.in1 else s.in0
def CellStore.setBankIn (s : CellStore) (bank : Bool) (l : List QTok) : CellStore :=
  if bank then { s with in1 := l } else { s with in0 := l }
def bankPlaces : Nat := 8

/-- Whether a bank has room (R170). -/
def CellStore.bankOpen (s : CellStore) (bank : Bool) : Bool := (s.bankIn bank).length < bankPlaces

/-- The highest CLASS a queue holds. -/
def topClass (l : List QTok) : Nat := l.foldl (fun m q => max m q.tok.cls.toNat) 0

/-- The next token of a queue: the oldest of its highest CLASS (R165). -/
def nextOf (l : List QTok) : Option (QTok × List QTok) := takeFirst (fun q => q.tok.cls.toNat = topClass l) l

/-- The level of a queue (R170). -/
def Dev.qLevel (d : Dev) (c : CellId) (q : Nat) : Nat :=
  if d.fld (rQcfg c.toNat q) 20 1 = 1 then d.fld (rQcfg c.toNat q) 21 3 else topClass ((d.cell c).pipe.queue q)

/-- Queues whose next token goes to an open bank. -/
def Dev.eligible (d : Dev) (c : CellId) : List Nat :=
  let x := d.cell c
  (List.range 32).filter fun q =>
    match nextOf (x.pipe.queue q) with
    | none => false
    | some (t, _) => x.store.bankOpen t.bank

/-- The oldest token that has reached AGE_CAP and whose bank is open, as (queue, place in it) (R170). -/
def Dev.aged (d : Dev) (c : CellId) : Option (Nat × Nat) :=
  let x := d.cell c
  let all := (List.range 32).flatMap fun q =>
    ((x.pipe.queue q).zipIdx.filter fun (t, _) =>
      t.since + d.fld rAgecap 0 24 ≤ d.coreNow c && x.store.bankOpen t.bank).map fun (t, i) => (t.since, q, i)
  (minBy (fun x => x.1) all).map fun x => x.2

/-- A queue's staged arbitration fields come into force: at once when it is empty, else at its level's refill (R171). -/
def Dev.applyQcfg (d : Dev) (c : CellId) (q : Nat) : Dev := d.applyStaged (rQcfg c.toNat q)

/-- A credit refill of a level: every queue of that level gets its WEIGHT (R170), after its staged fields apply (R171). -/
def Dev.refill (d : Dev) (c : CellId) (level : Nat) : Dev :=
  let qs := (List.range 32).filter fun q => !((d.cell c).pipe.queue q).isEmpty && d.qLevel c q = level
  let d := qs.foldl (fun d q => d.applyQcfg c q) d
  d.modPipe c fun p =>
    { p with credit := qs.foldl (fun m q => mset 0 m q (mget 0 m q + d.fld (rQcfg c.toNat q) 24 8)) p.credit }

/-- The first queue of a list, upward from `from_`, modulo 32. -/
def firstFrom (from_ : Nat) (l : List Nat) : Option Nat := minBy (fun q => (q + 32 - from_) % 32) l

/-- A queue after a token left it: an empty queue loses its credit (R170). -/
def Dev.afterTake (d : Dev) (c : CellId) (q : Nat) : Dev :=
  if ((d.cell c).pipe.queue q).isEmpty then d.modPipe c fun p => { p with credit := mset 0 p.credit q 0 } else d

/-- The round-robin choice among eligible queues: refill when all of the level are spent, charge one credit, move the
pointer (R170). -/
def Dev.chooseQueue (d : Dev) (c : CellId) : Option (Dev × Nat) :=
  let e := d.eligible c
  let level := e.foldl (fun m q => max m (d.qLevel c q)) 0
  let l := e.filter fun q => d.qLevel c q = level
  let spent := fun (d : Dev) (q : Nat) => mget 0 (d.cell c).pipe.credit q = 0
  let d := if l.all (spent d) then d.refill c level else d
  match firstFrom (mget 0 (d.cell c).pipe.rr level) (l.filter fun q => !spent d q) with
  | none => none
  | some q =>
    some (d.modPipe c fun p =>
      let n := mget 0 p.credit q - 1
      { p with credit := mset 0 p.credit q n, rr := mset 0 p.rr level (if n = 0 then (q + 1) % 32 else q) }, q)

/-- The arbiter's selection: the device without the token, and the token. A selection by age charges no credit (R170). -/
def Dev.select (d : Dev) (c : CellId) : Option (Dev × QTok) :=
  match d.aged c with
  | some (q, i) =>
    (takeAt ((d.cell c).pipe.queue q) i).map fun (t, rest) => (d.modPipe c fun p => { p with qs := mset [] p.qs q rest }, t)
  | none =>
    match d.chooseQueue c with
    | none => none
    | some (d, q) =>
      (nextOf ((d.cell c).pipe.queue q)).map fun (t, rest) =>
        ((d.modPipe c fun p => { p with qs := mset [] p.qs q rest }).afterTake c q, t)

/-- The reservation of a reeled token is released when it reaches the match stage (R202). -/
def Dev.unreserve (d : Dev) (c : CellId) (q : QTok) : Dev :=
  if q.resv then d.modStore c fun s => { s with reserved := s.dropReserved q.tok.graph 1 } else d

/-- A matching-store entry discarded for an uncorrectable error; a graph constant's loss aborts its graph
(R183). -/
def Dev.discardEntry (d : Dev) (c : CellId) (e : MsEntry) : Dev :=
  let d := d.modStore c fun s => { s with ms := s.ms.erase e }
  if e.const then d.abortDue e.tok.graph
  else if e.item then d.cellConsume c e.tok.graph e.tok.colour
  else d

/-- The outcome of the SECDED check of an entry that is read (R183). -/
def Dev.entryUpset (d : Dev) (c : CellId) (e : MsEntry) (u : Upset) : Dev :=
  match u with
  | .none => d
  | .corrected => d.celFault c 4
  | .uncorrectable => (d.celFault c 5).discardEntry c e

/-- The outcome of the SECDED check of the first entry that a token's lookup meets; only steps 6 and 7 look up. -/
def Dev.lookupUpset (d : Dev) (c : CellId) (q : QTok) (u : Upset) : Dev :=
  let x := d.cell c
  let w := x.matchWord q.tok.instr
  let es := match x.matchPath d.uct.entries q with
    | .sticky => x.store.metSticky q.tok
    | .plain => x.store.met d.uct.entries w q.tok
    | _ => []
  match es with
  | e :: _ => d.entryUpset c e u
  | [] => d

/-- A token at the match stage: its instruction word is read, with outcome `im` (R88, R89), then its entries, with outcome
`ms`, and R177 decides. A token whose word cannot be read is consumed as an activation would be, with ILLEGAL_OP (log 72). -/
def Dev.matchRead (d : Dev) (c : CellId) (q : QTok) (im ms : Upset) : MatchEnd :=
  let t := q.tok
  match im with
  | .uncorrectable =>
    match (d.upsetFault c im 0).tryRaise c t.graph srcIllegalOp (droppedCarried t) with
    | none => .stalled false d
    | some d => .done (if q.installed then d else d.cellConsume c t.graph t.colour)
  | _ => ((d.upsetFault c im 0).lookupUpset c q ms).matchToken c q

/-- A token reaches the match stage with the tokens `rest` behind it at its bank's input. One that cannot go on stays at the
head; under set pressure its bank has asked for a spill. -/
def Dev.matchAt (d : Dev) (c : CellId) (q : QTok) (rest : List QTok) (im ms : Upset) : Dev × Bool :=
  let d0 := d.unreserve c q
  match d0.matchRead c q im ms with
  | .done d => ((d.modStore c fun s => (s.setBankIn q.bank rest).setSetp q.bank false), true)
  | .stalled p d' =>
    (d'.modStore c fun s => (s.setBankIn q.bank ({ q with resv := false } :: rest)).setSetp q.bank p, false)

/-- The token at the head of a bank's input is handled, if it can be. -/
def Dev.matchHead (d : Dev) (c : CellId) (bank : Bool) (im ms : Upset) : Dev × Bool :=
  match (d.cell c).store.bankIn bank with
  | [] => (d, false)
  | q :: rest => d.matchAt c q rest im ms

/-- The arbiter selects a token: it is handled at once when nothing waits at its bank's input, and waits there otherwise. An
uncorrectable token is discarded as it is read (R166). -/
def Dev.selectToken (d : Dev) (c : CellId) (qb im ms : Upset) : Dev :=
  match d.select c with
  | none => d
  | some (d, q) =>
    let d := d.upsetFault c qb 6
    match qb with
    | .uncorrectable => ((if q.installed then d else d.cellConsume c q.tok.graph q.tok.colour).unreserve c q).release c
    | _ =>
      match (d.cell c).store.bankIn q.bank with
      | [] => (d.matchAt c q [] im ms).1.release c
      | l => (d.modStore c fun s => s.setBankIn q.bank (l ++ [q])).release c

/-- TOKEN_SELECT: each bank forms one activation for a sticky operand whose partners wait (R182); then a token that waits at a
bank's input is handled if it can be, and otherwise the arbiter selects one. Nothing is taken while the ready list is full
for ordinary activations (R182). -/
def tokenSelect (c : CellId) (qb im ms : Upset) (d : Dev) : Dev :=
  let full := fun (d : Dev) => readyOrdinary ≤ (d.cell c).pipe.rdy.length
  if !(d.cell c).runs || (d.cell c).asleep || full d then d
  else
    let d := (d.formWaiting c false).formWaiting c true
    if full d then d
    else
      match d.matchHead c false im ms with
      | (d, true) => d
      | (d, false) =>
        match d.matchHead c true im ms with
        | (d, true) => d
        | (d, false) => d.selectToken c qb im ms

/-! ### Scrub (R183) -/

/-- MS_SCRUB: one set of a bank is read; `way` names the entry that fails its check. A cell whose clocks are gated scrubs
nothing (R190). -/
def msScrub (c : CellId) (bank : Bool) (way : BitVec 3) (u : Upset) (d : Dev) : Dev :=
  let x := d.cell c
  if !x.runs || x.asleep then d
  else
    let at_ := mget 0 x.store.scrub (b2n bank)
    let set : BitVec 11 := BitVec.ofNat 11 at_
    let d := d.modStore c fun s => { s with scrub := mset 0 s.scrub (b2n bank) ((at_ + 1) % 2048) }
    match (x.store.inSet bank set).find? fun e => e.way = some way with
    | none => d
    | some e => d.entryUpset c e u

/-! ### The commands -/

/-- TOKEN_SELECT. -/
def execTokenSelect (c : CellId) (qb : Upset) (u : MatchReads) (s : State) : Host.Outcome State Fault Refusal :=
  onDies (tokenSelect c qb u.im u.ms) s

/-- MS_SCRUB. -/
def execMsScrub (c : CellId) (bank : Bool) (way : BitVec 3) (u : Upset) (s : State) : Host.Outcome State Fault Refusal :=
  onDies (msScrub c bank way u) s

end Sys2Proof.Machine
end

