-- ==== Sys2Proof/Machine/SpillFill.lean ====
section
/-! DEFINITION. The spill/fill engine (Yo-yo): victims, reel-back, parking, and the return-to-sender ring (R198 to R202, R206,
R208, R211 to R214). -/

namespace Sys2Proof.Machine

/-! ### Victims (R198, R199, R201) -/

def Dev.spillLo (d : Dev) : Nat := d.fld rMswm 0 16
def Dev.spillHi (d : Dev) : Nat := d.fld rMswm 16 16

/-- A set is among those a search examines: SCAN sets from the pointer. -/
def scanned (from_ n : Nat) (set : BitVec 11) : Bool := (set.toNat + 2048 - from_) % 2048 < n


/-- Entries a search considers: in the examined sets, of graphs above MSMIN, no constant, and no frame under reel-back or
already spilled. -/
def Dev.candidates (d : Dev) (c : CellId) : List MsEntry :=
  let s := (d.cell c).store
  s.ms.filter fun e =>
    e.way.isSome && !e.const && scanned s.scan (d.fld rYocfg 0 8) e.set &&
    (d.quota e.tok.graph).msmin < s.usage e.tok.graph && s.reel ≠ some e.key && !s.spilled.contains e.key

/-- Position of an entry: bank, set, way (R199). -/
def MsEntry.pos (e : MsEntry) : Nat :=
  (b2n e.bank * 2048 + e.set.toNat) * 8 + (match e.way with | some w => w.toNat | none => 0)

/-- The victim: the frame of the oldest entry, or with VICT 1 the frame with the most entries; ties by position. -/
def Dev.victim (d : Dev) (c : CellId) : Option Nat :=
  let l := d.candidates c
  let weight := fun (e : MsEntry) =>
    if d.fld rYocfg 8 1 = 1 then count (fun x => x.key = e.key) l else stampAge (d.stampNow c) e.stamp
  (minBy (fun e => (65536 - weight e) * 32768 + e.pos) l).map (·.key)

/-- One search: its victim is spilled, and the pointer passes the sets examined. -/
def Dev.searchVictim (d : Dev) (c : CellId) : Dev :=
  let d' := match d.victim c with
    | none => d
    | some k => d.spillFrame c k
  d'.modStore c fun s => { s with scan := (s.scan + d.fld rYocfg 0 8) % 2048 }

/-- A demanded frame fits (R201): within MSCAP, and with SPILL_LO of the pool left free. -/
def Dev.fits (d : Dev) (c : CellId) (k : Nat) : Bool :=
  let g := keyGraph k
  let q := d.quota g
  let u := (d.cell c).store.usage g
  let n := ((d.cell c).store.chain k).length
  u + n ≤ q.mscap && d.spillLo + ((u + n - q.msmin) - (u - q.msmin)) ≤ d.poolFree c

/-- SPILL_TRIGGER: below SPILL_LO the pool trigger comes into force, until SPILL_HI; while it is, or while the oldest
demanded frame does not fit, a search spills one victim. -/
def spillTrigger (c : CellId) (d : Dev) : Dev :=
  let free := d.poolFree c
  let on := decide (free < d.spillLo) || ((d.cell c).store.spilling && decide (free < d.spillHi))
  let d := d.modStore c fun s => { s with spilling := on }
  let wanted := match (d.cell c).store.demand.head? with
    | none => false
    | some k => !d.fits c k
  if (d.cell c).runs && (on || wanted) && (d.cell c).store.sweep.isEmpty then d.searchVictim c else d

/-- SPILL_MOVE. -/
def spillMove (c : CellId) (d : Dev) : Dev := if (d.cell c).runs then d.sweepOne c else d

/-! ### Reel-back (R201, R202, R203) -/

/-- A frame's chain is empty: its spilled bit clears and its record is LIVE. -/
def Dev.unspill (d : Dev) (c : CellId) (k : Nat) : Dev :=
  d.modStore c fun s =>
    { s with
      spilled := s.spilled.erase k
      reel := if s.reel = some k then none else s.reel
      reelLeft := if s.reel = some k then 0 else s.reelLeft
      frames := match mfind s.frames k with
        | none => s.frames
        | some r => if r.st = .spilled then minsert s.frames k { r with st := .live } else s.frames }

/-- An evicted record comes back before its frame's tokens; none while no record is free (R203). -/
def Dev.restoreRecord (d : Dev) (c : CellId) (k : Nat) : Option Dev :=
  let s := (d.cell c).store
  match s.evicted k with
  | none => some d
  | some r =>
    if s.freeRecords = 0 then none
    else some (d.modStore c fun s =>
      { s with
        frames := minsert s.frames k { r with st := .spilled, stamp := d.stampNow c }
        ring := s.ring.filter fun x => !(x.key = k && (match x.body with | .saved _ => true | _ => false)) })

/-- REEL_BACK_START: the oldest demanded frame, swept and fitting, starts with its reservation. -/
def reelStart (c : CellId) (d : Dev) : Dev :=
  let s := (d.cell c).store
  match s.demand with
  | [] => d
  | k :: rest =>
    if s.reel.isSome || s.sweep.contains k || !d.fits c k || !(d.cell c).runs then d
    else
      match d.restoreRecord c k with
      | none => d
      | some d =>
        let d := d.modStore c fun s => { s with demand := rest }
        let n := (s.chain k).length
        if n = 0 then d.unspill c k
        else
          let g := (keyGraph k).toNat
          d.modStore c fun s =>
            { s with reel := some k, reelLeft := n, reserved := mset 0 s.reserved g (mget 0 s.reserved g + n) }

/-- A record leaves a cell's spill ring. -/
def CellStore.dropRec (s : CellStore) (r : SpillRec) : CellStore := { s with ring := s.ring.erase r }

/-- REEL_TOKEN: the next token of the chain arrives on the Yo-yo path (R202). -/
def reelToken (c : CellId) (d : Dev) : Dev :=
  let s := (d.cell c).store
  match s.reel with
  | none => d
  | some k =>
    match s.chain k with
    | [] => d.unspill c k
    | r :: rest =>
      match r.body with
      | .spilled t sticky =>
        let q : QTok :=
          { tok := t, since := 0, reeled := true, resv := s.reelLeft ≠ 0, installed := sticky, asks := false }
        if !(d.cell c).runs then d
        else
          match (d.wakeCell c).arrive c q true false with
          | none => d
          | some d =>
            let d := d.modStore c fun s => { s.dropRec r with reelLeft := s.reelLeft - 1 }
            if rest.isEmpty then d.unspill c k else d
      | _ => d

/-- A parked record whose frame's record is here and whose ITER is inside the window now (R55, R208). -/
def Cell.admissible (x : Cell) (r : SpillRec) : Bool :=
  match r.body with
  | .parked t =>
    match x.frame t.graph t.frame with
    | none => false
    | some f => f.st ≠ .freeing && !x.beyondWindow t
  | _ => false

def SpillRec.iter (r : SpillRec) : Nat :=
  match r.body with
  | .parked t => t.iter.toNat
  | _ => 0

/-- PARK_REEL: of the frame parked longest ago with an admissible token, the token of lowest ITER, in order of parking
within one ITER. -/
def parkReel (c : CellId) (d : Dev) : Dev :=
  let x := d.cell c
  let l := x.store.ring.filter x.admissible
  match l.head? with
  | none => d
  | some first =>
    match minBy (·.iter) (l.filter fun r => r.key = first.key) with
    | none => d
    | some r =>
      match r.body with
      | .parked t =>
        if !x.runs then d
        else
          match (d.wakeCell c).arrive c { plainQTok t with asks := true } true false with
          | none => d
          | some d => d.modStore c fun s => s.dropRec r
      | _ => d

/-! ### Refusal and the return-to-sender ring (R206, R211 to R214) -/

/-- Places of a return-to-sender ring that can hold tokens: one always stays unused. -/
def Dev.rtsPlaces (d : Dev) : Nat := 32639 + (2 ^ d.fld rSpillcfg 8 4 - 1) * 32768

def Dev.rtsFull (d : Dev) (k : DieId) : Bool := d.rtsPlaces ≤ (d.yoyo k).rts.length

/-- The die whose ring takes a refused token of this module (R212). -/
def Sender.die : Sender → DieId
  | .cell c => cellDie c
  | _ => 0

/-- A token is held long enough to be refused: SCH.BPLIMIT.LIMIT µs of the always-on timebase (R211). -/
def Dev.heldTooLong (d : Dev) (since : Nat) : Bool := since + 1000 * d.fld rBplimit 0 14 ≤ d.clock.aon

/-- A REFUSE packet can leave for its sender: not while refused tokens already wait for a full ring (R214). -/
def Dev.refusable (d : Dev) (s : Sender) : Bool :=
  match s with
  | .node _ => true
  | _ => !(d.rtsFull s.die && !(d.yoyo s.die).refused.isEmpty)

/-- The seed of a die's LFSR (R213). -/
def lfsrSeed (k : DieId) : BitVec 16 :=
  let v := bits glbSerial 0 16 ^^^ BitVec.ofNat 16 (0x1111 * (k.toNat + 1))
  if v = 0 then 0xACE1 else v

/-- One step of the LFSR x^16 + x^14 + x^13 + x^11 + 1, shifting right (log 19). -/
def lfsrStep (s : BitVec 16) : BitVec 16 :=
  (s >>> 1) ||| ((b2v (xor (xor (bit s 0) (bit s 2)) (xor (bit s 3) (bit s 5)))).setWidth 16 <<< 15)

/-- The retry time after refusal n, in µs modulo 65,536 (R213, log 19). -/
def Dev.dueTime (d : Dev) (n : Nat) (u : BitVec 16) : BitVec 16 :=
  let m := min (d.fld rRetry 0 16 * 2 ^ (n - 1)) (d.fld rRetry 16 16)
  BitVec.ofNat 16 (d.clock.aon / 1000 + m * (98304 + u.toNat) / 131072)

/-- The Yo-yo has written HEAD, TAIL and the record before TAIL of a ring of `places` places (R206). -/
def Yoyo.wrote (y : Yoyo) (places : Nat) : Yoyo :=
  let last := (y.head + y.rts.length + places - 1) % places
  { y with words := addAll y.words ([0, 1] ++ (if y.rts.isEmpty then [] else (List.range 4).map fun j => 512 + 4 * last + j)) }

/-- REFUSE_STORE: place i of the REFUSE packets that wait at a die's Yo-yo goes into the ring (R213, R214). -/
def refuseStore (k : DieId) (i : Nat) (d : Dev) : Dev :=
  let y := d.yoyo k
  match takeAt y.refused i with
  | none => d
  | some (r, rest) =>
    if d.rtsFull k then d.fault rSchErr 1 33 [] [.rtsRing k]
    else
      let u := lfsrStep (y.lfsr.getD (lfsrSeed k))
      let n := min 255 (r.count + 1)
      let rts := y.rts ++ [{ r with due := d.dueTime n u, count := n }]
      d.setYoyo k ({ y with lfsr := some u, refused := rest, rts := rts }.wrote (d.rtsPlaces + 1))

/-- A record is due (R213). -/
def Dev.isDue (d : Dev) (r : RtsRec) : Bool := ((BitVec.ofNat 16 (d.clock.aon / 1000) - r.due).toNat) < 32768

/-! ### The commands -/

/-- SPILL_TRIGGER. -/
def execSpillTrigger (c : CellId) (s : State) : Host.Outcome State Fault Refusal :=
  onDies (spillTrigger c) s

/-- SPILL_MOVE. -/
def execSpillMove (c : CellId) (s : State) : Host.Outcome State Fault Refusal :=
  onDies (spillMove c) s

/-- REEL_BACK_START. -/
def execReelBackStart (c : CellId) (s : State) : Host.Outcome State Fault Refusal :=
  onDies (reelStart c) s

/-- REEL_TOKEN. -/
def execReelToken (c : CellId) (s : State) : Host.Outcome State Fault Refusal :=
  onDies (reelToken c) s

/-- PARK_REEL. -/
def execParkReel (c : CellId) (s : State) : Host.Outcome State Fault Refusal :=
  onDies (parkReel c) s

/-- REFUSE_STORE. -/
def execRefuseStore (d : DieId) (i : Nat) (s : State) : Host.Outcome State Fault Refusal :=
  onDies (refuseStore d i) s

end Sys2Proof.Machine
end

