-- ==== Sys2Proof/Machine/Packets.lean ====
section
/-! DEFINITION. Packets between units: their class, target and routing node, Fober routing, and absorption (R292, R309 to R311,
R354, R356, R359, R361, R362, R374, R376). -/

namespace Sys2Proof.Machine

/-! ### Isolated units (R309, R310, R448) -/

def Dev.isoUnit (d : Dev) (u : DevUnit) : Bool := d.flt.isolated.contains u

def Dev.isoTarget (d : Dev) (t : Target) : Bool := d.fab.dead.contains t || d.isoUnit (.target t)

/-- The HBM controller of a stack is out of service: dead, or its die isolated or off. -/
def Dev.stackIso (d : Dev) (s : DieId) : Bool := d.isoTarget (.hbm s) || d.isoUnit (.die s) || bit d.pwr.dieOff s.toNat

/-! ### Links (R340, R351, R355) -/

def linkReset : Link where
  st := .disabled
  since := 0
  firstLock := none
  rate := 0
  width := 0
  lanes := 0
  failed := 0
  ver := 0
  peerVermap := 0
  fromRetrain := false
  helloSeen := false
  helloSent := false
  peerSeen := false
  retrainDue := 0
  txSeq := 0
  exp := 0
  ackSeq := 4095
  nak := false
  lastNak := none
  retry := []
  replay := []
  replays := 0
  sentCr := []
  lim := []
  freed := []
  adv := []
  got := []
  reported := 6
  cw := []
  cwCount := 0
  rxBad := false
  eqFrames := 0
  tx := []
  rx := []
  train := []
  fecc := 0
  fecu := 0
  replayCnt := 0

def Dev.link (d : Dev) (l : LinkId) : Link := mget linkReset d.links l.toNat
def Dev.setLink (d : Dev) (l : LinkId) (x : Link) : Dev := { d with links := mset linkReset d.links l.toNat x }
def Dev.modLink (d : Dev) (l : LinkId) (f : Link → Link) : Dev := d.setLink l (f (d.link l))

/-- The port of a link, 4 × port + link. -/
def linkPort (l : LinkId) : BitVec 4 := bits l 2 4

/-- The cluster whose router a port attaches to (R287). -/
def portCluster (p : BitVec 4) : ClusterId := BitVec.ofNat 6 (p.toNat / 4 * 16 + p.toNat % 4)

/-- The first cell of a cluster, by which other units at its router name themselves (R290). -/
def clusterCell (n : ClusterId) : CellId := BitVec.ofNat 10 (16 * n.toNat)

/-- A link that carries packets (R356). -/
def Link.up (x : Link) : Bool := x.st = .active || x.st = .retrain

/-- A packet enters a link's transmit queue. -/
def Dev.toLink (d : Dev) (l : LinkId) (p : FPacket) : Dev :=
  d.modLink l fun x => { x with tx := x.tx ++ [{ pkt := p, since := d.clock.aon, counted := true }] }

/-! ### Fober packets -/

/-- PTYPE values (R359). -/
def ptToken : BitVec 5 := 1
def ptRefuse : BitVec 5 := 2
def ptMemRd : BitVec 5 := 3
def ptMemWr : BitVec 5 := 4
def ptMemResp : BitVec 5 := 5
def ptAtomic : BitVec 5 := 6
def ptLockReq : BitVec 5 := 7
def ptLockGrant : BitVec 5 := 8
def ptLockRel : BitVec 5 := 9
def ptEvent : BitVec 5 := 10
def ptCensus : BitVec 5 := 11
def ptMgmtRd : BitVec 5 := 12
def ptMgmtWr : BitVec 5 := 13
def ptRoute : BitVec 5 := 14
def ptIdAssign : BitVec 5 := 15
def ptIsolate : BitVec 5 := 16

end Sys2Proof.Machine

namespace Sys2Proof

/-- Word i of a packet; words beyond its end read 0. -/
def FPacket.word (p : FPacket) (i : Nat) : Word := p.words.getD i 0

/-- The token of a TOKEN, REFUSE or LOCK_GRANT packet. -/
def FPacket.token (p : FPacket) : Machine.Token := { w0 := p.word 0, w1 := p.word 1, w2 := p.word 2 }

/-- The routing node (R354). -/
def FPacket.node (p : FPacket) : BitVec 16 :=
  if p.ptype = Machine.ptToken || p.ptype = Machine.ptLockGrant then Machine.bits (p.word 0) 48 16 else p.pspec

/-- Requests are answered with MEM_RESP (R359). -/
def FPacket.isRequest (p : FPacket) : Bool :=
  p.ptype = Machine.ptMemRd || p.ptype = Machine.ptMemWr || p.ptype = Machine.ptAtomic || p.ptype = Machine.ptLockReq || p.ptype = Machine.ptLockRel ||
  p.ptype = Machine.ptMgmtRd || p.ptype = Machine.ptMgmtWr || p.ptype = Machine.ptRoute ||
  (p.ptype = Machine.ptIsolate && Machine.nbits (p.word 0) 28 4 ≠ 2)

end Sys2Proof

namespace Sys2Proof.Machine

/-- A token as a packet of this node (R361). -/
def Dev.tokenPacket (d : Dev) (t : Token) : FPacket :=
  if t.kind = 3 then
    { ptype := ptLockGrant, mc := 3, epoch := t.epoch, pspec := d.fbn.nodeId, words := [t.w0, t.w1, t.w2] }
  else { ptype := ptToken, mc := 2, epoch := t.epoch, pspec := d.fbn.nodeId, words := [t.w0, t.w1, t.w2] }

/-- A REFUSE packet to a node (R362). -/
def Dev.refusePacket (d : Dev) (t : Token) (n : BitVec 16) : FPacket :=
  { ptype := ptRefuse, mc := 5, epoch := d.fab.cur, pspec := n, words := [t.w0, t.w1, t.w2] }

/-- What a TK8 does with a packet (R356). -/
inductive Routing where
  | deliver
  | absorb (status : Byte) (noroute : Bool)
  | send (l : LinkId)
deriving DecidableEq, Repr

/-- R356: the entry of the routing node in the bank that the packet's EPOCH names. -/
def Dev.routeNode (d : Dev) (n : BitVec 16) (epoch : Bool) (arrivedOn : Option LinkId) : Routing :=
  if n = d.fbn.nodeId then .deliver
  else if d.fbn.isolated.contains n.toNat then .absorb stIsolated false
  else
    let e := mget 0 d.fbn.rt (b2n epoch * 65536 + n.toNat)
    let pri : LinkId := bits e 0 6
    let alt : LinkId := bits e 8 6
    if !bit e 15 || arrivedOn = some pri || (bit e 14 && arrivedOn = some alt) then .absorb stNotFound true
    else if (d.link pri).up then .send pri
    else if bit e 14 && (d.link alt).up then .send alt
    else .absorb stIsolated false

/-- NOROUTE, an INFO fault. -/
def Dev.norouteFault (d : Dev) : Dev := d.fault rFbnErr 2 77 [] []

/-- A token or event that the hub absorbs counts as consumed if its graph is loaded here (R356, R376). -/
def Dev.hubAbsorb (d : Dev) (g : GraphId) (colour : Bool) : Dev :=
  if (d.graph g).isSome then d.hubConsume g colour else d

/-- The R0 word of a response (R364). -/
def respR0 (node tag : BitVec 16) (status : Byte) (pmask : Byte) : Word :=
  node ++ tag ++ status ++ (0 : Byte) ++ pmask ++ (0 : Byte)

/-- A MEM_RESP from a node to a requester, in the class of its request (R359, R364). -/
def Dev.respFrom (d : Dev) (src node : BitVec 16) (mc : BitVec 3) (tag : BitVec 16) (status pmask : Byte) (data : List Word) :
    FPacket :=
  { ptype := ptMemResp, mc := if mc = 6 then 6 else 1, epoch := d.fab.cur, pspec := node
    words := respR0 src tag status pmask :: data }

/-- A MEM_RESP of this node. -/
def Dev.respPacket (d : Dev) (node : BitVec 16) (mc : BitVec 3) (tag : BitVec 16) (status pmask : Byte) (data : List Word) :
    FPacket :=
  d.respFrom d.fbn.nodeId node mc tag status pmask data

/-- The answer to an absorbed request: it carries the node that the request was for, so that it matches (R356, R372, log 32). -/
def Dev.absorbedResp (d : Dev) (p : FPacket) (status : Byte) : FPacket :=
  d.respFrom p.pspec (bits (p.word 0) 48 16) p.mc (bits (p.word 0) 32 16) status 0 []

/-- A Fober packet that ends without arriving: a token or event is consumed (R356, R376). -/
def Dev.loseFob (d : Dev) (p : FPacket) : Dev :=
  if p.ptype = ptToken || p.ptype = ptRefuse || p.ptype = ptLockGrant then d.hubAbsorb p.token.graph p.token.colour
  else if p.ptype = ptEvent then d.hubAbsorb (bits (p.word 0) 32 6) (d.hubColour (bits (p.word 0) 32 6))
  else d

/-- A packet toward its routing node, or the answer of its absorption: one for this node waits for the command that handles it. -/
def Dev.trySend (d : Dev) (p : FPacket) : Dev × Option Byte :=
  match d.routeNode p.node p.epoch none with
  | .deliver => ({ d with fbn := { d.fbn with delivered := d.fbn.delivered ++ [p] } }, none)
  | .send l => (d.toLink l p, none)
  | .absorb st noroute => ((if noroute then d.norouteFault else d).loseFob p, some st)

/-- A packet sent toward its routing node. One without a way is absorbed: a request is answered with the status, tokens and events are
consumed, and the rest is lost (R356). -/
def Dev.sendFob (d : Dev) (p : FPacket) : Dev :=
  match d.trySend p with
  | (d, none) => d
  | (d, some st) => if p.isRequest then (d.trySend (d.absorbedResp p st)).1 else d

/-! ### Packets on the package -/

/-- Message class (R292). -/
def Pkt.mc : Pkt → BitVec 3
  | .tok t _ _ => if t.kind = 3 then 3 else 2
  | .req _ => 0
  | .rsp _ => 1
  | .ev _ _ => 3
  | .evAsk _ _ _ _ => 3
  | .evGrant _ _ _ _ => 3
  | .evGive _ _ => 3
  | .refuse _ _ _ => 5
  | .fob p => p.mc

/-- The graph of a packet; 0 for one of no graph. -/
def Pkt.graph : Pkt → GraphId
  | .tok t _ _ => t.graph
  | .req r => r.graph
  | .rsp r => r.graph
  | .ev _ e => e.graph
  | .evAsk _ _ g _ => g
  | .evGrant _ _ g _ => g
  | .evGive _ g => g
  | .refuse t _ _ => t.graph
  | .fob p =>
    if p.ptype = ptToken || p.ptype = ptRefuse || p.ptype = ptLockGrant then p.token.graph
    else if p.ptype = ptEvent then bits (p.word 0) 32 6
    else 0

/-- A packet that carries an item of a graph: the census keeps its bank in use (R302). -/
def Pkt.ofGraph : Pkt → Bool
  | .rsp _ => true
  | .fob p => p.ptype = ptToken || p.ptype = ptRefuse || p.ptype = ptLockGrant || p.ptype = ptEvent
  | _ => true

def Pkt.cls : Pkt → BitVec 3
  | .tok t _ _ => t.cls
  | .refuse t _ _ => t.cls
  | _ => 0

/-- The stack of an HBM address (R234). -/
def addrStack (a : BitVec 48) : DieId := BitVec.ofNat 2 (a.toNat / 0x600000000)

/-- TGT values (R290). -/
def tgtHbm (s : DieId) : BitVec 7 := BitVec.ofNat 7 (64 + s.toNat)
def tgtPort (p : BitVec 4) : BitVec 7 := BitVec.ofNat 7 (68 + p.toNat)
def tgtHub : BitVec 7 := 84
def tgtCluster (n : ClusterId) : BitVec 7 := n.setWidth 7

/-- Where a packet goes on the package: a target, or nowhere (absorbed with a status; delivered at the hub's Fober side). -/
inductive Way where
  | target (t : BitVec 7)
  | here
  | absorb (status : Byte) (noroute : Bool)
deriving DecidableEq, Repr

def Routing.way : Routing → Way
  | .deliver => .here
  | .absorb s n => .absorb s n
  | .send l => .target (tgtPort (linkPort l))

/-- The way of a packet (R290, R356). A REFUSE packet goes to the Yo-yo of its sender's die, beside that die's stack
(log 20). -/
def Dev.way (d : Dev) (p : Pkt) : Way :=
  match p with
  | .tok t _ _ =>
    if t.node = d.fbn.nodeId then .target (tgtCluster (cellCluster t.cell))
    else (d.routeNode t.node t.epoch none).way
  | .req r => .target (if bit r.addr 47 then tgtHub else tgtHbm (addrStack r.addr))
  | .rsp r => .target (tgtCluster (cellCluster r.dst))
  | .ev c _ => .target (tgtCluster (cellCluster c))
  | .evAsk c _ _ _ => .target (tgtCluster (cellCluster c))
  | .evGrant c _ _ _ => .target (tgtCluster (cellCluster c))
  | .evGive c _ => .target (tgtCluster (cellCluster c))
  | .refuse _ s _ =>
    match s with
    | .node n => (d.routeNode n d.fab.cur none).way
    | _ => .target (tgtHbm s.die)
  | .fob q => (d.routeNode q.node q.epoch none).way

/-- A packet in the form it has on a Fober link. -/
def Dev.toFob (d : Dev) (p : Pkt) : Option FPacket :=
  match p with
  | .tok t _ _ => some (d.tokenPacket t)
  | .refuse t (.node n) _ => some (d.refusePacket t n)
  | .fob q => some q
  | _ => none

/-! ### Absorption (R310) -/

/-- The answer to a request absorbed with status ISOLATED. -/
def isolatedAnswer (r : MemReq) : Answer :=
  if r.op = .lock || r.op = .trylock || r.op = .unlock then .value (lockWord r.addr stIsolated) false else .memError

/-- A response to a cell's request stands in the cell's inbox; it is lost with an isolated cell. -/
def Dev.toInbox (d : Dev) (r : MemRsp) : Dev :=
  if (d.cell r.dst).isolated then d
  else d.modPipe r.dst fun p => { p with inbox := p.inbox ++ [.rsp r] }

/-- A packet that ends without arriving: consumed or discarded by its kind. -/
def Dev.losePacket (d : Dev) (p : Pkt) : Dev :=
  match p with
  | .tok t _ _ => d.hubAbsorb t.graph t.colour
  | .refuse t _ _ => d.hubAbsorb t.graph t.colour
  | .ev _ e => d.hubAbsorb e.graph e.colour
  | .fob q => d.loseFob q
  | _ => d

end Sys2Proof.Machine
end

