-- ==== Sys2Proof/Machine/Mesh.lean ====
section
/-! DEFINITION. The on-package fabric: what it holds, its routers and modules, routes, how units send into it, the retry of returned
tokens, and the route banks (R213, R287, R290, R294, R299, R301 to R304). -/

namespace Sys2Proof.Machine

/-! ### What the fabric holds -/

/-- Flits with their packets changed or dropped; a flit left empty goes. -/
def mapFlits (p : Pkt → Option Pkt) (l : List Flit) : List Flit :=
  (l.map fun f => { f with pkts := f.pkts.filterMap p }).filter fun f => !f.pkts.isEmpty

/-- A map whose lists are changed, an empty list being unlisted. -/
def mapLists {α : Type} (f : List α → List α) (m : Map (List α)) : Map (List α) :=
  (m.map fun x => (x.1, f x.2)).filter fun x => !x.2.isEmpty

/-- A module end before any flit: the first acknowledgement names 4,095, as on a Fober link (R299, R335). -/
def d2dReset : D2dEnd :=
  { out := [], retry := [], replay := 0, txSeq := 0, exp := 0, ackSeq := 4095, nak := false, inq := [] }

/-- A module end with its packets changed or dropped; a flit that has a SEQ keeps it. -/
def D2dEnd.mapPkts (p : Pkt → Option Pkt) (e : D2dEnd) : D2dEnd :=
  { e with
    out := mapFlits p e.out, inq := mapFlits p e.inq
    retry := e.retry.map fun x => (x.1, { x.2 with pkts := x.2.pkts.filterMap p }) }

/-- The fabric with its packets changed or dropped. -/
def Fabric.mapPkts (f : Fabric) (p : Pkt → Option Pkt) : Fabric :=
  let on := mapLists (mapFlits p)
  { f with
    vcs := on f.vcs
    dry := f.dry.filter fun x => ((mget [] f.vcs x.1).head?.map (·.packed)) = ((mget [] (on f.vcs) x.1).head?.map (·.packed))
    hubq := on f.hubq, hold := on f.hold, cross := on f.cross
    d2d := (f.d2d.map fun x => (x.1, x.2.mapPkts p)).filter fun x => x.2 ≠ d2dReset }

/-- Every packet on the package, in the cells' crossbar buffers and in the fabric, changed or dropped. -/
def Dev.mapPkts (d : Dev) (p : Pkt → Option Pkt) : Dev :=
  { d with
    cells := d.cells.map fun x => (x.1, { x.2 with pipe := { x.2.pipe with
      egress := x.2.pipe.egress.filterMap fun o => (p o.pkt).map fun q => { o with pkt := q }
      inbox := x.2.pipe.inbox.filterMap p } })
    fab := d.fab.mapPkts p }

/-- Ends of module m: 2 × m the die of the lower number, or the die of a hub module; 2 × m + 1 the other side. -/
def otherEnd (e : Nat) : Nat := if e % 2 = 0 then e + 1 else e - 1

/-- Sent flits that the other end has not accepted. -/
def Fabric.unaccepted (f : Fabric) (e : Nat) : List Flit :=
  let exp := (mget d2dReset f.d2d (otherEnd e)).exp
  ((mget d2dReset f.d2d e).retry.filter fun x => (x.1 - exp).toNat < 2048).map (·.2)

/-- Every flit in the fabric, once. -/
def Fabric.flits (f : Fabric) : List Flit :=
  ((f.vcs ++ f.hubq ++ f.cross ++ f.hold).flatMap (·.2)) ++
  f.d2d.flatMap fun x => x.2.out ++ f.unaccepted x.1 ++ x.2.inq

/-! ### Routers (R287, R288) -/

def routerRow (r : ClusterId) : Nat := nbits r 2 2
def routerCol (r : ClusterId) : Nat := nbits r 0 2
def routerAt (die : DieId) (row col : Nat) : ClusterId := BitVec.ofNat 6 (die.toNat * 16 + row * 4 + col)

/-- Outputs 0 N, 1 E, 2 S, 3 W, 4 local; the input port on the other side. -/
def opposite (o : Nat) : Nat := if o < 4 then (o + 2) % 4 else 4

/-- The neighbour on a side, none at an edge. -/
def neighbour (r : ClusterId) (o : Nat) : Option ClusterId :=
  let die := clusterDie r
  let row := routerRow r
  let col := routerCol r
  match o with
  | 0 => if row = 0 then none else some (routerAt die (row - 1) col)
  | 1 => if col = 3 then none else some (routerAt die row (col + 1))
  | 2 => if row = 3 then none else some (routerAt die (row + 1) col)
  | 3 => if col = 0 then none else some (routerAt die row (col - 1))
  | _ => none

/-- What stands beyond an output of a router (R287): another router and its input, its own cluster, an HBM controller, a Fober port,
this end of a UCIe module. -/
inductive Beyond where
  | router (r : ClusterId) (port : Nat)
  | cluster (n : ClusterId)
  | hbm (s : DieId)
  | port (p : BitVec 4)
  | module (e : Nat)
  | nothing
deriving DecidableEq, Repr

/-- The other die of the row. -/
def rowMate (d : DieId) : DieId := d ^^^ 1

/-- UCIe modules by number: row edges 0 to 3 and 4 to 7, hub modules 8 + 2 × die + module. -/
def edgeModule (die : DieId) (row : Nat) : Nat := die.toNat / 2 * 4 + row

def beyond (r : ClusterId) (o : Nat) : Beyond :=
  let die := clusterDie r
  let row := routerRow r
  let col := routerCol r
  if o = 4 then .cluster r
  else
    match neighbour r o with
    | some q => .router q (opposite o)
    | none =>
      if o = 0 then .port (BitVec.ofNat 4 (4 * die.toNat + col))
      else if o = 1 then .module (2 * edgeModule die row + die.toNat % 2)
      else if o = 3 && (row = 1 || row = 2) then .hbm die
      else if o = 2 && (col = 1 || col = 2) then .module (2 * (8 + 2 * die.toNat + (col - 1)))
      else .nothing

/-- The router at an end of a module and its input there; none: the hub. -/
def endRouter (e : Nat) : Option (ClusterId × Nat) :=
  let m := e / 2
  if m < 8 then some (routerAt (BitVec.ofNat 2 (m / 4 * 2 + e % 2)) (m % 4) 3, 1)
  else if e % 2 = 0 then some (routerAt (BitVec.ofNat 2 ((m - 8) / 2)) 3 (m % 2 + 1), 2)
  else none

def Dev.moduleTarget (m : Nat) : Target := if m < 8 then .d2d (BitVec.ofNat 3 m) else .hubModule (BitVec.ofNat 3 (m - 8))

def Dev.moduleUp (d : Dev) (m : Nat) : Bool := !bit d.fab.d2dDown m && !d.isoTarget (Dev.moduleTarget m)

/-! ### Routes (R294, R301) -/

/-- The route entry of a die for a target in the bank of an EPOCH. -/
def Dev.rtEntry (d : Dev) (die : DieId) (tgt : BitVec 7) (epoch : Bool) : BitVec 16 :=
  mget 0 d.fab.rt (b2n epoch * 512 + die.toNat * 128 + tgt.toNat)

/-- The die of a target; the hub lies on none. -/
def tgtDie (tgt : BitVec 7) : Option DieId :=
  let n := tgt.toNat
  if n < 64 then some (BitVec.ofNat 2 (n / 16))
  else if n < 68 then some (BitVec.ofNat 2 (n - 64))
  else if n < 84 then some (BitVec.ofNat 2 ((n - 68) / 4))
  else none

/-- A flit goes through the hub by its entry: to another row, to the hub, or by VIAHUB. -/
def viaHub (die : DieId) (tgt : BitVec 7) (e : BitVec 16) : Bool :=
  match tgtDie tgt with
  | none => true
  | some t => t ≠ die && (t ≠ rowMate die || (bit e 15 && bit e 7))

/-- Hub module m of a die may be used: LINKS bits 0 and 1 of a valid entry by which the flit goes through the hub. The target hub
is in neither case of R301, so an entry for it with LINKS 0 leaves both (DESIGN CHOICE, log 77). -/
def hubLink (die : DieId) (tgt : BitVec 7) (e : BitVec 16) (m : Nat) : Bool :=
  !bit e 15 || !viaHub die tgt e || ((tgtDie tgt).isNone && nbits e 8 4 = 0) || bit e (8 + m)

/-- The hub module by which a flit leaves a die: the lowest that it may use and that is up. -/
def Dev.hubExit (d : Dev) (die : DieId) (tgt : BitVec 7) (e : BitVec 16) : Option Nat :=
  [0, 1].find? fun m => hubLink die tgt e m && d.moduleUp (8 + 2 * die.toNat + m)

/-- The row of the router at which a flit came into the mesh of the die; the hub's routers are in row 3. -/
def sourceRow (die : DieId) (f : Flit) : Nat :=
  if cellDie f.src = die then routerRow (cellCluster f.src) else 3

/-- The row-edge module by which a flit leaves a die: in the adaptive channel the one in the source router's row when it may be used,
the lowest otherwise; in the escape channel the lowest (R301). -/
def Dev.edgeExit (d : Dev) (die : DieId) (f : Flit) (e : BitVec 16) (esc : Bool) : Option Nat :=
  let allowed := fun (m : Nat) => (!bit e 15 || bit e (8 + m)) && d.moduleUp (edgeModule die m)
  let row := sourceRow die f
  if !esc && allowed row then some row else [0, 1, 2, 3].find? allowed

/-- Where a flit leaves the die it is on: row, column and port; none: no way is up. Between the dies of a row whose four modules
are down the way is through the hub (R299). -/
def Dev.goal (d : Dev) (r : ClusterId) (f : Flit) (esc : Bool) : Option (Nat × Nat × Nat) :=
  let die := clusterDie r
  let e := d.rtEntry die f.tgt f.epoch
  let n := f.tgt.toNat
  let hub := (d.hubExit die f.tgt e).map fun m => (3, m + 1, 2)
  if viaHub die f.tgt e then hub
  else if tgtDie f.tgt = some die then
    if n < 64 then some (n / 4 % 4, n % 4, 4)
    else if n < 68 then some (if routerRow r ≤ 1 then 1 else 2, 0, 3)
    else some (0, (n - 68) % 4, 0)
  else
    match d.edgeExit die f e esc with
    | some m => some (m, 3, 1)
    | none => hub

/-- The outputs toward a goal, X first. -/
def towards (r : ClusterId) (g : Nat × Nat × Nat) : Option Nat × Option Nat :=
  let x := if routerCol r < g.2.1 then some 1 else if g.2.1 < routerCol r then some 3 else none
  let y := if routerRow r < g.1 then some 2 else if g.1 < routerRow r then some 0 else none
  (x, y)

/-- Outputs the adaptive channel permits, by ORDER (R301). -/
def Dev.adaptiveOuts (d : Dev) (r : ClusterId) (f : Flit) : List Nat :=
  match d.goal r f false with
  | none => []
  | some g =>
    let e := d.rtEntry (clusterDie r) f.tgt f.epoch
    let order := if bit e 15 then nbits e 5 2 else 0
    match towards r g with
    | (none, none) => [g.2.2]
    | (some x, none) => [x]
    | (none, some y) => [y]
    | (some x, some y) => if order = 1 then [y] else if order = 2 then [x, y] else [x]

/-- The escape channel's output: X then Y (R294). -/
def Dev.escapeOut (d : Dev) (r : ClusterId) (f : Flit) : Option Nat :=
  match d.goal r f true with
  | none => none
  | some g =>
    match towards r g with
    | (some x, _) => some x
    | (none, some y) => some y
    | _ => some g.2.2

/-! ### Units send (R287, R290) -/

/-- Mesh cycles run, `sub` cycles into the current µs. -/
def Dev.meshNow (d : Dev) (sub : Nat) : Nat := d.clock.run * 2 + sub

def flitOf (tgt : BitVec 7) (src : CellId) (now : Nat) (epoch : Bool) (ps : List Pkt) (mc : BitVec 3) (g : GraphId) : Flit :=
  { tgt := tgt, mc := mc, esc := false, epoch := epoch
    cls := ps.foldl (fun m p => if m.toNat < p.cls.toNat then p.cls else m) 0
    graph := g, src := src, packed := now, out := none, inj := none, pkts := ps }

/-- A packet's EPOCH: a token's own, a Fober packet's own, else the bank in force (R290). -/
def Dev.pktEpoch (d : Dev) (p : Pkt) : Bool :=
  match p with
  | .tok t _ _ => t.epoch
  | .fob q => q.epoch
  | _ => d.fab.cur

/-- A packet without a way out of the module (R356): it is absorbed. -/
def Dev.absorbPacket (d : Dev) (p : Pkt) (noroute : Bool) : Dev :=
  (if noroute then d.norouteFault else d).losePacket p

/-- Crossings into routers: of Fober port p, of the HBM controller of die s. -/
def portCross (p : BitVec 4) : Nat := p.toNat
def hbmCross (s : DieId) : Nat := 16 + s.toNat

def Dev.crossing (d : Dev) (k : Nat) : List Flit := mget [] d.fab.cross k
def Dev.setCrossing (d : Dev) (k : Nat) (l : List Flit) : Dev :=
  { d with fab := { d.fab with cross := mset [] d.fab.cross k l } }

/-- A packet alone in a flit, into a crossing. -/
def Dev.intoCross (d : Dev) (k : Nat) (tgt : BitVec 7) (r : ClusterId) (p : Pkt) : Dev :=
  d.setCrossing k (d.crossing k ++ [flitOf tgt (clusterCell r) (d.meshNow 0) (d.pktEpoch p) [p] p.mc p.graph])

/-- A packet sent by an HBM controller, lock unit or Yo-yo of a die: into the crossing of 64 packets to routers (1, 0) and (2, 0),
behind which the unit's own buffers stand (R304). -/
def Dev.sendFromDie (d : Dev) (s : DieId) (p : Pkt) : Dev :=
  match d.way p with
  | .target tgt => d.intoCross (hbmCross s) tgt (routerAt s 1 0) p
  | .here =>
    match d.toFob p with
    | some q => d.sendFob q
    | none => d
  | .absorb _ noroute => d.absorbPacket p noroute

/-- Inputs of the hub switch: die modules 0 to 7, the host interface 8, the management complex 9. -/
def hubHost : Nat := 8
def hubMgt : Nat := 9

/-- The input channel of a message class at a hub input, and the staging before inputs 8 and 9, where the hub's own units queue. -/
def hubKey (inp : Nat) (mc : BitVec 3) (esc : Bool) : Nat := (inp * 8 + mc.toNat) * 2 + b2n esc
def stageKey (inp : Nat) : Nat := 256 + inp

def Dev.hubIn (d : Dev) (k : Nat) : List Flit := mget [] d.fab.hubq k
def Dev.setHubIn (d : Dev) (k : Nat) (l : List Flit) : Dev := { d with fab := { d.fab with hubq := mset [] d.fab.hubq k l } }

/-- A packet sent by the hub; `inj`: the INJECT descriptor whose token it is. -/
def Dev.sendStaged (d : Dev) (inp : Nat) (inj : Option (BitVec 12 × Nat)) (p : Pkt) : Dev :=
  match d.way p with
  | .target tgt =>
    d.setHubIn (stageKey inp) (d.hubIn (stageKey inp) ++
      [{ flitOf tgt 0 (d.meshNow 0) (d.pktEpoch p) [p] p.mc p.graph with inj := inj }])
  | .here =>
    match d.toFob p with
    | some q => d.sendFob q
    | none => d
  | .absorb _ noroute => d.absorbPacket p noroute

/-- A packet sent by the hub. -/
def Dev.sendFromHub (d : Dev) (inp : Nat) (p : Pkt) : Dev := d.sendStaged inp none p

/-- The cells of a cluster. -/
def clusterCells (n : ClusterId) : List CellId := (List.range 16).map fun i => BitVec.ofNat 10 (16 * n.toNat + i)

/-! ### RETRY_SEND (R213) -/

def RtsRec.sender (r : RtsRec) : Sender := if r.hub then .hub else .cell r.src

/-- RETRY_SEND: the record at the head goes to its destination by its own EPOCH when it is due, and to the tail when it is
not. -/
def retrySend (k : DieId) (d : Dev) : Dev :=
  let y := d.yoyo k
  match y.rts with
  | [] => d
  | r :: rest =>
    let head := (y.head + 1) % (d.rtsPlaces + 1)
    if d.isDue r then
      (d.setYoyo k ({ y with rts := rest, head := head }.wrote (d.rtsPlaces + 1))).sendFromDie k (.tok r.tok r.sender r.count)
    else d.setYoyo k ({ y with rts := rest ++ [r], head := head }.wrote (d.rtsPlaces + 1))

/-! ### Route banks (R299, R302, R303) -/

/-- Packets of no graph, or other than tokens and events, that still travel under a bank: the hub's count of R302. -/
def Dev.oldFlits (d : Dev) (epoch : Bool) : Bool :=
  d.fab.flits.any fun f => f.epoch = epoch && f.pkts.any fun p => !p.ofGraph

/-- The bank in force toggles; the graphs loaded now have to drain (R302). A wave in progress does not count. -/
def Dev.flip (d : Dev) : Dev :=
  { d with fab := { d.fab with
      cur := !d.fab.cur
      retiring := true
      drains := (d.graphs.filter fun p => p.2.launched && !p.2.complete).map fun p =>
        (p.1, if p.2.waveNow.isSome then 3 else 2) } }

/-- A route entry without hub module `b` of its die. Default routing becomes an entry that names the other module; with neither left
it is default routing again, which finds no way (DESIGN CHOICE, log 77). -/
def dropHubLink (b : Nat) (e : BitVec 16) : BitVec 16 :=
  let links := (if bit e 15 then nbits e 8 2 else 3) &&& (3 - 2 ^ b)
  if links = 0 then 0
  else BitVec.ofNat 16 (0x8000 + links * 256 + (if bit e 15 then nbits e 5 3 * 32 else 0))

/-- A route entry without row-edge module `b`; with none left the way is through the hub (R299). -/
def dropEdgeLink (b : Nat) (e : BitVec 16) : BitVec 16 :=
  let order := if bit e 15 then nbits e 5 2 * 32 else 0
  let links := (if bit e 15 then nbits e 8 4 else 15) &&& (15 - 2 ^ b)
  if links = 0 then BitVec.ofNat 16 (0x8000 + 0x300 + 0x80 + order) else BitVec.ofNat 16 (0x8000 + links * 256 + order)

/-- The entry of a die for a target without module m. -/
def dropModule (m : Nat) (die : DieId) (tgt : BitVec 7) (e : BitVec 16) : BitVec 16 :=
  if 8 ≤ m then (if (m - 8) / 2 = die.toNat && viaHub die tgt e then dropHubLink (m % 2) e else e)
  else if die.toNat / 2 = m / 4 && tgtDie tgt = some (rowMate die) && !viaHub die tgt e then dropEdgeLink (m % 4) e
  else e

/-- The entries of the bank in force, in the place of the inactive bank, without some modules. -/
def Dev.bankWithout (d : Dev) (ms : List Nat) : Map (BitVec 16) :=
  (List.range 512).filterMap fun i =>
    let die : DieId := BitVec.ofNat 2 (i / 128)
    let tgt : BitVec 7 := BitVec.ofNat 7 (i % 128)
    let e := if i % 128 < 85 then ms.foldl (fun e m => dropModule m die tgt e) (d.rtEntry die tgt d.fab.cur) else 0
    if e = 0 then none else some (b2n (!d.fab.cur) * 512 + i, e)

/-- The Fober route entries of the bank in force, in the place of the inactive bank. -/
def Dev.fobCopy (d : Dev) : Map (BitVec 16) :=
  (d.fbn.rt.filter fun x => x.1 / 65536 = b2n d.fab.cur).map fun x => (b2n (!d.fab.cur) * 65536 + x.1 % 65536, x.2)

/-- The Puppeteer's route change when modules are down (R299): it writes the inactive bank from the one in force without them, the
Fober routes alike since one bank selector governs both (R302), and flips. -/
def Dev.routeChange (d : Dev) : Dev :=
  let ms := (List.range 16).filter fun m => bit d.fab.routeTodo m
  if ms.isEmpty || d.fab.retiring then d
  else
    let mine := d.bankWithout ms
    let fob := d.fobCopy
    let rt := d.fab.rt.filter fun x => x.1 / 512 = b2n d.fab.cur
    let frt := d.fbn.rt.filter fun x => x.1 / 65536 = b2n d.fab.cur
    ({ d with
      fab := { d.fab with rt := if d.fab.cur then mine ++ rt else rt ++ mine, routeTodo := 0 }
      fbn := { d.fbn with rt := if d.fab.cur then fob ++ frt else frt ++ fob } } : Dev).flip

/-- ROUTE_BANK_RETIRE: every graph loaded at the flip has drained, and no packet of no graph is left under the old bank. A
module that took a fabric flip waits for RETIRE (R358). A route change that had to wait is made then. -/
def routeRetire (d : Dev) : Dev :=
  if d.fab.retiring && d.fab.drains.isEmpty && !d.oldFlits (!d.fab.cur) && !d.fbn.retireWait then
    ({ d with fab := { d.fab with retiring := false } } : Dev).routeChange
  else d

/-- D2D_DOWN: a module fails (R299). The Puppeteer removes it from every route entry, at once or when the last route change has
retired (R303). What stands in the module stays there (DESIGN CHOICE, log 77). -/
def d2dFails (m : BitVec 4) (d : Dev) : Dev :=
  let b := 1#16 <<< m.toNat
  ({ d with fab := { d.fab with d2dDown := d.fab.d2dDown ||| b, routeTodo := d.fab.routeTodo ||| b } }.fault rMshErr 3 67 [] []).routeChange

/-! ### The commands -/

/-- RETRY_SEND. -/
def execRetrySend (d : DieId) (s : State) : Host.Outcome State Fault Refusal :=
  onDies (retrySend d) s

/-- ROUTE_BANK_RETIRE. -/
def execRouteBankRetire (s : State) : Host.Outcome State Fault Refusal :=
  onHub routeRetire s

/-- D2D_DOWN. -/
def execD2dDown (m : BitVec 4) (s : State) : Host.Outcome State Fault Refusal :=
  onDies (d2dFails m) s

end Sys2Proof.Machine
end

