-- ==== Sys2Proof/Machine/Rings.lean ====
section
/-! DEFINITION. Rings of the host interface: their indexes, completion and output entries, notices, moderation and doorbells
(R390 to R393, R404 to R407). -/

namespace Sys2Proof.Machine

/-! ### Ring pairs and output rings -/

def pairReset : Pair :=
  { sqHead := 0, sqTail := 0, cqHead := 0, cqTail := 0, phase := true, reserved := 0, fetched := 0, fenced := false, started := [] }

def oringReset : ORing := { oHead := 0, oTail := 0, phase := true, count := 0, accepted := [] }

def Dev.pair (d : Dev) (r : BitVec 12) : Pair := mget pairReset d.hif.pairs r.toNat
def Dev.modPair (d : Dev) (r : BitVec 12) (f : Pair → Pair) : Dev :=
  { d with hif := { d.hif with pairs := mset pairReset d.hif.pairs r.toNat (f (d.pair r)) } }

def Dev.oring (d : Dev) (o : BitVec 10) : ORing := mget oringReset d.hif.orings o.toNat
def Dev.modOring (d : Dev) (o : BitVec 10) (f : ORing → ORing) : Dev :=
  { d with hif := { d.hif with orings := mset oringReset d.hif.orings o.toNat (f (d.oring o)) } }

/-- The function a ring pair is assigned to; the physical function at first (R388). -/
def Dev.pairFn (d : Dev) (r : BitVec 12) : GraphId := mget 0 d.hif.pairFn r.toNat

def Dev.pairEn (d : Dev) (r : BitVec 12) : Bool := d.fld (rRcfg r.toNat) 31 1 = 1
def Dev.oringEn (d : Dev) (o : BitVec 10) : Bool := d.fld (rOcfg o.toNat) 31 1 = 1
def Dev.pairSize (d : Dev) (r : BitVec 12) : Nat := 2 ^ d.fld (rRcfg r.toNat) 0 5
def Dev.oringSize (d : Dev) (o : BitVec 10) : Nat := 2 ^ d.fld (rOcfg o.toNat) 0 5
def Dev.pairVec (d : Dev) (r : BitVec 12) : BitVec 5 := BitVec.ofNat 5 (d.fld (rRcfg r.toNat) 16 5)
def Dev.oringVec (d : Dev) (o : BitVec 10) : BitVec 5 := BitVec.ofNat 5 (d.fld (rOcfg o.toNat) 16 5)

/-- Entries a ring holds, from its indexes. -/
def ringUsed (size : Nat) (prod cons : BitVec 16) : Nat := (prod.toNat + size - cons.toNat) % size

/-- The next index of a ring (R390). -/
def nextIndex (size : Nat) (i : BitVec 16) : BitVec 16 := BitVec.ofNat 16 ((i.toNat + 1) % size)

/-- Free completion entries not reserved (R395). -/
def Dev.cqFree (d : Dev) (r : BitVec 12) : Nat :=
  d.pairSize r - 1 - ringUsed (d.pairSize r) (d.pair r).cqTail (d.pair r).cqHead - (d.pair r).reserved

/-! ### Completion entries (R404) -/

/-- Word 0 of a completion entry. -/
def cqWord (tag : BitVec 32) (sqHead : BitVec 16) (status : Byte) (type_ : BitVec 4) (phase : Bool) : Word :=
  tag ++ sqHead ++ status ++ type_ ++ (0 : BitVec 3) ++ b2v phase

/-- An entry written into a completion ring, with its vector's count (R391, R407). -/
def Dev.putCq (d : Dev) (r : BitVec 12) (tag : BitVec 32) (status : Byte) (type_ : BitVec 4) (result : Word) (irq : Bool) :
    Dev :=
  let p := d.pair r
  let size := d.pairSize r
  let addr := d.reg (rCqbase r.toNat) + BitVec.ofNat 64 (16 * p.cqTail.toNat)
  let next := nextIndex size p.cqTail
  let d := d.emit (.hostWrite (d.pairFn r) addr 16 [cqWord tag p.sqHead status type_ p.phase, result] [])
  let d := d.modPair r fun p => { p with cqTail := next, phase := xor p.phase (next = 0) }
  d.signal (d.pairFn r) (d.pairVec r) irq

def Desc.w (x : Desc) (i : Nat) : Word := x.words.getD i 0
def Desc.opc (x : Desc) : Byte := bits (x.w 0) 56 8
def Desc.ver (x : Desc) : Byte := bits (x.w 0) 48 8
def Desc.fence (x : Desc) : Bool := bit (x.w 0) 47
def Desc.irq (x : Desc) : Bool := bit (x.w 0) 46
def Desc.tag (x : Desc) : BitVec 32 := bits (x.w 0) 0 32

/-- Descriptor k of those in progress on ring pair r. -/
def Dev.desc (d : Dev) (r : BitVec 12) (k : Nat) : Option Desc := (d.pair r).started[k]?

/-- The place of the descriptor with a number. -/
def Dev.placeOf (d : Dev) (r : BitVec 12) (index : Nat) : Option Nat := (d.pair r).started.findIdx? fun x => x.index = index

/-- A descriptor completes: it leaves its ring's list, and its entry takes the place reserved for it. -/
def Dev.complete (d : Dev) (r : BitVec 12) (k : Nat) (status : Byte) (result : Word) : Dev :=
  match takeAt (d.pair r).started k with
  | none => d
  | some (x, rest) =>
    (d.modPair r fun p => { p with started := rest, reserved := p.reserved - 1 }).putCq r x.tag status 0 result x.irq

/-! ### Notices (R223, R227, R404) -/

/-- A notice of a graph written on its ring. -/
def Dev.writeNotice (d : Dev) (g : GraphId) (x : Graph) (n : Notice) : Dev :=
  d.putCq x.ring (g.setWidth 32) n.status n.type_ n.result false

/-- Notices held for a ring. -/
def Dev.heldNotices (d : Dev) (r : BitVec 12) : Bool := d.graphs.any fun p => p.2.ring = r && !p.2.notices.isEmpty

/-- A held notice of the type is replaced; at most one of each type is held. -/
def holdNotice (l : List Notice) (n : Notice) : List Notice :=
  if l.any fun m => m.type_ = n.type_ then l.map fun m => if m.type_ = n.type_ then n else m else l ++ [n]

/-- A notice of a graph: written when its ring has a free entry and holds no earlier one, held otherwise. -/
def Dev.notice (d : Dev) (g : GraphId) (n : Notice) : Dev :=
  match d.graph g with
  | none => d
  | some x =>
    if !d.pairEn x.ring then d
    else if d.cqFree x.ring = 0 || d.heldNotices x.ring then
      d.setGraph g { x with notices := holdNotice x.notices n }
    else d.writeNotice g x n

/-- The graph-complete notice of a run is held: GSTAT.COMPLETE shows the run complete only once it is written (R223, R404). -/
def Graph.runNoticeHeld (x : Graph) : Bool := x.notices.any fun n => n.type_ = 1

/-- The next run of a graph. -/
def Graph.nextRun (x : Graph) (now : Nat) : Graph :=
  { x with launched := true, running := true, complete := false, fresh := false, run := x.run + 1, consumedAt := now }

/-- A run that an INJECT began after the module's last answer starts once the notice of the run before is written
(R223, R404). -/
def Dev.startFresh (d : Dev) (g : GraphId) : Dev :=
  d.modGraph g fun x =>
    if x.fresh && !x.running && !x.runNoticeHeld && x.unloading.isNone then x.nextRun d.clock.run else x

/-- The slot of an unloaded graph is released (R39): its counters go, and the UNLOAD that asked for it completes. -/
def Dev.releaseSlot (d : Dev) (g : GraphId) (by_ : Option (BitVec 12 × Nat)) : Dev :=
  let d := { d with
    graphs := merase d.graphs g.toNat
    fab := { d.fab with drains := merase d.fab.drains g.toNat }
    cells := d.cells.map fun x =>
      (x.1, { x.2 with cen := merase x.2.cen g.toNat, lastCen := merase x.2.lastCen g.toNat })
    stks := d.stks.map fun x => (x.1, { x.2 with cen := merase x.2.cen g.toNat })
    fbn := { d.fbn with
      proxyCen := d.fbn.proxyCen.filter fun x => x.1 % 64 ≠ g.toNat
      refusedOut := d.fbn.refusedOut.filter fun x => x.2.graph ≠ g } }
  match by_ with
  | none => d
  | some (r, i) =>
    match d.placeOf r i with
    | none => d
    | some k => d.complete r k stOk 0

/-- The census of a graph under unload has ended (`complete`): its slot is released once no notice of it is held (R39, R404). -/
def Dev.tryRelease (d : Dev) (g : GraphId) : Dev :=
  match d.graph g with
  | none => d
  | some x =>
    match x.unloading with
    | none => d
    | some by_ => if x.complete && x.notices.isEmpty then d.releaseSlot g by_ else d

/-- NOTICE_WRITE_HELD: the oldest held notice of a graph, once its completion ring has a free entry. -/
def noticeHeld (g : GraphId) (d : Dev) : Dev :=
  match d.graph g with
  | none => d
  | some x =>
    match x.notices with
    | [] => d
    | n :: rest =>
      if d.cqFree x.ring = 0 || !d.pairEn x.ring then d
      else (((d.setGraph g { x with notices := rest }).writeNotice g x n).startFresh g).tryRelease g

/-- The run in progress ends: its notice, OK or ABORTED, carries its number (R223, R404). -/
def Dev.endRun (d : Dev) (g : GraphId) (status : Byte) : Dev :=
  match d.graph g with
  | none => d
  | some x =>
    if x.running then
      (d.setGraph g { x with running := false }).notice g
        { type_ := 1, status := status, result := BitVec.ofNat 64 x.run }
    else d

/-- A ring pair is idle (R392): a loaded graph names it as its notice ring while it holds or may make notices. -/
def Dev.pairIdle (d : Dev) (r : BitVec 12) : Bool :=
  let p := d.pair r
  p.started.isEmpty && p.sqHead = p.sqTail && d.graphs.all fun x => x.2.ring ≠ r

/-- An OUT waits for a ring, or is accepted and not yet written (R392). -/
def Dev.outWaits (d : Dev) (o : BitVec 10) : Bool :=
  !(d.oring o).accepted.isEmpty ||
  d.cells.any fun x => x.2.pipe.ct.any fun e =>
    match e.2.kind with
    | .out ring _ _ _ => ring = o
    | _ => false

/-! ### Output entries (R148, R405) -/

/-- Places free in an output ring beyond the entries accepted for it. -/
def Dev.outRoom (d : Dev) (o : BitVec 10) : Bool :=
  let x := d.oring o
  ringUsed (d.oringSize o) x.oTail x.oHead + x.accepted.length + 1 < d.oringSize o

/-- What an OUT entry becomes (R148, R405); the hub creates it in its own colour (R217). -/
def Dev.outEntry (d : Dev) (c : CellId) (n : CtEntry) (ucode : BitVec 10) (now : Bool) : OutEnt :=
  let a := opndVal n.act.left
  { w0 := a.bits
    w1 := n.act.iter ++ n.act.frame ++ c ++ n.act.graph ++ a.vtype
    w2hi := ucode ++ b2v a.poison ++ (0 : BitVec 21)
    graph := n.act.graph
    colour := d.hubColour n.act.graph
    now := now }

/-- The OUT of a cell that goes first to a ring: the one dispatched first. -/
def Cell.firstOut (x : Cell) (o : BitVec 10) (order : Nat) : Bool :=
  x.pipe.ct.all fun p =>
    match p.2.kind with
    | .out ring _ _ k => ring ≠ o || order ≤ k
    | _ => true

/-- OUT_ACCEPT: the hub accepts a waiting OUT once its ring is enabled, still its function's, and has room. -/
def outAccept (c : CellId) (e : BitVec 10) (d : Dev) : Dev :=
  let x := d.cell c
  match mfind x.pipe.ct e.toNat with
  | none => d
  | some n =>
    match n.kind with
    | .out ring ucode now order =>
      if x.runs && d.oringEn ring && d.outRoom ring && x.firstOut ring order then
        ((d.modOring ring fun y => { y with accepted := y.accepted ++ [d.outEntry c n ucode now] }).hubCreate
          n.act.graph (d.hubColour n.act.graph)).releaseEntry c e.toNat
      else d
    | _ => d

/-- OUTPUT_ENTRY_WRITE: the oldest accepted entry of a ring is written, and counted as consumed. -/
def outWrite (o : BitVec 10) (d : Dev) : Dev :=
  let x := d.oring o
  match x.accepted with
  | [] => d
  | n :: rest =>
    let size := d.oringSize o
    let next := nextIndex size x.oTail
    let addr := d.reg (rObase o.toNat) + BitVec.ofNat 64 (32 * x.oTail.toNat)
    let fn := d.oringFn o.toNat
    let d := d.emit (.hostWrite fn addr 32 [n.w0, n.w1, n.w2hi ++ x.count, (b2v x.phase).setWidth 64] [])
    let d := d.modOring o fun y =>
      { y with oTail := next, phase := xor y.phase (next = 0), count := y.count + 1, accepted := rest }
    (d.signal fn (d.oringVec o) n.now).hubConsume n.graph n.colour

/-- MSIX_TIME: the oldest unsignalled entry of a vector has waited TIME µs; TIME 0 sets no bound (R407). -/
def msixTime (fn : GraphId) (v : BitVec 5) (d : Dev) : Dev :=
  let x := d.vector fn v
  let t := d.fld (rMsimod fn.toNat v.toNat) 0 10
  if x.pend ≠ 0 && t ≠ 0 && x.oldest + 1000 * t ≤ d.clock.run then d.msix fn v else d

/-! ### Doorbells (R393) -/

/-- HIF.FNCFG.DBMODE: the function's doorbells stand in host memory. -/
def Dev.dbMode (d : Dev) (fn : GraphId) : Bool := d.fld (rFncfg fn.toNat) 0 1 = 1

/-- Why a doorbell write is refused: BUSY on a disabled ring, NO_ACCESS in host-memory mode, BAD_VALUE for a bad index. -/
def doorbellStatus (en mode : Bool) (size : Nat) (v : Reg) : Option Byte :=
  if mode then some stNoAccess
  else if size ≤ nbits v 0 16 then some stBadValue
  else if !en then some stBusy
  else none

/-- A host's read of a function's doorbell word for a pair or an output ring: indexes out of range are ignored and set
DB_BAD, a failed read sets POLL. -/
def Dev.pollWord (d : Dev) (size : Nat) (ok : Bool) (v : BitVec 16) (set : BitVec 16 → Dev → Dev) : Dev :=
  if !ok then d else if v.toNat < size then set v d else d.fault rHifErr 0 96 [] []

def Dev.pollFault (d : Dev) : Dev := d.fault rHifErr 1 97 [] []

def HostData.good (h : HostData) : Bool := h.status = .ok && h.words.length ≠ 0

/-- The doorbell words of a function's enabled ring pairs, then of its output rings, in ascending number. -/
def Dev.doorbellRings (d : Dev) (fn : GraphId) : List (BitVec 12 ⊕ BitVec 10) :=
  ((List.range 4096).filterMap fun r =>
    let r := BitVec.ofNat 12 r
    if d.pairEn r && d.pairFn r = fn then some (.inl r) else none) ++
  (List.range 1024).filterMap fun o =>
    let o := BitVec.ofNat 10 o
    if d.oringEn o && d.oringFn o.toNat = fn then some (.inr o) else none

def Dev.pollOne (d : Dev) (ring : BitVec 12 ⊕ BitVec 10) (h : HostData) : Dev :=
  if !HostData.good h then d.pollFault
  else
    let w := h.words.getD 0 0
    match ring with
    | .inl r =>
      let d := d.pollWord (d.pairSize r) true (bits w 0 16) fun v d => d.modPair r fun p => { p with sqTail := v }
      d.pollWord (d.pairSize r) true (bits w 16 16) fun v d => d.modPair r fun p => { p with cqHead := v }
    | .inr o => d.pollWord (d.oringSize o) true (bits w 0 16) fun v d => d.modOring o fun x => { x with oHead := v }

/-- A poll of a function is due: it wrote HIF.WAKE.GO, or HIF.FNCFG.POLL µs have passed since the last one. -/
def Dev.pollDue (d : Dev) (fn : GraphId) : Bool :=
  d.hif.wake.contains fn ||
  (match mfind d.hif.polled fn.toNat with
    | none => true
    | some t => t + 1000 * d.fld (rFncfg fn.toNat) 16 10 ≤ d.clock.run)

/-- DOORBELL_POLL: the hub reads the doorbell words of a function in host-memory mode, when that is due; `reads` are the answers in
ring order. A function without the mode has none. -/
def doorbellPoll (fn : GraphId) (reads : List HostData) (d : Dev) : Dev :=
  if !d.dbMode fn || !d.pollDue fn then d
  else
    let d := { d with hif := { d.hif with wake := d.hif.wake.erase fn, polled := minsert d.hif.polled fn.toNat d.clock.run } }
    let addr := fun (ring : BitVec 12 ⊕ BitVec 10) =>
      match ring with
      | .inl r => d.reg (rDbaddr r.toNat)
      | .inr o => d.reg (rOdbaddr o.toNat)
    ((d.doorbellRings fn).zip reads).foldl (fun d x => (d.readHost fn (addr x.1) 8 x.2.status (!x.2.poisoned.isEmpty)).pollOne x.1 x.2) d

/-! ### The commands -/

/-- OUT_ACCEPT. -/
def execOutAccept (c : CellId) (e : BitVec 10) (s : State) : Host.Outcome State Fault Refusal :=
  onDies (outAccept c e) s

/-- OUTPUT_ENTRY_WRITE. -/
def execOutputEntryWrite (o : BitVec 10) (s : State) : Host.Outcome State Fault Refusal :=
  onHub (outWrite o) s

/-- NOTICE_WRITE_HELD. -/
def execNoticeWriteHeld (g : GraphId) (s : State) : Host.Outcome State Fault Refusal :=
  onHub (noticeHeld g) s

/-- MSIX_TIME. -/
def execMsixTime (fn : GraphId) (v : BitVec 5) (s : State) : Host.Outcome State Fault Refusal :=
  onHub (msixTime fn v) s

/-- DOORBELL_POLL. -/
def execDoorbellPoll (fn : GraphId) (reads : List HostData) (s : State) : Host.Outcome State Fault Refusal :=
  onHub (doorbellPoll fn reads) s

end Sys2Proof.Machine
end

