-- ==== Sys2Proof/Machine/Census.lean ====
section
/-! DEFINITION. The census: waves, sums, completion, drained graphs, stalls (R216 to R227, R302, R368). -/

namespace Sys2Proof.Machine

/-! ### Sums -/

def sumsZero : Sums := { cr0 := 0, cr1 := 0, cn0 := 0, cn1 := 0 }

def Sums.add (a b : Sums) : Sums :=
  { cr0 := a.cr0 + b.cr0, cr1 := a.cr1 + b.cr1, cn0 := a.cn0 + b.cn0, cn1 := a.cn1 + b.cn1 }

def Census.sums (x : Census) : Sums := { cr0 := x.cr0, cr1 := x.cr1, cn0 := x.cn0, cn1 := x.cn1 }

def Sums.balanced (s : Sums) : Bool := s.cr0 = s.cn0 && s.cr1 = s.cn1

/-- The old colour of wave w, (w − 1) mod 2, balances (R221). -/
def Sums.drained (s : Sums) (w : Nat) : Bool := if w % 2 = 0 then s.cr1 = s.cn1 else s.cr0 = s.cn0

/-- The item count that a stall reports (R227). -/
def Sums.items (s : Sums) : Word := s.cr0 + s.cr1 - s.cn0 - s.cn1

/-! ### The tree (R218, R219, R225) -/

/-- This module's children in a graph's tree. -/
def Graph.children (x : Graph) (node : BitVec 16) : List (BitVec 16) :=
  (x.tree.filter fun r => r.2.1 = node && r.1 ≠ node).map (·.1)

/-- A link faces an endpoint below Class C (R379). -/
def Dev.isProxy (d : Dev) (l : LinkId) : Bool :=
  if l.toNat < 32 then d.fld rProxylo l.toNat 1 = 1 else d.fld rProxyhi (l.toNat - 32) 1 = 1

def proxyKey (l : LinkId) (g : GraphId) : Nat := l.toNat * 64 + g.toNat

def Dev.proxyCensus (d : Dev) (l : LinkId) (g : GraphId) : Census := mget censusZero d.fbn.proxyCen (proxyKey l g)

def Dev.modProxy (d : Dev) (l : LinkId) (g : GraphId) (f : Census → Census) : Dev :=
  { d with fbn := { d.fbn with
      proxyCen := mset censusZero d.fbn.proxyCen (proxyKey l g) (f (d.proxyCensus l g)) } }

/-- The die of a link's port. -/
def linkDie (l : LinkId) : DieId := bits l 4 2

def Dev.isParticipant (d : Dev) (x : Graph) (p : Participant) : Bool :=
  match p with
  | .cell c => x.has c
  | .lockUnit _ => true
  | .proxy l => d.isProxy l

def allDies : List DieId := [0, 1, 2, 3]
def allLinks : List LinkId := (List.range 64).map (BitVec.ofNat 6)

/-- Clusters that hold cells of a graph. -/
def Graph.clusters (x : Graph) : List ClusterId :=
  ((List.range 64).filter fun n => x.mask.any fun c => c / 16 = n).map (BitVec.ofNat 6)

/-! ### Packets (R368) -/

/-- A CENSUS packet; SUMS takes two slots. -/
def Dev.censusPacket (d : Dev) (to_ : BitVec 16) (g : GraphId) (op : BitVec 2) (abnd : Bool) (w : Nat) (s : Option Sums) :
    FPacket :=
  { ptype := ptCensus, mc := 4, epoch := d.fab.cur, pspec := to_
    words := (d.fbn.nodeId ++ g ++ op ++ (0 : BitVec 7) ++ b2v abnd ++ BitVec.ofNat 32 w) ::
      (match s with
        | none => [0, 0]
        | some s => [s.cr0, s.cr1, s.cn0, s.cn1, 0]) }

/-- A CENSUS packet to every child. -/
def Dev.toChildren (d : Dev) (g : GraphId) (x : Graph) (op : BitVec 2) : Dev :=
  (x.children d.fbn.nodeId).foldl (fun d n => d.sendFromHub hubMgt (.fob (d.censusPacket n g op false x.wave none))) d

/-! ### WAVE_START, WAVE_RECEIVE (R219) -/

/-- A wave begins on this module. -/
def Dev.beginWave (d : Dev) (g : GraphId) (x : Graph) (w : Nat) (asker : Option (BitVec 16)) : Dev :=
  let x := { x with
    wave := w
    waveNow := some { began := d.clock.aon, tmo := 1000000 * d.fld rCencfg 16 16, asker := asker, parts := [], aggs := [], childs := [], abandonedBelow := false } }
  (d.setGraph g x).toChildren g x 0

/-- This module is the census root of a graph. -/
def Dev.isRoot (d : Dev) (x : Graph) : Bool := x.croot = d.fbn.nodeId

/-- WAVE_START: GAP after the last wave, while the graph is launched and not complete, or its unload waits for it. -/
def waveStart (g : GraphId) (d : Dev) : Dev :=
  match d.graph g with
  | none => d
  | some x =>
    if d.isRoot x && x.waveNow.isNone && (x.launched || x.unloading.isSome) && !x.complete &&
        x.waveEnd + 100 * d.fld rCencfg 0 16 ≤ d.clock.run then d.beginWave g x (x.wave + 1) none
    else d

/-- A participant's counters with its colour set to that of the wave. -/
def Dev.answerWave (d : Dev) (g : GraphId) (colour : Bool) (p : Participant) : Dev × Sums :=
  match p with
  | .cell c =>
    let n := { (d.cell c).census g with colour := colour }
    (d.modCell c fun x =>
      { x.modCensus g fun _ => n with lastCen := mset censusZero x.lastCen g.toNat n }, n.sums)
  | .lockUnit s =>
    let n := { mget censusZero (d.stack s).cen g.toNat with colour := colour }
    (d.modStack s fun x => { x with cen := mset censusZero x.cen g.toNat n }, n.sums)
  | .proxy l =>
    let n := { d.proxyCensus l g with colour := colour }
    (d.modProxy l g fun _ => n, n.sums)

/-- WAVE_RECEIVE: a participant sets its colour and answers, once in a wave. -/
def waveReceive (g : GraphId) (p : Participant) (d : Dev) : Dev :=
  match d.graph g with
  | none => d
  | some x =>
    match x.waveNow with
    | none => d
    | some w =>
      if !d.isParticipant x p || w.parts.any (fun a => a.1 = p) then d
      else
        let (d, s) := d.answerWave g (x.wave % 2 = 1) p
        d.setGraph g { x with waveNow := some { w with parts := w.parts ++ [(p, s)] } }

/-! ### SUMS_AGGREGATE (R219 to R223, R227, R39) -/

/-- The sum of all answers wanted, when every one is there. -/
def sumAll {α : Type} [DecidableEq α] (have_ : List (α × Sums)) : List α → Option Sums
  | [] => some sumsZero
  | a :: l =>
    match have_.find? fun x => x.1 = a, sumAll have_ l with
    | some (_, s), some t => some (s.add t)
    | _, _ => none

/-- What an aggregator sends up, once every child has answered. -/
def Dev.aggregate (d : Dev) (x : Graph) (w : Wave) (a : Aggregator) : Option Sums :=
  let add := fun (l : List (Option Sums)) => l.foldl (fun t s => match t, s with
    | some t, some s => some (t.add s)
    | _, _ => none) (some sumsZero)
  match a with
  | .cluster n =>
    sumAll w.parts ((x.mask.filter fun c => c / 16 = n.toNat).map fun c => Participant.cell (BitVec.ofNat 10 c))
  | .die s =>
    add [sumAll w.aggs ((x.clusters.filter fun n => clusterDie n = s).map Aggregator.cluster),
      sumAll w.parts [.lockUnit s],
      sumAll w.parts ((allLinks.filter fun l => linkDie l = s && d.isProxy l).map Participant.proxy)]
  | .hub => add [sumAll w.aggs (allDies.map Aggregator.die), sumAll w.childs (x.children d.fbn.nodeId)]

/-- A graph's standing in the drain of a route bank after a wave (R221, R302). -/
def drainStep (n : Nat) (drained : Bool) : Nat := if n = 3 then 2 else if drained then n - 1 else 2

def Dev.drainWave (d : Dev) (g : GraphId) (drained : Bool) : Dev :=
  match mfind d.fab.drains g.toNat with
  | none => d
  | some n =>
    let m := drainStep n drained
    { d with fab := { d.fab with
        drains := if m = 0 then merase d.fab.drains g.toNat else minsert d.fab.drains g.toNat m } }

def Dev.drainEnd (d : Dev) (g : GraphId) : Dev :=
  { d with fab := { d.fab with drains := merase d.fab.drains g.toNat } }

/-- A TIMER of the graph is armed on this device. -/
def Dev.timerArmed (d : Dev) (g : GraphId) : Bool :=
  d.cells.any fun x => x.2.pipe.ct.any fun e =>
    e.2.act.graph = g && (match e.2.kind with | .timer _ => true | _ => false)

/-- The run is declared complete (R223), and DONE goes to the children. An INJECT accepted since the module's last answer
belongs to the next run. Of a graph under unload, its slot is released (R39). -/
def Dev.declare (d : Dev) (g : GraphId) (x : Graph) : Dev :=
  (((((d.setGraph g { x with complete := true }).endRun g stOk).drainEnd g).toChildren g x 2).startFresh g).tryRelease g

/-- The STALL event of a stalled graph is raised in its home cell once that has a free shared record; the hub holds it until
then (DESIGN CHOICE, log 74: R273 names neither). -/
def Dev.raiseStall (d : Dev) (g : GraphId) : Dev :=
  match d.graph g with
  | none => d
  | some x =>
    match x.stallHeld with
    | none => d
    | some v =>
      if !(d.cell x.home).runs then d
      else
        match d.tryRaise x.home g srcStall (rawCarried v) with
        | none => d
        | some d => d.modGraph g fun x => { x with stallHeld := none }

/-- A stall is declared (R227): the flag, the notice, and STALL in the home cell. -/
def Dev.declareStall (d : Dev) (g : GraphId) (s : Sums) : Dev :=
  ((d.modGraph g fun x => { x with stalled := true, stallHeld := some s.items }).notice g
    { type_ := 2, status := stTimeout, result := s.items }).raiseStall g

/-- The stall window in ns. -/
def Dev.stallWindow (d : Dev) (g : GraphId) : Nat := 1000000 * d.fld (rGstall g.toNat) 0 16

/-- The root's decision at the end of a wave. The hub's own counters are read as it decides, so every INJECT here so far belongs to
the run that the sums tell of. -/
def Dev.decide (d : Dev) (g : GraphId) (x : Graph) (s : Sums) : Dev :=
  let drained := s.drained x.wave
  let same : Bool := x.last = some s
  let moved : Bool := s.cn0 + s.cn1 ≠ x.consumed
  let y := { x with
    waveNow := none
    waveEnd := d.clock.run
    lastWave := x.wave
    last := some s
    drained := drained
    drains := if drained then x.drains + 1 else 0
    abandons := 0
    stalled := x.stalled && !moved
    consumed := s.cn0 + s.cn1
    consumedAt := if moved then d.clock.run else x.consumedAt
    fresh := false }
  let d := (d.setGraph g y).drainWave g drained
  if s.balanced && same then d.declare g y
  else if x.unloading.isNone && !moved && !y.stalled && !d.timerArmed g && y.consumedAt + d.stallWindow g ≤ d.clock.run then
    d.declareStall g s
  else d

/-- A wave is abandoned (R222). -/
def Dev.abandonWave (d : Dev) (g : GraphId) (x : Graph) : Dev :=
  let d := (d.setGraph g { x with waveNow := none, waveEnd := d.clock.run, last := none, drains := 0
                                  abandons := x.abandons + 1 }).drainWave g false
  if 3 ≤ x.abandons + 1 then d.fault rSchErr 2 34 [] [.graph g] else d

/-- The hub has every answer: it adds its own counters, and decides, or answers the node that sent the wave (R220, R225). -/
def Dev.endWave (d : Dev) (g : GraphId) (x : Graph) (w : Wave) (below : Sums) : Dev :=
  let x := { x with cen := { x.cen with colour := x.wave % 2 = 1 } }
  let s := below.add x.cen.sums
  match w.asker with
  | some n =>
    (d.setGraph g { x with
      waveNow := none, waveEnd := d.clock.run, fresh := false
      lastWave := if w.abandonedBelow then x.lastWave else x.wave }).sendFromHub hubMgt
      (.fob (d.censusPacket n g 1 w.abandonedBelow x.wave (some s)))
  | none => if w.abandonedBelow then d.abandonWave g x else d.decide g x s

/-- SUMS_AGGREGATE. -/
def sumsAggregate (g : GraphId) (a : Aggregator) (d : Dev) : Dev :=
  match d.graph g with
  | none => d
  | some x =>
    match x.waveNow with
    | none => d
    | some w =>
      if w.aggs.any fun b => b.1 = a then d
      else
        match d.aggregate x w a with
        | none => d
        | some s =>
          if a = .hub then d.endWave g x w s
          else d.setGraph g { x with waveNow := some { w with aggs := w.aggs ++ [(a, s)] } }

/-- WAVE_ABANDON: TMO of the always-on timebase, as it stood when the wave began (R226), has passed since. Below the root, the wave is answered as
abandoned. -/
def waveAbandon (g : GraphId) (d : Dev) : Dev :=
  match d.graph g with
  | none => d
  | some x =>
    match x.waveNow with
    | none => d
    | some w =>
      if d.clock.aon < w.began + w.tmo then d
      else
        match w.asker with
        | none => d.abandonWave g x
        | some n =>
          (d.setGraph g { x with waveNow := none, waveEnd := d.clock.run }).sendFromHub hubMgt
            (.fob (d.censusPacket n g 1 true x.wave (some sumsZero)))

/-! ### The commands -/

/-- WAVE_START. -/
def execWaveStart (g : GraphId) (s : State) : Host.Outcome State Fault Refusal :=
  onHub (waveStart g) s

/-- WAVE_RECEIVE. -/
def execWaveReceive (g : GraphId) (p : Participant) (s : State) : Host.Outcome State Fault Refusal :=
  onDies (waveReceive g p) s

/-- SUMS_AGGREGATE. -/
def execSumsAggregate (g : GraphId) (a : Aggregator) (s : State) : Host.Outcome State Fault Refusal :=
  onDies (sumsAggregate g a) s

/-- WAVE_ABANDON. -/
def execWaveAbandon (g : GraphId) (s : State) : Host.Outcome State Fault Refusal :=
  onHub (waveAbandon g) s

end Sys2Proof.Machine
end

