-- ==== Sys2Proof/Machine/Lane.lean ====
section
/-! DEFINITION. How a lane dispatches an activation: the opcode's operation, the checks on its word, continuation-table
and result-buffer room, and repeated firings (R84 to R89, R144, R153, R154, R162, R185, R186). -/

namespace Sys2Proof.Machine

/-! ### Opcodes -/

/-- Operations of opcodes 0x000 to 0x03F (R102 to R104). -/
def opsInteger : Map OpSpec :=
  [(0x000, .compute opAdd), (0x001, .compute opSub), (0x002, .compute opMul), (0x003, .compute opMulh),
   (0x004, .compute opDiv), (0x005, .compute opRem), (0x006, .compute opAnd), (0x007, .compute opOr),
   (0x008, .compute opXor), (0x009, .compute opAndn), (0x00A, .compute opNot), (0x00B, .compute opNeg),
   (0x00C, .compute opAbs), (0x00D, .compute opMin), (0x00E, .compute opMax), (0x00F, .compute opAddc),
   (0x010, .compute opSubb), (0x011, .compute opMov), (0x012, .compute opLdi)]

/-- Operations of opcodes 0x040 to 0x07F (R106). -/
def opsShift : Map OpSpec :=
  [(0x040, .compute opShl), (0x041, .compute opShr), (0x042, .compute opSar), (0x043, .compute opRol),
   (0x044, .compute opRor), (0x045, .compute opPopc), (0x046, .compute opClz), (0x047, .compute opCtz),
   (0x048, .compute opBrev), (0x049, .compute opBswap), (0x04A, .compute opSplat), (0x04B, .compute opExtr)]

/-- Operations of opcodes 0x080 to 0x0BF (R110 to R112). -/
def opsFloat : Map OpSpec :=
  [(0x080, .compute opFadd), (0x081, .compute opFsub), (0x082, .compute opFmul), (0x083, .compute opFdiv),
   (0x084, .compute opFsqrt), (0x085, .compute opFmin), (0x086, .compute opFmax), (0x087, .compute opFneg),
   (0x088, .compute opFabs), (0x089, .compute opFcvtd), (0x08A, .compute opFcvts), (0x08B, .compute opFcvth),
   (0x08C, .compute opFtoi), (0x08D, .compute opItof), (0x08E, .compute opFrnd)]

/-- Operations of opcodes 0x0C0 to 0x0FF (R115 to R120). -/
def opsDecimal : Map OpSpec :=
  [(0x0C0, .compute opDadd), (0x0C1, .compute opDsub), (0x0C2, .compute opDadj), (0x0C3, .compute opDmul1),
   (0x0C4, .compute opDshl), (0x0C5, .compute opDshr), (0x0C6, .compute opDval), (0x0C7, .compute opDtob),
   (0x0C8, .compute opBtod), (0x0C9, .compute opDneg), (0x0D0, .compute opDseq), (0x0D1, .compute opDslt),
   (0x0D2, .compute opDsle)]

/-- Operations of opcodes 0x100 to 0x13F (R123, R124); GATE and MERGE pass a. -/
def opsSteer : Map OpSpec :=
  [(0x100, .compute opSeq), (0x101, .compute opSlt), (0x102, .compute opSle), (0x103, .compute opFseq),
   (0x104, .compute opFslt), (0x105, .compute opFsle), (0x106, .compute opFsun), (0x107, .compute opStest),
   (0x108, .compute opSteer), (0x109, .compute opMov), (0x10A, .compute opMov)]

/-- NEWF needs an entry when no number is available (R130). -/
def newfNeeds (f : Firing) (d : Dev) : Bool := !newfBad f && (d.newfNumber f.cell f.act.graph).isNone

/-- Operations of opcodes 0x140 to 0x17F (R126 to R136). -/
def opsTag : Map OpSpec :=
  [(0x140, { need := newfNeeds, wait := true, fire := fireNewf }), (0x141, .plain fireFreef),
   (0x142, .plain fireLoopw), (0x143, .plain fireAdvw), (0x144, .plain fireSets), (0x145, .plain fireGets),
   (0x146, .plain fireGetit), (0x147, .plain fireSetit), (0x148, .plain fireGetf), (0x149, .plain fireSetf),
   (0x14A, .plain fireSetcl), (0x14B, .plain fireSend), (0x14C, .plain fireSendo)]

/-- Operations of opcodes 0x180 to 0x1BF (R139 to R147). -/
def opsMemory : Map OpSpec :=
  [(0x180, .mem .ld), (0x181, .mem .st), (0x182, .mem .lds), (0x183, .mem .sts), (0x184, .mem .aadd),
   (0x185, .mem .axchg), (0x186, .mem .acas), (0x187, .mem .amin), (0x188, .mem .amax), (0x189, .mem .aand),
   (0x18A, .mem .aor), (0x18B, .mem .lock), (0x18C, .mem .trylock), (0x18D, .mem .unlock),
   (0x18E, { need := fun _ _ => true, wait := false, fire := fireFence })]

/-- Operations of opcodes 0x1C0 to 0x1DF but REP (R148 to R152). -/
def opsControl : Map OpSpec :=
  [(0x1C1, { need := outAssigned, wait := true, fire := fireOut }), (0x1C2, .plain fireRaise),
   (0x1C3, .plain fireRete), (0x1C4, .plain fun _ d => d),
   (0x1C5, { need := fun _ _ => true, wait := true, fire := fireTimer })]

/-- The operation of an opcode (R80); an undefined opcode never fires. -/
def opSpec (opc : Nat) : OpSpec :=
  if isUdef opc then .plain fireUdef
  else
    let ops := match opc / 64 with
      | 0 => opsInteger
      | 1 => opsShift
      | 2 => opsFloat
      | 3 => opsDecimal
      | 4 => opsSteer
      | 5 => opsTag
      | 6 => opsMemory
      | 7 => opsControl
      | _ => []
    mget (.plain fun _ d => d) ops opc

/-! ### Checks before a result (R86 items 1 to 5, 7 and 8, R87) -/

/-- A fan-out list lies in the graph's range, and each entry has its form (R86 item 7). -/
def Dev.fanoutBad (d : Dev) (c : CellId) (g : GraphId) (w : Word) : Bool :=
  let k := match d.graph g with
    | none => cellCfgZero
    | some x => x.at c
  !listRangeOk k.fbase k.fcount w || !(fanoutList (d.cell c).store.fo w).all entryOk

/-- The checks of R87 on a word that is not REP. -/
def Dev.wordFault (d : Dev) (c : CellId) (g : GraphId) (w : Word) : Option WordFault :=
  match checkWord d.uct.entries w with
  | some x => some x
  | none => if d.fanoutBad c g w then some .field else none

/-- The count of a REP for an activation: COUNT, or S0 of its frame (R84). -/
def repCount (x : Cell) (a : Act) (w : Word) : Nat := if rCsrc w then (x.slot a 0).toNat else rCount w

/-- The checks of R87 on a REP and its target, and R85. A target beyond the graph's limit is not looked at: the REP itself is
the bad word (log 71). -/
def Dev.repFault (d : Dev) (c : CellId) (a : Act) (w target : Word) : Option WordFault :=
  let inRange := match d.graph a.graph with
    | none => false
    | some x => x.inRange c (a.instr + 1) && a.instr ≠ 0x3FFF
  if inRange then
    match d.wordFault c a.graph target with
    | some .op => if wOpc target = opcRep then some .field else some .op
    | some .field => some .field
    | none =>
      if repFormOk w && repTargetOk d.uct.entries w target && repCount (d.cell c) a w ≤ 4096 then none else some .field
  else some .field

/-! ### Dispatch -/

/-- A slot's activation as its lane fires it; a REP governs its target (R82). -/
def Slot.firing (s : Slot) (c : CellId) (ln : BitVec 3) : Firing :=
  { cell := c, lane := ln, act := s.act, word := if wOpc s.word = opcRep then s.target else s.word }

/-- The fault of a slot's word. -/
def Dev.slotFault (d : Dev) (c : CellId) (s : Slot) : Option WordFault :=
  if wOpc s.word = opcRep then d.repFault c s.act s.word s.target else d.wordFault c s.act.graph s.word

/-- Result tokens a lane's buffer holds: what stands on the bypass, and in the egress beyond its 64 places (R162). -/
def CellPipe.laneHolds (p : CellPipe) (ln : BitVec 3) : Nat :=
  count (fun r => r.lane = some ln) p.bypass + count (fun r => r.lane = some ln) (p.egress.drop 64)

/-- The lane's result buffer has room for what a word can produce (R162). -/
def CellPipe.roomFor (p : CellPipe) (ln : BitVec 3) (w : Word) : Bool := p.laneHolds ln + maxTokens w ≤ 20

/-- An activation is consumed: its tokens but installed sticky operands (R60). -/
def Dev.consumeAct (d : Dev) (c : CellId) (a : Act) : Dev :=
  d.consumeTokens c ((a.tokens.filter fun o => !o.sticky).map (·.tok))

/-- What happens to an activation taken from its slot: the events of bad words, a predicate that is not met, or its
operation (R77, R87, R89). -/
def Dev.fireSlot (d : Dev) (c : CellId) (ln : BitVec 3) (s : Slot) (fo : Upset) (fire : Slot → Firing → Dev → Dev) : Dev :=
  let f := s.firing c ln
  if upsetBad s.bad then f.raise srcIllegalOp d
  else
    let reads : Bool := wDfmt f.word = 2
    let d' := if reads then d.upsetFault c fo 2 else d
    if reads && upsetBad fo then f.raise srcIllegalOp d'
    else
      match d.slotFault c s with
      | some .op => f.raise srcIllegalOp d'
      | some .field => f.raise srcIllegalField d'
      | none => if predMet s.act f.word then fire s f d' else d'

/-- Whether a slot's activation needs a continuation-table entry: only one that will fire does. -/
def Dev.slotNeeds (d : Dev) (c : CellId) (ln : BitVec 3) (s : Slot) : Bool :=
  let f := s.firing c ln
  wOpc s.word ≠ opcRep && !upsetBad s.bad && (d.slotFault c s).isNone && predMet s.act f.word && (opSpec (wOpc s.word)).need f d

/-- The activation of a slot returns to the tail of the ready list, and its slot is refilled: by a later PREFETCH_FILL while
the list has a place, and otherwise by the list's head, which makes the place (R184, R186, log 72). -/
def Dev.toReady (d : Dev) (c : CellId) (ln : BitVec 3) (a : Act) : Dev :=
  let x := d.cell c
  let refill := fun (h : Act) (d : Dev) => d.modLane c ln fun l => { l with slots := l.slots ++ [x.slotOf h .none (d.coreNow c)] }
  if a.handler then
    match x.pipe.rdyH with
    | h :: l =>
      if x.pipe.rdyH.length < handlerPlaces then d.modPipe c fun p => { p with rdyH := p.rdyH ++ [a] }
      else refill h (d.modPipe c fun p => { p with rdyH := l ++ [a] })
    | [] => d.modPipe c fun p => { p with rdyH := [a] }
  else
    match x.pipe.rdy with
    | h :: l =>
      if x.pipe.rdy.length < readyOrdinary then d.modPipe c fun p => { p with rdy := p.rdy ++ [a] }
      else refill h (d.modPipe c fun p => { p with rdy := l ++ [a] })
    | [] => d.modPipe c fun p => { p with rdy := [a] }

/-- Slots of a cell that wait for an entry since before turn `t` (R186). -/
def CellPipe.waitsBefore (p : CellPipe) (t : Nat) : Nat :=
  count (fun s => match s.waits with | some n => decide (n < t) | none => false) (p.lanes.flatMap fun l => l.2.slots)

/-- Free continuation-table entries of a cell. -/
def CellPipe.freeEntries (p : CellPipe) : Nat := ctEntries - p.ct.length

/-- An entry is there for a slot: waiting slots receive entries oldest first (R186). -/
def CellPipe.entryOpen (p : CellPipe) (s : Slot) : Bool := p.waitsBefore (s.waits.getD p.waitSeq) < p.freeEntries

/-- A slot that finds no entry starts to wait (R186). -/
def Dev.startWait (d : Dev) (c : CellId) (ln : BitVec 3) (s : Slot) : Dev :=
  if s.waits.isSome then d
  else
    let n := (d.cell c).pipe.waitSeq
    (d.modLane c ln fun l => { l with slots := l.slots.map fun y => if y = s then { y with waits := some n } else y }).modPipe c
      fun p => { p with waitSeq := n + 1 }

/-- A lane can raise one event while its spare record stands in for a shared one: with more to raise it waits (R273). -/
def Dev.oneSpare (d d' : Dev) (c : CellId) (ln : BitVec 3) : Dev :=
  if count (fun r => r.place = .spare ln) (d'.cell c).ev.recs ≤ 1 then d' else d

/-- The slot a dispatch names: the older one, or the younger one while the older waits for an entry (R185). -/
def Dev.pickSlot (d : Dev) (x : Disp) : Option (Slot × List Slot) :=
  match ((d.cell x.cell).pipe.lane x.lane.toNat).slots with
  | [] => none
  | s :: rest =>
    if x.younger then
      if !(d.cell x.cell).pipe.entryOpen s && d.slotNeeds x.cell x.lane s then
        match rest with
        | [] => none
        | t :: _ => some (t, [s])
      else none
    else some (s, rest)

/-- A lane dispatches the activation of one of its slots when the slot's opcode is one of `isOp`. -/
def dispatchWith (isOp : Nat → Bool) (fire : Slot → Firing → Dev → Dev) (x : Disp) (d : Dev) : Dev :=
  let cell := d.cell x.cell
  let lane := cell.pipe.lane x.lane.toNat
  if !cell.runs || cell.asleep || lane.rep.isSome || lane.spareUsed then d
  else
    match d.pickSlot x with
    | none => d
    | some (s, rest) =>
      let f := s.firing x.cell x.lane
      let needs := d.slotNeeds x.cell x.lane s
      if !isOp (wOpc s.word) || !cell.pipe.roomFor x.lane f.word then d
      else if needs && !cell.pipe.entryOpen s then d.startWait x.cell x.lane s
      else
        let taken := d.modLane x.cell x.lane fun l => { l with slots := rest }
        if needs && !d.belowCap x.cell s.act.graph (opSpec (wOpc s.word)).wait then taken.toReady x.cell x.lane s.act
        else
          d.oneSpare (((taken.consumeAct x.cell s.act).fireSlot x.cell x.lane s x.fanout fire).sweepFreeing x.cell)
            x.cell x.lane

/-- Dispatch of a defined opcode. -/
def dispatch (opc : Nat) (x : Disp) (d : Dev) : Dev := dispatchWith (fun o => o = opc) (fun _ f d => (opSpec opc).fire f d) x d

/-! ### UDEF (R89, R93) -/

/-- UDEF0 to UDEF15, and every undefined opcode: none has a row of its own (log 17). -/
def isUdefRow (opc : Nat) : Bool :=
  isUdef opc || (opc ≠ opcRep && ((opcRows opc).find? fun r => r.opc = opc).isNone)

/-- UDEF: the microcode words are read; an uncorrectable one raises ILLEGAL_OP in place of a result. -/
def fireUdefRead (uc : Upset) (f : Firing) (d : Dev) : Dev :=
  match uc with
  | .none => fireUdef f d
  | .corrected => fireUdef f (d.faultOnly 15 [] [])
  | .uncorrectable => f.raise srcIllegalOp (d.faultOnly 16 [] [.udef (wOpc f.word - 0x3F0)])

/-! ### REP (R82 to R85, R153, R154) -/

/-- REP latches its count; with none to fire the inputs are consumed and nothing follows. -/
def fireRep (s : Slot) (f : Firing) (d : Dev) : Dev :=
  let n := repCount (d.cell f.cell) f.act s.word
  if n = 0 then d
  else d.modLane f.cell f.lane fun l =>
    { l with rep := some { act := f.act, word := s.word, target := s.target, next := 0, count := n } }

/-- An operand advanced by `v`; one that the activation does not hold is 0 (R88), and `v` after it. -/
def addStride (o : Option Opnd) (v : Word) : Option Opnd :=
  match o with
  | some o => some { o with tok := { o.tok with w2 := o.tok.w2 + v } }
  | none => some { tok := { w0 := 0, w1 := 0, w2 := v }, sticky := true }

/-- The activation of firing k: ITER + k, and the STEP operand advanced by k strides (R84). -/
def RepSeq.actAt (r : RepSeq) (k : Nat) : Act :=
  let v := rStride r.word * BitVec.ofNat 64 k
  let a := { r.act with iter := r.act.iter + BitVec.ofNat 32 k }
  match rStep r.word with
  | 1 => { a with left := addStride a.left v }
  | 2 => { a with right := addStride a.right v }
  | _ => a

/-- The previous firing of the sequence waits as a NEWF for a record (R154). -/
def RepSeq.paused (r : RepSeq) (p : CellPipe) : Bool :=
  r.next ≠ 0 && p.ct.any fun e =>
    match e.2.kind with
    | .newf _ => e.2.act = r.actAt (r.next - 1)
    | _ => false

/-- A firing of an opcode with its microcode read: an uncorrectable word raises ILLEGAL_OP in place of a result (R89, R93). -/
def fireRead (uc : Upset) (f : Firing) (d : Dev) : Dev :=
  if isUdef (wOpc f.word) then fireUdefRead uc f d else (opSpec (wOpc f.word)).fire f d

/-- The next firing of a lane's sequence. It waits for an entry, for result-buffer room and for its previous NEWF; an
uncorrectable fan-out entry or microcode word ends the sequence as it consumes the activation (R89). -/
def repNext (c : CellId) (ln : BitVec 3) (fo uc : Upset) (d : Dev) : Dev :=
  let x := d.cell c
  let lane := x.pipe.lane ln.toNat
  match lane.rep with
  | none => d
  | some r =>
    let f : Firing := { cell := c, lane := ln, act := r.actAt r.next, word := r.target }
    let spec := opSpec (wOpc r.target)
    let needs := spec.need f d
    if !x.runs || lane.spareUsed || r.paused x.pipe || !x.pipe.roomFor ln r.target ||
        (needs && (x.freeEntry.isNone || !d.belowCap c r.act.graph spec.wait)) then d
    else
      let reads : Bool := wDfmt r.target = 2
      let bad := reads && upsetBad fo
      let stop := bad || (isUdef (wOpc r.target) && upsetBad uc)
      let d' := d.modLane c ln fun l =>
        { l with rep := if stop || r.count ≤ r.next + 1 then none else some { r with next := r.next + 1 } }
      let d' := if reads then d'.upsetFault c fo 2 else d'
      d.oneSpare ((if bad then f.raise srcIllegalOp d' else fireRead uc f d').sweepFreeing c) c ln

end Sys2Proof.Machine
end

