-- ==== Sys2Proof/Machine/Control.lean ====
section
/-! DEFINITION. Dispatch of the opcodes 0x1C0 to 0x1DF, and the user opcodes (R84, R93, R148 to R154), one definition per command. -/

namespace Sys2Proof.Machine

/-- OUT. -/
def execOut (x : Disp) (s : State) : Host.Outcome State Fault Refusal := onDies (dispatch 0x1C1 x) s

/-- RAISE. -/
def execRaise (x : Disp) (s : State) : Host.Outcome State Fault Refusal := onDies (dispatch 0x1C2 x) s

/-- RETE. -/
def execRete (x : Disp) (s : State) : Host.Outcome State Fault Refusal := onDies (dispatch 0x1C3 x) s

/-- NOP. -/
def execNop (x : Disp) (s : State) : Host.Outcome State Fault Refusal := onDies (dispatch 0x1C4 x) s

/-- TIMER. -/
def execTimer (x : Disp) (s : State) : Host.Outcome State Fault Refusal := onDies (dispatch 0x1C5 x) s

/-- REP. -/
def execRep (x : Disp) (s : State) : Host.Outcome State Fault Refusal :=
  onDies (dispatchWith (fun o => o = opcRep) fireRep x) s

/-- REP_FIRING. -/
def execRepFiring (c : CellId) (ln : BitVec 3) (u : FiringReads) (s : State) : Host.Outcome State Fault Refusal :=
  onDies (repNext c ln u.fo u.uc) s

/-- UDEF. -/
def execUdef (x : Disp) (uc : Upset) (s : State) : Host.Outcome State Fault Refusal :=
  onDies (dispatchWith isUdefRow (fun _ f d => fireUdefRead uc f d) x) s

end Sys2Proof.Machine
end

