-- ==== Sys2Proof/Machine/Crc.lean ====
section
/-! DEFINITION. CRC-32C (R329), over bytes given in order, and bytes of 64-bit words. -/

namespace Sys2Proof.Machine

/-- `n` bits of a reflected CRC step. -/
def crcBits : Nat → BitVec 32 → BitVec 32
  | 0, c => c
  | n + 1, c => crcBits n (if bit c 0 then (c >>> 1) ^^^ 0x82F63B78#32 else c >>> 1)

/-- CRC-32C, polynomial 0x1EDC_6F41, reflected, initial value and final XOR 0xFFFF_FFFF. -/
def crc32c (bytes : List Byte) : BitVec 32 :=
  ~~~(bytes.foldl (fun c b => crcBits 8 (c ^^^ b.setWidth 32)) 0xFFFFFFFF#32)

/-- The eight bytes of a word, little-endian. -/
def wordBytes (w : Word) : List Byte := (List.range 8).map fun i => bits w (8 * i) 8

/-- The four bytes of a register, little-endian. -/
def regBytes (w : Reg) : List Byte := (List.range 4).map fun i => bits w (8 * i) 8

/-- Byte i of words that stand at ascending addresses. -/
def byteAt (ws : List Word) (i : Nat) : Byte := bits (ws.getD (i / 8) 0) (8 * (i % 8)) 8

/-- The 16-bit and 32-bit numbers at byte i, little-endian; i is a multiple of their size. -/
def halfAt (ws : List Word) (i : Nat) : Nat := nbits (ws.getD (i / 8) 0) (8 * (i % 8)) 16
def quadAt (ws : List Word) (i : Nat) : Nat := nbits (ws.getD (i / 8) 0) (8 * (i % 8)) 32

end Sys2Proof.Machine
end

