-- ==== Sys2Proof/Machine/Locks.lean ====
section
/-! DEFINITION. The lock units: held locks, waiters, grants, abandonment (R258 to R264, R145 to R147, R509). -/

namespace Sys2Proof.Machine

/-! ### Regions (R240, R241) -/

/-- Units of 64 MiB. -/
def rgnUnit : Nat := 0x4000000

/-- A valid region entry, in bytes. -/
structure Region where
  number : Nat
  kind : Nat
  base : Nat
  size : Nat
deriving DecidableEq, Repr

def regionOf (n : Nat) (v : Word) : Option Region :=
  if bit v 31 then
    some { number := n, kind := nbits v 28 2, base := nbits v 0 11 * rgnUnit, size := nbits v 16 11 * rgnUnit }
  else none

def Dev.region (d : Dev) (n : Nat) : Option Region := regionOf n (d.reg (rRgn n))

def Dev.regions (d : Dev) : List Region := (List.range 16).filterMap d.region

def Region.covers (r : Region) (a : Nat) : Bool := r.base ≤ a && a < r.base + r.size

/-- The region that covers an address. -/
def Dev.regionAt (d : Dev) (a : Nat) : Option Region := d.regions.find? fun r => r.covers a

/-- The kind of an address: PLAIN where no region covers it, and the two parts of a STRUCT region (R240, R243). -/
inductive MemKind where
  | plain
  | data (r : Region)
  | carve (r : Region)
  | spill (r : Region)
deriving DecidableEq, Repr

/-- End of the data area of a STRUCT region. -/
def Region.dataEnd (r : Region) : Nat := r.base + 31 * r.size / 32

def Dev.memKind (d : Dev) (a : Nat) : MemKind :=
  match d.regionAt a with
  | none => .plain
  | some r =>
    if r.kind = 1 then (if a < r.dataEnd then .data r else .carve r)
    else if r.kind = 2 then .spill r
    else .plain

/-! ### Locks -/

def heldLocks : Nat := 8192
def waiterEntries : Nat := 65536

def Stack.lock (x : Stack) (a : BitVec 48) : Option LockEnt := x.locks.find? fun e => e.addr = a

def Stack.waiters (x : Stack) : Nat := x.locks.foldl (fun n e => n + e.waiters.length) 0

/-- An entry replaced, by its address. -/
def Stack.putLock (x : Stack) (e : LockEnt) : Stack :=
  { x with locks := x.locks.map fun y => if y.addr = e.addr then e else y }

def Stack.dropLock (x : Stack) (a : BitVec 48) : Stack := { x with locks := x.locks.filter fun y => y.addr ≠ a }

/-- The owner or waiter of a request (R259). -/
def MemReq.owner (r : MemReq) : Owner :=
  match r.src with
  | .cell c _ _ => .cell c r.graph r.frame
  | .desc _ fn _ => .fn fn
  | .fober n _ c => .fober n c r.graph r.frame

/-- What a lock unit answers at once. -/
def Dev.lockAnswer (d : Dev) (s : DieId) (r : MemReq) (a : Answer) : Dev :=
  match r.src with
  | .cell c e uid => d.sendFromDie s (.rsp { dst := c, entry := e, uid := uid, graph := r.graph, ans := a })
  | .desc ring _ index =>
    match d.placeOf ring index, a with
    | some k, .value v _ => d.complete ring k (bits v 0 8) v
    | some k, .notOwner v => d.complete ring k (bits v 0 8) v
    | _, _ => d
  | .fober n tag _ =>
    match a with
    | .value v _ => d.sendFromDie s (.fob (d.respPacket n 0 tag stOk 0 [v]))
    | .notOwner v => d.sendFromDie s (.fob (d.respPacket n 0 tag stOk 0 [v]))
    | _ => d.sendFromDie s (.fob (d.respPacket n 0 tag stOk 0 []))

/-- A grant token's address: the requesting cell of this module or of another node. -/
def Dev.grantTo (d : Dev) (r : MemReq) : BitVec 16 × CellId :=
  match r.src with
  | .cell c _ _ => (d.fbn.nodeId, c)
  | .desc _ _ _ => (d.fbn.nodeId, 0)
  | .fober n _ c => (n, c)

/-- The grant token of a LOCK (R146, R509): COLOUR and EPOCH are those of the lock unit; its CLASS is a free value (log 23). -/
def Dev.lockToken (d : Dev) (s : DieId) (r : MemReq) (status : Byte) : Dev × Token :=
  let (v, d) := d.free
  let (node, cell) := d.grantTo r
  (d, TokenFields.pack
    { node := node, cell := cell, graph := r.graph, cls := bits v 0 3, stream := 0, seq := 0, kind := 3, vtype := 8
      poison := false, epoch := d.fab.cur, colour := (mget censusZero (d.stack s).cen r.graph.toNat).colour
      frame := r.frame, instr := bits r.data 0 14, port := 0, iter := bits r.cmp 0 32
      value := lockWord r.addr status })

/-- The outcome of a LOCK reaches its requester: a grant token, or a descriptor's completion (R146, R366, R398). -/
def Dev.grant (d : Dev) (s : DieId) (r : MemReq) (status : Byte) : Dev :=
  match r.src with
  | .desc ring _ index =>
    match d.placeOf ring index with
    | none => d
    | some k => d.complete ring k status (lockWord r.addr status)
  | _ =>
    let (d, t) := d.lockToken s r status
    (d.lockCreate s r.graph).sendFromDie s (.tok t .hub 0)

/-- The acknowledgement of a LOCK that is queued or granted (R188, R366). -/
def Dev.lockAck (d : Dev) (s : DieId) (r : MemReq) : Dev :=
  match r.src with
  | .desc ring _ index =>
    match d.placeOf ring index with
    | none => d
    | some k => d.modPair ring fun p =>
        { p with started := putAt p.started k { (p.started.getD k { words := [], index := 0, waiting := false, issued := 0 })
            with waiting := true } }
  | _ => d.lockAnswer s r .ack

/-- The abandoned-marked free entry that has been free longest (R261). -/
def Stack.oldestAbandoned (x : Stack) : Option LockEnt :=
  minBy (·.freed) (x.locks.filter fun e => e.owner.isNone)

/-- Room for a new entry, after reclaiming an abandoned mark if need be; none when the table is full (R261). -/
def Dev.lockRoom (d : Dev) (s : DieId) : Option Dev :=
  let x := d.stack s
  if x.locks.length < heldLocks then some d
  else
    match x.oldestAbandoned with
    | none => none
    | some e =>
      some ((d.modStack s fun x => { x.dropLock e.addr with lost := min 16383 (x.lost + 1) }).fault rMemErr 6 41 [] [])

/-- A free lock is acquired: its status, or none when the held-lock table is full (R260, R261). -/
def Dev.lockAcquire (d : Dev) (s : DieId) (r : MemReq) : Option (Dev × Byte) :=
  let x := d.stack s
  match x.lock r.addr with
  | some e => some (d.modStack s fun x => x.putLock { e with owner := some r.owner, abandoned := false }, stAbandoned)
  | none =>
    (d.lockRoom s).map fun d =>
      (d.modStack s fun x =>
        { x with locks := x.locks ++ [{ addr := r.addr, owner := some r.owner, abandoned := false, waiters := [], freed := 0 }] },
        stOk)

/-- A lock is free: no entry, or one without an owner (R258). -/
def Stack.free (x : Stack) (a : BitVec 48) : Bool :=
  match x.lock a with
  | none => true
  | some e => e.owner.isNone

def Dev.lkFull (d : Dev) : Dev := d.fault rMemErr 3 38 [] []
def Dev.lkwFull (d : Dev) : Dev := d.fault rMemErr 4 39 [] []

/-- The word of a lock request lies in a SPILL region (R509 check 3), or in the carve-out of a STRUCT region, which no graph request
may use (R241; DEDUCED, log 75: R509 names SPILL alone). -/
def Dev.lockInSpill (d : Dev) (a : BitVec 48) : Bool :=
  match d.memKind a.toNat with
  | .spill _ => true
  | .carve _ => true
  | _ => false

/-- LOCK at a lock unit (R260, R261). -/
def Dev.doLock (d : Dev) (s : DieId) (r : MemReq) : Dev :=
  if d.lockInSpill r.addr then (d.lockAck s r).grant s r stBadValue
  else if (d.stack s).free r.addr then
    match d.lockAcquire s r with
    | some (d, st) => (d.lockAck s r).grant s r st
    | none => (d.lkFull.lockAck s r).grant s r stNoResource
  else if waiterEntries ≤ (d.stack s).waiters then (d.lkwFull.lockAck s r).grant s r stNoResource
  else
    (d.modStack s fun x =>
      { x with locks := x.locks.map fun e =>
          if e.addr = r.addr then { e with waiters := e.waiters ++ [{ owner := r.owner, req := r }] } else e }).lockAck s r

/-- TRYLOCK at a lock unit. -/
def Dev.doTrylock (d : Dev) (s : DieId) (r : MemReq) : Dev :=
  let answer := fun (d : Dev) (st : Byte) => d.lockAnswer s r (.value (lockWord r.addr st) false)
  if d.lockInSpill r.addr then answer d stBadValue
  else if (d.stack s).free r.addr then
    match d.lockAcquire s r with
    | some (d, st) => answer d st
    | none => answer d.lkFull stNoResource
  else answer d stBusy

/-- A held lock passes to its first waiter, or is deleted when none waits (R258, R260). -/
def Dev.passLock (d : Dev) (s : DieId) (e : LockEnt) : Dev :=
  match e.waiters with
  | [] => d.modStack s fun x => x.dropLock e.addr
  | w :: ws => (d.modStack s fun x => x.putLock { e with owner := some w.owner, waiters := ws }).grant s w.req stOk

/-- UNLOCK at a lock unit. -/
def Dev.doUnlock (d : Dev) (s : DieId) (r : MemReq) : Dev :=
  if d.lockInSpill r.addr then d.lockAnswer s r (.value (lockWord r.addr stBadValue) false)
  else
    match (d.stack s).lock r.addr with
    | some e =>
      if e.owner = some r.owner then (d.lockAnswer s r (.value (lockWord r.addr stOk) false)).passLock s e
      else d.lockAnswer s r (.notOwner (lockWord r.addr stNotOwner))
    | none => d.lockAnswer s r (.notOwner (lockWord r.addr stNotOwner))

/-! ### Abandonment (R263) -/

/-- One lock whose owner is reset: its first waiter is granted with ABANDONED, or it stays free and marked. -/
def Dev.abandonOne (d : Dev) (s : DieId) (e : LockEnt) : Dev :=
  match e.waiters with
  | [] =>
    d.modStack s fun x =>
      { x.putLock { e with owner := none, abandoned := true, freed := x.lockSeq } with lockSeq := x.lockSeq + 1 }
  | w :: ws =>
    (d.modStack s fun x => x.putLock { e with owner := some w.owner, waiters := ws }).grant s w.req stAbandoned

def MemOp.isLock : MemOp → Bool
  | .lock => true
  | .trylock => true
  | .unlock => true
  | _ => false

/-- A lock request of an owner. -/
def MemReq.lockOf (p : Owner → Bool) (r : MemReq) : Bool := r.op.isLock && p r.owner

/-- A packet that carries a lock request of an owner. -/
def Pkt.lockOf (p : Owner → Bool) : Pkt → Bool
  | .req r => r.lockOf p
  | _ => false

/-- The fabric without the packets that meet a test. -/
def Fabric.drop (f : Fabric) (p : Pkt → Bool) : Fabric := f.mapPkts fun x => if p x then none else some x

/-- Lock requests of owners that are gone are dropped wherever they stand, so that no lock is left held by one (R264). -/
def Dev.dropLockReqs (d : Dev) (p : Owner → Bool) : Dev :=
  { d with
    stks := d.stks.map fun x => (x.1, { x.2 with reqs := x.2.reqs.filter fun r => !r.lockOf p })
    cells := d.cells.map fun x =>
      (x.1, { x.2 with pipe := { x.2.pipe with egress := x.2.pipe.egress.filter fun o => !o.pkt.lockOf p } })
    fab := d.fab.drop (Pkt.lockOf p) }

/-- The owners of a reset's scope leave one lock unit: waiters first, then held locks. -/
def Dev.abandonAt (d : Dev) (s : DieId) (p : Owner → Bool) : Dev :=
  let d := d.modStack s fun x =>
    { x with locks := x.locks.map fun e => { e with waiters := e.waiters.filter fun w => !p w.owner } }
  ((d.stack s).locks.filter fun e => match e.owner with | some o => p o | none => false).foldl
    (fun d e => d.abandonOne s e) d

/-- R263 on every lock unit of the device; requests of the owners that have not reached one go first (R264). -/
def Dev.abandon (d : Dev) (p : Owner → Bool) : Dev := allDies.foldl (fun d s => d.abandonAt s p) (d.dropLockReqs p)

def Owner.ofGraph (g : GraphId) : Owner → Bool
  | .cell _ h _ => h = g
  | _ => false

def Owner.ofCell (c : CellId) : Owner → Bool
  | .cell k _ _ => k = c
  | _ => false

def Owner.ofFn (fn : GraphId) : Owner → Bool
  | .fn f => f = fn
  | _ => false

def Owner.ofNode (n : BitVec 16) : Owner → Bool
  | .fober m _ _ _ => m = n
  | _ => false

def Owner.ofNodeGraph (n : BitVec 16) (g : GraphId) : Owner → Bool
  | .fober m _ h _ => m = n && h = g
  | _ => false

/-! ### The commands at a lock unit -/

/-- Request i of a stack, when it is the kind wanted; lock requests are performed in the order in which they came (R260). -/
def Dev.takeLock (d : Dev) (s : DieId) (i : Nat) (op : MemOp) : Option (MemReq × Dev) :=
  let q := (d.stack s).reqs
  match takeAt q i with
  | some (r, rest) =>
    if r.op = op && !(q.take i).any (fun x => x.op.isLock) && !d.stackIso s then
      some (r, d.modStack s fun x => { x with reqs := rest })
    else none
  | none => none

/-- LOCK_UNIT_LOCK. -/
def lockUnitLock (s : DieId) (i : Nat) (d : Dev) : Dev :=
  match d.takeLock s i .lock with
  | none => d
  | some (r, d) => d.doLock s r

/-- LOCK_UNIT_TRYLOCK. -/
def lockUnitTrylock (s : DieId) (i : Nat) (d : Dev) : Dev :=
  match d.takeLock s i .trylock with
  | none => d
  | some (r, d) => d.doTrylock s r

/-- LOCK_UNIT_UNLOCK. -/
def lockUnitUnlock (s : DieId) (i : Nat) (d : Dev) : Dev :=
  match d.takeLock s i .unlock with
  | none => d
  | some (r, d) => d.doUnlock s r

/-- LOCK_UNIT_LOCK. -/
def execLockUnitLock (k : DieId) (i : Nat) (s : State) : Host.Outcome State Fault Refusal :=
  onDies (lockUnitLock k i) s

/-- LOCK_UNIT_TRYLOCK. -/
def execLockUnitTrylock (k : DieId) (i : Nat) (s : State) : Host.Outcome State Fault Refusal :=
  onDies (lockUnitTrylock k i) s

/-- LOCK_UNIT_UNLOCK. -/
def execLockUnitUnlock (k : DieId) (i : Nat) (s : State) : Host.Outcome State Fault Refusal :=
  onDies (lockUnitUnlock k i) s

end Sys2Proof.Machine
end

