-- ==== Sys2Proof/Machine/Memory.lean ====
section
/-! DEFINITION. HBM and the stack controllers: words and poison, structure words, atomics, host memory, scrub, self-refresh, and
structure regions (R139 to R142, R234 to R257). -/

namespace Sys2Proof.Machine

/-! ### Bytes, words and marks of HBM -/

/-- The byte at a device address. -/
def Hbm.byte (h : Hbm) (a : Nat) : Byte := mget 0 h.bytes a

/-- A byte written; a byte equal to what unlisted addresses read as is not listed. -/
def Hbm.setByte (h : Hbm) (a : Nat) (v : Byte) : Hbm := { h with bytes := mset 0 h.bytes a v }

/-- `n` bytes from an address, little-endian (R3). -/
def Hbm.read (h : Hbm) (a : Nat) : Nat → Word
  | 0 => 0
  | n + 1 => (h.byte a).setWidth 64 ||| (h.read (a + 1) n <<< 8)

/-- The low `n` bytes of a value stored at an address, little-endian. -/
def Hbm.write (h : Hbm) (a : Nat) (v : Word) : Nat → Hbm
  | 0 => h
  | n + 1 => (h.setByte a (v.setWidth 8)).write (a + 1) (v >>> 8) n

/-- Whether the word (address / 8) is stored poisoned, and FULL. -/
def Hbm.poisoned (h : Hbm) (w : Nat) : Bool := mget false h.poison w
def Hbm.isFull (h : Hbm) (w : Nat) : Bool := mget false h.full w
def Hbm.setPoison (h : Hbm) (w : Nat) (b : Bool) : Hbm := { h with poison := mset false h.poison w b }
def Hbm.setFull (h : Hbm) (w : Nat) (b : Bool) : Hbm := { h with full := mset false h.full w b }

/-- The canonical form of the three tables: keys strictly rising, nothing listed that an unlisted key reads as. -/
def Hbm.wf (h : Hbm) : Bool := mwf 0 0 h.bytes && mwf false 0 h.poison && mwf false 0 h.full

/-- A whole word. -/
def Hbm.word (h : Hbm) (w : Nat) : Word := h.read (8 * w) 8

/-- A word stored with its poison state (R237). -/
def Hbm.putWord (h : Hbm) (w : Nat) (v : Word) (p : Bool) : Hbm := (h.write (8 * w) v 8).setPoison w p

/-- The stack of a word. -/
def wordStack (w : Nat) : DieId := BitVec.ofNat 2 (8 * w / 0x600000000)

/-! ### A word read through SECDED (R236) -/

/-- What a read of a word brings: its value and whether it is poisoned. -/
structure Got where
  val : Word
  poison : Bool
  bad : Bool
deriving DecidableEq, Repr

def Dev.eccCorr (d : Dev) (s : DieId) : Dev :=
  (d.modStack s fun x => { x with eccCnt := min 0xFFFFFFFF (x.eccCnt + 1) }).fault rMemErr 0 35 [] []

def Dev.eccUnc (d : Dev) : Dev := d.fault rMemErr 1 36 [] []

/-- A word as its controller reads it: an uncorrectable error gives a poisoned free value, the data as read (log 6). -/
def readWord (h : Hbm) (w : Nat) (u : Upset) (d : Dev) : Got × Dev :=
  match u with
  | .none => ({ val := h.word w, poison := h.poisoned w, bad := false }, d)
  | .corrected => ({ val := h.word w, poison := h.poisoned w, bad := false }, d.eccCorr (wordStack w))
  | .uncorrectable => ({ val := d.free.1, poison := true, bad := true }, d.free.2.eccUnc)

/-- Bytes of a word from byte `k`, zero- or sign-extended (R78). -/
def extend (v : Word) (n : Nat) (signed : Bool) : Word :=
  match n with
  | 1 => if signed then (v.setWidth 8).signExtend 64 else (v.setWidth 8).setWidth 64
  | 2 => if signed then (v.setWidth 16).signExtend 64 else (v.setWidth 16).setWidth 64
  | 4 => if signed then (v.setWidth 32).signExtend 64 else (v.setWidth 32).setWidth 64
  | _ => v

/-- SZ bytes of a word's value at an address, low bits first. -/
def pick (v : Word) (a : Nat) (n : Nat) : Word := extend (v >>> (8 * (a % 8))) n false

/-- A word with SZ bytes at an address replaced. -/
def patch (v : Word) (a n : Nat) (x : Word) : Word :=
  let m : Word := BitVec.ofNat 64 (2 ^ (8 * n) - 1) <<< (8 * (a % 8))
  (v &&& ~~~m) ||| ((x <<< (8 * (a % 8))) &&& m)

/-- A store of SZ bytes (R237): a whole word takes the value's poison; a narrower store reads the word first, and leaves it
poisoned when it was, when the value is, or when that read fails. -/
def storeBytes (h : Hbm) (a n : Nat) (x : Word) (p : Bool) (u : Upset) (d : Dev) : Hbm × Dev :=
  if n = 8 then (h.putWord (a / 8) x p, d)
  else
    let (g, d) := readWord h (a / 8) u d
    if g.bad then (h.putWord (a / 8) (patch g.val a n x) true, d)
    else ((h.write a x n).setPoison (a / 8) (g.poison || p), d)

/-! ### Requests at a controller -/

/-- A response to the cell of a request. -/
def Dev.respond (d : Dev) (s : DieId) (r : MemReq) (a : Answer) : Dev := d.lockAnswer s r a

/-- Request i of a stack, when it is among the operations wanted. -/
def Dev.takeReq (d : Dev) (s : DieId) (i : Nat) (p : MemOp → Bool) : Option (MemReq × Dev) :=
  match takeAt (d.stack s).reqs i with
  | some (r, rest) => if p r.op && !d.stackIso s then some (r, d.modStack s fun x => { x with reqs := rest }) else none
  | none => none

/-- The region kind allows plain requests (R139, R241). -/
def Dev.isPlain (d : Dev) (a : Nat) : Bool :=
  match d.memKind a with
  | .plain => true
  | _ => false

/-- The STRUCT region in whose data area an address lies. -/
def Dev.structAt (d : Dev) (a : Nat) : Option Region :=
  match d.memKind a with
  | .data r => some r
  | _ => none

/-- A stack's memory and device: a meaning that changes both, only while the dies run. -/
def onMem (f : Hbm → Dev → Hbm × Dev) (s : State) : Host.Outcome State Fault Refusal :=
  if s.dev.diesStop then .next s else .next { s with hbm := (f s.hbm s.dev).1, dev := (f s.hbm s.dev).2 }

/-- CONTROLLER_READ: LD of request i (R139, R255). -/
def controllerRead (s : DieId) (i : Nat) (u : Upset) (h : Hbm) (d : Dev) : Hbm × Dev :=
  match d.takeReq s i (fun o => o = .ld) with
  | none => (h, d)
  | some (r, d) =>
    let a := r.addr.toNat
    if !d.isPlain a then (h, d.respond s r .memError)
    else
      let (g, d) := readWord h (a / 8) u d
      let n := szBytes r.sz
      (h, d.respond s r (.value (extend (g.val >>> (8 * (a % 8))) n r.sx) g.poison))

/-- CONTROLLER_WRITE: ST of request i. -/
def controllerWrite (s : DieId) (i : Nat) (u : Upset) (h : Hbm) (d : Dev) : Hbm × Dev :=
  match d.takeReq s i (fun o => o = .st) with
  | none => (h, d)
  | some (r, d) =>
    let a := r.addr.toNat
    if !d.isPlain a then (h, d.respond s r .memError)
    else
      let (h, d) := storeBytes h a (szBytes r.sz) r.data r.dpoison u d
      (h, d.respond s r (.value 0 false))

/-! ### Atomics (R142, R249, R250) -/

/-- Whether an operation is an atomic. -/
def MemOp.isAtomic : MemOp → Bool
  | .aadd => true
  | .axchg => true
  | .acas => true
  | .amin => true
  | .amax => true
  | .aand => true
  | .aor => true
  | _ => false

/-- The new value of an atomic from m and b, both of n bytes; none: ACAS whose comparison fails. -/
def atomicNew (op : MemOp) (n : Nat) (signed : Bool) (m b e : Word) : Option Word :=
  let lt : Bool := if signed then (extend m n true).slt (extend b n true) else (extend m n false).ult (extend b n false)
  match op with
  | .aadd => some (m + b)
  | .axchg => some b
  | .acas => if extend m n false = extend e n false then some b else none
  | .amin => some (if lt then m else b)
  | .amax => some (if lt then b else m)
  | .aand => some (m &&& b)
  | _ => some (m ||| b)

/-- An atomic performed on a word: the old value, its poison, and the new contents. A poisoned word or one whose read fails is not
changed. -/
def performAtomic (r : MemReq) (u : Upset) (h : Hbm) (d : Dev) : Got × Hbm × Dev :=
  let a := r.addr.toNat
  let n := szBytes r.sz
  let signed : Bool := r.sx && decide (r.op = .amin || r.op = .amax)
  let (g, d) := readWord h (a / 8) u d
  let m := pick g.val a n
  let old : Got := { g with val := extend m n signed }
  if g.poison then (old, h, d)
  else
    match atomicNew r.op n signed m r.data r.cmp with
    | none => (old, h, d)
    | some v =>
      let (h, d) := storeBytes h a n v r.dpoison .none d
      (old, h, d)

/-- CONTROLLER_ATOMIC. -/
def controllerAtomic (s : DieId) (i : Nat) (u : Upset) (h : Hbm) (d : Dev) : Hbm × Dev :=
  match d.takeReq s i MemOp.isAtomic with
  | none => (h, d)
  | some (r, d) =>
    if !d.isPlain r.addr.toNat then (h, d.respond s r .memError)
    else
      let (g, h, d) := performAtomic r u h d
      (h, d.respond s r (.value g.val g.poison))

/-! ### Structure words (R244 to R248) -/

def deferredEntries : Nat := 16384

/-- Overflow records of a STRUCT region: one for each 16 KiB (R245). -/
def Region.overflowRecords (r : Region) : Nat := r.size / 16384

def Dev.drtUsed (d : Dev) (s : DieId) : Nat := count (fun x => !x.overflow) (d.stack s).deferred

def Dev.overflowUsed (d : Dev) (s : DieId) (r : Region) : Nat :=
  count (fun x => x.overflow && r.covers (8 * x.word)) (d.stack s).deferred

/-- The response to a recorded read. -/
def Dev.releaseDeferred (d : Dev) (s : DieId) (x : Deferred) (v : Word) (p : Bool) : Dev :=
  match x.src with
  | .cell c e uid => d.sendFromDie s (.rsp { dst := c, entry := e, uid := uid, graph := x.graph, ans := .value v p })
  | _ => d

/-- Every read recorded for a word is released, in the order recorded. -/
def Dev.releaseAll (d : Dev) (s : DieId) (w : Nat) (v : Word) (p : Bool) : Dev :=
  let mine := (d.stack s).deferred.filter fun x => x.word = w
  let d := d.modStack s fun x => { x with deferred := x.deferred.filter fun y => y.word ≠ w }
  mine.foldl (fun d x => d.releaseDeferred s x v p) d

/-- The first of the 32 data words that share a presence word with w (R243, R248). -/
def Region.presenceGroup (r : Region) (w : Nat) : Nat := w - (w - r.base / 8) % 32

/-- A presence word is lost: the data words it covers become FULL and poisoned, and reads recorded for them are released
poisoned with the words' values (R248). -/
def losePresence (s : DieId) (first : Nat) (h : Hbm) (d : Dev) : Hbm × Dev :=
  let (h, d) := (List.range 32).foldl (fun (x : Hbm × Dev) i =>
    ((x.1.setFull (first + i) true).setPoison (first + i) true, x.2.releaseAll s (first + i) (x.1.word (first + i)) true))
    (h, d)
  (h, d.fault rMemErr 2 37 [] [])

/-- The presence word of a data word is read. -/
def readPresence (s : DieId) (r : Region) (w : Nat) (pres : Upset) (h : Hbm) (d : Dev) : Hbm × Dev :=
  match pres with
  | .none => (h, d)
  | .corrected => (h, d.eccCorr s)
  | .uncorrectable => losePresence s (r.presenceGroup w) h d

/-- An LDS of a word that is not FULL is recorded, in the table or in an overflow record of its region, or answered not
recorded. -/
def Dev.defer (d : Dev) (s : DieId) (rg : Region) (r : MemReq) : Dev :=
  let w := r.addr.toNat / 8
  let record := fun (ovf : Bool) =>
    (d.modStack s fun x => { x with deferred := x.deferred ++ [{ word := w, src := r.src, graph := r.graph, overflow := ovf }] }).respond s r .ack
  if d.drtUsed s < deferredEntries then record false
  else if d.overflowUsed s rg < rg.overflowRecords then record true
  else (d.fault rMemErr 5 40 [] []).respond s r .notRecorded

/-- CONTROLLER_LDS. -/
def controllerLds (s : DieId) (i : Nat) (pres u : Upset) (h : Hbm) (d : Dev) : Hbm × Dev :=
  match d.takeReq s i (fun o => o = .lds) with
  | none => (h, d)
  | some (r, d) =>
    let w := r.addr.toNat / 8
    match d.structAt r.addr.toNat with
    | none => (h, d.respond s r .memError)
    | some rg =>
      let (h, d) := readPresence s rg w pres h d
      if h.isFull w then
        let (g, d) := readWord h w u d
        (h, d.respond s r (.value g.val g.poison))
      else (h, d.defer s rg r)

/-- CONTROLLER_STS. -/
def controllerSts (s : DieId) (i : Nat) (pres : Upset) (h : Hbm) (d : Dev) : Hbm × Dev :=
  match d.takeReq s i (fun o => o = .sts) with
  | none => (h, d)
  | some (r, d) =>
    let w := r.addr.toNat / 8
    match d.structAt r.addr.toNat with
    | none => (h, d.respond s r .memError)
    | some rg =>
      let (h, d) := readPresence s rg w pres h d
      if h.isFull w then (h, d.respond s r .writeTwice)
      else
        ((h.putWord w r.data r.dpoison).setFull w true, (d.releaseAll s w r.data r.dpoison).respond s r (.value 0 false))

/-- Words of a STRUCT range set EMPTY (R243, R398). -/
def Hbm.setEmpty (h : Hbm) (lo hi : Nat) : Hbm := { h with full := h.full.filter fun x => x.1 < lo || hi ≤ x.1 }

/-- REGION_INIT_DONE: the oldest initialisation of a STRUCT region ends: its words are EMPTY, with no read recorded for any
of them, and its overflow area is clear (R243, R244). -/
def regionInitDone (h : Hbm) (d : Dev) : Hbm × Dev :=
  match d.rgnInit with
  | [] => (h, d)
  | n :: rest =>
    let d := { d with rgnInit := rest }
    match d.region n with
    | none => (h, d)
    | some r =>
      (h.setEmpty (r.base / 8) (r.dataEnd / 8),
        d.modStack (wordStack (r.base / 8)) fun x =>
          { x with deferred := x.deferred.filter fun y => !r.covers (8 * y.word) })

/-! ### Scrub and self-refresh (R238, R239) -/

/-- Words of a stack. -/
def stackWords : Nat := 0x600000000 / 8

/-- HBM_SCRUB: the next word of the stack is read; a presence word that fails loses the words it covers.
It sets PRES_UNC alone: R238 and R248 do not say whether ECC_UNC sets too (DESIGN CHOICE, log 75). -/
def hbmScrub (s : DieId) (u : Upset) (h : Hbm) (d : Dev) : Hbm × Dev :=
  if d.fld rMemCfg 0 8 = 0 || d.stackIso s then (h, d)
  else
    let k := (d.stack s).scrub
    let a := s.toNat * 0x600000000 + 8 * k
    let d := d.modStack s fun x => { x with scrub := (k + 1) % stackWords }
    match u with
    | .none => (h, d)
    | .corrected => (h, d.eccCorr s)
    | .uncorrectable =>
      match d.memKind a with
      | .carve r =>
        if a < r.dataEnd + 31 * r.size / 1024 then losePresence s (r.base / 8 + 32 * ((a - r.dataEnd) / 8)) h d
        else (h, d.eccUnc)
      | _ => (h, d.eccUnc)

/-- HBM_SELF_REFRESH: no request for 1 ms, and the governor permits it. -/
def hbmSelfRefresh (s : DieId) (permit : Bool) (d : Dev) : Dev :=
  let x := d.stack s
  if permit && x.reqs.isEmpty && x.lastReq + 1000000 ≤ d.clock.run && !d.stackIso s then
    d.modStack s fun x => { x with selfRef := true }
  else d

/-! ### Host memory (R251, R252) -/

/-- HOST_MEM_REQUEST: waiting request i becomes a PCIe transaction with its graph's owner as requester; `a` is the host's
answer to a read, of which a timeout is none: the cell's own timeout ends the request (R252). Without Bus Master Enable it meets
MEM_ERROR and nothing is sent (R251). -/
def hostMemRequest (i : Nat) (a : HostData) (d : Dev) : Dev :=
  match takeAt d.hif.hostReqs i with
  | none => d
  | some (r, rest) =>
    let d := { d with hif := { d.hif with hostReqs := rest } }
    let fn := d.owner r.graph
    let addr := (bits r.addr 0 47).setWidth 64
    let n := szBytes r.sz
    match r.src with
    | .cell c e uid =>
      let answer := fun (d : Dev) (x : Answer) =>
        d.sendFromHub hubHost (.rsp { dst := c, entry := e, uid := uid, graph := r.graph, ans := x })
      if !d.busMaster fn then answer d .memError
      else if r.op = .st then answer (d.emit (.hostWrite fn addr n [extend r.data n false] (if r.dpoison then [0] else []))) (.value 0 false)
      else
        let d := d.readHost fn addr n a.status (a.poisoned.contains 0)
        match a.status with
        | .timeout => d
        | .ok => answer d (.value (extend (a.words.getD 0 0) n r.sx) (a.poisoned.contains 0))
        | .poisoned => answer d (.value (extend (a.words.getD 0 0) n r.sx) true)
        | _ => answer d .memError
    | _ => d

/-- HOST_WRITE_FAILED: HIF.ERR.WRITE (R252). -/
def hostWriteFails (d : Dev) : Dev := d.fault rHifErr 2 98 [] []

/-! ### The commands -/

/-- CONTROLLER_READ. -/
def execControllerRead (k : DieId) (i : Nat) (u : Upset) (s : State) : Host.Outcome State Fault Refusal :=
  onMem (controllerRead k i u) s

/-- CONTROLLER_WRITE. -/
def execControllerWrite (k : DieId) (i : Nat) (u : Upset) (s : State) : Host.Outcome State Fault Refusal :=
  onMem (controllerWrite k i u) s

/-- CONTROLLER_ATOMIC. -/
def execControllerAtomic (k : DieId) (i : Nat) (u : Upset) (s : State) : Host.Outcome State Fault Refusal :=
  onMem (controllerAtomic k i u) s

/-- CONTROLLER_LDS. -/
def execControllerLds (k : DieId) (i : Nat) (pres : Upset) (u : Upset) (s : State) : Host.Outcome State Fault Refusal :=
  onMem (controllerLds k i pres u) s

/-- CONTROLLER_STS. -/
def execControllerSts (k : DieId) (i : Nat) (pres : Upset) (s : State) : Host.Outcome State Fault Refusal :=
  onMem (controllerSts k i pres) s

/-- REGION_INIT_DONE. -/
def execRegionInitDone (s : State) : Host.Outcome State Fault Refusal :=
  onMem regionInitDone s

/-- HBM_SCRUB. -/
def execHbmScrub (k : DieId) (u : Upset) (s : State) : Host.Outcome State Fault Refusal :=
  onMem (hbmScrub k u) s

/-- HBM_SELF_REFRESH. -/
def execHbmSelfRefresh (k : DieId) (permit : Bool) (s : State) : Host.Outcome State Fault Refusal :=
  onDies (hbmSelfRefresh k permit) s

/-- HOST_MEM_REQUEST. -/
def execHostMemRequest (i : Nat) (a : HostData) (s : State) : Host.Outcome State Fault Refusal :=
  onHub (hostMemRequest i a) s

/-- HOST_WRITE_FAILED. -/
def execHostWriteFailed (s : State) : Host.Outcome State Fault Refusal :=
  onHub hostWriteFails s

end Sys2Proof.Machine
end

