-- ==== Sys2Proof/Machine/Events.lean ====
section
/-! DEFINITION. The event controller: where a record is delivered, its way there, and its presentation (R266 to R283). -/

namespace Sys2Proof.Machine

/-! ### Where a record is delivered (R274, R276) -/

/-- A cell that takes no events: isolated, or held in reset. -/
def Dev.cellOut (d : Dev) (c : CellId) : Bool := !(d.cell c).runs

/-- The fallback cell of a cell's cluster (R286). -/
def Dev.fallback (d : Dev) (c : CellId) : CellId :=
  BitVec.ofNat 10 (16 * (cellCluster c).toNat + d.fld (rFbcell (cellCluster c).toNat) 0 4)

/-- Where a record goes next. -/
inductive EvWay where
  /-- it is presented in the cell that holds it; `redirected`: as that cell's fallback -/
  | here (redirected : Bool)
  /-- it goes to a cell, with that post cell -/
  | send (c post : CellId) (redirected : Bool)
  | lost
deriving DecidableEq, Repr

/-- The handler instruction lies in a cell's range of the graph. -/
def Dev.handlerIn (d : Dev) (c : CellId) (g : GraphId) (e : Word) : Bool :=
  match d.graph g with
  | none => false
  | some x => x.has c && x.inRange c (evHinstr e)

/-- The delivery cell that the post cell resolves (R274). -/
def Dev.resolve (d : Dev) (post : CellId) (r : EvRec) : EvWay :=
  let e := (d.cell post).entry r.graph r.source.toNat
  let t := if evTgtv e then evTgt e else post
  if t = post then .here false
  else if !d.cellOut t then .send t post false
  else
    let f := d.fallback t
    if d.cellOut f || !d.handlerIn f r.graph e then .lost
    else if f = post then .here true
    else .send f post true

/-- A record on its way to a post cell that takes none: the cluster's fallback cell becomes its post cell (R276). -/
def Dev.repost (d : Dev) (r : EvRec) : EvWay :=
  let f := d.fallback r.post
  if d.cellOut f || f = r.post || !d.inMask f r.graph then .lost else .send f f true

/-- Where a record that cell c holds goes. -/
def Dev.evWay (d : Dev) (c : CellId) (r : EvRec) : EvWay :=
  if r.grant.isSome then .here false
  else if r.post = c then d.resolve c r
  else if r.place = .receive then .here false
  else if d.cellOut r.post then d.repost r
  else .send r.post r.post false

/-- EV_LOST in the post cell, which counts the event as consumed (R274, R276). -/
def Dev.loseEvent (d : Dev) (r : EvRec) : Dev :=
  (d.fault (rEverr r.post.toNat) 2 12 [] [.graph r.graph]).cellConsume r.post r.graph r.colour

def Dev.redirectFault (d : Dev) (c : CellId) : Dev := d.fault (rEverr c.toNat) 1 13 [] []

/-! ### Sending (R274) -/

/-- A packet of the event class leaves a cell for another: over the cluster crossbar, or over the mesh. -/
def Dev.sendEv (d : Dev) (c t : CellId) (p : Pkt) : Dev :=
  if cellCluster c = cellCluster t then d.modPipe t fun q => { q with inbox := q.inbox ++ [p] } else d.sendPkt c p

/-- A record leaves a cell toward another. -/
def Dev.sendRecord (d : Dev) (c t : CellId) (r : EvRec) : Dev := d.sendEv c t (.ev t r)

/-- A record of a cell changed. -/
def Dev.modRecord (d : Dev) (c : CellId) (born : Nat) (f : EvRec → EvRec) : Dev :=
  d.modEv c fun e => { e with recs := e.recs.map fun r => if r.born = born then f r else r }

/-- A place that a record holds and does not go to is given back, and its request forgotten: a grant that comes later is given back
too. -/
def Dev.giveBack (d : Dev) (c : CellId) (r : EvRec) : Dev :=
  let d := match r.granted with
    | none => d
    | some t => d.sendEv c t (.evGive t r.graph)
  d.modRecord c r.born fun r => { r with asked := none, granted := none }

/-- A request for a place in the receive buffer of a cell, once. -/
def Dev.askPlace (d : Dev) (c t : CellId) (r : EvRec) : Dev :=
  if r.asked = some t then d
  else
    ((d.giveBack c r).modRecord c r.born fun r => { r with asked := some t }).sendEv c t (.evAsk t c r.graph r.born)

/-- EVENT_RECORD_SEND: record i of a cell is resolved; it asks for a place, and is sent once that is granted. A place granted by a
cell to which it does not go any more is given back. -/
def eventSend (c : CellId) (i : Nat) (d : Dev) : Dev :=
  match (d.cell c).ev.recs[i]? with
  | none => d
  | some r =>
    if d.cellOut c then d
    else
      match d.evWay c r with
      | .here _ => if r.asked.isSome || r.granted.isSome then d.giveBack c r else d
      | .lost => ((d.giveBack c r).dropRecord c r.born).loseEvent r
      | .send t post redirected =>
        if r.granted = some t then
          let d := if redirected then d.redirectFault r.post else d
          (d.dropRecord c r.born).sendRecord c t { r with post := post }
        else d.askPlace c t r

/-- Records in a receive buffer. -/
def Cell.received (x : Cell) : Nat := count (fun r => r.place = .receive) x.ev.recs

/-- RECEIVE_BUFFER_GRANT: the oldest request gets a place, and the grant goes to the asker on the event class (R292). -/
def receiveGrant (c : CellId) (d : Dev) : Dev :=
  let x := d.cell c
  match x.ev.rbReq with
  | [] => d
  | (s, g, born) :: rest =>
    if !x.runs || receivePlaces ≤ x.received + x.ev.rbGrant then d
    else
      (d.modEv c fun e => { e with rbReq := rest, rbGrant := e.rbGrant + 1 }).sendEv c s (.evGrant s c g born)

/-! ### Arrival of a record -/

/-- A record enters a receive buffer. -/
def Dev.receiveRecord (d : Dev) (c : CellId) (r : EvRec) : Dev :=
  (d.modEv c fun e =>
    { e with
      recs := e.recs ++ [{ r with place := .receive, since := d.coreNow c, born := e.born, asked := none, granted := none
                                  returns := false }]
      born := e.born + 1
      rbGrant := if r.granted = some c then e.rbGrant - 1 else e.rbGrant }).wakeCell c

/-- A record as it travels without a place granted to it. -/
def EvRec.loose (r : EvRec) : EvRec := { r with asked := none, granted := none, returns := false }

/-- A record that reached, or waits in, a cell which takes none. Its post cell being out, the fallback cell becomes post cell (R276);
so sent, CEL.EVERR.REDIRECT sets in the addressed post cell (DESIGN CHOICE, log 75: R276 does not name the bit). An isolated delivery
cell's record goes to the same fallback cell; one for a cell in reset goes back to its post cell, which resolves it again (R282). -/
def Dev.turnRecord (d : Dev) (c : CellId) (r : EvRec) : Dev :=
  let f := d.fallback c
  if r.post = c then
    match d.repost r with
    | .send t post _ => (d.redirectFault c).sendRecord c t { r.loose with post := post }
    | _ => d.loseEvent r
  else if !(d.cell c).isolated then d.sendRecord c r.post r.loose
  else if d.cellOut f || !d.handlerIn f r.graph ((d.cell r.post).entry r.graph r.source.toNat) then d.loseEvent r
  else (d.redirectFault r.post).sendRecord c f r.loose

/-- A record of a graph under unload is discarded where it arrives (R39, R282). -/
def Dev.discardRecord (d : Dev) (c : CellId) (r : EvRec) : Dev :=
  (d.modEv c fun e => { e with rbGrant := if r.granted = some c then e.rbGrant - 1 else e.rbGrant }).cellConsume c r.graph r.colour

/-- A place granted to a record comes to its cell; a grant for a record that is gone or goes elsewhere is given back. -/
def Dev.takeGrant (d : Dev) (c t : CellId) (g : GraphId) (born : Nat) : Dev :=
  if (d.cell c).ev.recs.any fun r => r.born = born && r.asked = some t then
    d.modRecord c born fun r => { r with granted := some t }
  else d.sendEv c t (.evGive t g)

/-- A record comes to a cell. One whose entry was retargeted on the way goes back to its post cell (R275). -/
def Dev.recordArrives (d : Dev) (c : CellId) (r : EvRec) (taken : Dev) : Dev :=
  let x := d.cell c
  let free := fun (d : Dev) =>
    d.modEv c fun e => { e with rbGrant := if r.granted = some c then e.rbGrant - 1 else e.rbGrant }
  if !x.runs then taken.turnRecord c r
  else if d.graphUnloading r.graph then taken.discardRecord c r
  else if r.returns && r.post ≠ c then (free taken).sendRecord c r.post r.loose
  else if r.granted ≠ some c && receivePlaces ≤ x.received + x.ev.rbGrant then d
  else taken.receiveRecord c r

/-- EVENT_RECORD_ARRIVAL: place i of a cell's inbox: a record, a request for a place, a grant, or a place given back (R274). -/
def eventArrival (c : CellId) (i : Nat) (d : Dev) : Dev :=
  let x := d.cell c
  match takeAt x.pipe.inbox i with
  | none => d
  | some (p, rest) =>
    let taken := d.modPipe c fun p => { p with inbox := rest }
    match p with
    | .ev _ r => d.recordArrives c r taken
    | .evAsk _ s g born =>
      if x.runs then (taken.modEv c fun e => { e with rbReq := e.rbReq ++ [(s, g, born)] }).wakeCell c else d
    | .evGrant _ t g born => taken.takeGrant c t g born
    | .evGive _ _ => taken.modEv c fun e => { e with rbGrant := e.rbGrant - 1 }
    | _ => d

/-! ### Posting from outside the cell (R266, R276) -/

/-- An event posted in a cell by a unit of the hub, on its way to the receive buffer. -/
def Dev.post (d : Dev) (inp : Nat) (c : CellId) (g : GraphId) (src : Nat) (k : Carried) (colour : Bool) : Dev :=
  let r : EvRec :=
    { graph := g, source := BitVec.ofNat 6 src, left := k.left, right := k.right, oframe := k.oframe, oiter := k.oiter
      post := c, grant := none, place := .receive, since := d.coreNow c, born := 0, asked := none, granted := none
      returns := false, colour := colour }
  d.sendFromHub inp (.ev c r)

/-- PUPPETEER_POST: a firmware value, discarded where the source is disabled. -/
def puppeteerPost (c : CellId) (g : GraphId) (v : Word) (vt : BitVec 4) (poison : Bool) (d : Dev) : Dev :=
  if d.inMask c g && (d.cell c).enabled g srcPuppeteerPost then
    (d.hubCreate g (d.hubColour g)).post hubMgt c g srcPuppeteerPost
      { left := { bits := v, vtype := vt, poison := poison }, right := none, oframe := none, oiter := 0 } (d.hubColour g)
  else d

/-! ### Presentation (R270 to R272, R277 to R279) -/

/-- The margin in force in a cell (R277). -/
def Dev.margin (d : Dev) (c : CellId) : Nat :=
  if (d.cell c).ev.stack.isEmpty then d.fld rEvcfg 0 8 else (d.cell c).ev.pmargin.toNat

/-- The entry that governs a record: its post cell's. -/
def Dev.govern (d : Dev) (r : EvRec) : Word := (d.cell r.post).entry r.graph r.source.toNat

/-- A record is presentable (R278). -/
def Dev.presentable (d : Dev) (c : CellId) (r : EvRec) : Bool :=
  let e := d.govern r
  match (d.cell c).ev.stack.getLast? with
  | none => true
  | some l =>
    (evPri e).toNat + d.margin c < l.pri.toNat && (!evLvl e || (d.cell c).ev.stack.length < 8)

/-- Elements of least key. -/
def leastBy {α : Type} (key : α → Nat) (l : List α) : List α :=
  match minBy key l with
  | none => []
  | some a => l.filter fun x => key x = key a

/-- The record chosen (R279): aged ones first, oldest first; then by PRI, age, graph, source. Records are numbered as they are written,
so that of two of one core cycle the one raised by the earlier command is the older. -/
def Dev.chooseRecord (d : Dev) (c : CellId) : Option EvRec :=
  let l := (d.cell c).ev.recs.filter fun r =>
    d.presentable c r && (match d.evWay c r with | .here _ => true | _ => false)
  let last := fun (l : List EvRec) => minBy (fun r => r.graph.toNat * 64 + r.source.toNat) (leastBy (·.born) l)
  let pri := fun (l : List EvRec) => leastBy (fun r => (evPri (d.govern r)).toNat) l
  let aged := l.filter fun r => r.since + d.fld rAgecap 0 24 ≤ d.coreNow c
  if !aged.isEmpty then last (pri (leastBy (·.born) aged)) else last (pri l)

/-- A KIND 1 token (R271). -/
def Dev.handlerToken (d : Dev) (c : CellId) (g : GraphId) (e : Word) (frame : BitVec 12) (iter : BitVec 32)
    (port : BitVec 2) (v : Val) : Token :=
  TokenFields.pack
    { node := d.fbn.nodeId, cell := c, graph := g, cls := evHclass e, stream := 0, seq := 0, kind := 1, vtype := v.vtype
      poison := v.poison, epoch := d.fab.cur, colour := d.colour c g, frame := frame, instr := evHinstr e, port := port
      iter := iter, value := v.bits }

/-- The handler activation of a record (R270, R272). -/
def Dev.handler (d : Dev) (c : CellId) (r : EvRec) : Act :=
  match r.grant with
  | some t =>
    { graph := r.graph, frame := t.frame, iter := t.iter, instr := t.instr, left := some { tok := t, sticky := false }
      right := none, pred := none, handler := true, freeing := false }
  | none =>
    let e := d.govern r
    let frame := if evFi e then r.oframe.getD (evHframe e) else evHframe e
    let right := r.right.getD { bits := 0, vtype := 8, poison := false }
    { graph := r.graph, frame := frame, iter := r.oiter, instr := evHinstr e
      left := some { tok := d.handlerToken c r.graph e frame r.oiter 0 r.left, sticky := false }
      right := some { tok := d.handlerToken c r.graph e frame r.oiter 1 right, sticky := false }
      pred := none, handler := true, freeing := false }

/-- The counts of a presentation (R271, R283): two tokens made, the event consumed; a grant token goes on as it is. -/
def Dev.countPresented (d : Dev) (c : CellId) (r : EvRec) : Dev :=
  if r.grant.isSome then d
  else
    let k := d.colour c r.graph
    ((d.cellCreate c r.graph k).cellCreate c r.graph k).cellConsume c r.graph r.colour

/-- The level of a record with LVL 1 is pushed. -/
def Dev.pushLevel (d : Dev) (c : CellId) (r : EvRec) : Dev :=
  let e := d.govern r
  let m := BitVec.ofNat 8 (d.margin c)
  if evLvl e then
    d.modEv c fun x => { x with stack := x.stack ++ [{ pri := evPri e, graph := r.graph }], pmargin := m }
  else d

/-- EVENT_PRESENT. -/
def eventPresent (c : CellId) (d : Dev) : Dev :=
  if d.cellOut c || handlerPlaces ≤ (d.cell c).pipe.rdyH.length then d
  else
    match d.chooseRecord c with
    | none => d
    | some r =>
      let a := d.handler c r
      let d := match d.evWay c r with
        | .here true => d.redirectFault c
        | _ => d
      (((d.countPresented c r).pushLevel c r).dropRecord c r.born).modPipe c fun p => { p with rdyH := p.rdyH ++ [a] }

/-! ### The commands -/

/-- EVENT_PRESENT. -/
def execEventPresent (c : CellId) (s : State) : Host.Outcome State Fault Refusal :=
  onDies (eventPresent c) s

/-- EVENT_RECORD_SEND. -/
def execEventRecordSend (c : CellId) (i : Nat) (s : State) : Host.Outcome State Fault Refusal :=
  onDies (eventSend c i) s

/-- RECEIVE_BUFFER_GRANT. -/
def execReceiveBufferGrant (c : CellId) (s : State) : Host.Outcome State Fault Refusal :=
  onDies (receiveGrant c) s

/-- EVENT_RECORD_ARRIVAL. -/
def execEventRecordArrival (c : CellId) (i : Nat) (s : State) : Host.Outcome State Fault Refusal :=
  onDies (eventArrival c i) s

/-- PUPPETEER_POST. -/
def execPuppeteerPost (c : CellId) (g : GraphId) (v : Word) (vt : BitVec 4) (poison : Bool) (s : State) : Host.Outcome State Fault Refusal :=
  onDies (puppeteerPost c g v vt poison) s

end Sys2Proof.Machine
end

