-- ==== Sys2Proof/Machine/GraphEnd.lean ====
section
/-! DEFINITION. Graph reset, abort and unload: what they discard everywhere on the device, and what they leave (R39, R189, R218,
R247, R263, R282, R401, R448). -/

namespace Sys2Proof.Machine

/-! ### Items of a graph in transit -/

/-- A packet that is an item of a graph: a token, a refused token or an event. Requests and responses are none (R216). -/
def Pkt.itemOf (g : GraphId) : Pkt → Bool
  | .tok t _ _ => t.graph = g
  | .refuse t _ _ => t.graph = g
  | .ev _ e => e.graph = g
  | .fob p => Pkt.ofGraph (.fob p) && Pkt.graph (.fob p) = g
  | .req _ => false
  | .rsp _ => false
  | .evAsk _ _ _ _ => false
  | .evGrant _ _ _ _ => false
  | .evGive _ _ => false

def fobItemOf (g : GraphId) (p : FPacket) : Bool := Pkt.itemOf g (.fob p)

/-- The events among packets that a graph loses, for the places granted to them. -/
def evItems (g : GraphId) (l : List Pkt) : List EvRec :=
  l.filterMap fun p => match p with
    | .ev _ e => if e.graph = g then some e else none
    | _ => none

/-- Places of receive buffers granted to records that are gone are free again. -/
def Dev.ungrant (d : Dev) (l : List EvRec) : Dev :=
  l.foldl (fun d e =>
    match e.granted with
    | none => d
    | some t => d.modEv t fun x => { x with rbGrant := x.rbGrant - 1 }) d

/-- The fabric without a graph's items. -/
def Fabric.purge (f : Fabric) (g : GraphId) : Fabric :=
  { f.drop (Pkt.itemOf g) with drains := merase f.drains g.toNat }

/-- Every packet in the fabric. -/
def Fabric.pkts (f : Fabric) : List Pkt := f.flits.flatMap (·.pkts)

/-- Slots a Fober packet takes. -/
def slotsOf (p : FPacket) : Nat := (p.words.length + 2) / 3

/-- A link's queues without a graph's items; buffer slots of received ones are freed (R332). -/
def Link.purge (x : Link) (g : GraphId) : Link :=
  let gone := x.rx.filter fun q => fobItemOf g q.pkt && q.counted
  { x with
    tx := x.tx.filter fun q => !fobItemOf g q.pkt
    rx := x.rx.filter fun q => !fobItemOf g q.pkt
    freed := gone.foldl (fun m q =>
      mset 0 m q.pkt.mc.toNat (mget 0 m q.pkt.mc.toNat + BitVec.ofNat 12 (slotsOf q.pkt))) x.freed }

/-! ### A cell without a graph -/

/-- The items of a cell: tokens, continuation entries and event records, with graph and colour (R216). -/
def Cell.items (x : Cell) : List (GraphId × Bool) :=
  let tok := fun (t : Token) => (t.graph, t.colour)
  let act := fun (a : Act) => ([a.left, a.right, a.pred].filterMap id).filterMap fun o => if o.sticky then none else some (tok o.tok)
  let p := x.pipe
  (p.qs.flatMap fun q => (q.2.filter fun t => !t.installed).map fun t => tok t.tok) ++ p.held.map (fun h => tok h.tok) ++
  ((x.store.ms.filter fun e => !e.const && !e.sticky).map fun e => tok e.tok) ++
  (x.store.ring.filterMap fun r => match r.body with
    | .spilled t sticky => if sticky then none else some (tok t)
    | .parked t => some (tok t)
    | .saved _ => none) ++
  ((p.rdyH ++ p.rdy).flatMap act) ++
  (p.lanes.flatMap fun l => (l.2.slots.flatMap fun s => act s.act)) ++
  (p.ct.map fun e => (e.2.act.graph, e.2.colour)) ++ (p.bypass ++ p.ingress).map (fun r => tok r.tok) ++
  (p.egress.filterMap fun o => match o.pkt with
    | .tok t _ _ => some (tok t)
    | .refuse t _ _ => some (tok t)
    | _ => none) ++
  (x.ev.recs.map fun r => (r.graph, r.colour)) ++
  ((x.store.in0 ++ x.store.in1).filter fun t => !t.installed).map fun t => tok t.tok

/-- The items of a cell that meet a test are counted as consumed. -/
def Dev.consumeWhere (d : Dev) (c : CellId) (p : GraphId → Bool) : Dev :=
  ((d.cell c).items.filter fun x => p x.1 && (d.graph x.1).isSome).foldl (fun d x =>
    if d.inMask c x.1 then d.cellConsume c x.1 x.2 else d.hubConsume x.1 x.2) d

/-- Every item of a cell is counted as consumed. -/
def Dev.consumeItems (d : Dev) (c : CellId) : Dev := d.consumeWhere c fun _ => true

/-- Keys of a graph in a table keyed by frame. -/
def ofGraphKey (g : GraphId) (k : Nat) : Bool := keyGraph k = g

/-- The stores after a graph's reset: constants stay unless it is unloaded; entry frames stay bound and keep their slots; frame
numbers stay in use until unload (R48, R401). -/
def CellStore.purge (s : CellStore) (g : GraphId) (unload : Bool) : CellStore :=
  let mine := fun (k : Nat) => ofGraphKey g k
  let entry := fun (k : Nat) => match mfind s.frames k with
    | none => false
    | some r => r.entry && !unload
  let others := fun (l : List QTok) => l.filter fun q => q.tok.graph ≠ g
  { s with
    ms := s.ms.filter fun e => e.tok.graph ≠ g || (e.const && !unload)
    ring := s.ring.filter fun r => !mine r.key
    spilled := s.spilled.filter fun k => !mine k
    sweep := s.sweep.filter fun k => !mine k
    demand := s.demand.filter fun k => !mine k
    reel := match s.reel with
      | none => none
      | some k => if mine k then none else some k
    reelLeft := match s.reel with
      | none => s.reelLeft
      | some k => if mine k then 0 else s.reelLeft
    reserved := merase s.reserved g.toNat
    fires := s.fires.filter fun k => keyGraph (k / 16384) ≠ g
    frames := (s.frames.filter fun x => !mine x.1 || entry x.1).map fun x =>
      if mine x.1 then (x.1, { x.2 with st := .live }) else x
    inUse := s.inUse.filter fun k => !mine k || !unload
    in0 := others s.in0
    in1 := others s.in1
    setp0 := s.setp0 && s.in0.head? = (others s.in0).head?
    setp1 := s.setp1 && s.in1.head? = (others s.in1).head? }

def Lane.purge (l : Lane) (g : GraphId) : Lane :=
  { l with
    slots := l.slots.filter fun s => s.act.graph ≠ g
    rep := match l.rep with
      | none => none
      | some r => if r.act.graph = g then none else some r }

/-- The streams of a graph in a table keyed by graph and stream. -/
def streamOf (g : GraphId) (k : Nat) : Bool := k / 16 = g.toNat

/-- An event packet. -/
def Pkt.isEvent : Pkt → Bool
  | .ev _ _ => true
  | _ => false

/-- The pipeline after a graph's reset. Events that the fabric holds stay at unload, and are discarded where they arrive (R39). -/
def CellPipe.purge (p : CellPipe) (g : GraphId) (unload : Bool) : CellPipe :=
  let qs := mapLists (fun l => l.filter fun (q : QTok) => q.tok.graph ≠ g) p.qs
  { p with
    qs := qs
    credit := p.credit.filter fun x => !(mget [] qs x.1).isEmpty
    held := p.held.filter fun h => h.tok.graph ≠ g
    expSeq := p.expSeq.filter fun x => !streamOf g x.1
    sendCtr := p.sendCtr.filter fun x => !streamOf g x.1
    skips := p.skips.filter fun k => !streamOf g (k / 512)
    rdyH := p.rdyH.filter fun a => a.graph ≠ g
    rdy := p.rdy.filter fun a => a.graph ≠ g
    lanes := (p.lanes.map fun x => (x.1, x.2.purge g)).filter fun x => x.2 ≠ laneReset
    ct := p.ct.filter fun x => x.2.act.graph ≠ g
    bypass := p.bypass.filter fun r => r.tok.graph ≠ g
    ingress := p.ingress.filter fun r => r.tok.graph ≠ g
    egress := p.egress.filter fun o => !o.pkt.itemOf g || (unload && o.pkt.isEvent)
    inbox := p.inbox.filter fun x => !x.itemOf g || unload }

/-- Records of a graph leave a controller one by one, so that spare records are refilled (R273). -/
def Dev.dropRecords (d : Dev) (c : CellId) (g : GraphId) : Dev :=
  ((d.cell c).ev.recs.filter fun r => r.graph = g).foldl (fun d r => (d.dropRecord c r.born).ungrant [r]) d

/-- The event table of an unloaded graph is empty. -/
def CellEvents.purge (e : CellEvents) (g : GraphId) (unload : Bool) : CellEvents :=
  { e with
    stack := e.stack.filter fun l => l.graph ≠ g
    rbReq := e.rbReq.filter fun q => q.2.1 ≠ g
    evt := if unload then e.evt.filter fun x => x.1 / 64 ≠ g.toNat else e.evt }

/-- A cell loses a graph. At unload its items count as consumed, since the census goes on (R39, R189); a reset sets the
counters to 0 (R401). -/
def Dev.purgeCell (d : Dev) (g : GraphId) (unload : Bool) (c : CellId) : Dev :=
  let x := d.cell c
  let gone := if unload then [] else evItems g (x.pipe.inbox ++ x.pipe.egress.map (·.pkt))
  let d := if unload then d.consumeWhere c (· = g) else d
  ((((d.ungrant gone).dropRecords c g).modCell c fun x =>
    { x with
      store := x.store.purge g unload
      pipe := x.pipe.purge g unload
      ev := x.ev.purge g unload
      cen := if unload then x.cen else merase x.cen g.toNat
      lastCen := if unload then x.lastCen else merase x.lastCen g.toNat })).sweepFreeing c

/-- The cells that hold anything. -/
def Dev.listedCells (d : Dev) : List CellId := d.cells.map fun x => BitVec.ofNat 10 x.1

/-! ### The rest of the device -/

/-- A recorded read belongs to a cell's request of the graph. -/
def Deferred.ofGraph (g : GraphId) (x : Deferred) : Bool :=
  match x.src with
  | .cell _ _ _ => x.graph = g
  | _ => false

/-- The recorded reads of a graph's cells are removed (R247). -/
def Dev.dropDeferred (d : Dev) (g : GraphId) : Dev :=
  allDies.foldl (fun d s => d.modStack s fun x => { x with deferred := x.deferred.filter fun y => !y.ofGraph g }) d

def Yoyo.purge (y : Yoyo) (g : GraphId) : Yoyo :=
  { y with rts := y.rts.filter fun r => r.tok.graph ≠ g, refused := y.refused.filter fun r => r.tok.graph ≠ g }

def ORing.purge (o : ORing) (g : GraphId) : ORing := { o with accepted := o.accepted.filter fun e => e.graph ≠ g }

/-- What the graph has in return-to-sender rings and output entries counts as consumed; the hub does so (DESIGN CHOICE, log 74:
R218 does not say who counts the discarded ring records). -/
def Dev.consumeUncore (d : Dev) (g : GraphId) : Dev :=
  let toks := (allDies.flatMap fun k => (d.yoyo k).rts ++ (d.yoyo k).refused).filterMap fun r =>
    if r.tok.graph = g then some r.tok.colour else none
  let outs := (d.hif.orings.flatMap fun x => x.2.accepted).filterMap fun e => if e.graph = g then some e.colour else none
  (toks ++ outs).foldl (fun d k => d.hubConsume g k) d

/-- The units outside the cells at unload: what stands in rings goes; what is in the fabric, in holds and in links goes on, and
is discarded where it arrives (R39). -/
def Dev.unloadUncore (d : Dev) (g : GraphId) : Dev :=
  let d := ((d.dropDeferred g).abandon (Owner.ofGraph g)).consumeUncore g
  let d := allDies.foldl (fun d s => d.setYoyo s ((d.yoyo s).purge g)) d
  { d with hif := { d.hif with orings := d.hif.orings.map fun x => (x.1, x.2.purge g) } }

/-- The units outside the cells lose a graph: deferred reads, locks, rings, fabric, links, output entries, and the
census counters of lock units and proxies. -/
def Dev.purgeUncore (d : Dev) (g : GraphId) : Dev :=
  let d := (d.dropDeferred g).abandon (Owner.ofGraph g)
  let d := allDies.foldl (fun d s =>
    (d.modStack s fun x => { x with cen := merase x.cen g.toNat }).setYoyo s ((d.yoyo s).purge g)) d
  let d := d.ungrant (evItems g d.fab.pkts)
  { d with
    fab := d.fab.purge g
    links := d.links.map fun x => (x.1, x.2.purge g)
    fbn := { d.fbn with
      delivered := d.fbn.delivered.filter fun p => !fobItemOf g p
      proxyCen := d.fbn.proxyCen.filter fun x => x.1 % 64 ≠ g.toNat
      refusedOut := d.fbn.refusedOut.filter fun x => x.2.graph ≠ g }
    hif := { d.hif with orings := d.hif.orings.map fun x => (x.1, x.2.purge g) } }

/-- A graph's own record after a reset: not launched, counters and colour 0, no wave in progress; the run number stays. At unload
the counters go on until the slot is released, since R39's waves must balance over what is still in the fabric (DEDUCED,
log 74). -/
def Graph.reset (x : Graph) (now : Nat) (unload : Bool) : Graph :=
  { x with
    launched := false, running := false, complete := false, stalled := false, drained := false, drains := 0
    fresh := false, stallHeld := none
    waveNow := none, waveEnd := now, last := none, abandons := 0, consumed := 0, consumedAt := now
    cen := if unload then x.cen else censusZero }

/-- The steps of R401: the ABORTED notice of a run in progress comes first. -/
def Dev.resetGraph (d : Dev) (g : GraphId) (unload : Bool) : Dev :=
  let d := d.endRun g stAborted
  let d := if unload then d.unloadUncore g else d.purgeUncore g
  let d := d.listedCells.foldl (fun d c => d.purgeCell g unload c) d
  d.modGraph g fun x => x.reset d.clock.run unload

/-! ### Abort (R448) -/

/-- A graph's mask holds an isolated cell: the graph is held under reset. -/
def Dev.maskIsolated (d : Dev) (x : Graph) : Bool := x.mask.any fun c => (d.cell (BitVec.ofNat 10 c)).isolated

/-- A graph is aborted; one that is already held under reset is not aborted again. -/
def Dev.abortGraph (d : Dev) (g : GraphId) : Dev :=
  match d.graph g with
  | none => d
  | some x =>
    if x.held then d
    else
      let d := d.resetGraph g false
      d.modGraph g fun x => { x with held := d.maskIsolated x }

/-- The graphs due to be aborted are aborted (R448: within 10 µs). -/
def Dev.abortAll (d : Dev) : Dev :=
  let due := d.flt.absorbed
  due.foldl (fun d g => d.abortGraph g) { d with flt := { d.flt with absorbed := [] } }

/-! ### Unload (R39, R401) -/

/-- The queue map entries of a graph in a cell at their reset rule (R167, R168). -/
def Dev.resetQmap (d : Dev) (g : GraphId) (c : CellId) : Dev :=
  [0, 1].foldl (fun d i =>
    let n := 2 * g.toNat + i
    d.setReg (rQmap c.toNat n) (BitVec.ofNat 64 (qmapReset n))) d

/-- Unload: the discard steps, then the slot waits for the census; `by_` is the UNLOAD descriptor that completes then. -/
def Dev.unloadGraph (d : Dev) (g : GraphId) (by_ : Option (BitVec 12 × Nat)) : Dev :=
  match d.graph g with
  | none => d
  | some x =>
    let d := d.resetGraph g true
    let d := x.mask.foldl (fun d c => d.resetQmap g (BitVec.ofNat 10 c)) d
    d.modGraph g fun x => { x with unloading := some by_, held := false, quota := { quotaReset with msmin := 0 } }

end Sys2Proof.Machine
end

