-- ==== Sys2Proof/Machine/GraphLoad.lean ====
section
/-! DEFINITION. Graph images: their format, the checks of a load, and what a load writes (R38, R44, R48, R49, R74, R86, R168,
R179, R194, R195, R268, R403, R512). -/

namespace Sys2Proof.Machine

/-! ### The parts of an image -/

/-- A section: TYPE, CELL (0xFFFF for the whole graph), OFFSET, LENGTH. -/
structure Section where
  type_ : Nat
  cell : Nat
  off : Nat
  len : Nat
  reserved : Nat
deriving DecidableEq, Repr

/-- An image as its words stand in host memory, and its length in bytes. -/
structure Image where
  ws : List Word
  len : Nat
deriving DecidableEq, Repr

def Image.u8 (m : Image) (i : Nat) : Nat := (byteAt m.ws i).toNat
def Image.u16 (m : Image) (i : Nat) : Nat := halfAt m.ws i
def Image.u32 (m : Image) (i : Nat) : Nat := quadAt m.ws i
def Image.word (m : Image) (i : Nat) : Word := m.ws.getD (i / 8) 0
def Image.zero (m : Image) (from_ n : Nat) : Bool := (List.range n).all fun i => m.u8 (from_ + i) = 0

def Image.entry (m : Image) : Nat := m.u16 0x0E
def Image.home (m : Image) : Nat := m.u16 0x10
def Image.croot (m : Image) : Nat := m.u16 0x12

def Image.sections (m : Image) : List Section :=
  (List.range (m.u16 0x0C)).map fun i =>
    let o := 0x40 + 16 * i
    { type_ := m.u16 o, cell := m.u16 (o + 2), off := m.u32 (o + 4), len := m.u32 (o + 8), reserved := m.u32 (o + 12) }

/-- Sections of a type, of a cell. -/
def Image.ofType (m : Image) (t : Nat) : List Section := m.sections.filter fun s => s.type_ = t
def Image.ofCell (m : Image) (t c : Nat) : List Section := m.sections.filter fun s => s.type_ = t && s.cell = c

/-- The cells of the mask, in ascending order. -/
def Image.mask (m : Image) : List Nat :=
  match m.ofType 1 with
  | [] => []
  | s :: _ => (List.range 1024).filter fun c => bit (byteAt m.ws (s.off + c / 8)) (c % 8)

/-- A cell's ranges (TYPE 2). -/
def Image.cfg (m : Image) (c : Nat) : CellCfg :=
  match m.ofCell 2 c with
  | [] => cellCfgZero
  | s :: _ =>
    { ibase := m.u16 s.off, icount := m.u16 (s.off + 2), fbase := m.u16 (s.off + 4), fcount := m.u16 (s.off + 6)
      nfbase := m.u16 (s.off + 8) }

/-- Slot i of a cell's entry frame. -/
def Image.slot (m : Image) (c i : Nat) : Word :=
  match m.ofCell 2 c with
  | [] => 0
  | s :: _ => m.word (s.off + 16 + 8 * i)

/-- The words of a cell's section of a type. -/
def Image.words (m : Image) (t c : Nat) : List Word :=
  match m.ofCell t c with
  | [] => []
  | s :: _ => (List.range (s.len / 8)).map fun i => m.word (s.off + 8 * i)

/-- The instruction at an address of a cell. -/
def Image.instr (m : Image) (c i : Nat) : Word := (m.words 3 c).getD (i - (m.cfg c).ibase) 0

/-- The fan-out entry at an index of a cell. -/
def Image.fan (m : Image) (c i : Nat) : Word := (m.words 4 c).getD (i - (m.cfg c).fbase) 0

/-- The 16-byte records of the sections of a type, in the order in which they apply (R512). -/
def Image.records (m : Image) (t c : Nat) : List (Word × Word) :=
  (m.ofCell t c).flatMap fun s => (List.range (s.len / 16)).map fun i => (m.word (s.off + 16 * i), m.word (s.off + 16 * i + 8))

/-- Fields of a CONST record: INSTR, PORT, VTYPE, reserved. -/
def kInstr (w : Word) : Nat := nbits w 0 16
def kPort (w : Word) : Nat := nbits w 16 8
def kVtype (w : Word) : Nat := nbits w 24 8
def kReserved (w : Word) : Nat := nbits w 32 32

/-- Fields of an EVENTS record. -/
def kSource (w : Word) : Nat := nbits w 0 8

/-! ### Format (R403 steps 1 to 3, R512) -/

def imageMagic : Nat := 0x1A49474F

/-- The image with its CRC field zero. -/
def Image.crcBytes (m : Image) : List Byte :=
  (List.range m.len).map fun i => if 0x14 ≤ i && i < 0x18 then 0 else byteAt m.ws i

def Image.intact (m : Image) (len : Nat) : Bool :=
  m.u32 0 = imageMagic && m.u32 8 = len && m.len = len && m.u32 0x14 = (crc32c m.crcBytes).toNat

/-- The length that a section's TYPE demands. -/
def Image.lenOk (m : Image) (s : Section) : Bool :=
  match s.type_ with
  | 1 => s.len = 128
  | 2 => s.len = 48
  | 3 => s.len = 8 * (m.cfg s.cell).icount
  | 4 => s.len = 8 * (m.cfg s.cell).fcount
  | 5 => s.len % 16 = 0
  | 6 => s.len % 16 = 0
  | 7 => s.len = 16
  | 8 => s.len = 8
  | 9 => s.len % 8 = 0
  | _ => false

/-- A section of the whole graph. -/
def wholeGraph (t : Nat) : Bool := t = 1 || t = 7 || t = 8 || t = 9

def Image.sectionOk (m : Image) (s : Section) : Bool :=
  s.reserved = 0 && s.off % 8 = 0 && s.off + s.len ≤ m.len && m.lenOk s &&
  (if wholeGraph s.type_ then s.cell = 0xFFFF else m.mask.contains s.cell)

/-- A cell's CELL section and the sections it requires. -/
def Image.cellOk (m : Image) (c : Nat) : Bool :=
  let k := m.cfg c
  (m.ofCell 2 c).length = 1 && (m.ofCell 3 c).length = 1 && (m.ofCell 4 c).length = (if k.fcount = 0 then 0 else 1) &&
  1 ≤ k.icount && k.ibase + k.icount ≤ 16384 && k.fbase + k.fcount ≤ 4096 && k.nfbase ≤ 4095 &&
  (match m.ofCell 2 c with
    | s :: _ => m.zero (s.off + 10) 6
    | [] => false)

/-- The quotas of an image: an omitted one takes its default (R194, R512). -/
def Image.quota (m : Image) : Quota × Nat :=
  match m.ofType 7 with
  | [] => (quotaReset, 100)
  | s :: _ =>
    let w := m.word s.off
    let v := m.word (s.off + 8)
    let pick := fun (i dflt x : Nat) => if bit v (32 + i) then dflt else x
    ({ msmin := pick 0 quotaReset.msmin (64 * nbits w 0 16)
       mscap := pick 1 quotaReset.mscap (64 * nbits w 16 16)
       frcap := pick 2 quotaReset.frcap (nbits w 32 16)
       ctcap := pick 3 quotaReset.ctcap (nbits w 48 16)
       waitcap := pick 4 quotaReset.waitcap (nbits v 0 16) }, pick 5 100 (nbits v 16 16))

/-- Quotas in the ranges of R194, with a stall window of at least 1 ms. -/
def quotaOk (q : Quota) (win : Nat) : Bool :=
  q.msmin ≤ 32768 && 64 ≤ q.mscap && q.mscap ≤ 32768 && q.msmin ≤ q.mscap && 1 ≤ q.frcap && q.frcap ≤ 4096 &&
  1 ≤ q.ctcap && q.ctcap ≤ 1024 && 1 ≤ q.waitcap && q.waitcap ≤ q.ctcap && 1 ≤ win && win ≤ 65535

/-- The QUOTA section: OMIT[31:6] zero, omitted fields zero, quotas in range. -/
def Image.quotaSectionOk (m : Image) : Bool :=
  let own := match m.ofType 7 with
    | [] => true
    | s :: _ =>
      let w := m.word s.off
      let v := m.word (s.off + 8)
      let fields := [nbits w 0 16, nbits w 16 16, nbits w 32 16, nbits w 48 16, nbits v 0 16, nbits v 16 16]
      nbits v 38 26 = 0 && (fields.zipIdx).all fun (x, i) => !bit v (32 + i) || x = 0
  own && quotaOk m.quota.1 m.quota.2

def Image.qmapOk (m : Image) : Bool :=
  match m.ofType 8 with
  | [] => true
  | s :: _ => (List.range 8).all fun c => m.u8 (s.off + c) < 32

def Image.treeOk (m : Image) : Bool :=
  match m.ofType 9 with
  | [] => true
  | s :: _ => (List.range (s.len / 8)).all fun i => m.u8 (s.off + 8 * i + 4) ≤ 1 && m.zero (s.off + 8 * i + 5) 3

/-- Step 3. -/
def Image.formed (m : Image) (node : BitVec 16) : Bool :=
  m.u16 6 = 0 && m.zero 0x18 40 && 1 ≤ m.u16 0x0C && m.u16 0x0C ≤ 4096 && 0x40 + 16 * m.u16 0x0C ≤ m.len &&
  (m.ofType 1).length = 1 && (m.ofType 7).length ≤ 1 && (m.ofType 8).length ≤ 1 && (m.ofType 9).length ≤ 1 &&
  m.sections.all m.sectionOk && m.mask.all m.cellOk && m.entry ≤ 4095 && m.mask.contains m.home &&
  m.quotaSectionOk && m.qmapOk && m.treeOk && (!(m.ofType 9).isEmpty || m.croot = node.toNat)

/-! ### Words, events and constants (R403 step 4: R86, R268, R512) -/

/-- The port use at an address; a REP's is its target's (R82). -/
def Image.usesAt (m : Image) (uct : Map Reg) (c i : Nat) (port : BitVec 2) : Bool :=
  let w := m.instr c i
  (portUse uct (if wOpc w = opcRep then m.instr c (i + 1) else w)).uses port

/-- A fan-out entry: its format, and R86 item 6 when it names the firing cell itself. -/
def Image.entryOk (m : Image) (uct : Map Reg) (node : BitVec 16) (c : Nat) (e : Word) : Bool :=
  let k := m.cfg c
  Machine.entryOk e &&
  (if eTop e ≠ 4 && eNode e = node && (eCell e).toNat = c then
    k.ibase ≤ (eInstr e).toNat && (eInstr e).toNat < k.ibase + k.icount && m.usesAt uct c (eInstr e).toNat (ePort e)
  else true)

/-- R86 on the word at address i of a cell. -/
def Image.instrOk (m : Image) (uct : Map Reg) (node : BitVec 16) (c i : Nat) : Bool :=
  let k := m.cfg c
  let w := m.instr c i
  if wOpc w = opcRep then
    repFormOk w && i + 1 < k.ibase + k.icount && repTargetOk uct w (m.instr c (i + 1))
  else
    (checkWord uct w).isNone &&
    ((localDests w).all fun d => localOk k.ibase k.icount (fun a p => m.usesAt uct c a p) d) &&
    listRangeOk k.fbase k.fcount w &&
    (if wDfmt w = 2 then (List.range (wCnt w + 1)).all fun j => m.entryOk uct node c (m.fan c (wStart w + j)) else true)

/-- An event entry with EN 1 (R268); every record names a source of R266 and has zero reserved bytes (log 24). For source 12 EN
is always 1, and the checks of the fields that it does not use are left out (log 24). -/
def Image.eventOk (m : Image) (c : Nat) (r : Word × Word) : Bool :=
  let src := kSource r.1
  let e := r.2
  let t := if evTgtv e then (evTgt e).toNat else c
  let k := m.cfg t
  let h := m.instr t (evHinstr e).toNat
  nbits r.1 8 56 = 0 && (src ≤ 22 || (32 ≤ src && src ≤ 63)) &&
  (!(evEn e || src = srcLockGrant) || nbits e 29 13 = 0) &&
  (!evEn e || src = srcLockGrant ||
    (m.mask.contains t && k.ibase ≤ (evHinstr e).toNat && (evHinstr e).toNat < k.ibase + k.icount &&
      wPred h = 0 && wStk h = 0))

/-- A CONST record (R512). -/
def Image.constOk (m : Image) (uct : Map Reg) (c : Nat) (r : Word × Word) : Bool :=
  let k := m.cfg c
  let i := kInstr r.1
  let w := m.instr c i
  let w := if wOpc w = opcRep then m.instr c (i + 1) else w
  k.ibase ≤ i && i < k.ibase + k.icount && kPort r.1 < 4 && stickyPort uct w = some (BitVec.ofNat 2 (kPort r.1)) &&
  kVtype r.1 ≤ 8 && kReserved r.1 = 0

/-- Step 4. -/
def Image.wordsOk (m : Image) (uct : Map Reg) (node : BitVec 16) : Bool :=
  m.mask.all fun c =>
    ((List.range (m.cfg c).icount).all fun i => m.instrOk uct node c ((m.cfg c).ibase + i)) &&
    (m.records 6 c).all (m.eventOk c) && (m.records 5 c).all (m.constOk uct c)

/-! ### Room on the device (R403 steps 5 and 6) -/

/-- The function a cell is assigned to; an isolated cell is withdrawn from its function (R388, R448). -/
def Dev.cellAssigned (d : Dev) (c : Nat) (fn : GraphId) : Bool :=
  mget 0 d.hif.cellFn c = fn && !(d.cell (BitVec.ofNat 10 c)).isolated

/-- Two ranges share an element; an empty one shares none (R74, R403). -/
def overlap (b1 n1 b2 n2 : Nat) : Bool := n1 ≠ 0 && n2 ≠ 0 && b1 < b2 + n2 && b2 < b1 + n1

/-- The constants of a cell: of each INSTR and PORT the last record (R512). -/
def Image.constants (m : Image) (c : Nat) : List (Word × Word) :=
  (m.records 5 c).foldl (fun l r =>
    (l.filter fun q => !(kInstr q.1 = kInstr r.1 && kPort q.1 = kPort r.1)) ++ [r]) []

/-- A constant as a token of its graph, in frame 0 and ITER 0 (R44, R178). -/
def constToken (node : BitVec 16) (c : CellId) (g : GraphId) (r : Word × Word) : Token :=
  TokenFields.pack
    { node := node, cell := c, graph := g, cls := 0, stream := 0, seq := 0, kind := 0, vtype := BitVec.ofNat 4 (kVtype r.1)
      poison := false, epoch := false, colour := false, frame := 0, instr := BitVec.ofNat 14 (kInstr r.1)
      port := BitVec.ofNat 2 (kPort r.1), iter := 0, value := r.2 }

/-- The place of a graph constant: ITER and FRAME are 0 (R178). -/
def constPlace (g : GraphId) (r : Word × Word) : Bool × BitVec 11 :=
  let i := BitVec.ofNat 14 (kInstr r.1)
  (bankOf g i, setOf g 0 i 0)

/-- A constant takes a way of its set, where it stays (R44, R179). Under set pressure the frame of R180 is spilled and swept
first, in at most `n` moves (log 24); none when no way comes free. -/
def Dev.putConst (d : Dev) (c : CellId) (g : GraphId) (r : Word × Word) : Nat → Option Dev
  | 0 => none
  | n + 1 =>
    let t := constToken d.fbn.nodeId c g r
    let p : Placing := { tok := t, bank := (constPlace g r).1, set := (constPlace g r).2, sticky := true }
    let s := (d.cell c).store
    match s.place p (d.stampNow c) with
    | some s =>
      some (d.modStore c fun _ => { s with ms := s.ms.map fun e => if e.tok = t && e.sticky then { e with const := true } else e })
    | none =>
      match s.pressureVictim p with
      | none => none
      | some v => ((d.spillFrame c v).sweepOne c).putConst c g r n

/-- The constants of a cell go into its matching store. -/
def Dev.putConsts (d : Dev) (m : Image) (g : GraphId) (c : Nat) : Option Dev :=
  let cell := BitVec.ofNat 10 c
  (m.constants c).foldl (fun d r => match d with
    | none => none
    | some d => d.putConst cell g r ((d.cell cell).store.ms.length + (d.cell cell).store.sweep.length + 2)) (some d)

/-- The first valid SPILL region of a die's stack (R206, R241). -/
def Dev.spillRegion (d : Dev) (s : DieId) : Option Region :=
  d.regions.find? fun r => r.kind = 2 && wordStack (r.base / 8) = s

/-- Bytes of a cell's spill ring and of a die's return-to-sender ring. -/
def Dev.spillBytes (d : Dev) : Nat := 2 ^ (20 + d.fld rSpillcfg 0 3)
def Dev.rtsBytes (d : Dev) : Nat := 2 ^ (20 + d.fld rSpillcfg 8 4)

/-- A cell has its spill ring and its die's return-to-sender ring (R195). -/
def Dev.hasRings (d : Dev) (c : Nat) : Bool :=
  match d.spillRegion (cellDie (BitVec.ofNat 10 c)) with
  | none => false
  | some r => (c % 256 + 1) * d.spillBytes ≤ r.size && 256 * d.spillBytes + d.rtsBytes ≤ r.size

/-- Sum of MSMIN over the graphs of a cell, but for one slot. -/
def Dev.msminSum (d : Dev) (c : CellId) (but : GraphId) : Nat :=
  (d.cellGraphs c).foldl (fun n p => if p.1 = but then n else n + p.2.quota.msmin) 0

/-- Constants pinned in a set of a cell. -/
def CellStore.pinned (s : CellStore) (bank : Bool) (set : BitVec 11) : Nat := count (·.const) (s.inSet bank set)

/-- Step 6 for one cell. -/
def Dev.roomFor (d : Dev) (m : Image) (g : GraphId) (c : Nat) : Bool :=
  let k := m.cfg c
  let cell := BitVec.ofNat 10 c
  let s := (d.cell cell).store
  let consts := m.constants c
  let mine := fun (p : Bool × BitVec 11) => count (fun r => constPlace g r = p) consts
  (d.cellGraphs cell).all (fun p =>
    let q := p.2.at cell
    !overlap k.ibase k.icount q.ibase q.icount && !overlap k.fbase k.fcount q.fbase q.fcount) &&
  consts.all (fun r => mine (constPlace g r) + s.pinned (constPlace g r).1 (constPlace g r).2 ≤ 4) &&
  d.msminSum cell g + m.quota.1.msmin ≤ msEntries && consts.length ≤ m.quota.1.msmin && d.hasRings c && 0 < s.freeRecords &&
  (d.putConsts m g c).isSome

/-- The status of an image by the six steps of R403; none when it loads. -/
def Dev.imageStatus (d : Dev) (m : Image) (len : Nat) (g : GraphId) (fn : GraphId) : Option Byte :=
  if !m.intact len then some stFormat
  else if m.u16 4 ≠ 1 then some stUnknownVersion
  else if !m.formed d.fbn.nodeId then some stFormat
  else if !m.wordsOk d.uct.entries d.fbn.nodeId then some stFormat
  else if m.mask.any fun c => !d.cellAssigned c fn then some stNoAccess
  else if m.mask.any fun c => !d.roomFor m g c then some stNoResource
  else none

/-! ### What a load writes -/

/-- Reset PRI of a source (R266). -/
def resetPri (src : Nat) : Nat :=
  if src ≤ 2 then 0x10
  else if src ≤ 11 then 0x40
  else if src = 12 then 0x80
  else if src = 15 then 0x20
  else if src = 16 || src = 17 then 0x60
  else if src = 18 then 0xC0
  else if src = 20 then 0xA0
  else if src = 21 then 0x90
  else if src = 22 then 0x30
  else if 32 ≤ src then 0xE0
  else 0x40

/-- The entry of a source that an image omits (R268). -/
def omittedEntry (src : Nat) : Word := BitVec.ofNat 64 ((if src = 12 then 2 ^ 63 else 0) + resetPri src * 2 ^ 42 + 7 * 2 ^ 26)

/-- The 64 event entries of a cell (R268). -/
def Image.events (m : Image) (c : Nat) : List (Nat × Word) :=
  (List.range 64).map fun s =>
    match (m.records 6 c).reverse.find? fun r => kSource r.1 = s with
    | some r => (s, if s = 12 then r.2 ||| BitVec.ofNat 64 (2 ^ 63) else r.2)
    | none => (s, omittedEntry s)

/-- Words written from an address. -/
def putWords (m : Map Word) (base : Nat) (ws : List Word) : Map Word :=
  (ws.zipIdx).foldl (fun m (w, i) => mset 0 m (base + i) w) m

/-- The entry frame of a cell (R49). -/
def Image.entryRec (m : Image) (c : Nat) (stamp : BitVec 16) : FrameRec :=
  { st := .live, pv := false, parent := contZero, wbase := 0, w := 0, s0 := m.slot c 0, s1 := m.slot c 1, s2 := m.slot c 2
    s3 := m.slot c 3, entry := true, stamp := stamp }

/-- The queue map entries of a graph: the image's, or the reset rule (R168). -/
def Image.qmapWord (m : Image) (g : GraphId) (half : Nat) : Word :=
  match m.ofType 8 with
  | [] => BitVec.ofNat 64 (qmapReset (2 * g.toNat + half))
  | s :: _ => BitVec.ofNat 64 (m.u32 (s.off + 4 * half))

/-- A load writes one cell of the mask. -/
def Dev.loadCell (d : Dev) (m : Image) (g : GraphId) (c : Nat) : Dev :=
  let cell := BitVec.ofNat 10 c
  let k := m.cfg c
  let stamp := d.stampNow cell
  let key := frameKey g (BitVec.ofNat 12 m.entry)
  let d := d.modStore cell fun s =>
    { s with im := putWords s.im k.ibase (m.words 3 c), fo := putWords s.fo k.fbase (m.words 4 c)
             frames := minsert s.frames key (m.entryRec c stamp), inUse := insertNum key s.inUse }
  let d := (d.putConsts m g c).getD d
  let d := d.modEv cell fun e =>
    { e with evt := (m.events c).foldl (fun t x => mset 0 t (g.toNat * 64 + x.1) x.2) e.evt }
  [0, 1].foldl (fun d i => d.setReg (rQmap c (2 * g.toNat + i)) (m.qmapWord g i)) d

/-- The tree records: NODE, PARENT, and whether it is a Class C endpoint. -/
def Image.tree (m : Image) : List (BitVec 16 × BitVec 16 × Bool) :=
  match m.ofType 9 with
  | [] => []
  | s :: _ => (List.range (s.len / 8)).map fun i =>
      (BitVec.ofNat 16 (m.u16 (s.off + 8 * i)), BitVec.ofNat 16 (m.u16 (s.off + 8 * i + 2)), m.u8 (s.off + 8 * i + 4) = 1)

/-- The graph slot after a load: loaded, not launched, counters 0, colour 0 (R217, R398). -/
def Image.graph (m : Image) (fn : GraphId) (r : BitVec 12) (now : Nat) : Graph where
  owner := fn
  ring := r
  mask := m.mask
  cfg := m.mask.map fun c => (c, m.cfg c)
  entryFrame := BitVec.ofNat 12 m.entry
  home := BitVec.ofNat 10 m.home
  croot := BitVec.ofNat 16 m.croot
  tree := m.tree
  quota := m.quota.1
  launched := false
  run := 0
  running := false
  complete := false
  stalled := false
  drained := false
  drains := 0
  unloading := none
  held := false
  wave := 0
  waveNow := none
  waveEnd := now
  last := none
  lastWave := 0
  abandons := 0
  consumed := 0
  consumedAt := now
  fresh := false
  stallHeld := none
  notices := []
  cen := censusZero

/-- A load that passed every check. -/
def Dev.loadGraph (d : Dev) (m : Image) (g fn : GraphId) (r : BitVec 12) : Dev :=
  let d := m.mask.foldl (fun d c => d.loadCell m g c) d
  let d := d.setReg (rGstall g.toNat) (BitVec.ofNat 64 m.quota.2)
  d.setGraph g (m.graph fn r d.clock.run)

end Sys2Proof.Machine
end

