-- ==== Sys2Proof/Machine/RingWords.lean ====
section
/-! DEFINITION. The words of the spill rings and return-to-sender rings as HBM shows them (R206, R207, R213, R255). State holds the
records; their words follow from them. A word that the Yo-yo has not written, or the host has written since, is that of HBM. -/

namespace Sys2Proof.Machine

/-! ### Spill rings -/

/-- NEXT, HEAD of no record. -/
def noRecord : Nat := 0xFFFFFF

/-- TYPE of the i-th part of a record (R207). -/
def SpillBody.type_ (b : SpillBody) (i : Nat) : Nat :=
  match b with
  | .spilled _ _ => 1
  | .parked _ => 2
  | .saved _ => 3 + i

/-- Word j below the header of the i-th part of a record: a token, or the 406 bits of a saved frame record. -/
def SpillRec.data (r : SpillRec) (i j : Nat) : Word :=
  match r.body with
  | .spilled t _ => tokenWord t 0 j
  | .parked t => tokenWord t 0 j
  | .saved f => BitVec.ofNat 64 (frameBits r.key f / 2 ^ (64 * (3 * i + j)))

/-- The record numbers of the chain of a head, first to last. -/
def CellStore.chainNums (s : CellStore) (head : Nat) : List Nat :=
  (s.ring.filter fun r => chainHead r.key r.body = head).flatMap (·.nums)

/-- The number after `n` in a chain. -/
def nextNum (n : Nat) : List Nat → Nat
  | [] => noRecord
  | a :: l => if a = n then l.headD noRecord else nextNum n l

/-- The record that a number belongs to, and which part of it. -/
def CellStore.recordAt (s : CellStore) (n : Nat) : Option (SpillRec × Nat) :=
  (s.ring.find? fun r => r.nums.contains n).map fun r => (r, (List.range r.nums.length).findIdx fun i => r.nums.getD i 0 = n)

/-- A chain head: HEAD and TAIL. TAIL of an empty chain is a free value (log 22). -/
def CellStore.headWord (s : CellStore) (w : Nat) (free : Word) : Word :=
  match s.chainNums w with
  | [] => BitVec.ofNat 64 noRecord ||| (bits free 0 24 : BitVec 24).setWidth 64 <<< 24
  | n :: l => BitVec.ofNat 64 (n + 2 ^ 24 * (l.getLastD n))

/-- Word `w` of a spill ring as the Yo-yo has written it; a record in no chain holds a free value (log 22). -/
def CellStore.ringWord (s : CellStore) (w : Nat) (free : Word) : Word :=
  if w < 69632 then s.headWord w free
  else
    let n := (w - 69632) / 4
    match s.recordAt n with
    | none => free
    | some (r, i) =>
      if w % 4 = 3 then
        BitVec.ofNat 64 (r.body.type_ i * 2 ^ 45 + nextNum n (s.chainNums (chainHead r.key r.body)))
      else r.data i (w % 4)

/-! ### Return-to-sender rings -/

/-- Header word of a record of a return-to-sender ring (R213). -/
def RtsRec.header (r : RtsRec) : Word :=
  r.due ++ BitVec.ofNat 8 r.count ++ (0 : BitVec 5) ++ b2v r.hub ++ r.src ++ (0 : BitVec 24)

/-- Word `i` of a return-to-sender ring as the Yo-yo has written it; a place without a record holds a free value (log 22). -/
def Dev.rtsWord (d : Dev) (s : DieId) (i : Nat) (free : Word) : Word :=
  let y := d.yoyo s
  let places := d.rtsPlaces + 1
  if i = 0 then BitVec.ofNat 64 y.head
  else if i = 1 then BitVec.ofNat 64 ((y.head + y.rts.length) % places)
  else
    match y.rts[((i - 512) / 4 + places - y.head) % places]? with
    | none => free
    | some r => tokenWord r.tok r.header (i % 4)

/-! ### HBM as a host descriptor reads it -/

/-- Where a word of HBM stands in the rings of its stack's first SPILL region: cell and word of a spill ring, or none and word of
the return-to-sender ring (R206). -/
def Dev.ringPlace (d : Dev) (w : Nat) : Option (Option CellId × Nat) :=
  match d.spillRegion (wordStack w) with
  | none => none
  | some r =>
    if 8 * w < r.base || r.base + r.size ≤ 8 * w then none
    else
      let o := 8 * w - r.base
      if o < 256 * d.spillBytes then
        some (some (BitVec.ofNat 10 (256 * (wordStack w).toNat + o / d.spillBytes)), o % d.spillBytes / 8)
      else if o < 256 * d.spillBytes + d.rtsBytes then some (none, (o - 256 * d.spillBytes) / 8)
      else none

/-- The word that the Yo-yo keeps at a place of HBM, with a free value where R207 leaves it open; none: HBM's own. A chain head of
a cell that a loaded graph uses is the Yo-yo's, written or not. -/
def Dev.yoyoWord (d : Dev) (w : Nat) (free : Word) : Option Word :=
  match d.ringPlace w with
  | none => none
  | some (some c, i) =>
    let s := (d.cell c).store
    let owned : Bool := i < 69632 && d.graphs.any fun x => x.2.has c
    if s.ringWords.contains i || owned then some (s.ringWord i free) else none
  | some (none, i) =>
    let s := wordStack w
    if (d.yoyo s).words.contains i then some (d.rtsWord s i free) else none

/-- A word of HBM as a host descriptor reads it. -/
def hostWord (h : Hbm) (w : Nat) (u : Upset) (d : Dev) : Got × Dev :=
  match d.yoyoWord w d.free.1 with
  | none => readWord h w u d
  | some v =>
    match u with
    | .uncorrectable => readWord h w u d
    | .corrected => ({ val := v, poison := false, bad := false }, d.free.2.eccCorr (wordStack w))
    | .none => ({ val := v, poison := false, bad := false }, d.free.2)

/-- The host has written the words from `w` to before `e`: those in rings are HBM's own again (R255). -/
def Dev.hostWrote (d : Dev) (w e : Nat) : Dev :=
  let hit := fun (place : Option CellId) (s : DieId) (i : Nat) =>
    match d.spillRegion s with
    | none => false
    | some r =>
      let o := match place with
        | some c => (c.toNat % 256) * d.spillBytes
        | none => 256 * d.spillBytes
      let a := (r.base + o) / 8 + i
      w ≤ a && a < e
  let d' := d.cells.foldl (fun d' x =>
    let c : CellId := BitVec.ofNat 10 x.1
    if x.2.store.ringWords.isEmpty then d'
    else d'.modStore c fun s => { s with ringWords := s.ringWords.filter fun i => !hit (some c) (cellDie c) i }) d
  d.yoyos.foldl (fun d' x =>
    let k : DieId := BitVec.ofNat 2 x.1
    if x.2.words.isEmpty then d'
    else d'.setYoyo k { d'.yoyo k with words := (d'.yoyo k).words.filter fun i => !hit none k i }) d'

end Sys2Proof.Machine
end

