-- ==== Sys2Proof/Machine/Descriptors.lean ====
section
/-! DEFINITION. Descriptors: their checks, fetch, and the opcodes but those of the NV store (R388, R389, R394 to R402, R513, R94,
R197). -/

namespace Sys2Proof.Machine

/-! ### Checks (R396) -/

/-- The first check that fails gives the status. -/
def firstFailing (l : List (Bool × Byte)) : Option Byte := (l.find? fun x => x.1).map (·.2)

/-- The bits of W1 to W7 that an opcode uses. -/
def lowMask (n : Nat) : Word := BitVec.ofNat 64 (2 ^ n - 1)
def allBits : Word := BitVec.allOnes 64
def hiMask : Word := 0xFFFFFFFF00000000#64

/-- Unused words and fields of a descriptor are zero. -/
def Desc.formed (x : Desc) (masks : List Word) : Bool :=
  nbits (x.w 0) 32 14 = 0 && (List.range 7).all fun i => x.w (i + 1) &&& ~~~(masks.getD i 0) = 0

/-- Checks 1 to 3 that every opcode shares. -/
def headChecks (r : BitVec 12) (x : Desc) (admin : Bool) (masks : List Word) : List (Bool × Byte) :=
  [(x.ver ≠ 1, stUnknownVersion), (!x.formed masks, stFormat), (admin && r ≠ 0, stNoAccess)]

/-- A descriptor completes, found by its number: what it did may have completed others. -/
def Dev.finish (d : Dev) (r : BitVec 12) (x : Desc) (status : Byte) (result : Word) : Dev :=
  match d.placeOf r x.index with
  | none => d
  | some k => d.complete r k status result

/-- A descriptor that stays in progress. -/
def Dev.park (d : Dev) (r : BitVec 12) (x : Desc) : Dev :=
  match d.placeOf r x.index with
  | none => d
  | some k => d.modPair r fun p => { p with started := putAt p.started k { x with waiting := true } }

/-- Descriptor k of ring r when it is one of those wanted and nothing has been done for it. -/
def Dev.pick (d : Dev) (r : BitVec 12) (k : Nat) (want : Desc → Bool) : Option Desc :=
  match d.desc r k with
  | none => none
  | some x => if want x && !x.waiting then some x else none

/-- A descriptor that fails a check completes with its status and nothing else (R7); otherwise `body` acts. -/
def Dev.perform (d : Dev) (r : BitVec 12) (k : Nat) (want : Desc → Bool) (checks : Desc → List (Bool × Byte))
    (body : Desc → Dev → Dev) : Dev :=
  match d.pick r k want with
  | none => d
  | some x =>
    match firstFailing (checks x) with
    | some st => d.finish r x st 0
    | none => body x d

def hostStatusByte (s : HostStatus) : Byte :=
  match s with
  | .ok => stOk
  | .unsupported => stNoAccess
  | .aborted => stNoAccess
  | .timeout => stTimeout
  | .poisoned => stPoisoned

/-- The status of data read for a descriptor that takes no poison. -/
def dataStatus (h : HostData) : Byte :=
  if h.status = .ok && !h.poisoned.isEmpty then stPoisoned else hostStatusByte h.status

/-- A graph owned by another function. -/
def Dev.foreign (d : Dev) (g fn : GraphId) : Bool :=
  match d.graph g with
  | none => false
  | some x => x.owner ≠ fn

def Dev.loaded (d : Dev) (g : GraphId) : Bool := (d.graph g).isSome

/-- A graph under reset or unload. -/
def Dev.graphBusy (d : Dev) (g : GraphId) : Bool :=
  match d.graph g with
  | none => false
  | some x => x.held || x.unloading.isSome

/-- The graph that W1 names. -/
def Desc.graph (x : Desc) : GraphId := bits (x.w 1) 0 6

/-! ### LOAD -/

def maxImage : Nat := 536870912

def Dev.loadChecks (d : Dev) (r : BitVec 12) (x : Desc) : List (Bool × Byte) :=
  let len := nbits (x.w 1) 32 32
  headChecks r x false [hiMask ||| 0x3F#64, allBits] ++
    [(nbits (x.w 2) 0 3 != 0, stUnaligned), (len < 64 || maxImage < len, stBadValue),
      (d.loaded x.graph || !d.rgnInit.isEmpty || d.mgt.restoring, stBusy)]

/-- LOAD: the hub reads the image twice, to check it and to write it (R399). -/
def load (r : BitVec 12) (k : Nat) (h : HostData) (d : Dev) : Dev :=
  d.perform r k (fun x => x.opc = 0x01) (d.loadChecks r) fun x d =>
    let len := nbits (x.w 1) 32 32
    let fn := d.pairFn r
    let d := d.readHost fn (x.w 2) len h.status (!h.poisoned.isEmpty)
    if dataStatus h ≠ stOk then d.finish r x (dataStatus h) 0
    else
      let m : Image := { ws := h.words, len := len }
      match d.imageStatus m len x.graph fn with
      | some st => d.finish r x st 0
      | none => ((d.emit (.hostRead fn (x.w 2) len)).loadGraph m x.graph fn r).finish r x stOk 0

/-! ### INJECT (R34, R398, R400) -/

/-- R34 on a host token. -/
def hostTokenOk (t : Token) : Bool :=
  nbits t.w0 0 5 = 0 && nbits t.w1 32 4 = 0 && t.kind = 0 && vtypeOk t.vtype && t.port ≠ 3

/-- Words as tokens of 24 bytes. -/
def tokensOf : List Word → Nat → List Token
  | _, 0 => []
  | ws, n + 1 => { w0 := ws.getD 0 0, w1 := ws.getD 1 0, w2 := ws.getD 2 0 } :: tokensOf (ws.drop 3) n

def Desc.count (x : Desc) : Nat := nbits (x.w 1) 32 16

def injectChecks (r : BitVec 12) (x : Desc) : List (Bool × Byte) :=
  headChecks r x false [0x0000FFFF00000000#64, allBits, if x.count = 0 then allBits else 0, if x.count = 0 then allBits else 0] ++
    [(x.count ≠ 0 && nbits (x.w 2) 0 3 ≠ 0, stUnaligned), (4096 < x.count, stBadValue)]

/-- The checks on the tokens, in the order of R396. -/
def Dev.tokenChecks (d : Dev) (fn g : GraphId) (ts : List Token) : List (Bool × Byte) :=
  [(!ts.all hostTokenOk, stFormat), (d.foreign g fn, stNoAccess),
    (ts.any fun t => t.node ≠ d.fbn.nodeId || t.graph ≠ g || (d.loaded g && !d.inMask t.cell g), stBadValue),
    (!d.loaded g, stNotFound), (d.graphBusy g || d.mgt.restoring, stBusy)]

/-- A token as the hub sends it: EPOCH and COLOUR are the hub's. -/
def Dev.hostToken (d : Dev) (t : Token) : Token :=
  { t with w0 := setBits (setBits t.w0 6 1 (b2n d.fab.cur)) 5 1 (b2n (d.hubColour t.graph)) }.plainSeq

/-- A graph takes part in a run: its first accepted INJECT launches it, and one after completion starts the next run. One in a
run may belong to the next, which DONE then tells (R223). -/
def Graph.inject (x : Graph) (now : Nat) : Graph := if x.running then { x with fresh := true } else x.nextRun now

/-- Tokens of an INJECT descriptor counted as created, then sent in list order: they queue in host injection staging. -/
def Dev.injectAll (d : Dev) (r : BitVec 12) (index : Nat) (ts : List Token) : Dev :=
  let ts := ts.map d.hostToken
  let d := ts.foldl (fun d t => d.hubCreate t.graph t.colour) d
  ts.foldl (fun d t => d.sendStaged hubHost (some (r, index)) (.tok t .hub 0)) d

/-- A token of an INJECT descriptor is in host injection staging. -/
def Dev.stagedFor (d : Dev) (r : BitVec 12) (index : Nat) : Bool :=
  (d.hubIn (stageKey hubHost)).any fun f => f.inj = some (r, index)

/-- INJECT descriptors whose tokens have all left host injection staging complete (R398). -/
def Dev.endInjects (d : Dev) : Dev :=
  let done := d.hif.pairs.flatMap fun p =>
    let r : BitVec 12 := BitVec.ofNat 12 p.1
    (p.2.started.filter fun x => x.waiting && x.opc = 0x02 && !d.stagedFor r x.index).map fun x => (r, x)
  done.foldl (fun d x => d.finish x.1 x.2 stOk (BitVec.ofNat 64 (max 1 x.2.count))) d

/-- A new run waits for the held graph-complete notice of the last one (R404). -/
def Dev.runWaits (d : Dev) (g : GraphId) : Bool :=
  match d.graph g with
  | none => false
  | some x => !x.running && x.runNoticeHeld

/-- INJECT: it completes when its tokens have left host injection staging. -/
def inject (r : BitVec 12) (k : Nat) (h : HostData) (d : Dev) : Dev :=
  d.perform r k (fun x => x.opc = 0x02) (injectChecks r) fun x d =>
    let n := max 1 x.count
    let fn := d.pairFn r
    let ts := if x.count = 0 then tokensOf [x.w 2, x.w 3, x.w 4] 1 else tokensOf h.words n
    let read := if x.count = 0 then d else d.readHost fn (x.w 2) (24 * n) h.status (!h.poisoned.isEmpty)
    if x.count ≠ 0 && dataStatus h ≠ stOk then read.finish r x (dataStatus h) 0
    else
      let g := (ts.getD 0 { w0 := 0, w1 := 0, w2 := 0 }).graph
      match firstFailing (d.tokenChecks fn g ts) with
      | some st => read.finish r x st 0
      | none =>
        if d.runWaits g then d
        else ((read.modGraph g fun y => y.inject d.clock.run).park r x).injectAll r x.index ts

/-! ### GRESET, UNLOAD (R401, R402) -/

def Dev.graphChecks (d : Dev) (r : BitVec 12) (x : Desc) : List (Bool × Byte) :=
  headChecks r x false [0x3F#64] ++
    [(d.foreign x.graph (d.pairFn r), stNoAccess), (!d.loaded x.graph, stNotFound), (d.graphUnloading x.graph, stBusy)]

/-- GRESET. -/
def greset (r : BitVec 12) (k : Nat) (d : Dev) : Dev :=
  d.perform r k (fun x => x.opc = 0x03) (d.graphChecks r) fun x d => (d.resetGraph x.graph false).finish r x stOk 0

/-- UNLOAD: it completes when the census has released the slot (R39). -/
def unload (r : BitVec 12) (k : Nat) (d : Dev) : Dev :=
  d.perform r k (fun x => x.opc = 0x04) (d.graphChecks r) fun x d =>
    (d.park r x).unloadGraph x.graph (some (r, x.index))

/-! ### HBM (R388, R241, R398) -/

/-- A function's window of HBM in bytes; the physical function's is the whole of HBM. -/
def Dev.window (d : Dev) (fn : GraphId) : Nat × Nat :=
  if fn = 0 then (0, hbmEnd)
  else
    let w := mget (0, 0) d.hif.window fn.toNat
    (w.1 * rgnUnit, w.2 * rgnUnit)

/-- Mapped bytes of a range lie in a function's window. -/
def Dev.inWindow (d : Dev) (fn : GraphId) (a n : Nat) : Bool :=
  let w := d.window fn
  let last := min (a + n) hbmEnd
  last ≤ a || (w.1 ≤ a && last ≤ w.1 + w.2)

def Dev.meets (d : Dev) (a n : Nat) (p : Region → Nat × Nat) (kind : Nat) : Bool :=
  d.regions.any fun r => r.kind = kind && a < (p r).2 && (p r).1 < a + n

/-- R241 for the host's reads and writes. -/
def Dev.hostMayRead (d : Dev) (a n : Nat) : Bool := !d.meets a n (fun r => (r.dataEnd, r.base + r.size)) 1

def Dev.hostMayWrite (d : Dev) (a n : Nat) : Bool :=
  !d.meets a n (fun r => (r.base, r.base + r.size)) 1 &&
    (d.graphs.isEmpty || !d.meets a n (fun r => (r.base, r.base + r.size)) 2)

/-- A stack in a range is out of service. -/
def Dev.rangeIso (d : Dev) (a n : Nat) : Bool :=
  allDies.any fun s => d.stackIso s && a < (s.toNat + 1) * 0x600000000 && s.toNat * 0x600000000 < a + n

def Desc.addr (x : Desc) : Nat := nbits (x.w 1) 0 48
def Desc.len (x : Desc) : Nat := nbits (x.w 3) 0 32

def Dev.moveChecks (d : Dev) (r : BitVec 12) (x : Desc) (masks : List Word) (may : Nat → Nat → Bool) : List (Bool × Byte) :=
  headChecks r x false masks ++
    [(!d.inWindow (d.pairFn r) x.addr x.len || !may x.addr x.len, stNoAccess),
      (x.addr % 8 ≠ 0 || nbits (x.w 2) 0 3 ≠ 0 || x.len % 8 ≠ 0, stUnaligned),
      (x.len < 8 || 2 ^ 30 < x.len || hbmEnd < x.addr + x.len, stBadValue), (d.rangeIso x.addr x.len, stIsolated)]

/-- `n` words from word `w`, the i-th of a descriptor first: values, and which are poisoned. `us`: what the decoder finds
in each (R236). -/
def hostWords (h : Hbm) (w i : Nat) (us : List Upset) : Nat → Dev → List Word × List Nat × Dev
  | 0, d => ([], [], d)
  | n + 1, d =>
    let (g, d) := hostWord h w (us.headD .none) d
    let (ws, ps, d) := hostWords h (w + 1) (i + 1) us.tail n d
    (g.val :: ws, if g.poison then i :: ps else ps, d)

/-- The stacks of a range leave self-refresh (R239). -/
def Dev.wakeRange (d : Dev) (a n : Nat) : Dev :=
  (allDies.filter fun s => a < (s.toNat + 1) * 0x600000000 && s.toNat * 0x600000000 < a + n).foldl (fun d s => d.wakeStack s) d

/-- HBMRD. -/
def hbmrd (r : BitVec 12) (k : Nat) (us : List Upset) (h : Hbm) (d : Dev) : Dev :=
  d.perform r k (fun x => x.opc = 0x05)
    (fun x => d.moveChecks r x [lowMask 48, allBits, lowMask 32] d.hostMayRead) fun x d =>
      let (ws, ps, d) := hostWords h (x.addr / 8) 0 us (x.len / 8) (d.wakeRange x.addr x.len)
      let d := d.emit (.hostWrite (d.pairFn r) (x.w 2) x.len ws ps)
      match ps with
      | [] => d.finish r x stOk 0
      | i :: _ => d.finish r x stPoisoned (BitVec.ofNat 64 (8 * i))

/-- Words stored from word `w`, the i-th of a descriptor first. -/
def storeWords (ps : List Nat) (psn : Bool) (data : List Word) (w i : Nat) : Nat → Hbm → Hbm
  | 0, h => h
  | n + 1, h => storeWords ps psn data (w + 1) (i + 1) n (h.putWord w (data.getD i 0) (psn || ps.contains i))

/-- HBMWR's checks. -/
def Dev.hbmwrChecks (d : Dev) (r : BitVec 12) (x : Desc) : List (Bool × Byte) :=
  d.moveChecks r x [lowMask 48, allBits, lowMask 32 ||| 0x8000000000000000#64] d.hostMayWrite

/-- HBMWR: the words of a poisoned TLP are stored poisoned. When the host read fails, the words that came before the failure stay
stored (R398). -/
def hbmwr (r : BitVec 12) (k : Nat) (data : HostData) (h : Hbm) (d : Dev) : Hbm × Dev :=
  match d.pick r k fun x => x.opc = 0x06 with
  | none => (h, d)
  | some x =>
    match firstFailing (d.hbmwrChecks r x) with
    | some st => (h, d.finish r x st 0)
    | none =>
      let ok : Bool := data.status = .ok || data.status = .poisoned
      let n := if ok then x.len / 8 else min data.words.length (x.len / 8)
      let d := (d.readHost (d.pairFn r) (x.w 2) x.len data.status (!data.poisoned.isEmpty)).wakeRange x.addr x.len
      (storeWords data.poisoned (bit (x.w 3) 63) data.words (x.addr / 8) 0 n h,
        (d.hostWrote (x.addr / 8) (x.addr / 8 + n)).finish r x (if ok then stOk else hostStatusByte data.status) 0)

/-- The data area of one STRUCT region holds a range. -/
def Dev.inData (d : Dev) (a n : Nat) : Bool :=
  d.regions.any fun r => r.kind = 1 && r.base ≤ a && a + n ≤ r.dataEnd

/-- A word of a range is DEFERRED. -/
def Dev.deferredIn (d : Dev) (a n : Nat) : Bool :=
  allDies.any fun s => (d.stack s).deferred.any fun x => a ≤ 8 * x.word && 8 * x.word < a + n

def Dev.sclearChecks (d : Dev) (r : BitVec 12) (x : Desc) : List (Bool × Byte) :=
  headChecks r x false [lowMask 48, 0, lowMask 32] ++
    [(!d.inWindow (d.pairFn r) x.addr x.len, stNoAccess), (x.addr % 8 ≠ 0 || x.len % 8 ≠ 0, stUnaligned),
      (!d.inData x.addr x.len, stBadValue), (d.deferredIn x.addr x.len, stBusy), (d.rangeIso x.addr x.len, stIsolated)]

/-- SCLEAR: every word of the range is EMPTY. -/
def sclear (r : BitVec 12) (k : Nat) (h : Hbm) (d : Dev) : Hbm × Dev :=
  match d.pick r k fun x => x.opc = 0x07 with
  | none => (h, d)
  | some x =>
    match firstFailing (d.sclearChecks r x) with
    | some st => (h, d.finish r x st 0)
    | none => (h.setEmpty (x.addr / 8) ((x.addr + x.len) / 8), (d.wakeRange x.addr x.len).finish r x stOk 0)

/-! ### EVPOST -/

def Desc.cell (x : Desc) : CellId := bits (x.w 1) 6 10

def Dev.evpostChecks (d : Dev) (r : BitVec 12) (x : Desc) : List (Bool × Byte) :=
  let g := x.graph
  headChecks r x false [lowMask 16, allBits, lowMask 5] ++
    [(Nat.blt 8 (nbits (x.w 3) 0 4), stFormat), (d.foreign g (d.pairFn r), stNoAccess),
      (d.loaded g && !d.inMask x.cell g, stBadValue),
      (!d.loaded g || (!d.graphUnloading g && !(d.cell x.cell).enabled g srcHostPost), stNotFound), (d.graphBusy g || d.mgt.restoring, stBusy)]

/-- EVPOST: HOST_POST is created by the hub and sent to the cell. -/
def evpost (r : BitVec 12) (k : Nat) (d : Dev) : Dev :=
  d.perform r k (fun x => x.opc = 0x08) (d.evpostChecks r) fun x d =>
    let g := x.graph
    let v : Val := { bits := x.w 2, vtype := bits (x.w 3) 0 4, poison := bit (x.w 3) 4 }
    let colour := d.hubColour g
    ((d.hubCreate g colour).post hubHost x.cell g srcHostPost { left := v, right := none, oframe := none, oiter := 0 } colour).finish
      r x stOk 0

/-! ### LOCK (R398, R509) -/

def Desc.sub (x : Desc) : Nat := nbits (x.w 1) 48 2

def Dev.lockChecks (d : Dev) (r : BitVec 12) (x : Desc) : List (Bool × Byte) :=
  headChecks r x false [lowMask 50] ++
    [(!d.inWindow (d.pairFn r) x.addr 8, stNoAccess), (x.addr % 8 ≠ 0, stUnaligned),
      (x.sub = 3 || hbmEnd ≤ x.addr, stBadValue), (d.rangeIso x.addr 8, stIsolated)]

/-- The result of a LOCK that a check of the hub refuses: word 2 of R146 where the status is one of a lock's (R397). -/
def Desc.lockResult (x : Desc) (st : Byte) : Word :=
  if st = stUnaligned || st = stBadValue || st = stIsolated then lockWord (bits (x.w 1) 0 48) st else 0

/-- A host function's lock request goes to the lock unit of the addressed stack. -/
def lockDesc (sub : Nat) (op : MemOp) (r : BitVec 12) (k : Nat) (d : Dev) : Dev :=
  match d.pick r k fun x => x.opc = 0x09 && x.sub = sub with
  | none => d
  | some x =>
    match firstFailing (d.lockChecks r x) with
    | some st => d.finish r x st (x.lockResult st)
    | none =>
      let a := bits (x.w 1) 0 48
      let req : MemReq :=
        { op := op, sz := 3, sx := false, addr := a, data := 0, cmp := 0, dpoison := false, graph := 0, frame := 0
          src := .desc r (d.pairFn r) x.index }
      (d.park r x).sendFromHub hubHost (.req req)

/-! ### ASSIGN (R388, R398) -/

def Desc.kind (x : Desc) : Nat := nbits (x.w 1) 8 2
def Desc.first (x : Desc) : Nat := nbits (x.w 2) 0 32
def Desc.number (x : Desc) : Nat := nbits (x.w 2) 32 32

/-- A range of keys assigned to a function; the physical function's are unlisted. -/
def assignRange (m : Map GraphId) (first : Nat) (fn : GraphId) : Nat → Map GraphId
  | 0 => m
  | n + 1 => assignRange (mset 0 m first fn) (first + 1) fn n

/-- `limit`: how many objects of the kind there are; `bad` and `busy`: the kind's own checks. -/
def Dev.assign (d : Dev) (kind limit : Nat) (r : BitVec 12) (k : Nat) (bad busy : Desc → Bool) (set : Desc → Dev → Dev) : Dev :=
  d.perform r k (fun x => x.opc = 0x40 && x.kind = kind)
    (fun x => headChecks r x true [0x33F#64, allBits] ++
      [(limit < x.first + x.number || bad x, stBadValue), (busy x, stBusy)])
    fun x d => (set x d).finish r x stOk 0

def inRange (first number i : Nat) : Bool := first ≤ i && i < first + number

/-- A ring pair or output ring of a range is enabled. -/
def Desc.anyIn (x : Desc) (p : Nat → Bool) : Bool := (List.range x.number).any fun i => p (x.first + i)

def assignPairs (r : BitVec 12) (k : Nat) (d : Dev) : Dev :=
  d.assign 0 4096 r k (fun x => x.graph ≠ 0 && inRange x.first x.number 0)
    (fun x => x.anyIn fun i => d.pairEn (BitVec.ofNat 12 i) || !d.pairIdle (BitVec.ofNat 12 i))
    fun x d => { d with hif := { d.hif with pairFn := assignRange d.hif.pairFn x.first x.graph x.number } }

def assignRings (r : BitVec 12) (k : Nat) (d : Dev) : Dev :=
  d.assign 1 1024 r k (fun _ => false)
    (fun x => x.anyIn fun i => d.oringEn (BitVec.ofNat 10 i) || d.outWaits (BitVec.ofNat 10 i))
    fun x d => { d with hif := { d.hif with oringFn := assignRange d.hif.oringFn x.first x.graph x.number } }

def assignCells (r : BitVec 12) (k : Nat) (d : Dev) : Dev :=
  d.assign 2 1024 r k (fun _ => false)
    (fun x => d.graphs.any fun g => g.2.mask.any fun c => inRange x.first x.number c)
    fun x d => { d with hif := { d.hif with cellFn := assignRange d.hif.cellFn x.first x.graph x.number } }

def assignWindow (r : BitVec 12) (k : Nat) (d : Dev) : Dev :=
  d.assign 3 1536 r k (fun _ => false) (fun x => d.graphs.any fun g => g.2.owner = x.graph)
    fun x d => { d with hif := { d.hif with window := mset (0, 0) d.hif.window x.graph.toNat (x.first, x.number) } }

/-! ### QUOTA (R197) -/

def Desc.quota (x : Desc) : Quota :=
  { msmin := 64 * nbits (x.w 2) 0 16, mscap := 64 * nbits (x.w 2) 16 16, frcap := nbits (x.w 2) 32 16
    ctcap := nbits (x.w 2) 48 16, waitcap := nbits (x.w 3) 0 16 }

def Desc.stallWindow (x : Desc) : Nat := nbits (x.w 3) 16 16

/-- A higher MSMIN has no room in some cell of the mask. -/
def Dev.quotaFull (d : Dev) (g : GraphId) (q : Quota) : Bool :=
  match d.graph g with
  | none => false
  | some x => x.quota.msmin < q.msmin && x.mask.any fun c => msEntries < d.msminSum (BitVec.ofNat 10 c) g + q.msmin

def Dev.quotaChecks (d : Dev) (r : BitVec 12) (x : Desc) : List (Bool × Byte) :=
  headChecks r x false [0x3F#64, allBits, lowMask 32] ++
    [(r ≠ 0 && d.foreign x.graph (d.pairFn r), stNoAccess), (!quotaOk x.quota x.stallWindow, stBadValue),
      (!d.loaded x.graph, stNotFound), (d.graphUnloading x.graph, stBusy), (d.quotaFull x.graph x.quota, stNoResource)]

/-- QUOTA: the quotas hold at once in every cell of the mask. -/
def quotaDesc (r : BitVec 12) (k : Nat) (d : Dev) : Dev :=
  d.perform r k (fun x => x.opc = 0x41) (d.quotaChecks r) fun x d =>
    ((d.modGraph x.graph fun y => { y with quota := x.quota }).setReg (rGstall x.graph.toNat)
      (BitVec.ofNat 64 x.stallWindow)).finish r x stOk 0

/-! ### UCODE (R90, R94) -/

def Desc.ucode (x : Desc) : Nat := nbits (x.w 1) 0 4
def Desc.clear (x : Desc) : Bool := bit (x.w 1) 4

/-- UCT.ENTRY fields of a UCODE descriptor, VALID apart. -/
def Desc.uentry (x : Desc) : Reg := bits (x.w 2) 0 32

/-- The fields of the entry by R94. -/
def uentryOk (e : Reg) : Bool :=
  1 ≤ uLen e && uLen e ≤ 64 && uStart e + uLen e ≤ 1024 && vtypeOk (uVt0 e) && vtypeOk (uVt1 e)

/-- A loaded graph uses UDEFn. -/
def Dev.udefUsed (d : Dev) (n : Nat) : Bool :=
  d.graphs.any fun g => g.2.mask.any fun c =>
    let cell := BitVec.ofNat 10 c
    (d.cell cell).store.im.any fun x => inRange (g.2.at cell).ibase (g.2.at cell).icount x.1 && wOpc x.2 = 0x3F0 + n

/-- The routine's words overlap those of another valid entry. -/
def Dev.udefOverlap (d : Dev) (n : Nat) (e : Reg) : Bool :=
  d.uct.entries.any fun x => x.1 ≠ n && uValid x.2 && overlap (uStart x.2) (uLen x.2) (uStart e) (uLen e)

/-- UCODE_LOAD. -/
def ucodeLoad (r : BitVec 12) (k : Nat) (h : HostData) (d : Dev) : Dev :=
  d.perform r k (fun x => x.opc = 0x42 && !x.clear)
    (fun x => headChecks r x true [0x1F#64, lowMask 27, allBits] ++
      [(!uentryOk x.uentry, stFormat), (d.udefUsed x.ucode, stBusy), (d.udefOverlap x.ucode x.uentry, stNoResource)])
    fun x d =>
      let n := uLen x.uentry
      let ws := (List.range n).map fun i => h.words.getD i 0
      let d := d.readHost (d.pairFn r) (x.w 3) (8 * n) h.status (!h.poisoned.isEmpty)
      if dataStatus h ≠ stOk then d.finish r x (dataStatus h) 0
      else if !microOk (uCopy x.uentry) ws then d.finish r x stFormat 0
      else
        { d with uct :=
            { entries := mset 0 d.uct.entries x.ucode (x.uentry ||| 0x80000000#32)
              uwords := putWords d.uct.uwords (uStart x.uentry) ws } }.finish r x stOk 0

/-- UCODE_CLEAR: the entry is not valid; the routine's words stay. -/
def ucodeClear (r : BitVec 12) (k : Nat) (d : Dev) : Dev :=
  d.perform r k (fun x => x.opc = 0x42 && x.clear)
    (fun x => headChecks r x true [0x1F#64] ++ [(d.udefUsed x.ucode, stBusy)])
    fun x d => { d with uct := { d.uct with entries := mset 0 d.uct.entries x.ucode 0 } }.finish r x stOk 0

/-! ### Descriptor fetch (R395, R513) -/

/-- Opcodes of R397. -/
def knownOpc (o : Byte) : Bool := (1 ≤ o.toNat && o.toNat ≤ 9) || (0x40 ≤ o.toNat && o.toNat ≤ 0x45)

/-- A descriptor that no opcode of R397 performs: a reserved OPC, or LOCK with the reserved SUB. -/
def Dev.fetchRefusal (d : Dev) (r : BitVec 12) (x : Desc) : Option Byte :=
  if !knownOpc x.opc then some (if x.ver ≠ 1 then stUnknownVersion else stFormat)
  else if x.opc = 0x09 && x.sub = 3 then firstFailing (d.lockChecks r x)
  else none

/-- A ring pair has descriptors that may start: not while its next one has been seen to wait for a FENCE. -/
def Dev.startable (d : Dev) (r : BitVec 12) : Bool :=
  let p := d.pair r
  d.pairEn r && d.busMaster (d.pairFn r) && !(p.fenced && !p.started.isEmpty) && p.sqHead ≠ p.sqTail && p.started.length < 256 && 0 < d.cqFree r && !d.heldNotices r

/-- The ring served next: the admin ring first, then round robin after the last one. -/
def Dev.nextRing (d : Dev) : Option (BitVec 12) :=
  if d.startable 0 then some 0
  else
    ((List.range 4096).map fun i => BitVec.ofNat 12 (d.hif.rr + 1 + i)).find? d.startable

/-- One entry fetched: it starts, or its failed read is reported in an entry of TYPE 3. The flag: the turn ends, since FENCE holds
the entry until the earlier ones have completed. -/
def Dev.fetchOne (d : Dev) (r : BitVec 12) (e : EntryRead) : Dev × Bool :=
  let p := d.pair r
  let x : Desc := { words := e.words, index := p.fetched, waiting := false, issued := d.clock.run }
  let read := d.readHost (d.pairFn r) (d.reg (rSqbase r.toNat) + BitVec.ofNat 64 (64 * p.sqHead.toNat)) 64 e.status false
  let taken := read.modPair r fun p => { p with sqHead := nextIndex (d.pairSize r) p.sqHead, fetched := p.fetched + 1, fenced := false }
  if e.status ≠ .ok then (taken.putCq r 0 (hostStatusByte e.status) 3 (BitVec.ofNat 64 p.sqHead.toNat) false, false)
  else if x.fence && !p.started.isEmpty then (read.modPair r fun p => { p with fenced := true }, true)
  else
    let started := taken.modPair r fun p => { p with started := p.started ++ [x], reserved := p.reserved + 1 }
    match d.fetchRefusal r x with
    | none => (started, false)
    | some st => (started.finish r x st 0, false)

/-- Entries of one ring's turn. -/
def Dev.fetchTurn (d : Dev) (r : BitVec 12) : List EntryRead → Dev
  | [] => d
  | e :: es =>
    if d.startable r then
      let x := d.fetchOne r e
      if x.2 then x.1 else x.1.fetchTurn r es
    else d

/-- DESCRIPTOR_FETCH: one ring's turn of at most 8 entries; the admin ring's turn takes no place in the round robin. -/
def descriptorFetch (reads : List EntryRead) (d : Dev) : Dev :=
  match d.nextRing with
  | none => d
  | some r => { d with hif := { d.hif with rr := if r = 0 then d.hif.rr else r.toNat } }.fetchTurn r (reads.take 8)

/-! ### The commands -/

/-- LOAD. -/
def execLoad (r : BitVec 12) (k : Nat) (h : HostData) (s : State) : Host.Outcome State Fault Refusal :=
  onDies (load r k h) s

/-- INJECT. -/
def execInject (r : BitVec 12) (k : Nat) (h : HostData) (s : State) : Host.Outcome State Fault Refusal :=
  onDies (inject r k h) s

/-- GRESET. -/
def execGreset (r : BitVec 12) (k : Nat) (s : State) : Host.Outcome State Fault Refusal :=
  onDies (greset r k) s

/-- UNLOAD. -/
def execUnload (r : BitVec 12) (k : Nat) (s : State) : Host.Outcome State Fault Refusal :=
  onDies (unload r k) s

/-- HBMRD. -/
def execHbmrd (r : BitVec 12) (k : Nat) (us : List Upset) (s : State) : Host.Outcome State Fault Refusal :=
  onDies (hbmrd r k us s.hbm) s

/-- HBMWR. -/
def execHbmwr (r : BitVec 12) (k : Nat) (h : HostData) (s : State) : Host.Outcome State Fault Refusal :=
  onMem (hbmwr r k h) s

/-- SCLEAR. -/
def execSclear (r : BitVec 12) (k : Nat) (s : State) : Host.Outcome State Fault Refusal :=
  onMem (sclear r k) s

/-- EVPOST. -/
def execEvpost (r : BitVec 12) (k : Nat) (s : State) : Host.Outcome State Fault Refusal :=
  onDies (evpost r k) s

/-- LOCK_DESC_LOCK. -/
def execLockDescLock (r : BitVec 12) (k : Nat) (s : State) : Host.Outcome State Fault Refusal :=
  onDies (lockDesc 0 .lock r k) s

/-- LOCK_DESC_TRYLOCK. -/
def execLockDescTrylock (r : BitVec 12) (k : Nat) (s : State) : Host.Outcome State Fault Refusal :=
  onDies (lockDesc 1 .trylock r k) s

/-- LOCK_DESC_UNLOCK. -/
def execLockDescUnlock (r : BitVec 12) (k : Nat) (s : State) : Host.Outcome State Fault Refusal :=
  onDies (lockDesc 2 .unlock r k) s

/-- ASSIGN_RING_PAIRS. -/
def execAssignRingPairs (r : BitVec 12) (k : Nat) (s : State) : Host.Outcome State Fault Refusal :=
  onHub (assignPairs r k) s

/-- ASSIGN_OUTPUT_RINGS. -/
def execAssignOutputRings (r : BitVec 12) (k : Nat) (s : State) : Host.Outcome State Fault Refusal :=
  onHub (assignRings r k) s

/-- ASSIGN_CELLS. -/
def execAssignCells (r : BitVec 12) (k : Nat) (s : State) : Host.Outcome State Fault Refusal :=
  onHub (assignCells r k) s

/-- ASSIGN_HBM_WINDOW. -/
def execAssignHbmWindow (r : BitVec 12) (k : Nat) (s : State) : Host.Outcome State Fault Refusal :=
  onHub (assignWindow r k) s

/-- QUOTA. -/
def execQuota (r : BitVec 12) (k : Nat) (s : State) : Host.Outcome State Fault Refusal :=
  onDies (quotaDesc r k) s

/-- UCODE_LOAD. -/
def execUcodeLoad (r : BitVec 12) (k : Nat) (h : HostData) (s : State) : Host.Outcome State Fault Refusal :=
  onDies (ucodeLoad r k h) s

/-- UCODE_CLEAR. -/
def execUcodeClear (r : BitVec 12) (k : Nat) (s : State) : Host.Outcome State Fault Refusal :=
  onDies (ucodeClear r k) s

/-- DESCRIPTOR_FETCH. -/
def execDescriptorFetch (reads : List EntryRead) (s : State) : Host.Outcome State Fault Refusal :=
  onHub (descriptorFetch reads) s

end Sys2Proof.Machine
end

