-- ==== Sys2Proof/Machine/Codeword.lean ====
section
/-! DEFINITION. What the lanes of a Fober link carry: flits as bytes, RS(544,514) codewords, alignment codewords, their symbols on
the lanes, and training frames (R290, R320, R323 to R325, R339). A symbol of GF(2^10) is a number below 1,024, a level one of −3, −1,
+1, +3. -/

namespace Sys2Proof.Machine

/-! ### Flits as bytes (R290, R329) -/

def slotBytes (s : RawSlot) : List Byte := regBytes s.hdr ++ wordBytes s.w0 ++ wordBytes s.w1 ++ wordBytes s.w2

/-- Bytes 0 to 123 of a flit, which its CRC covers. -/
def flitBytes (f : RawFlit) : List Byte :=
  wordBytes f.hdr ++ slotBytes f.s0 ++ slotBytes f.s1 ++ slotBytes f.s2 ++ slotBytes f.s3 ++ regBytes f.link

def flitCrc (f : RawFlit) : Reg := crc32c (flitBytes f)

/-- The 128 bytes of a flit. -/
def flitAll (f : RawFlit) : List Byte := flitBytes f ++ regBytes f.crc

/-! ### RS(544,514) (R323) -/

/-- Twice a symbol, modulo the field polynomial x^10 + x^3 + 1 (PRESUMED, log 79: IEEE 802.3, which R323 names). -/
def gfDouble (a : Nat) : Nat := if 512 ≤ a then (2 * a) ^^^ 0x409 else 2 * a

/-- n steps of a product in GF(2^10). -/
def gfMulBits : Nat → Nat → Nat → Nat
  | 0, _, _ => 0
  | n + 1, a, b => (if b % 2 = 1 then a else 0) ^^^ gfMulBits n (gfDouble a) (b / 2)

def gfMul (a b : Nat) : Nat := gfMulBits 10 a b

/-- The generator polynomial without its leading term, constant term first: the product of x − 2^j for the n lowest j. -/
def rsGen : Nat → List Nat × Nat
  | 0 => ([], 1)
  | n + 1 =>
    let (g, root) := rsGen n
    let low := 0 :: g
    let high := (g ++ [1]).map (gfMul root)
    ((List.zipWith (· ^^^ ·) low high).take (n + 1), gfDouble root)

/-- One message symbol enters the divider, whose register holds the highest term first. -/
def rsStep (gen : List Nat) (reg : List Nat) (s : Nat) : List Nat :=
  let fb := s ^^^ reg.headD 0
  List.zipWith (· ^^^ ·) (reg.drop 1 ++ [0]) (gen.map (gfMul fb))

/-- The 30 parity symbols of 514 payload symbols, in the order in which they are sent. -/
def rsParity (payload : List Nat) : List Nat :=
  payload.foldl (rsStep (rsGen 30).1.reverse) (List.replicate 30 0)

/-! ### Codewords (R323 to R325) -/

def byteBits (b : Byte) : List Bool := (List.range 8).map fun i => bit b i

/-- The payload bits of a data codeword: the header, all of it zero, and five flits. -/
def payloadBits (fs : List RawFlit) : List Bool :=
  List.replicate 20 false ++ fs.flatMap fun f => (flitAll f).flatMap byteBits

/-- n symbols of ten bits, bit 0 first. -/
def symbolsOf : Nat → List Bool → List Nat
  | 0, _ => []
  | n + 1, l => (l.take 10).foldr (fun b s => 2 * s + b2n b) 0 :: symbolsOf n (l.drop 10)

/-- The 544 symbols of a codeword with a payload. -/
def codewordOf (payload : List Nat) : List Nat := payload ++ rsParity payload

/-- A data codeword of five flits. -/
def dataCodeword (fs : List RawFlit) : List Nat := codewordOf (symbolsOf 514 (payloadBits fs))

/-- The value of every payload symbol of an alignment codeword on a lane of its link. -/
def alignSymbol (lane : Nat) : Nat := 0x150 + lane

/-- An alignment codeword on a link of n lanes. -/
def alignCodeword (n : Nat) : List Nat := codewordOf ((List.range 514).map fun s => alignSymbol (s % n))

/-- One codeword in so many is an alignment codeword. -/
def alignEvery : Nat := 16384

/-! ### Lanes (R320, R324) -/

/-- The symbols of a codeword that lane i of n carries. -/
def laneSymbols (n i : Nat) (cw : List Nat) : List Nat := (cw.zipIdx.filter fun x => x.2 % n = i).map (·.1)

/-- A pair of bits as a PAM4 level, the later bit being the more significant. -/
def pamLevel (first later : Bool) : Int :=
  match later, first with
  | false, false => -3
  | false, true => -1
  | true, true => 1
  | true, false => 3

/-- The five PAM4 levels of a symbol, or its ten NRZ levels, bit 0 first. -/
def symbolLevels (nrz : Bool) (s : Nat) : List Int :=
  if nrz then (List.range 10).map fun i => if s.testBit i then 1 else -1
  else (List.range 5).map fun i => pamLevel (s.testBit (2 * i)) (s.testBit (2 * i + 1))

/-- The levels that lane i of n sends for a codeword; `inv`: FBP.LANECFG.TXPOL inverts the transmitter. -/
def laneLevels (nrz inv : Bool) (n i : Nat) (cw : List Nat) : List Int :=
  ((laneSymbols n i cw).flatMap (symbolLevels nrz)).map fun x => if inv then -x else x

/-- The lane, of n, that carries a symbol of a codeword. -/
def symbolLane (n s : Nat) : Nat := s % n

/-! ### Training frames (R339) -/

/-- The marker and the word of a training frame: 128 unit intervals. The 3,968 of PRBS13 that follow carry nothing (log 79). -/
def frameLevels (nrz inv : Bool) (w : Word) : List Int :=
  let top : Int := if nrz then 1 else 3
  let marker := List.replicate 32 top ++ List.replicate 32 (-top)
  let word := (List.range 64).map fun i => if bit w i then top else -top
  (marker ++ word).map fun x => if inv then -x else x

end Sys2Proof.Machine
end

