-- ==== Sys2Proof/Machine/Hop.lean ====
section
/-! DEFINITION. How flits move: delivery, virtual channels and credits, UCIe modules, output arbitration, the cluster crossbar, the
hub's switch, and clusters in retention (R288, R289, R291, R293 to R297, R299, R300, R304 to R306, R309, R310). -/

namespace Sys2Proof.Machine

/-! ### Delivery at a target (R310) -/

/-- An event packet stands in its target's inbox, a token in its ingress, a response in its inbox. None: no room now. -/
def Dev.deliverCluster (d : Dev) (p : Pkt) : Option Dev :=
  let toCell := fun (c : CellId) => some (d.modPipe c fun q => { q with inbox := q.inbox ++ [p] })
  match p with
  | .tok t s n => d.toIngress t.cell t s n
  | .rsp r => some (d.toInbox r)
  | .ev c _ => toCell c
  | .evAsk c _ _ _ => toCell c
  | .evGrant c _ _ _ => toCell c
  | .evGive c _ => toCell c
  | p => some (d.losePacket p)

/-- Depth of the crossing between router and HBM controller, in packets, and between router and Fober port, in flits (R304). -/
def hbmDepth : Nat := 64
def portDepth : Nat := 64

/-- Packets that wait at a port for one of its links: the crossing from the router (R304), which all its links share (R321). A flit
that crosses it goes on as its packets, each of which takes a place there (DESIGN CHOICE, log 76). -/
def Dev.portWaiting (d : Dev) (p : BitVec 4) : Nat :=
  (List.range 4).foldl (fun n k => n + (d.link (BitVec.ofNat 6 (4 * p.toNat + k))).tx.length) 0

/-- A Fober port takes a packet for one of its links; an isolated port absorbs it. -/
def Dev.deliverPort (d : Dev) (port : BitVec 4) (p : Pkt) : Option Dev :=
  if d.isoTarget (.port port) then some ((d.losePacket p).abortDue p.graph)
  else if portDepth ≤ d.portWaiting port then none
  else
    match d.toFob p with
    | some q => some (d.sendFob q)
    | none => some d

/-- A stack's controller takes a request, its die's Yo-yo a REFUSE packet; at an isolated controller a request is answered ISOLATED and
a REFUSE packet's token consumed (R310). -/
def Dev.deliverHbm (d : Dev) (s : DieId) (p : Pkt) : Option Dev :=
  match p with
  | .req r =>
    if d.stackIso s then some ((d.lockAnswer s r (isolatedAnswer r)).abortDue r.graph)
    else if hbmDepth ≤ (d.stack s).reqs.length then none
    else some ((d.modStack s fun x => { x with reqs := x.reqs ++ [r] }).wakeStack s)
  | .refuse t src n =>
    if d.stackIso s then some ((d.losePacket p).abortDue t.graph)
    else
      let y := d.yoyo s
      let r : RtsRec :=
        { tok := t, due := 0, count := n, hub := src = .hub
          src := match src with | .cell c => c | _ => 0 }
      some (d.setYoyo s { y with refused := y.refused ++ [r] })
  | p => some (d.losePacket p)

/-- The hub takes requests to host memory, and Fober packets for its own units; a dead hub's traffic is absorbed (R310). -/
def Dev.deliverHub (d : Dev) (p : Pkt) : Option Dev :=
  match p with
  | .req r =>
    if d.isoTarget .hub then
      match r.src with
      | .cell c e uid =>
        some ((d.sendFromHub hubHost (.rsp { dst := c, entry := e, uid := uid, graph := r.graph, ans := isolatedAnswer r })).abortDue
          r.graph)
      | _ => some (d.abortDue r.graph)
    else some { d with hif := { d.hif with hostReqs := d.hif.hostReqs ++ [r] } }
  | .fob q => if d.isoTarget .hub then some (d.loseFob q) else some (d.sendFob q)
  | p => some (d.losePacket p)

/-- A packet reaches its target. -/
def Dev.deliver (d : Dev) (tgt : BitVec 7) (p : Pkt) : Option Dev :=
  let n := tgt.toNat
  if n < 64 then d.deliverCluster p
  else if n < 68 then d.deliverHbm (BitVec.ofNat 2 (n - 64)) p
  else if n < 84 then d.deliverPort (BitVec.ofNat 4 (n - 68)) p
  else d.deliverHub p

/-- As many packets of a flit as can be are delivered; the others stay. -/
def Dev.deliverAll (d : Dev) (tgt : BitVec 7) : List Pkt → Dev × List Pkt
  | [] => (d, [])
  | p :: ps =>
    match d.deliver tgt p with
    | some d' => d'.deliverAll tgt ps
    | none =>
      let (d', rest) := d.deliverAll tgt ps
      (d', p :: rest)

/-! ### Virtual channels and credits (R293) -/

def vcKey (r : ClusterId) (port : Nat) (mc : BitVec 3) (esc : Bool) : Nat :=
  ((r.toNat * 8 + port) * 8 + mc.toNat) * 2 + b2n esc

def Dev.vc (d : Dev) (k : Nat) : List Flit := mget [] d.fab.vcs k
def Dev.setVc (d : Dev) (k : Nat) (l : List Flit) : Dev := { d with fab := { d.fab with vcs := mset [] d.fab.vcs k l } }

/-- Flit buffers of an input channel. -/
def vcDepth (esc : Bool) : Nat := if esc then 2 else 4

/-- The places that held flits take at a boundary router (R306): how many of the 36 shared ones, and the kept ones by class. A flit
takes a shared place when one is free. -/
def heldPlaces (l : List Flit) : Nat × List (BitVec 3) :=
  l.foldl (fun x f => if x.1 < 36 then (x.1 + 1, x.2) else (x.1, f.mc :: x.2)) (0, [])

/-- Room at a boundary router for one more flit of a class. -/
def Dev.holdRoom (d : Dev) (n : ClusterId) (mc : BitVec 3) : Bool :=
  let x := heldPlaces (mget [] d.fab.hold n.toNat)
  x.1 < 36 || count (· = mc) x.2 < 4

/-- A flit for a cluster in retention whose boundary router has no place for its class: it stays where it is, and flits to other
targets pass it (R306). -/
def Dev.withheld (d : Dev) (f : Flit) : Bool :=
  let n : ClusterId := f.tgt.setWidth 6
  f.tgt.toNat < 64 && (mfind d.fab.power n.toNat).isSome && !d.holdRoom n f.mc

/-- The first flit of a channel that is not withheld, and its place. -/
def Dev.headOf (d : Dev) (k : Nat) : Option (Nat × Flit) :=
  ((d.vc k).zipIdx.find? fun x => !d.withheld x.1).map fun x => (x.2, x.1)

/-- A flit leaves its place in a channel. -/
def Dev.popVc (d : Dev) (k i : Nat) : Dev :=
  { d with fab := { d.fab with vcs := mset [] d.fab.vcs k ((d.vc k).eraseIdx i), dry := merase d.fab.dry k } }

/-! ### Ends of UCIe modules (R299, R304) -/

/-- Depth of the crossing between router, or hub switch, and D2D adapter, and of a module's retry buffer. -/
def d2dDepth : Nat := 32
def d2dRetry : Nat := 128

def Dev.end_ (d : Dev) (e : Nat) : D2dEnd := mget d2dReset d.fab.d2d e
def Dev.setEnd (d : Dev) (e : Nat) (x : D2dEnd) : Dev := { d with fab := { d.fab with d2d := mset d2dReset d.fab.d2d e x } }

/-- Flits of a channel between an end and the input at the other. -/
def Dev.onModule (d : Dev) (e : Nat) (mc : BitVec 3) (esc : Bool) : Nat :=
  count (fun (f : Flit) => f.mc = mc && f.esc = esc)
    ((d.end_ e).out ++ d.fab.unaccepted e ++ (d.end_ (otherEnd e)).inq)

/-- Flits of a channel in the buffers of the input behind an end. -/
def Dev.atInput (d : Dev) (e : Nat) (mc : BitVec 3) (esc : Bool) : Nat :=
  match endRouter e with
  | some (r, port) => (d.vc (vcKey r port mc esc)).length
  | none => (d.hubIn (hubKey (e / 2 - 8) mc esc)).length

/-- A credit for a flit to go into the module at an end. -/
def Dev.moduleCredit (d : Dev) (e : Nat) (f : Flit) (esc : Bool) : Bool :=
  d.moduleUp (e / 2) && (d.end_ e).out.length < d2dDepth && d.onModule e f.mc esc + d.atInput (otherEnd e) f.mc esc < vcDepth esc

/-- A flit goes into the crossing toward the adapter. -/
def Dev.intoModule (d : Dev) (e : Nat) (f : Flit) (esc : Bool) : Dev :=
  d.setEnd e { d.end_ e with out := (d.end_ e).out ++ [{ f with esc := esc, out := none, inj := none }] }

/-- The next flit of an end: one sent before that is asked for again, or a new one while the retry buffer and the crossing at the other
end have room. -/
def Dev.nextOnModule (d : Dev) (e : Nat) : D2dEnd × Option (BitVec 12 × Flit) :=
  let x := d.end_ e
  if 0 < x.replay then ({ x with replay := x.replay - 1 }, x.retry[x.retry.length - x.replay]?)
  else
    match x.out with
    | [] => (x, none)
    | f :: rest =>
      if x.retry.length < d2dRetry && (d.fab.unaccepted e).length + (d.end_ (otherEnd e)).inq.length < d2dDepth then
        ({ x with out := rest, retry := x.retry ++ [(x.txSeq, f)], txSeq := x.txSeq + 1 }, some (x.txSeq, f))
      else (x, none)

/-- The acknowledgement that a flit carries: flits up to it leave the retry buffer, and a NAK starts a replay of the rest unless
one is in progress. -/
def D2dEnd.takeAck (x : D2dEnd) (ack : BitVec 12) (nak : Bool) : D2dEnd :=
  let retry := x.retry.filter fun y => 2048 ≤ (ack - y.1).toNat
  { x with retry := retry, replay := if nak && x.replay = 0 then retry.length else min x.replay retry.length }

/-- A flit that passes its check: accepted when it is the one expected; one seen before is dropped; after a gap it is asked for
again. -/
def D2dEnd.takeFlit (x : D2dEnd) (seq : BitVec 12) (f : Flit) : D2dEnd :=
  if seq = x.exp then
    { x with exp := x.exp + 1, ackSeq := seq, nak := false, inq := if f.pkts.isEmpty then x.inq else x.inq ++ [f] }
  else if (x.exp - seq).toNat ≤ 2048 then x
  else { x with nak := true }

/-- One flit position of a module, from an end to the other: a flit or a NULL, with the end's acknowledgement. An uncorrectable error
is found by the link trailer's check, and the flit is asked for again, so that no error is seen above the link (R299). -/
def Dev.linkStep (d : Dev) (e : Nat) (u : Upset) : Dev :=
  if !d.moduleUp (e / 2) then d
  else
    let x := d.end_ e
    let (sent, flit) := d.nextOnModule e
    let y := d.end_ (otherEnd e)
    let got :=
      if u = .uncorrectable then { y with nak := true }
      else
        let y := y.takeAck x.ackSeq x.nak
        match flit with
        | none => y
        | some (seq, f) => y.takeFlit seq f
    (d.setEnd e sent).setEnd (otherEnd e) got

/-! ### Route at the next router (R288, R294) -/

/-- Whether an output has a credit for a flit. -/
def Dev.credit (d : Dev) (r : ClusterId) (o : Nat) (f : Flit) (esc : Bool) : Bool :=
  match beyond r o with
  | .router q port => (d.vc (vcKey q port f.mc esc)).length < vcDepth esc
  | .cluster n => (mfind d.fab.power n.toNat).isNone || d.holdRoom n f.mc
  | .hbm s => d.stackIso s || (d.stack s).reqs.length < hbmDepth || f.mc ≠ 0
  | .port p => d.isoTarget (.port p) || d.portWaiting p < portDepth
  | .module e => d.moduleCredit e f esc
  | .nothing => false

/-- The output that a flit is to take at a router: X then Y in the escape channel; else one that its entry permits, with an adaptive
credit when one has. -/
def Dev.route (d : Dev) (r : ClusterId) (f : Flit) : Option Nat :=
  if f.esc then d.escapeOut r f
  else
    let outs := d.adaptiveOuts r f
    (outs.find? fun o => d.credit r o f false).or outs.head?

/-- A flit comes to an input of a router, with its output chosen. The router checks it: a single-bit error is corrected, and an
uncorrectable one discards the flit (R291). -/
def Dev.enterVc (d : Dev) (r : ClusterId) (port : Nat) (buf : Bool) (f : Flit) (u : Upset) : Dev :=
  let k := vcKey r port f.mc buf
  match u with
  | .uncorrectable => d.fault rMshErr 2 66 [.cluster r] []
  | .corrected =>
    let d := d.fault rMshErr 1 65 [] []
    d.setVc k (d.vc k ++ [{ f with out := d.route r f }])
  | .none => d.setVc k (d.vc k ++ [{ f with out := d.route r f }])

/-- The output that was chosen for a flit, chosen anew when its entry does not permit it any more. -/
def Dev.chosen (d : Dev) (r : ClusterId) (f : Flit) : Option Nat :=
  match f.out with
  | some o => if (d.adaptiveOuts r f).contains o then some o else d.route r f
  | none => d.route r f

/-! ### Arbitration (R296) -/

def Flit.age (f : Flit) (now : Nat) : Nat := min 65535 (now - f.packed)

/-- Slots a packet takes (R359). -/
def Pkt.slotCount : Pkt → Nat
  | .fob p => (p.words.length + 2) / 3
  | _ => 1

/-- Slots of a flit in use. -/
def Flit.used (f : Flit) : Nat := f.pkts.foldl (fun n p => n + p.slotCount) 0

/-- The header of a flit (R290): slots are filled from slot 0. -/
def Flit.header (f : Flit) (now : Nat) : Word :=
  f.tgt ++ f.mc ++ (if f.esc then 1#1 else 0#1) ++ (if f.epoch then 1#1 else 0#1) ++ BitVec.ofNat 4 (2 ^ f.used - 1) ++ f.cls ++
    f.graph ++ f.src ++ 0#13 ++ BitVec.ofNat 16 (f.age now)

/-- A flit at an input that could leave by an output: its channel and place there, its input, itself, and whether it goes on in the
escape channel. -/
structure Cand where
  key : Nat
  idx : Nat
  port : Nat
  flit : Flit
  esc : Bool
deriving DecidableEq, Repr

/-- The channels of a router's inputs. -/
def routerKeys (r : ClusterId) : List (Nat × Nat) :=
  (List.range 5).flatMap fun port => (List.range 14).map fun i =>
    (port, vcKey r port (BitVec.ofNat 3 (i / 2)) (i % 2 = 1))

/-- Whether an output that its entry permits has an adaptive credit for a flit. -/
def Dev.adaptiveCredit (d : Dev) (r : ClusterId) (f : Flit) : Bool := (d.adaptiveOuts r f).any fun x => d.credit r x f false

/-- Mesh cycles without adaptive credit before a flit may enter the escape channel (R294). -/
def escapeWait : Nat := 8

/-- Router r looks at the credits of its inputs' heads in a mesh cycle: an adaptive head that has none is dry from the first
such cycle on (R294, log 21). -/
def Dev.lookCredits (d : Dev) (r : ClusterId) (now : Nat) : Dev :=
  { d with fab := { d.fab with
      dry := (routerKeys r).foldl (fun m x =>
        match d.headOf x.2 with
        | none => merase m x.2
        | some (_, f) =>
          if f.esc || d.adaptiveCredit r f then merase m x.2
          else if (mfind m x.2).isNone then minsert m x.2 now
          else m) d.fab.dry } }

/-- Whether a channel's head has been without adaptive credit for as long as R294 asks. -/
def Dev.dryLong (d : Dev) (key now : Nat) : Bool :=
  match mfind d.fab.dry key with
  | none => false
  | some t => t + escapeWait ≤ now

/-- How the head of a channel can go to output o with a credit. An adaptive flit takes the output chosen for it; it enters the escape
channel only when no output its entry permits has had an adaptive credit for 8 mesh cycles (R294). -/
def Dev.candOf (d : Dev) (r : ClusterId) (o : Nat) (now port key : Nat) : Option Cand :=
  match d.headOf key with
  | none => none
  | some (i, f) =>
    if f.esc then
      if d.escapeOut r f = some o && d.credit r o f true then
        some { key := key, idx := i, port := port, flit := f, esc := true }
      else none
    else if d.chosen r f = some o && d.credit r o f false then
      some { key := key, idx := i, port := port, flit := f, esc := false }
    else if !d.adaptiveCredit r f && d.dryLong key now && d.escapeOut r f = some o && d.credit r o f true then
      some { key := key, idx := i, port := port, flit := f, esc := true }
    else none

/-- The oldest of some candidates; among equals, inputs round robin from the last winner. -/
def oldest (now last : Nat) (l : List Cand) : Option Cand :=
  minBy (fun c => (65535 - c.flit.age now) * 8 + (c.port + 8 - (last + 1)) % 8) l

def privileged (f : Flit) : Bool := 3 ≤ f.mc.toNat

/-- Whether what was staged this µs is in force: from the next slot 0 on (R297). -/
def Dev.pastSlot0 (d : Dev) (now : Nat) : Bool := (d.meshNow 0 / 64 + 1) * 64 ≤ now

/-- MSH.ARBCFG and the slot tables in force in a mesh cycle. -/
def Dev.arbAt (d : Dev) (now : Nat) : Word :=
  if d.pastSlot0 now then (mfind d.regs.staged rArbcfg).getD (d.reg rArbcfg) else d.reg rArbcfg
def Dev.slotAt (d : Dev) (k now : Nat) : Byte :=
  mget 0 (if d.pastSlot0 now then d.fab.slotsNew else d.fab.slots) (k * 64 + now % 64)

/-- The choice of R296 at an output in a mesh cycle, and whether it is an urgent grant. -/
def Dev.choose (d : Dev) (r : ClusterId) (o : Nat) (now : Nat) (c : List Cand) : Option (Cand × Bool) :=
  let k := r.toNat * 8 + o
  let last := mget 7 d.fab.rr k
  let arb := d.arbAt now
  let plain := fun (x : Option Cand) => x.map fun c => (c, false)
  let urgent := c.filter fun x => privileged x.flit && nbits arb 16 8 ≤ x.flit.age now
  let grants := count (fun t => now < t + 64) (mget [] d.fab.urgent k)
  if !urgent.isEmpty && grants < nbits arb 24 8 then (oldest now last urgent).map fun c => (c, true)
  else
    let e := d.slotAt k now
    let mine := c.filter fun x => !privileged x.flit && x.flit.graph = bits e 0 6
    if bit e 7 && !mine.isEmpty then plain (oldest now last mine)
    else
      let aged := c.filter fun x => nbits arb 0 16 ≤ x.flit.age now
      if !aged.isEmpty then plain (oldest now last aged)
      else
        let rank := fun (x : Cand) => if privileged x.flit then 8 else x.flit.cls.toNat
        let top := c.foldl (fun m x => max m (rank x)) 0
        plain (oldest now last (c.filter fun x => rank x = top))

/-! ### FLIT_HOP -/

/-- A flit held at its cluster's boundary; in retention its arrival starts the wake (R306). -/
def Dev.holdFlit (d : Dev) (n : ClusterId) (f : Flit) : Dev :=
  { d with fab := { d.fab with
      hold := mset [] d.fab.hold n.toNat (mget [] d.fab.hold n.toNat ++ [f])
      power := minsert d.fab.power n.toNat .waking } }

/-- The flit goes where the output leads; what a target cannot take yet stays at the input. `u`: what the check at the next router
finds. A flit that leaves its die leaves the escape channel there; at the other side it stands in the buffers of the channel in
which it crossed, and is routed anew (log 77). -/
def Dev.moveFlit (d : Dev) (r : ClusterId) (o : Nat) (c : Cand) (u : Upset) : Dev :=
  let gone := d.popVc c.key c.idx
  let arrive := fun (tgt : BitVec 7) =>
    let (d', left) := gone.deliverAll tgt c.flit.pkts
    if left.isEmpty then d' else d'.setVc c.key ((d.vc c.key).set c.idx { c.flit with pkts := left })
  match beyond r o with
  | .router q port => gone.enterVc q port c.esc { c.flit with esc := c.esc } u
  | .cluster n =>
    if (mfind d.fab.power n.toNat).isSome then gone.holdFlit n c.flit else arrive (tgtCluster n)
  | .hbm s => arrive (tgtHbm s)
  | .port p => arrive (tgtPort p)
  | .module e => gone.intoModule e c.flit c.esc
  | .nothing => d

/-- A flit stands at a router with an output chosen for it. -/
def Dev.wanted (d : Dev) (r : ClusterId) (o : Nat) : Bool :=
  (routerKeys r).any fun x => match d.headOf x.2 with
    | none => false
    | some (_, f) => d.chosen r f = some o || d.escapeOut r f = some o

/-- Whether an output that leads to a target has a flit that the target has not taken (R309); `taken`: the target took one now. -/
def Dev.noteWait (d : Dev) (r : ClusterId) (o : Nat) (taken : Bool) : Dev :=
  let k := r.toNat * 8 + o
  let target := match beyond r o with
    | .router _ _ => false
    | _ => true
  { d with fab := { d.fab with
      waits := if taken || !target || !d.wanted r o then merase d.fab.waits k
        else if (mfind d.fab.waits k).isNone then minsert d.fab.waits k d.clock.run else d.fab.waits } }

/-- What an output of a router sends in a mesh cycle, and whether by an urgent grant. -/
def Dev.pickHop (d : Dev) (r : ClusterId) (o now : Nat) : Option (Cand × Bool) :=
  if mget 0 d.fab.sent (r.toNat * 8 + o) = now + 1 then none
  else d.choose r o now ((routerKeys r).filterMap fun (port, key) => d.candOf r o now port key)

/-- One output of one router in a mesh cycle; it sends at most one flit in each (R288). -/
def Dev.hopOut (d : Dev) (r : ClusterId) (o now : Nat) (u : Upset) : Dev :=
  let k := r.toNat * 8 + o
  let d := d.lookCredits r now
  if mget 0 d.fab.sent k = now + 1 then d
  else
    match d.pickHop r o now with
    | none => d.noteWait r o false
    | some (c, urgent) =>
      let fab := { d.fab with
        rr := mset 7 d.fab.rr k c.port
        sent := mset 0 d.fab.sent k (now + 1)
        urgent := if urgent then mset [] d.fab.urgent k (now :: (mget [] d.fab.urgent k).filter fun t => now < t + 64)
          else d.fab.urgent }
      let d := ({ d with fab := fab }.moveFlit r o c u)
      d.noteWait r o (match (d.vc c.key)[c.idx]? with | some f => f.pkts ≠ c.flit.pkts | none => true)

/-- The first flit of a crossing for whose class the input has a buffer comes into the router. -/
def Dev.pullCross (d : Dev) (k : Nat) (r : ClusterId) (port : Nat) (u : Upset) : Dev :=
  match (d.crossing k).zipIdx.find? fun x => (d.vc (vcKey r port x.1.mc false)).length < vcDepth false with
  | none => d
  | some (f, i) => (d.setCrossing k ((d.crossing k).eraseIdx i)).enterVc r port false f u

/-- Flits that crossed a module come into the router's input as far as it has buffers. -/
def Dev.pullEnd (d : Dev) (e : Nat) (r : ClusterId) (port : Nat) : Dev :=
  let (d, left) := (d.end_ e).inq.foldl (fun (x : Dev × List Flit) f =>
    if (x.1.vc (vcKey r port f.mc f.esc)).length < vcDepth f.esc then
      (x.1.enterVc r port f.esc { f with esc := false } .none, x.2)
    else (x.1, x.2 ++ [f])) (d, [])
  d.setEnd e { d.end_ e with inq := left }

/-- The module at the edge of a router's die. -/
def edgeEnd (r : ClusterId) : Option (Nat × Nat) :=
  match beyond r 1, beyond r 2 with
  | .module e, _ => some (e, 1)
  | _, .module e => some (e, 2)
  | _, _ => none

/-- FLIT_HOP in mesh cycle `sub` of the current µs: outputs 0 to 4 of a router; 5, from the Fober port at its N edge into the router; 6,
from the HBM controller or the UCIe module at its edge into the router; 7, from that module to the other side (the crossings of
R304; DESIGN CHOICE, log 76). -/
def flitHop (r : ClusterId) (o : BitVec 3) (sub : Nat) (u : Upset) (d : Dev) : Dev :=
  match o.toNat with
  | 5 =>
    match beyond r 0 with
    | .port p => d.pullCross (portCross p) r 0 u
    | _ => d
  | 6 =>
    match edgeEnd r, beyond r 3 with
    | some (e, port), _ => (d.linkStep (otherEnd e) u).pullEnd e r port
    | none, .hbm s => d.pullCross (hbmCross s) r 3 u
    | _, _ => d
  | 7 =>
    match edgeEnd r with
    | some (e, _) => d.linkStep e u
    | none => d
  | n => d.hopOut r n (d.meshNow sub) u

/-! ### The crossbar (R289) -/

/-- A packet that leaves its cluster: its cell and place in that cell's egress. -/
def Dev.leaving (d : Dev) (n : ClusterId) : List (CellId × Nat × OutPkt) :=
  (clusterCells n).flatMap fun c =>
    if (d.cell c).runs then
      (((d.cell c).pipe.egress.take egressPlaces).zipIdx.filter fun (p, _) =>
        d.way p.pkt ≠ .target (tgtCluster n)).map fun (p, i) => (c, i, p)
    else []

/-- Packets that share target, class, graph and EPOCH (R289). -/
def Dev.sameFlit (d : Dev) (a b : OutPkt) : Bool :=
  d.way a.pkt = d.way b.pkt && a.pkt.mc = b.pkt.mc && a.pkt.graph = b.pkt.graph && a.epoch = b.epoch

/-- As many of the packets as four slots hold, in order. -/
def packUp : Nat → List (CellId × Nat × OutPkt) → List (CellId × Nat × OutPkt)
  | _, [] => []
  | room, x :: xs =>
    if x.2.2.pkt.slotCount ≤ room then x :: packUp (room - x.2.2.pkt.slotCount) xs else packUp room xs

/-- Packets taken out of their cells' egress. -/
def Dev.takeOut (d : Dev) (l : List (CellId × Nat × OutPkt)) : Dev :=
  l.foldl (fun d x => d.modPipe x.1 fun p => { p with egress := p.egress.erase x.2.2 }) d

/-- CROSSBAR_FLIT_SEND: the packets that leave the cluster with the oldest one, up to four slots, go to the router's local
input while it has a buffer. -/
def crossbarSend (n : ClusterId) (u : Upset) (d : Dev) : Dev :=
  let l := d.leaving n
  match minBy (fun x => x.2.2.since) l with
  | none => d
  | some x =>
    match d.way x.2.2.pkt with
    | .target tgt =>
      let group := packUp 4 (x :: (l.filter fun y => y ≠ x && d.sameFlit x.2.2 y.2.2))
      if vcDepth false ≤ (d.vc (vcKey n 4 x.2.2.pkt.mc false)).length then d
      else
        (d.takeOut group).enterVc n 4 false
          (flitOf tgt x.1 (d.meshNow 0) x.2.2.epoch (group.map fun y => y.2.2.pkt) x.2.2.pkt.mc x.2.2.pkt.graph) u
    | .here =>
      match d.toFob x.2.2.pkt with
      | some q => (d.takeOut [x]).sendFob q
      | none => d.takeOut [x]
    | .absorb _ noroute => (d.takeOut [x]).absorbPacket x.2.2.pkt noroute

/-! ### The hub's switch (R300) -/

/-- Flits come into the hub's input buffers, from a module or from the staging of a unit of the hub, as far as there are buffers. -/
def Dev.pullHub (d : Dev) (inp : Nat) : Dev :=
  let e := 2 * (8 + inp) + 1
  let l := if inp < 8 then (d.end_ e).inq else d.hubIn (stageKey inp)
  let (d, left) := l.foldl (fun (x : Dev × List Flit) f =>
    let k := hubKey inp f.mc f.esc
    if (x.1.hubIn k).length < vcDepth f.esc then
      (x.1.setHubIn k (x.1.hubIn k ++ [{ f with esc := false, inj := none }]), x.2)
    else (x.1, x.2 ++ [f])) (d, [])
  if inp < 8 then d.setEnd e { d.end_ e with inq := left } else d.setHubIn (stageKey inp) left

/-- The hub's ends of the modules by which a flit of an input may go on to a die, in order: its own modules that the source die's
entry for it allows, and when none of those is up the other die's of the row, to cross that row's edge (DESIGN CHOICE, log 77: R301
gives the hub no entry of its own). The hub's own packets have no entry. -/
def Dev.hubWays (d : Dev) (inp : Nat) (t : DieId) (f : Flit) : List Nat :=
  let src := cellDie f.src
  let e := if inp < 8 then d.rtEntry src f.tgt f.epoch else 0
  let ends := fun (k : DieId) => ([0, 1].filter fun m =>
    (inp ≥ 8 || src = k || hubLink src f.tgt e m) && d.moduleUp (8 + 2 * k.toNat + m)).map fun m => 2 * (8 + 2 * k.toNat + m) + 1
  if (ends t).isEmpty then ends (rowMate t) else ends t

/-- Where the hub looks for how long a channel of it has been without credit. -/
def hubDry (k : Nat) : Nat := 65536 + k

/-- How a head of a hub input can go on: to the hub itself, or by an end in a channel. -/
inductive HubGo where
  | stay
  | hub
  | module (e : Nat) (esc : Bool)
deriving DecidableEq, Repr

def Dev.hubGo (d : Dev) (inp k : Nat) (f : Flit) : HubGo :=
  match tgtDie f.tgt with
  | none => .hub
  | some t =>
    let ways := d.hubWays inp t f
    match ways.find? fun e => d.moduleCredit e f false with
    | some e => .module e false
    | none =>
      match if d.dryLong (hubDry k) (d.meshNow 0) then ways.find? fun e => d.moduleCredit e f true else none with
      | some e => .module e true
      | none => .stay

/-- Input channels of the hub with their heads. -/
def Dev.hubHeads (d : Dev) (inp : Nat) : List (Nat × Flit) :=
  (List.range 14).filterMap fun i =>
    let k := hubKey inp (BitVec.ofNat 3 (i / 2)) (i % 2 = 1)
    (d.hubIn k).head?.map fun f => (k, f)

/-- The hub looks at the credits of an input's heads (R294), and notes since when a module has taken no flit for which one waits
(R309). -/
def Dev.lookHub (d : Dev) (inp : Nat) : Dev :=
  { d with fab := { d.fab with
      dry := (d.hubHeads inp).foldl (fun m x =>
        match d.hubGo inp x.1 x.2 with
        | .stay => if (mfind m (hubDry x.1)).isNone then minsert m (hubDry x.1) (d.meshNow 0) else m
        | _ => m) d.fab.dry
      waits := (d.hubHeads inp).foldl (fun m x =>
        match d.hubGo inp x.1 x.2, (tgtDie x.2.tgt).map fun t => d.hubWays inp t x.2 with
        | .stay, some ways => ways.foldl (fun m e => if (mfind m (512 + e)).isNone then minsert m (512 + e) d.clock.run else m) m
        | _, _ => m) d.fab.waits } }

/-- The head of a hub channel leaves it. -/
def Dev.popHub (d : Dev) (k : Nat) : Dev :=
  let d := d.setHubIn k ((d.hubIn k).drop 1)
  { d with fab := { d.fab with dry := merase d.fab.dry (hubDry k) } }

/-- A head of a hub input goes on. -/
def Dev.hubMove (d : Dev) (inp : Nat) (x : Nat × Flit) : Dev :=
  match d.hubGo inp x.1 x.2 with
  | .stay => d
  | .hub =>
    let (d', left) := (d.popHub x.1).deliverAll x.2.tgt x.2.pkts
    if left.isEmpty then d' else d'.setHubIn x.1 ({ x.2 with pkts := left } :: d'.hubIn x.1)
  | .module e esc =>
    let d := (d.popHub x.1).intoModule e x.2 esc
    { d with fab := { d.fab with waits := merase d.fab.waits (512 + e) } }

/-- The oldest head of an input that can go on. -/
def Dev.hubNext (d : Dev) (inp : Nat) : Option (Nat × Flit) :=
  minBy (fun x => x.2.packed) ((d.hubHeads inp).filter fun x => d.hubGo inp x.1 x.2 ≠ .stay)

/-- The hub forwards the oldest flit of an input that can go; no flit waits behind one of another class. -/
def Dev.hubSwitch (d : Dev) (inp : Nat) : Dev :=
  let d := (d.pullHub inp).lookHub inp
  match d.hubNext inp with
  | none => d
  | some x => d.hubMove inp x

/-- HUB_FORWARD: one flit of an input; INJECT descriptors whose tokens have all left host injection staging complete (R398). -/
def hubForward (inp : BitVec 4) (d : Dev) : Dev :=
  let d := d.hubSwitch inp.toNat
  if inp.toNat = hubHost then d.endInjects else d

/-! ### Retention (R305, R306) -/

/-- All cells asleep and the crossbar empty. -/
def Dev.clusterQuiet (d : Dev) (n : ClusterId) : Bool :=
  (clusterCells n).all fun c => (d.cell c).asleep && (d.cell c).pipe.egress.isEmpty && (d.cell c).pipe.ingress.isEmpty

/-- CLUSTER_RETENTION: quiet for CL_IDLE µs, with CLGATE and the governor's permit. -/
def clusterRetention (n : ClusterId) (permit : Bool) (d : Dev) : Dev :=
  if permit && d.fld rPwrcfg 0 1 = 1 && d.clusterQuiet n && (mfind d.fab.power n.toNat).isNone &&
      mget 0 d.fab.idleSince n.toNat + 1000 * d.fld rPwrcfg 16 16 ≤ d.clock.run then
    { d with fab := { d.fab with power := minsert d.fab.power n.toNat .retained } }
  else d

/-- Held flits go to their cells, oldest first; what cannot be taken yet stays held. -/
def Dev.releaseHold (d : Dev) (n : ClusterId) : List Flit → Dev × List Flit
  | [] => (d, [])
  | f :: l =>
    let (d, left) := d.deliverAll f.tgt f.pkts
    let (d, rest) := d.releaseHold n l
    (d, if left.isEmpty then rest else { f with pkts := left } :: rest)

/-- CLUSTER_WAKE: the cluster is powered, and its held flits are delivered; it stays waking while some remain. -/
def clusterWake (n : ClusterId) (d : Dev) : Dev :=
  match mfind d.fab.power n.toNat with
  | some .waking =>
    let (d, left) := d.releaseHold n (mget [] d.fab.hold n.toNat)
    { d with fab := { d.fab with
        hold := mset [] d.fab.hold n.toNat left
        power := if left.isEmpty then merase d.fab.power n.toNat else d.fab.power
        idleSince := mset 0 d.fab.idleSince n.toNat d.clock.run } }
  | _ => d

/-! ### The commands -/

/-- FLIT_HOP. -/
def execFlitHop (r : ClusterId) (o : BitVec 3) (sub : Nat) (u : Upset) (s : State) : Host.Outcome State Fault Refusal :=
  onDies (flitHop r o sub u) s

/-- CROSSBAR_FLIT_SEND. -/
def execCrossbarFlitSend (x : CrossbarSend) (s : State) : Host.Outcome State Fault Refusal :=
  onDies (crossbarSend x.cluster x.u) s

/-- HUB_FORWARD. -/
def execHubForward (inp : BitVec 4) (s : State) : Host.Outcome State Fault Refusal :=
  onHub (hubForward inp) s

/-- CLUSTER_RETENTION. -/
def execClusterRetention (n : ClusterId) (permit : Bool) (s : State) : Host.Outcome State Fault Refusal :=
  onDies (clusterRetention n permit) s

/-- CLUSTER_WAKE. -/
def execClusterWake (n : ClusterId) (s : State) : Host.Outcome State Fault Refusal :=
  onDies (clusterWake n) s

end Sys2Proof.Machine
end

