-- ==== Sys2Proof/Machine/Links.lean ====
section
/-! DEFINITION. Fober links: training, flits, credits, acknowledgement and replay, and what a link loses when it goes down
(R318 to R345, R377, R379). -/

namespace Sys2Proof.Machine

/-! ### Ports, lanes and groups (R321, R322, R341) -/

def linkPart (l : LinkId) : Nat := l.toNat % 4

/-- FBP.CFG.SPLIT and EN of a port. -/
def Dev.split (d : Dev) (p : BitVec 4) : Nat := d.fld (rFbp p.toNat) 4 2
def Dev.portEn (d : Dev) (p : BitVec 4) : Bool := d.fld (rFbp p.toNat) 0 1 = 1

/-- SPLIT creates the link. -/
def Dev.linkExists (d : Dev) (l : LinkId) : Bool := linkPart l < 2 ^ d.split (linkPort l)

/-- Port lanes of link k. -/
def linkLanes (split k : Nat) : List Nat := (List.range (8 >>> split)).map fun i => k * (8 >>> split) + i

/-- A mask of port lanes. -/
def laneMask (l : List Nat) : Byte := l.foldl (fun m i => m ||| (1#8 <<< i)) 0

/-- The groups of lanes of link k, widest first, with their WIDTH. -/
def laneGroups (split k : Nat) : List (Nat × List Nat) :=
  ([0, 1, 2].filter fun w => split ≤ w).flatMap fun w =>
    (List.range (2 ^ (w - split))).map fun j =>
      (w, (List.range (8 >>> w)).map fun i => k * (8 >>> split) + j * (8 >>> w) + i)

/-- The widest, lowest group whose lanes are all usable. -/
def chooseGroup (split k : Nat) (usable : Nat → Bool) : Option (Nat × List Nat) :=
  (laneGroups split k).find? fun g => g.2.all usable

def Dev.lanesOf (d : Dev) (l : LinkId) : List Nat := linkLanes (d.split (linkPort l)) (linkPart l)

def Dev.groupOf (d : Dev) (l : LinkId) (usable : Nat → Bool) : Option (Nat × List Nat) :=
  chooseGroup (d.split (linkPort l)) (linkPart l) usable

/-- Retry buffer, in flits. -/
def Dev.retryRoom (d : Dev) (l : LinkId) : Nat := 512 >>> d.split (linkPort l)

/-- Slots advertised for a virtual channel (R334). -/
def Dev.ownBuf (d : Dev) (l : LinkId) (v : Nat) : Nat := ([256, 256, 1024, 128, 64, 256, 64].getD v 0) >>> d.split (linkPort l)

/-! ### Fields of training frames (R339) -/

def tMaxr (w : Word) : Nat := nbits w 59 2
def tRdy (w : Word) : Bool := bit w 58
def tTap (w : Word) : Nat := nbits w 55 3
def tReq (w : Word) : Nat := nbits w 53 2
def tRsp (w : Word) : Nat := nbits w 51 2
def tState (w : Word) : Nat := nbits w 48 3

def trainReset : LaneTrain :=
  { last := 0, seen := 0, word := none, locked := false, inv := false, rsp := 0, tap := 0, req := 0, rdy := false }

def Link.lane (x : Link) (i : Nat) : LaneTrain := mget trainReset x.train i
def Link.setLane (x : Link) (i : Nat) (t : LaneTrain) : Link := { x with train := mset trainReset x.train i t }

/-- A lane is locked and has an accepted word. -/
def Link.heard (x : Link) (i : Nat) : Bool := (x.lane i).locked && (x.lane i).word.isSome

/-- A lane is usable: locked, and RDY in both directions. -/
def Link.usable (x : Link) (i : Nat) : Bool :=
  (x.lane i).locked && (x.lane i).rdy && (match (x.lane i).word with | some w => tRdy w | none => false)

/-- A usable lane whose peer is DONE. -/
def Link.done (x : Link) (i : Nat) : Bool :=
  x.usable i && (match (x.lane i).word with | some w => tState w = 3 | none => false)

/-! ### Slots and packets (R327, R328) -/

def slotZero : RawSlot := { hdr := 0, w0 := 0, w1 := 0, w2 := 0 }

def sPtype (h : Reg) : BitVec 5 := bits h 27 5
def sMc (h : Reg) : BitVec 3 := bits h 24 3
def sPos (h : Reg) : Nat := nbits h 22 2
def sEpoch (h : Reg) : Bool := bit h 21
def sPspec (h : Reg) : BitVec 16 := bits h 0 16
def sOk (h : Reg) : Bool := nbits h 16 5 = 0 && sMc h ≠ 7

def slotPacket (h : Reg) (ws : List Word) : FPacket :=
  { ptype := sPtype h, mc := sMc h, epoch := sEpoch h, pspec := sPspec h, words := ws }

/-- The packets in the valid slots of a flit (none: an invalid slot); no result: a protocol error. -/
def parseSlots : Option FPacket → List (Option (Reg × List Word)) → Option (List FPacket)
  | none, [] => some []
  | some _, [] => none
  | none, none :: l => parseSlots none l
  | some _, none :: _ => none
  | none, some (h, ws) :: l =>
    if !sOk h then none
    else
      match sPos h with
      | 0 => (parseSlots none l).map fun ps => slotPacket h ws :: ps
      | 1 => parseSlots (some (slotPacket h ws)) l
      | _ => none
  | some p, some (h, ws) :: l =>
    if !sOk h || sPtype h ≠ p.ptype || sMc h ≠ p.mc || sEpoch h ≠ p.epoch then none
    else
      let q := { p with words := p.words ++ ws }
      match sPos h with
      | 2 => parseSlots (some q) l
      | 3 => (parseSlots none l).map fun ps => q :: ps
      | _ => none

/-- The slots of a packet. -/
def packetSlots (p : FPacket) : List RawSlot :=
  let n := slotsOf p
  (List.range n).map fun i =>
    let pos : BitVec 2 := if n = 1 then 0 else if i = 0 then 1 else if i + 1 = n then 3 else 2
    { hdr := p.ptype ++ p.mc ++ pos ++ b2v p.epoch ++ (0 : BitVec 5) ++ p.pspec
      w0 := p.words.getD (3 * i) 0, w1 := p.words.getD (3 * i + 1) 0, w2 := p.words.getD (3 * i + 2) 0 }

def slotOpt (s : RawSlot) : Option (Reg × List Word) := some (s.hdr, [s.w0, s.w1, s.w2])

/-- The packets of a flit kept for replay. -/
def Sent.packets (s : Sent) : List FPacket := (parseSlots none (s.slots.map slotOpt)).getD []

/-- Slots of a virtual channel in some packets. -/
def slotsIn (v : Nat) (l : List FPacket) : Nat := l.foldl (fun n p => if p.mc.toNat = v then n + slotsOf p else n) 0

/-! ### What goes down with a link (R377) -/

/-- The graph of a token or event. -/
def fobGraph (p : FPacket) : Option GraphId :=
  if Pkt.ofGraph (.fob p) then some (Pkt.graph (.fob p)) else none

/-- The node that gets NOTICE: the root, when this module knows it (R371, log 30). -/
def Dev.rootNode (d : Dev) : Option (BitVec 16) := if d.fbn.root then some d.fbn.nodeId else d.fbn.rootId

/-- ISOLATE NOTICE to the root: a link index that a port isolated (R371). -/
def Dev.isoNotice (d : Dev) (l : LinkId) : Dev :=
  match d.rootNode with
  | none => d
  | some n =>
    d.sendFob { ptype := ptIsolate, mc := 6, epoch := d.fab.cur, pspec := n
                words := [d.fbn.nodeId ++ (0 : BitVec 16) ++ (2 : BitVec 4) ++ (0 : BitVec 12) ++ l.setWidth 16, 0, 0] }

/-- Unacknowledged flits are discarded: LINK_LOST, tokens and events counted as consumed, their graphs aborted. -/
def Dev.loseFlits (d : Dev) (l : LinkId) : Dev :=
  let x := d.link l
  if x.retry.isEmpty then d
  else
    let ps := x.retry.flatMap Sent.packets
    let d := (d.setLink l { x with retry := [], replay := [] }).fault rFbnErr 3 78 [] []
    let d := ps.foldl (fun d p => d.losePacket (.fob p)) d
    (ps.filterMap fobGraph).foldl (fun d g => d.abortGraph g) d

/-- What stays of a link that enters DETECT, DISABLED or ISOLATED (R343): its queues and counters. -/
def Link.restart (x : Link) (st : LinkState) (now : Nat) : Link :=
  { linkReset with
    st := st, since := now, tx := x.tx, rx := x.rx.map fun q => { q with counted := false }
    fecc := x.fecc, fecu := x.fecu, replayCnt := x.replayCnt, peerVermap := x.peerVermap }

/-- A link enters DETECT, DISABLED or ISOLATED. -/
def Dev.linkTo (d : Dev) (l : LinkId) (st : LinkState) : Dev :=
  (d.loseFlits l).modLink l fun x => x.restart st d.clock.run

def Dev.linkIsolate (d : Dev) (l : LinkId) : Dev := (d.linkTo l .isolated).isoNotice l

/-! ### Flits out (R323 to R333) -/

/-- Port lanes in use, in order; outside LOCK, HELLO and ACTIVE, all lanes of the link. -/
def Dev.lanesUsed (d : Dev) (l : LinkId) : List Nat := (d.lanesOf l).filter fun i => bit (d.link l).lanes i

/-- FBP.LANECFG.TXPOL of a port lane. -/
def Dev.txpol (d : Dev) (l : LinkId) (lane : Nat) : Bool := bit (d.reg (rFbpLanecfg (linkPort l).toNat)) lane

/-- A codeword goes out on the lanes in use (R324). -/
def Dev.sendCodeword (d : Dev) (l : LinkId) (cw : List Nat) : Dev :=
  let lanes := d.lanesUsed l
  (d.modLink l fun x => { x with cwCount := (x.cwCount + 1) % alignEvery }).emit
    (.codeword l (lanes.zipIdx.map fun x =>
      (x.1, laneLevels ((d.link l).rate = 0) (d.txpol l x.1) lanes.length x.2 cw)))

/-- A flit takes its place in the codeword being filled, which goes out when it holds five. An alignment codeword goes out before the
first of every 16,384 (R325). -/
def Dev.intoCodeword (d : Dev) (l : LinkId) (f : RawFlit) : Dev :=
  let x := d.link l
  let d := if x.cw.isEmpty && x.cwCount = 0 then d.sendCodeword l (alignCodeword (d.lanesUsed l).length) else d
  let fs := x.cw ++ [f]
  if fs.length < 5 then d.modLink l fun x => { x with cw := fs }
  else (d.sendCodeword l (dataCodeword fs)).modLink l fun x => { x with cw := [] }

/-- The link word: acknowledgement, NAK, and the limit of a channel. -/
def linkWord (x : Link) (cvc clim : Nat) : Reg :=
  x.ackSeq ++ b2v x.nak ++ BitVec.ofNat 3 cvc ++ BitVec.ofNat 12 clim ++ (0 : BitVec 4)

/-- A flit sent: its trailer reports the next channel in turn. -/
def Dev.sendFlit (d : Dev) (l : LinkId) (hdr : Word) (s : List RawSlot) : Dev :=
  let x := d.link l
  let v := (x.reported + 1) % 7
  let lw := linkWord x v (d.ownBuf l v + (mget 0 x.freed v).toNat)
  let at_ := fun i => s.getD i slotZero
  let f : RawFlit := { hdr := hdr, s0 := at_ 0, s1 := at_ 1, s2 := at_ 2, s3 := at_ 3, link := lw, crc := 0 }
  let f := { f with crc := flitCrc f }
  ((d.setLink l { x with reported := v, adv := minsert x.adv v (bits lw 4 12) }).emit (.flit l f)).intoCodeword l f

def flitHdr (ftype : BitVec 4) (seq : BitVec 12) (valid : BitVec 4) : Word := ftype ++ seq ++ valid ++ (0 : BitVec 44)

def Dev.sendNull (d : Dev) (l : LinkId) : Dev := d.sendFlit l (flitHdr 0 0 0) []

/-- NULL flits until the codeword being filled has gone out. -/
def Dev.fillCodeword (d : Dev) (l : LinkId) : Nat → Dev
  | 0 => d
  | n + 1 => if (d.link l).cw.isEmpty then d else (d.sendNull l).fillCodeword l n

/-- A CTRL flit: the message stands in bytes 8 to 119 (R342). -/
def Dev.sendCtrl (d : Dev) (l : LinkId) (s : List RawSlot) : Dev := d.sendFlit l (flitHdr 2 0 0) s

def linkVermap : BitVec 16 := 2

/-- HELLO: VERMAP, VER, SEEN and the buffers of the seven channels. -/
def Dev.helloSlots (d : Dev) (l : LinkId) : List RawSlot :=
  let x := d.link l
  let buf := fun (v : Nat) => BitVec.ofNat 16 (d.ownBuf l v)
  [{ hdr := linkVermap ++ (0 : Byte) ++ (1 : Byte)
     w0 := buf 1 ++ buf 0 ++ (0 : BitVec 16) ++ (0 : BitVec 7) ++ b2v x.helloSeen ++ x.ver.setWidth 8
     w1 := buf 5 ++ buf 4 ++ buf 3 ++ buf 2
     w2 := (buf 6).setWidth 64 }]

/-- RETRAIN: the width, group and failed lanes. -/
def Dev.retrainSlots (d : Dev) (l : LinkId) : List RawSlot :=
  let x := d.link l
  let gs := (laneGroups (d.split (linkPort l)) (linkPart l)).filter fun g => g.1 = x.width.toNat
  let j := (gs.findIdx? fun g => laneMask g.2 = x.lanes).getD 0
  [{ hdr := x.failed ++ BitVec.ofNat 8 j ++ x.width.setWidth 8 ++ (2 : Byte), w0 := 0, w1 := 0, w2 := 0 }]

/-- DOWN, with its codeword, since the link falls silent after it. -/
def Dev.sendDown (d : Dev) (l : LinkId) : Dev := (d.sendCtrl l [{ hdr := 3, w0 := 0, w1 := 0, w2 := 0 }]).fillCodeword l 4

/-- A link that sends flits that its peer can take as messages. -/
def Link.talks (x : Link) : Bool := x.st = .hello || x.st = .active

/-! ### Entering states -/

/-- The equalizer seed of a lane at a rate: in MODE 1 the user's, where one is stored (R480, R481). -/
def Dev.laneSeed (d : Dev) (l : LinkId) (lane rate : Nat) : Word :=
  let n := 8 * (linkPort l).toNat + lane
  let user := fun o => mget 0 d.mgt.cal o
  if d.fld (rFbpEqctl (linkPort l).toNat) 0 2 = 1 && bit d.mgt.calUser 3 && leNat user (0x1000 + 32 * n) 32 ≠ 0 then
    seedAt user n rate
  else if bit d.mgt.calBad 3 then (Config.presetTaps rate).setWidth 64
  else seedAt Config.factoryByte n rate

/-- What the taps of a lane are at the entry to EQ: its seed, or in MODE 2 the staged FBP.TXEQ (chapter 11). -/
def Dev.startTaps (d : Dev) (l : LinkId) (rate lane : Nat) : Dev :=
  let p := (linkPort l).toNat
  if d.fld (rFbpEqctl p) 0 2 = 2 then d.applyStaged (rFbpTxeq p lane)
  else d.setReg (rFbpTxeq p lane) (d.laneSeed l lane rate)

/-- A lane at the entry to EQ: words are heard anew, and its receiver adapts anew. -/
def LaneTrain.restart (t : LaneTrain) : LaneTrain :=
  { t with last := 0, seen := 0, word := none, rsp := 0, tap := 0, req := 0, rdy := false }

/-- EQ at a rate, on a group of the link's lanes. -/
def Dev.enterEq (d : Dev) (l : LinkId) (rate : Nat) (width : Nat) (lanes : List Nat) : Dev :=
  let d := lanes.foldl (fun d i => d.startTaps l rate i) d
  d.modLink l fun x =>
    { x with
      st := .eq, since := d.clock.run, rate := BitVec.ofNat 2 rate, eqFrames := 0
      train := x.train.map fun t => (t.1, t.2.restart)
      width := BitVec.ofNat 2 width, lanes := laneMask lanes }

def Dev.enterLock (d : Dev) (l : LinkId) : Dev := d.modLink l fun x => { x with st := .lock, since := d.clock.run }

/-- A replay of every unacknowledged flit counts (R336). -/
def Dev.countReplay (d : Dev) (l : LinkId) : Dev :=
  (d.modLink l fun x => { x with replay := x.retry.map (·.seq), replayCnt := min 0xFFFFFFFF (x.replayCnt + 1) }).fault
    (rFbpErr (linkPort l).toNat) 1 70 [] []

/-- ACTIVE; after RETRAIN every unacknowledged flit is replayed (R343), a replay like others when there is one (R336). -/
def Dev.enterActive (d : Dev) (l : LinkId) : Dev :=
  let x := d.link l
  let d := d.setLink l { x with st := .active, since := d.clock.run, fromRetrain := false, lastNak := none, replays := 0, replay := [] }
  if x.fromRetrain && !x.retry.isEmpty then d.countReplay l else d

/-- RETRAIN at the width in use; every lane has to lock again. -/
def Dev.enterRetrain (d : Dev) (l : LinkId) : Dev :=
  (d.modLink l fun x =>
    { x with st := .retrain, since := d.clock.run, fromRetrain := true, retrainDue := 3, train := [] }).fault
    (rFbpErr (linkPort l).toNat) 2 71 [] []

def Dev.degraded (d : Dev) (l : LinkId) : Dev := d.fault (rFbpErr (linkPort l).toNat) 3 72 [] []

/-- No group is valid at a rate: the next lower rate with the failure marks cleared, or ISOLATED (R341). -/
def Dev.nextRate (d : Dev) (l : LinkId) : Dev :=
  let x := d.link l
  if x.rate = 0 then d.linkIsolate l
  else (d.setLink l { x with failed := 0 }).enterEq l (x.rate.toNat - 1) (d.split (linkPort l)) (d.lanesOf l)

/-- Lanes fail in ACTIVE: both sides retrain at the widest group left, or at the group that the peer names when it is one of those. -/
def Dev.failLanes (d : Dev) (l : LinkId) (failed : Byte) (named : Option (Nat × List Nat)) : Dev :=
  let x := d.link l
  let all := x.failed ||| failed
  let d := if all = x.failed then d else d.degraded l
  let left := fun (i : Nat) => bit x.lanes i && !bit all i
  match (named.filter fun g => g.2.all left).or (d.groupOf l left) with
  | some (w, g) => (d.setLink l { x with failed := all, width := BitVec.ofNat 2 w, lanes := laneMask g }).enterRetrain l
  | none => ((d.setLink l { x with failed := all }).enterRetrain l).nextRate l

/-! ### DETECT and EQ (R340, R341) -/

/-- The rate both sides offer on some lanes. -/
def Dev.commonRate (d : Dev) (l : LinkId) (lanes : List Nat) : Nat :=
  lanes.foldl (fun r i => match ((d.link l).lane i).word with
    | some w => min r (tMaxr w)
    | none => r) (d.fld (rFbp (linkPort l).toNat) 6 2)

/-- DETECT ends when every lane is heard, or, 1 ms after the first lock, when some group is (log 29). -/
def Dev.tryDetect (d : Dev) (l : LinkId) : Dev :=
  let x := d.link l
  match d.groupOf l x.heard with
  | none => d
  | some (w, g) =>
    let waited : Bool := match x.firstLock with
      | some t => t + 1000000 ≤ d.clock.run
      | none => false
    if g.length = (d.lanesOf l).length || waited then d.enterEq l (d.commonRate l g) w g else d

/-- Every lane of the width is RDY in both directions, which makes this side DONE, and the peer is DONE. -/
def Dev.eqReady (d : Dev) (l : LinkId) : Bool := (d.lanesUsed l).all (d.link l).usable
def Dev.eqDone (d : Dev) (l : LinkId) : Bool := (d.lanesUsed l).all (d.link l).done

/-- RETRAIN ends when the peer's frames lock on every lane in use. -/
def Dev.tryRetrain (d : Dev) (l : LinkId) : Dev :=
  let x := d.link l
  if (d.lanesOf l).all fun i => !bit x.lanes i || (x.lane i).locked then d.enterLock l else d

def Dev.tryTrain (d : Dev) (l : LinkId) : Dev :=
  match (d.link l).st with
  | .detect => d.tryDetect l
  | .retrain => d.tryRetrain l
  | _ => d

/-- A link in training takes frames. -/
def Link.trains (x : Link) : Bool := x.st = .detect || x.st = .eq || x.st = .retrain

/-- LANE_LOCK. -/
def laneLock (l : LinkId) (lane : BitVec 3) (d : Dev) : Dev :=
  let x := d.link l
  if x.trains && (d.lanesOf l).contains lane.toNat then
    (d.setLink l { x.setLane lane.toNat { x.lane lane.toNat with locked := true } with
        firstLock := if x.firstLock.isNone then some d.clock.run else x.firstLock }).tryTrain l
  else d

/-! ### Equalizer coefficients (R318, R339, R346) -/

/-- A tap of FBP.TXEQ: place, width and whether it is signed; TAP 1 to 5. -/
def tapField (tap : Nat) : Nat × Nat × Bool :=
  match tap with
  | 1 => (21, 5, true)
  | 2 => (16, 5, true)
  | 3 => (11, 5, true)
  | 4 => (5, 6, false)
  | _ => (0, 5, true)

def tapValue (v : Word) (tap : Nat) : Int :=
  let (lo, n, signed) := tapField tap
  let x : Int := nbits v lo n
  if signed && 2 ^ (n - 1) ≤ x then x - 2 ^ n else x

/-- The sum of the taps' magnitudes. -/
def tapSum (v : Word) : Nat := [1, 2, 3, 4, 5].foldl (fun t i => t + (tapValue v i).natAbs) 0

/-- A tap set to a value; none when the value is out of its range or the sum passes 63. -/
def setTap (v : Word) (tap : Nat) (x : Int) : Option Word :=
  let (lo, n, signed) := tapField tap
  let lowest : Int := if signed then -16 else 0
  let highest : Int := if signed then 15 else 63
  if x < lowest || highest < x then none
  else
    let w := setBits v lo n ((x + 2 ^ n) % 2 ^ n).toNat
    if 63 < tapSum w then none else some w

/-- The peer's request on a lane: the new coefficients and the RSP (1 updated, 2 at limit). Preset puts every tap at its seed. -/
def answerReq (v seed : Word) (w : Word) : Word × BitVec 2 :=
  let step : Int → Word × BitVec 2 := fun k =>
    if 5 < tTap w then (v, 0)
    else match setTap v (tTap w) (tapValue v (tTap w) + k) with
    | some v => (v, 1)
    | none => (v, 2)
  match tReq w with
  | 1 => if tTap w = 0 then (v, 0) else step 1
  | 2 => if tTap w = 0 then (v, 0) else step (-1)
  | 3 => (seed, 1)
  | _ => (v, 0)

/-- An accepted word's request is answered once; RSP returns to 0 when the peer holds. With MODE 2 none is answered. -/
def Dev.equalize (d : Dev) (l : LinkId) (lane : Nat) (w : Word) : Dev :=
  let x := d.link l
  let t := x.lane lane
  let p := (linkPort l).toNat
  if d.fld (rFbpEqctl p) 0 2 = 2 || x.st ≠ .eq then d
  else if tReq w = 0 then d.setLink l (x.setLane lane { t with rsp := 0 })
  else if t.rsp ≠ 0 then d
  else
    let (v, rsp) := answerReq (d.reg (rFbpTxeq p lane)) (d.laneSeed l lane x.rate.toNat) w
    (d.setLink l (x.setLane lane { t with rsp := rsp })).setReg (rFbpTxeq p lane) v

/-- This side's part in EQ: a request is held until the peer answers it; without one, the receiver may ask or be ready. With MODE 2 it
asks nothing and still adapts. -/
def LaneTrain.adapt (t : LaneTrain) (asks : Bool) (w : Word) (rx : RxAdapt) : LaneTrain :=
  if t.req ≠ 0 then (if tRsp w ≠ 0 then { t with req := 0, tap := 0 } else t)
  else
    match rx with
    | .hold => t
    | .ready => { t with rdy := true }
    | .ask tap req => if asks && !t.rdy && tRsp w = 0 && tap.toNat ≤ 5 then { t with tap := tap, req := req } else t

def Dev.adapt (d : Dev) (l : LinkId) (lane : Nat) (w : Word) (rx : RxAdapt) : Dev :=
  let x := d.link l
  if x.st ≠ .eq then d
  else d.setLink l (x.setLane lane ((x.lane lane).adapt (d.fld (rFbpEqctl (linkPort l).toNat) 0 2 ≠ 2) w rx))

/-- TRAINING_FRAME_RECEIVE: a frame whose marker comes inverted is turned round (R320); a word counts after three consecutive frames that
carry it. -/
def trainingFrame (l : LinkId) (lane : BitVec 3) (inv : Bool) (raw : Word) (rx : RxAdapt) (d : Dev) : Dev :=
  let x := d.link l
  let t := x.lane lane.toNat
  let w := if inv then ~~~raw else raw
  if !x.trains || !t.locked || !(d.lanesOf l).contains lane.toNat then d
  else
    let n := if t.last = w then t.seen + 1 else 1
    let t := { t with last := w, seen := min n 3, inv := inv, word := if 3 ≤ n then some w else t.word }
    let d := d.setLink l (x.setLane lane.toNat t)
    if 3 ≤ n then ((d.equalize l lane.toNat w).adapt l lane.toNat w rx).tryTrain l else d

/-- DETECT_TIMEOUT: no group is valid 10 ms after the first lane lock. -/
def detectTimeout (l : LinkId) (d : Dev) : Dev :=
  let x := d.link l
  match x.firstLock with
  | some t =>
    if x.st = .detect && t + 10000000 ≤ d.clock.run && (d.groupOf l x.heard).isNone then d.linkIsolate l else d
  | none => d

/-- EQ_TIMEOUT: lanes that are not RDY fail; the group that is left goes on, or EQ starts again at the next lower rate. -/
def eqTimeout (l : LinkId) (d : Dev) : Dev :=
  let x := d.link l
  if x.st = .eq && x.since + 20000000 ≤ d.clock.run then
    match d.groupOf l fun i => bit x.lanes i && x.usable i with
    | some (w, g) =>
      let failed := laneMask ((d.lanesUsed l).filter fun i => !x.usable i)
      let d := if failed = 0 then d else d.degraded l
      (d.setLink l { x with failed := x.failed ||| failed, width := BitVec.ofNat 2 w, lanes := laneMask g }).enterLock l
    | none => d.nextRate l
  else d

/-- LOCK_TIMEOUT: EQ at the same rate on the lanes in use; a failed lane stays out (R341). -/
def lockTimeout (l : LinkId) (d : Dev) : Dev :=
  let x := d.link l
  if x.st = .lock && x.since + 1000000 ≤ d.clock.run then d.enterEq l x.rate.toNat x.width.toNat (d.lanesUsed l) else d

/-- Lanes may be skewed by so many ns (R325). -/
def skewLimit : Nat := 20

/-- CODEWORD_LOCK: an alignment codeword is found, its symbol on each lane in use that of the lane's place in the link, and the lanes
are within the skew that a link tolerates (R325). -/
def codewordLock (l : LinkId) (syms : List Nat) (skew : Nat) (d : Dev) : Dev :=
  let x := d.link l
  if x.st = .lock && skew ≤ skewLimit && syms = (List.range (d.lanesUsed l).length).map alignSymbol then
    if x.fromRetrain then d.enterActive l else d.setLink l { x with st := .hello, since := d.clock.run }
  else d

/-- CODEWORD_LOCK_LOSS. -/
def codewordLoss (l : LinkId) (d : Dev) : Dev := if (d.link l).st = .active then d.enterRetrain l else d

/-- A lane of a port, as FBP.LSYM and its recent errors are kept. -/
def symKey (l : LinkId) (lane : Nat) : Nat := 8 * (linkPort l).toNat + lane

/-- Symbols corrected on a lane in the last ms. -/
def Dev.recentSyms (d : Dev) (l : LinkId) (lane : Nat) : Nat :=
  (mget [] d.symTimes (symKey l lane)).foldl (fun n x => if d.clock.run < x.1 + 1000000 then n + x.2 else n) 0

/-- LANE_FAIL: a lane in use has lost lock, or its symbols corrected in 1 ms exceed FBP.LANECFG.FAILTHR. -/
def laneFail (l : LinkId) (lane : BitVec 3) (lost : Bool) (d : Dev) : Dev :=
  let x := d.link l
  if x.st = .active && bit x.lanes lane.toNat &&
      (lost || d.fld (rFbpLanecfg (linkPort l).toNat) 16 16 < d.recentSyms l lane.toNat) then
    d.failLanes l (1#8 <<< lane.toNat) none
  else d

/-! ### Control messages (R342) -/

/-- HELLO with a SEEN sent and received: ACTIVE. -/
def Dev.tryActive (d : Dev) (l : LinkId) : Dev :=
  let x := d.link l
  if x.st = .hello && x.helloSent && x.peerSeen then d.enterActive l else d

/-- A received HELLO. Only version 1 is common. -/
def helloMsg (l : LinkId) (m : HelloMsg) (d : Dev) : Dev :=
  let x := d.link l
  if x.st ≠ .hello then d
  else if m.vermap &&& linkVermap = 0 then
    (((d.setLink l { x with peerVermap := m.vermap }).sendDown l).linkIsolate l).fault (rFbpErr (linkPort l).toNat) 4 73 [.link l] []
  else
    (d.setLink l { x with
      peerVermap := m.vermap, ver := 1, helloSeen := x.helloSeen || m.ver = 1, peerSeen := x.peerSeen || m.seen
      lim := (m.buf.zipIdx).foldl (fun t b => mset 0 t b.2 b.1) [] }).tryActive l

/-- The group that a RETRAIN message names. -/
def Dev.namedGroup (d : Dev) (l : LinkId) (m : RetrainMsg) : Option (Nat × List Nat) :=
  ((laneGroups (d.split (linkPort l)) (linkPart l)).filter fun g => g.1 = m.width.toNat)[m.group.toNat]?

/-- A received RETRAIN: the failed lanes of both sides are left out, and the link retrains at the width and group it names. -/
def retrainMsg (l : LinkId) (m : RetrainMsg) (d : Dev) : Dev :=
  if (d.link l).st = .active then d.failLanes l (m.failed &&& laneMask (d.lanesOf l)) (d.namedGroup l m) else d

/-- A received DOWN. -/
def downMsg (l : LinkId) (d : Dev) : Dev :=
  let x := d.link l
  if x.talks || x.st = .lock then d.linkTo l .detect else d

/-! ### FLIT_TRANSMIT (R331) -/

/-- The credit left for a channel. -/
def Link.credit (x : Link) (v : Nat) : Nat := (mget 0 x.lim v - mget 0 x.sentCr v).toNat

/-- The oldest packets that have credit, up to `room` slots; a channel whose oldest packet stays keeps its order. -/
def packTx (x : Link) (may : FPacket → Bool) : Nat → List Nat → Map (BitVec 12) → List PortPkt →
    List FPacket × List PortPkt × Map (BitVec 12)
  | _, _, sent, [] => ([], [], sent)
  | room, blocked, sent, q :: l =>
    let v := q.pkt.mc.toNat
    let n := slotsOf q.pkt
    let free := (mget 0 x.lim v - mget 0 sent v).toNat
    if !blocked.contains v && may q.pkt && n ≤ room && n ≤ free then
      let (ps, rest, s) := packTx x may (room - n) blocked (mset 0 sent v (mget 0 sent v + BitVec.ofNat 12 n)) l
      (q.pkt :: ps, rest, s)
    else
      let (ps, rest, s) := packTx x may room (v :: blocked) sent l
      (ps, q :: rest, s)

/-- Without a node ID a port sends only ID_ASSIGN packets (R348). -/
def Dev.maySend (d : Dev) (p : FPacket) : Bool := d.fbn.nodeHeld || p.ptype = ptIdAssign

/-- A new DATA flit, or a NULL flit when nothing can be sent. -/
def Dev.newFlit (d : Dev) (l : LinkId) : Dev :=
  let x := d.link l
  let (ps, rest, sent) := packTx x d.maySend 4 [] x.sentCr x.tx
  if ps.isEmpty || d.retryRoom l ≤ x.retry.length then d.sendNull l
  else
    let slots := ps.flatMap packetSlots
    let s : Sent := { seq := x.txSeq, slots := slots, at_ := d.clock.run }
    (d.setLink l { x with tx := rest, sentCr := sent, txSeq := x.txSeq + 1, retry := x.retry ++ [s] }).sendFlit l
      (flitHdr 1 x.txSeq (BitVec.ofNat 4 (2 ^ slots.length - 1))) slots

/-- The next flit of a replay. -/
def Dev.replayFlit (d : Dev) (l : LinkId) (q : BitVec 12) (rest : List (BitVec 12)) : Dev :=
  let x := d.link l
  let y := { x with replay := rest, lastNak := if rest.isEmpty then none else x.lastNak
                    retry := x.retry.map fun s => if s.seq = q then { s with at_ := d.clock.run } else s }
  match x.retry.find? fun s => s.seq = q with
  | none => (d.setLink l y).sendNull l
  | some s => (d.setLink l y).sendFlit l (flitHdr 1 q (BitVec.ofNat 4 (2 ^ s.slots.length - 1))) s.slots

/-- The word of a training frame that a lane sends (R339). STATE is 3, DONE, in EQ once every lane of the width is RDY in both
directions, and in RETRAIN, where the coefficients in use stay (DESIGN CHOICE, log 79, for RETRAIN). -/
def Dev.frameWord (d : Dev) (l : LinkId) (lane : Nat) : Word :=
  let x := d.link l
  let t := x.lane lane
  let state : BitVec 3 := match x.st with
    | .detect => 1
    | .eq => if d.eqReady l then 3 else 2
    | _ => 3
  BitVec.ofNat 3 lane ++ BitVec.ofNat 2 (d.fld (rFbp (linkPort l).toNat) 6 2) ++ b2v t.rdy ++ t.tap ++ t.req ++ t.rsp ++ state ++ 0#48

/-- A training frame on every lane of a link; NRZ in DETECT. -/
def Dev.sendFrames (d : Dev) (l : LinkId) : Dev :=
  let x := d.link l
  (d.lanesOf l).foldl (fun (e : Dev) i =>
    e.emit (.frame l i (frameLevels (x.st = .detect || x.rate = 0) (d.txpol l i) (d.frameWord l i)))) d

/-- Frames that are sent when EQ is complete before LOCK (R340). -/
def eqExtra : Nat := 64

/-- HELLO with the buffers; what it tells the peer of them is advertised (R332). -/
def Dev.sendHello (d : Dev) (l : LinkId) : Dev :=
  let adv := fun (m : Map (BitVec 12)) => (List.range 7).foldl (fun m v =>
    if (mfind m v).isNone then minsert m v (BitVec.ofNat 12 (d.ownBuf l v)) else m) m
  (d.sendCtrl l (d.helloSlots l)).modLink l fun y => { y with helloSent := y.helloSeen, adv := adv y.adv }

/-- FLIT_TRANSMIT: one flit position; outside LOCK, HELLO and ACTIVE, a training frame on every lane (R339, R340). -/
def flitTransmit (l : LinkId) (d : Dev) : Dev :=
  let x := d.link l
  match x.st with
  | .detect => d.sendFrames l
  | .eq =>
    let d' := (d.sendFrames l).modLink l fun y => { y with eqFrames := if d.eqDone l then y.eqFrames + 1 else 0 }
    if d.eqDone l && eqExtra ≤ x.eqFrames + 1 then d'.enterLock l else d'
  | .lock => d.sendNull l
  | .hello => (d.sendHello l).tryActive l
  | .retrain =>
    if x.retrainDue ≠ 0 then (d.sendCtrl l (d.retrainSlots l)).modLink l fun y => { y with retrainDue := y.retrainDue - 1 }
    else if !x.cw.isEmpty then d.sendNull l
    else d.sendFrames l
  | .active =>
    match x.replay with
    | q :: rest => d.replayFlit l q rest
    | [] => d.newFlit l
  | _ => d

/-- A replay of every unacknowledged flit; after LIMIT without progress the link retrains (R336, R337). -/
def Dev.startReplay (d : Dev) (l : LinkId) (nak : Option (BitVec 12)) : Dev :=
  let x := d.link l
  let p := (linkPort l).toNat
  if d.fld (rFbpRetry p) 16 8 ≤ x.replays then d.enterRetrain l
  else (d.setLink l { x with replays := x.replays + 1, lastNak := nak }).countReplay l

/-- REPLAY_TIMEOUT. -/
def replayTimeout (l : LinkId) (d : Dev) : Dev :=
  let x := d.link l
  match x.retry with
  | s :: _ =>
    if x.st = .active && x.replay.isEmpty && s.at_ + 100 * d.fld (rFbpRetry (linkPort l).toNat) 0 16 ≤ d.clock.run then
      d.startReplay l x.lastNak
    else d
  | [] => d

/-! ### FLIT_RECEIVE (R326 to R337) -/

def flitSlots (f : RawFlit) : List RawSlot := [f.s0, f.s1, f.s2, f.s3]

/-- R327 and the message type of R342; the packets of a DATA flit. No result: a protocol error. -/
def flitCheck (f : RawFlit) : Option (List FPacket) :=
  let ftype := nbits f.hdr 60 4
  let valid := nbits f.hdr 44 4
  let zero := fun (i : Nat) (s : RawSlot) => (valid >>> i) % 2 = 1 || s = slotZero
  let clean := ((flitSlots f).zipIdx).all fun (s, i) => zero i s
  if nbits f.hdr 0 44 ≠ 0 then none
  else
    match ftype with
    | 0 => if nbits f.hdr 48 12 = 0 && valid = 0 && clean then some [] else none
    | 1 =>
      if valid ≠ 0 && clean then
        parseSlots none (((flitSlots f).zipIdx).map fun (s, i) => if (valid >>> i) % 2 = 1 then slotOpt s else none)
      else none
    | 2 =>
      if nbits f.hdr 48 12 = 0 && valid = 0 && 1 ≤ nbits f.s0.hdr 0 8 && nbits f.s0.hdr 0 8 ≤ 3 then some [] else none
    | _ => none

/-- A protocol error (R330). -/
def Dev.protoError (d : Dev) (l : LinkId) : Dev :=
  ((d.sendDown l).linkIsolate l).fault (rFbpErr (linkPort l).toNat) 5 74 [.link l] []

/-- A token or event received from a Class C endpoint is created, unless it is one that this module refused to it before; a REFUSE
packet from it takes its token's consumption back, since a refused token stays an item until it is consumed (R62, R215, R379). -/
def Dev.proxyReceived (d : Dev) (l : LinkId) (p : FPacket) (g : GraphId) : Dev :=
  let colour := if p.ptype = ptEvent then (d.proxyCensus l g).colour else p.token.colour
  let back := (l, p.token)
  if p.ptype = ptRefuse then d.modProxy l g fun c => c.unconsume colour
  else if p.ptype ≠ ptEvent && d.fbn.refusedOut.contains back then
    { d with fbn := { d.fbn with refusedOut := d.fbn.refusedOut.erase back } }
  else d.modProxy l g fun c => c.create colour

/-- A token or event delivered to a Class C endpoint is consumed; a token returned to it refused is still an item, and will not count
as created again. -/
def Dev.proxyDelivered (d : Dev) (l : LinkId) (p : FPacket) (g : GraphId) : Dev :=
  let colour := if p.ptype = ptEvent then (d.proxyCensus l g).colour else p.token.colour
  if p.ptype = ptRefuse then { d with fbn := { d.fbn with refusedOut := d.fbn.refusedOut ++ [(l, p.token)] } }
  else d.modProxy l g fun c => c.consume colour

/-- Tokens and events of a flit are counted by a proxy (R379). -/
def Dev.proxyCount (d : Dev) (l : LinkId) (received : Bool) (ps : List FPacket) : Dev :=
  if !d.isProxy l then d
  else
    ps.foldl (fun d p =>
      match fobGraph p with
      | none => d
      | some g => if received then d.proxyReceived l p g else d.proxyDelivered l p g) d

/-- An ACKSEQ covers flits (R336): they leave the retry buffer. -/
def Dev.acked (d : Dev) (l : LinkId) (a : BitVec 12) : Dev :=
  let x := d.link l
  let covered := fun (s : Sent) => (a - s.seq).toNat < 2048
  let gone := x.retry.filter covered
  if gone.isEmpty then d
  else
    let left := x.retry.filter fun s => !covered s
    (d.setLink l { x with retry := left, replays := 0, lastNak := if x.lastNak = some a then x.lastNak else none
                          replay := x.replay.filter fun q => left.any fun s => s.seq = q }).proxyCount l false
      (gone.flatMap Sent.packets)

/-- The link word of a good flit: a limit, an acknowledgement, a NAK. -/
def Dev.takeLinkWord (d : Dev) (l : LinkId) (lw : Reg) : Dev :=
  let a : BitVec 12 := bits lw 20 12
  let v := nbits lw 16 3
  let d := if v = 7 then d else d.modLink l fun x => { x with lim := mset 0 x.lim v (bits lw 4 12) }
  let d := d.acked l a
  if bit lw 19 && (d.link l).st = .active && (d.link l).lastNak ≠ some a && !(d.link l).retry.isEmpty then d.startReplay l (some a)
  else d

/-- Slots of a channel that the peer may still send under the limit last reported to it (R330, R332). -/
def Link.allowed (x : Link) (v : Nat) : Nat := (mget 0 x.adv v - mget 0 x.got v).toNat

/-- Slots received, by channel. -/
def addGot (m : Map (BitVec 12)) (ps : List FPacket) : Map (BitVec 12) :=
  ps.foldl (fun m p => mset 0 m p.mc.toNat (mget 0 m p.mc.toNat + BitVec.ofNat 12 (slotsOf p))) m

/-- A DATA flit that passed its checks (R335). One that exceeds the credit advertised is a protocol error (R330). -/
def Dev.takeData (d : Dev) (l : LinkId) (seq : BitVec 12) (ps : List FPacket) : Dev :=
  let x := d.link l
  if seq = x.exp then
    if (List.range 7).any fun v => x.allowed v < slotsIn v ps then d.protoError l
    else
      (d.setLink l { x with
        exp := x.exp + 1, ackSeq := seq, nak := false, got := addGot x.got ps
        rx := x.rx ++ ps.map fun p => { pkt := p, since := d.clock.aon, counted := true } }).proxyCount l true ps
  else if (seq - x.exp).toNat < 2048 then d.setLink l { x with nak := true }
  else d

/-- The message of a CTRL flit. -/
def takeCtrl (l : LinkId) (s0 : RawSlot) (d : Dev) : Dev :=
  match nbits s0.hdr 0 8 with
  | 1 =>
    helloMsg l
      { vermap := bits s0.hdr 16 16, ver := bits s0.w0 0 8, seen := bit s0.w0 8
        buf := [bits s0.w0 32 12, bits s0.w0 48 12, bits s0.w1 0 12, bits s0.w1 16 12, bits s0.w1 32 12, bits s0.w1 48 12,
          bits s0.w2 0 12] } d
  | 2 => retrainMsg l { width := bits s0.hdr 8 8, group := bits s0.hdr 16 8, failed := bits s0.hdr 24 8 } d
  | _ => downMsg l d

/-- Corrected symbols of a codeword count against the lanes that carried them, in FBP.LSYM and for FAILTHR. -/
def Dev.countSyms (d : Dev) (l : LinkId) (syms : List Nat) : Dev :=
  let lanes := d.lanesUsed l
  lanes.zipIdx.foldl (fun d x =>
    let n := count (fun s => symbolLane lanes.length s = x.2) syms
    let k := symKey l x.1
    if n = 0 then d
    else
      let recent := (mget [] d.symTimes k).filter fun t => d.clock.run < t.1 + 1000000
      { d with
        lsym := mset 0 d.lsym k (min 0xFFFFFFFF (mget 0 d.lsym k + n))
        symTimes := mset [] d.symTimes k (recent ++ [(d.clock.run, n)]) }) d

/-- A codeword comes in, and its first flit with it: the decoder's outcome counts once (R326). -/
def Dev.codeword (d : Dev) (l : LinkId) (cw : CwOutcome) : Dev :=
  match cw with
  | .clean => d.modLink l fun x => { x with rxBad := false }
  | .corrected syms => (d.modLink l fun x => { x with rxBad := false, fecc := min 0xFFFFFFFF (x.fecc + 1) }).countSyms l syms
  | .uncorrectable =>
    (d.modLink l fun x => { x with rxBad := true, fecu := min 0xFFFFFFFF (x.fecu + 1) }).fault (rFbpErr (linkPort l).toNat) 0 69 [] []

/-- FLIT_RECEIVE: one flit that a link in LOCK, HELLO or ACTIVE receives: the first of a codeword, with what its decoder found, or one of
the other four. A flit of a codeword that could not be decoded counts as one with a bad CRC. -/
def flitReceive (l : LinkId) (cw : Option CwOutcome) (f : RawFlit) (d : Dev) : Dev :=
  if !((d.link l).talks || (d.link l).st = .lock) then d
  else
    let d := match cw with
      | some c => d.codeword l c
      | none => d
    if (d.link l).rxBad || f.crc ≠ flitCrc f then d.modLink l fun x => { x with nak := true }
    else
      match flitCheck f with
      | none => d.protoError l
      | some ps =>
        let d := d.takeLinkWord l f.link
        if nbits f.hdr 60 4 = 2 then takeCtrl l f.s0 d
        else if nbits f.hdr 60 4 = 1 && ((d.link l).talks || (d.link l).st = .lock) then d.takeData l (bits f.hdr 48 12) ps
        else d

/-! ### Port commands (R340) -/

/-- The links that SPLIT creates on a port. -/
def Dev.portLinks (d : Dev) (p : BitVec 4) : List LinkId :=
  (List.range (2 ^ d.split p)).map fun k => BitVec.ofNat 6 (4 * p.toNat + k)

/-- EN = 1: links leave DISABLED. -/
def Dev.enableLinks (d : Dev) (p : BitVec 4) : Dev :=
  (d.portLinks p).foldl (fun d l => if (d.link l).st = .disabled then d.linkTo l .detect else d) d

/-- EN = 0: DOWN where the link talks, then DISABLED. -/
def Dev.disableLinks (d : Dev) (p : BitVec 4) : Dev :=
  (d.portLinks p).foldl (fun d l =>
    (if (d.link l).talks then d.sendDown l else d).linkTo l .disabled) d

/-- FBP.CMD.RETRAIN: the named links in ACTIVE enter RETRAIN. -/
def Dev.retrainLinks (d : Dev) (p : BitVec 4) (mask : Nat) : Dev :=
  (d.portLinks p).foldl (fun d l =>
    if (mask >>> linkPart l) % 2 = 1 && (d.link l).st = .active then d.enterRetrain l else d) d

/-- FBP.CMD.RESTART: the named links enter DETECT. -/
def Dev.restartLinks (d : Dev) (p : BitVec 4) (mask : Nat) : Dev :=
  (d.portLinks p).foldl (fun d l =>
    if (mask >>> linkPart l) % 2 = 1 && (d.link l).st ≠ .disabled then d.linkTo l .detect else d) d

/-- After a freeze, links that were in ACTIVE or RETRAIN enter RETRAIN and replay (R344). -/
def Dev.resumeLinks (d : Dev) : Dev :=
  allLinks.foldl (fun d l => if (d.link l).up then d.enterRetrain l else d) d

/-! ### The commands -/

/-- LANE_LOCK. -/
def execLaneLock (l : LinkId) (lane : BitVec 3) (s : State) : Host.Outcome State Fault Refusal :=
  onDies (laneLock l lane) s

/-- TRAINING_FRAME_RECEIVE. -/
def execTrainingFrameReceive (l : LinkId) (lane : BitVec 3) (f : TrainFrame) (s : State) :
    Host.Outcome State Fault Refusal :=
  onDies (trainingFrame l lane f.inv f.w f.rx) s

/-- DETECT_TIMEOUT. -/
def execDetectTimeout (l : LinkId) (s : State) : Host.Outcome State Fault Refusal :=
  onDies (detectTimeout l) s

/-- EQ_TIMEOUT. -/
def execEqTimeout (l : LinkId) (s : State) : Host.Outcome State Fault Refusal :=
  onDies (eqTimeout l) s

/-- LOCK_TIMEOUT. -/
def execLockTimeout (l : LinkId) (s : State) : Host.Outcome State Fault Refusal :=
  onDies (lockTimeout l) s

/-- CODEWORD_LOCK. -/
def execCodewordLock (a : AlignFound) (s : State) : Host.Outcome State Fault Refusal :=
  onDies (codewordLock a.link a.syms a.skew) s

/-- CODEWORD_LOCK_LOSS. -/
def execCodewordLockLoss (l : LinkId) (s : State) : Host.Outcome State Fault Refusal :=
  onDies (codewordLoss l) s

/-- LANE_FAIL. -/
def execLaneFail (l : LinkId) (x : LaneFailure) (s : State) : Host.Outcome State Fault Refusal :=
  onDies (laneFail l x.lane x.lost) s

/-- HELLO. -/
def execHello (l : LinkId) (m : HelloMsg) (s : State) : Host.Outcome State Fault Refusal :=
  onDies (helloMsg l m) s

/-- RETRAIN. -/
def execRetrain (l : LinkId) (m : RetrainMsg) (s : State) : Host.Outcome State Fault Refusal :=
  onDies (retrainMsg l m) s

/-- DOWN. -/
def execDown (l : LinkId) (s : State) : Host.Outcome State Fault Refusal :=
  onDies (downMsg l) s

/-- FLIT_RECEIVE. -/
def execFlitReceive (l : LinkId) (cw : Option CwOutcome) (f : RawFlit) (s : State) : Host.Outcome State Fault Refusal :=
  onDies (flitReceive l cw f) s

/-- FLIT_TRANSMIT. -/
def execFlitTransmit (l : LinkId) (s : State) : Host.Outcome State Fault Refusal :=
  onDies (flitTransmit l) s

/-- REPLAY_TIMEOUT. -/
def execReplayTimeout (l : LinkId) (s : State) : Host.Outcome State Fault Refusal :=
  onDies (replayTimeout l) s

end Sys2Proof.Machine
end

