-- ==== Sys2Proof/Machine/Network.lean ====
section
/-! DEFINITION. The Fober network: packet formats, routing of received packets, isolation of nodes, route banks, slot index
(R347 to R349, R354 to R357, R359 to R371, R374, R376). -/

namespace Sys2Proof.Machine

/-! ### Fields of packets (R363 to R371) -/

def pSrc (p : FPacket) : BitVec 16 := bits (p.word 0) 48 16
def pTag (p : FPacket) : BitVec 16 := bits (p.word 0) 32 16
def pSub (p : FPacket) : Nat := nbits (p.word 0) 28 4
def pGraph (p : FPacket) : GraphId := bits (p.word 0) 42 6
def pOp (p : FPacket) : Nat := nbits (p.word 0) 40 2

/-- SZ, SGN, words and address of a memory request. -/
def mSz (p : FPacket) : BitVec 2 := bits (p.word 0) 26 2
def mSgn (p : FPacket) : Bool := bit (p.word 0) 25
def mWords (p : FPacket) : Nat := nbits (p.word 0) 22 3 + 1
def mAddr (p : FPacket) : Nat := nbits (p.word 1) 0 48

/-- Fields of an EVENT packet. -/
def eSource (p : FPacket) : Nat := nbits (p.word 0) 26 6
def eGraph (p : FPacket) : GraphId := bits (p.word 0) 32 6
def ePost (p : FPacket) : CellId := bits (p.word 0) 38 10

/-! ### R360: what a destination checks -/

/-- The message class of a packet type; MEM_RESP has two. -/
def classOk (p : FPacket) : Bool :=
  let mc := p.mc.toNat
  match p.ptype.toNat with
  | 1 => mc = 2
  | 2 => mc = 5
  | 5 => mc = 1 || mc = 6
  | 8 => mc = 3
  | 10 => mc = 3
  | 11 => mc = 4
  | 12 => mc = 6
  | 13 => mc = 6
  | 14 => mc = 6
  | 15 => mc = 6
  | 16 => mc = 6
  | n => mc = 0 && 3 ≤ n && n ≤ 9

/-- Slots of a MEM_WR of NW words. -/
def writeSlots (nw : Nat) : Nat := 1 + (nw + 1) / 3

/-- The slot count of R359. -/
def slotsOk (p : FPacket) : Bool :=
  let n := slotsOf p
  match p.ptype.toNat with
  | 4 => n = writeSlots (mWords p)
  | 5 => 1 ≤ n && n ≤ 3
  | 6 => n = if pSub p = 2 && mSz p = 0 then 2 else 1
  | 11 => n = if pOp p = 1 then 2 else 1
  | 15 => n = 4
  | _ => n = 1

/-- Reserved fields and values of a memory request. -/
def memFieldsOk (p : FPacket) : Bool :=
  nbits (p.word 0) 0 22 = 0 && nbits (p.word 1) 48 16 = 0 && (mWords p = 1 || (mSz p = 0 && p.ptype ≠ ptAtomic)) &&
  (if p.ptype = ptAtomic then pSub p ≤ 6 && (mSz p).toNat ≤ 1 else pSub p = 0) &&
  (p.ptype ≠ ptMemRd || p.word 2 = 0)

def lockFieldsOk (p : FPacket) : Bool :=
  nbits (p.word 1) 48 2 = 0 && nbits (p.word 2) 32 32 = 0 && pSub p ≤ 1 &&
  ((p.ptype = ptLockReq && pSub p = 0) || (nbits (p.word 1) 50 14 = 0 && nbits (p.word 2) 0 32 = 0)) &&
  (!(p.ptype = ptLockRel && pSub p = 1) || nbits (p.word 1) 0 48 = 0)

def censusFieldsOk (p : FPacket) : Bool :=
  nbits (p.word 0) 33 7 = 0 &&
  (match pOp p with
    | 1 => p.word 5 = 0
    | 3 => false
    | _ => p.word 1 = 0 && p.word 2 = 0)

def routeFieldsOk (p : FPacket) : Bool :=
  pSub p ≤ 3 && nbits (p.word 0) 17 11 = 0 && nbits (p.word 1) 17 47 = 0 && nbits (p.word 2) 16 48 = 0

/-- Reserved fields and values by type; the contents of tokens are not looked at (R33, R360). -/
def fieldsOk (p : FPacket) : Bool :=
  match p.ptype.toNat with
  | 3 => memFieldsOk p
  | 4 => memFieldsOk p
  | 5 => nbits (p.word 0) 16 8 = 0 && nbits (p.word 0) 0 8 = 0
  | 6 => memFieldsOk p
  | 7 => lockFieldsOk p
  | 9 => lockFieldsOk p
  | 10 =>
    nbits (p.word 0) 0 26 = 0 && nbits (p.word 1) 44 8 = 0 && nbits (p.word 1) 0 7 = 0 && 32 ≤ eSource p &&
      nbits (p.word 1) 8 4 ≤ 8
  | 11 => censusFieldsOk p
  | 12 => nbits (p.word 0) 28 4 = 0 && nbits (p.word 0) 0 27 = 0 && nbits (p.word 1) 48 16 = 0
  | 13 => nbits (p.word 0) 28 4 = 0 && nbits (p.word 0) 0 27 = 0 && nbits (p.word 1) 48 16 = 0
  | 14 => routeFieldsOk p
  | 15 => pSub p ≤ 3
  | 16 => pSub p ≤ 2 && nbits (p.word 0) 16 12 = 0 && p.word 1 = 0 && p.word 2 = 0
  | _ => true

/-- A packet that its destination takes. -/
def fobOk (p : FPacket) : Bool :=
  1 ≤ p.ptype.toNat && p.ptype.toNat ≤ 16 && classOk p && slotsOk p && fieldsOk p

/-! ### Answers -/

/-- A request is answered with MEM_RESP. -/
def Dev.answerFob (d : Dev) (p : FPacket) (status pmask : Byte) (data : List Word) : Dev :=
  d.sendFob (d.respPacket (pSrc p) p.mc (pTag p) status pmask data)

/-- A bad packet at its destination (R360): discarded, and a request answered with FORMAT. -/
def Dev.badPacket (d : Dev) (p : FPacket) : Dev :=
  let d := (d.fault rFbnErr 0 75 [] []).loseFob p
  if p.isRequest then d.answerFob p stFormat 0 [] else d

/-! ### Routing of a received packet (R356) -/

/-- A packet leaves a receive buffer; its slots are freed (R332). -/
def Dev.takeRx (d : Dev) (l : LinkId) (i : Nat) : Option (FPacket × Dev) :=
  let x := d.link l
  match takeAt x.rx i with
  | none => none
  | some (q, rest) =>
    let v := q.pkt.mc.toNat
    let freed := if q.counted then mset 0 x.freed v (mget 0 x.freed v + BitVec.ofNat 12 (slotsOf q.pkt)) else x.freed
    some (q.pkt, d.setLink l { x with rx := rest, freed := freed })

/-- A packet goes into the crossing from a port to its router; none while that is full (R304). -/
def Dev.sendFromPort (d : Dev) (port : BitVec 4) (p : Pkt) : Option Dev :=
  match d.way p with
  | .target tgt =>
    if portDepth ≤ (d.crossing (portCross port)).length then none
    else some (d.intoCross (portCross port) tgt (portCluster port) p)
  | .here =>
    match d.toFob p with
    | some q => some (d.sendFob q)
    | none => some d
  | .absorb _ noroute => some (d.absorbPacket p noroute)

/-- The node a packet comes from, where it says so: a refused token comes back from the node it was for; an ID_ASSIGN REPLY comes from the
node it describes (R352, R362). -/
def FPacket.source (p : FPacket) : Option (BitVec 16) :=
  if p.ptype = ptToken || p.ptype = ptLockGrant then some p.pspec
  else if p.ptype = ptRefuse then some (bits (p.word 0) 48 16)
  else if p.ptype = ptIdAssign && nbits (p.word 0) 28 4 = 2 then
    (if bit (p.word 7) 47 then some (bits (p.word 7) 48 16) else none)
  else some (pSrc p)

def Dev.fromIsolated (d : Dev) (p : FPacket) : Bool :=
  match FPacket.source p with
  | none => false
  | some n => d.fbn.isolated.contains n.toNat

/-- A packet for this module: tokens go on to their cell, the rest waits for the command that handles it. -/
def Dev.deliverFob (d : Dev) (port : BitVec 4) (p : FPacket) : Option Dev :=
  if !fobOk p then some (d.badPacket p)
  else if p.ptype = ptToken || p.ptype = ptLockGrant then d.sendFromPort port (.tok p.token (.node p.pspec) 0)
  else some { d with fbn := { d.fbn with delivered := d.fbn.delivered ++ [p] } }

/-- R356 on a packet taken from a link. -/
def Dev.routePacket (d : Dev) (l : LinkId) (p : FPacket) : Option Dev :=
  if !d.fbn.nodeHeld then some d
  else if d.fromIsolated p then some (d.loseFob p)
  else
    match d.routeNode p.node p.epoch (some l) with
    | .deliver => d.deliverFob (linkPort l) p
    | .send _ => d.sendFromPort (linkPort l) (.fob p)
    | .absorb st noroute =>
      let d := if noroute then d.norouteFault else d
      some (if p.isRequest then d.sendFob (d.absorbedResp p st) else d.loseFob p)

/-! ### Packets delivered to this module -/

/-- A delivered packet, when it is of the kind wanted, and the device without it. -/
def Dev.takeFob (d : Dev) (p : FPacket) (want : FPacket → Bool) : Option Dev :=
  if want p && d.fbn.delivered.contains p then some { d with fbn := { d.fbn with delivered := d.fbn.delivered.erase p } }
  else none

/-- A meaning of a delivered packet. -/
def Dev.onFob (d : Dev) (p : FPacket) (want : FPacket → Bool) (f : Dev → Dev) : Dev :=
  match d.takeFob p want with
  | none => d
  | some d => f d

/-- A packet of a type with a SUB. -/
def isFob (t : BitVec 5) (sub : Nat) (p : FPacket) : Bool := p.ptype = t && pSub p = sub

/-! ### Isolation of nodes (R371, R376) -/

/-- A node is isolated: its locks are abandoned. -/
def Dev.isolateNode (d : Dev) (n : BitVec 16) : Dev :=
  if d.fbn.isolated.contains n.toNat then d
  else
    ({ d with fbn := { d.fbn with isolated := d.fbn.isolated ++ [n.toNat] } }.abandon (Owner.ofNode n)).fault rFbnErr 1 76 [] []

def Dev.releaseNode (d : Dev) (n : BitVec 16) : Dev :=
  { d with fbn := { d.fbn with isolated := d.fbn.isolated.erase n.toNat } }

/-- TARGET of an ISOLATE packet. -/
def isoTargetNode (p : FPacket) : BitVec 16 := bits (p.word 0) 0 16

/-- ISOLATE_ORDER. -/
def isolateOrder (p : FPacket) (d : Dev) : Dev :=
  d.onFob p (isFob ptIsolate 0) fun d => (d.isolateNode (isoTargetNode p)).answerFob p stOk 0 []

/-- ISOLATE_RELEASE. -/
def isolateRelease (p : FPacket) (d : Dev) : Dev :=
  d.onFob p (isFob ptIsolate 1) fun d => (d.releaseNode (isoTargetNode p)).answerFob p stOk 0 []

/-- ISOLATE_NOTICE: the root has been told; what it does with it is its firmware's and host's. -/
def isolateNotice (p : FPacket) (d : Dev) : Dev := d.onFob p (isFob ptIsolate 2) id

/-! ### Route banks (R355, R357, R370) -/

def fobBank (bank : Bool) : Nat := b2n bank * 65536

/-- A range of a table set to one value; `d` is what unlisted keys read as. -/
def mrange {α : Type} [DecidableEq α] (d : α) (m : Map α) (lo n : Nat) (v : α) : Map α :=
  (m.filter fun x => x.1 < lo) ++ (if v = d then [] else (List.range n).map fun i => (lo + i, v)) ++
    m.filter fun x => lo + n ≤ x.1

/-- A write of Fober route entries: its status (R303, R357, R370, R383). -/
def Dev.fobWrite (d : Dev) (bank : Bool) (first n : Nat) (e : BitVec 16) : Dev × Byte :=
  if n = 0 || 65536 < first + n || nbits e 6 2 ≠ 0 then (d, stBadValue)
  else if bank = d.fab.cur || d.fab.retiring then (d, stBusy)
  else ({ d with fbn := { d.fbn with rt := mrange 0 d.fbn.rt (fobBank bank + first) n e } }, stOk)

/-- A graph that runs on this module alone. -/
def Dev.onlyHere (d : Dev) (g : Nat) : Bool :=
  match mfind d.graphs g with
  | none => true
  | some x => x.croot = d.fbn.nodeId && (x.children d.fbn.nodeId).isEmpty

/-- LOCALDONE: R302 holds for the graphs that run only here. -/
def Dev.localDone (d : Dev) : Bool := d.fab.drains.all (fun x => !d.onlyHere x.1) && !d.oldFlits (!d.fab.cur)

/-- FLIP of a fabric flip: RETIRING stays until RETIRE (R358). -/
def Dev.nodeFlip (d : Dev) : Dev × Byte :=
  if d.fab.retiring then (d, stBusy)
  else
    let d := d.flip
    ({ d with fbn := { d.fbn with retireWait := true } }, stOk)

/-- RETIRE. -/
def Dev.nodeRetire (d : Dev) : Dev :=
  { d with fab := { d.fab with retiring := false, drains := [] }, fbn := { d.fbn with retireWait := false } }

/-- The word that STATUS answers. -/
def Dev.routeStatus (d : Dev) : Word := ((0 : BitVec 61) ++ b2v d.localDone ++ b2v d.fab.retiring ++ b2v d.fab.cur)

/-- What a ROUTE command does on this node: its status and answer word (R370). -/
def Dev.routeOp (d : Dev) (sub : Nat) (bank : Bool) (first n : Nat) (e : BitVec 16) : Dev × Byte × Word :=
  match sub with
  | 0 => ((d.fobWrite bank first n e).1, (d.fobWrite bank first n e).2, 0)
  | 1 => (d.nodeFlip.1, d.nodeFlip.2, 0)
  | 2 => (d, stOk, d.routeStatus)
  | _ => (d.nodeRetire, stOk, 0)

/-- A ROUTE packet. -/
def routePacketOp (sub : Nat) (p : FPacket) (d : Dev) : Dev :=
  d.onFob p (isFob ptRoute sub) fun d =>
    let (d, st, w) := d.routeOp sub (bit (p.word 0) 16) (nbits (p.word 0) 0 16) (nbits (p.word 1) 0 17) (bits (p.word 2) 0 16)
    d.answerFob p st 0 [w]

/-- ROUTE_WRITE. -/
def routeWrite (p : FPacket) (d : Dev) : Dev := routePacketOp 0 p d

/-- ROUTE_FLIP. -/
def routeFlip (p : FPacket) (d : Dev) : Dev := routePacketOp 1 p d

/-- ROUTE_STATUS. -/
def routeStatusOp (p : FPacket) (d : Dev) : Dev := routePacketOp 2 p d

/-- ROUTE_RETIRE. -/
def routeRetireOp (p : FPacket) (d : Dev) : Dev := routePacketOp 3 p d

/-! ### Node IDs and the board slot (R348, R349) -/

/-- An ID is taken once, while no graph is loaded. -/
def Dev.takeId (d : Dev) (n : BitVec 16) : Dev × Byte :=
  if d.fbn.nodeHeld then (d, stLocked)
  else if !d.graphs.isEmpty then (d, stBusy)
  else ({ d with fbn := { d.fbn with nodeId := n, nodeHeld := true } }, stOk)

/-- The pulses among the high levels of a frame, by their widths in ns: a longer one is a wait level (R349). -/
def pulsesIn (highs : List Nat) : Nat := (highs.filter fun w => w ≤ 700).length

/-- The slot is known: the wait level of ENUM_OUT ends (R349). -/
def Dev.takeSlot (d : Dev) (n : Nat) : Dev :=
  { d with fbn := { d.fbn with slot := BitVec.ofNat 8 (min n 255), slotKnown := true, enumOut := false } }

/-- ENUM_FRAME: the slot is the count of two consecutive frames that agree. High levels that are no pulses make no frame. -/
def enumFrame (highs : List Nat) (d : Dev) : Dev :=
  let n := pulsesIn highs
  if d.fbn.slotKnown || highs.isEmpty then d
  else if n = 0 then { d with fbn := { d.fbn with enumHigh := true } }
  else if d.fbn.enumLast = some n then
    let d := d.takeSlot n
    if 255 < n then d.fault rFbnErr 7 82 [] [] else d
  else { d with fbn := { d.fbn with enumHigh := true, enumLast := some n } }

/-- ENUM_SLOT0_TIMEOUT: ENUM_IN low for 10 ms from the end of step 1 of start-up. -/
def enumSlot0 (d : Dev) : Dev :=
  if d.fbn.enumOut && !d.fbn.enumHigh && d.fbn.enumFrom + 10000000 ≤ d.clock.aon then d.takeSlot 0 else d

/-- ENUM_OUT_FRAME: slot + 1 pulses. -/
def enumOut (d : Dev) : Dev := if d.fbn.slotKnown then d.emit (.enumPulses (d.fbn.slot.toNat + 1)) else d

/-! ### The commands -/

/-- ISOLATE_ORDER. -/
def execIsolateOrder (p : FPacket) (s : State) : Host.Outcome State Fault Refusal :=
  onDies (isolateOrder p) s

/-- ISOLATE_RELEASE. -/
def execIsolateRelease (p : FPacket) (s : State) : Host.Outcome State Fault Refusal :=
  onDies (isolateRelease p) s

/-- ISOLATE_NOTICE. -/
def execIsolateNotice (p : FPacket) (s : State) : Host.Outcome State Fault Refusal :=
  onDies (isolateNotice p) s

/-- ROUTE_WRITE. -/
def execRouteWrite (p : FPacket) (s : State) : Host.Outcome State Fault Refusal :=
  onDies (routeWrite p) s

/-- ROUTE_FLIP. -/
def execRouteFlip (p : FPacket) (s : State) : Host.Outcome State Fault Refusal :=
  onDies (routeFlip p) s

/-- ROUTE_STATUS. -/
def execRouteStatus (p : FPacket) (s : State) : Host.Outcome State Fault Refusal :=
  onDies (routeStatusOp p) s

/-- ROUTE_RETIRE. -/
def execRouteRetire (p : FPacket) (s : State) : Host.Outcome State Fault Refusal :=
  onDies (routeRetireOp p) s

/-- ENUM_FRAME. -/
def execEnumFrame (highs : List Nat) (s : State) : Host.Outcome State Fault Refusal :=
  onAlways (enumFrame highs) s

/-- ENUM_SLOT0_TIMEOUT. -/
def execEnumSlot0Timeout (s : State) : Host.Outcome State Fault Refusal :=
  onAlways enumSlot0 s

/-- ENUM_OUT_FRAME. -/
def execEnumOutFrame (s : State) : Host.Outcome State Fault Refusal :=
  onAlways enumOut s

end Sys2Proof.Machine
end

