-- ==== Sys2Proof/Machine/RollCall.lean ====
section
/-! DEFINITION. Packets from a receive buffer, ID_ASSIGN packets, roll-call, tree routes and the fabric flip (R350 to R353, R356, R358,
R372). -/

namespace Sys2Proof.Machine

/-! ### ID_ASSIGN packets (R352) -/

def iwSub (ws : List Word) : Nat := nbits (ws.getD 0 0) 28 4
def iwHops (ws : List Word) : Nat := nbits (ws.getD 0 0) 22 6
def iwPtr (ws : List Word) : Nat := nbits (ws.getD 0 0) 16 6
def iwNew (ws : List Word) : BitVec 16 := bits (ws.getD 0 0) 0 16
def iwSrc (ws : List Word) : BitVec 16 := bits (ws.getD 0 0) 48 16
def iwTag (ws : List Word) : BitVec 16 := bits (ws.getD 0 0) 32 16

/-- The hop list as one number of 384 bits. -/
def hopVec (ws : List Word) : BitVec 384 :=
  ws.getD 6 0 ++ ws.getD 5 0 ++ ws.getD 4 0 ++ ws.getD 3 0 ++ ws.getD 2 0 ++ ws.getD 1 0

def hopAt (ws : List Word) (i : Nat) : LinkId := bits (hopVec ws) (6 * i) 6

def hopWords (v : BitVec 384) : List Word := (List.range 6).map fun i => bits v (64 * i) 64

def setHop (ws : List Word) (i : Nat) (l : LinkId) : List Word :=
  ws.take 1 ++ hopWords (setBits (hopVec ws) (6 * i) 6 l.toNat) ++ ws.drop 7

def setPtr (ws : List Word) (n : Nat) : List Word := setBits (ws.getD 0 0) 16 6 n :: ws.drop 1

/-- A packet sent on a link; it is lost when the link carries nothing. -/
def Dev.sendId (d : Dev) (l : LinkId) (ws : List Word) : Dev :=
  if (d.link l).up then d.toLink l { ptype := ptIdAssign, mc := 6, epoch := d.fab.cur, pspec := 0, words := ws } else d

/-- Links in ACTIVE. -/
def Dev.activeLinks (d : Dev) : Word :=
  allLinks.foldl (fun m l => if (d.link l).st = .active then m ||| (1#64 <<< l.toNat) else m) 0

/-- The REPLY of a target: its ID, that it forwards and is a TK8 of classes C, M and T, a status, its links, an answer. -/
def Dev.replyWords (d : Dev) (ws : List Word) (status : Byte) (answer : Word) : List Word :=
  let w0 := setBits (setBits (ws.getD 0 0) 28 4 2) 0 16 0
  let id : BitVec 16 := if d.fbn.nodeHeld then d.fbn.nodeId else 0
  w0 :: (ws.take 7).drop 1 ++
    [id ++ b2v d.fbn.nodeHeld ++ (1 : BitVec 1) ++ (1 : BitVec 1) ++ (7 : BitVec 3) ++ (0 : BitVec 34) ++ status,
      d.activeLinks, 0, answer, 0]

/-- A packet goes one hop back. -/
def Dev.sendBack (d : Dev) (ws : List Word) : Dev := d.sendId (hopAt ws (iwPtr ws - 1)) (setPtr ws (iwPtr ws - 1))

/-- What the target of a packet does. -/
def Dev.idTarget (d : Dev) (ws : List Word) : Dev × Byte × Word :=
  match iwSub ws with
  | 1 => ((d.takeId (iwNew ws)).1, (d.takeId (iwNew ws)).2, 0)
  | 3 =>
    let w := ws.getD 9 0
    d.routeOp (nbits w 60 4) (bit w 56) (nbits w 16 16) (nbits w 39 17) (bits w 0 16)
  | _ => (d, stOk, 0)

/-- A PROBE, SET or ROUTE received on a link. -/
def Dev.idRequest (d : Dev) (l : LinkId) (ws : List Word) : Dev :=
  let ws := if iwPtr ws = 0 then ws else setHop ws (iwPtr ws - 1) l
  if iwPtr ws = iwHops ws then
    let (d, st, w) := d.idTarget ws
    let d := if d.fbn.root then d else { d with fbn := { d.fbn with rootId := some (iwSrc ws) } }
    d.sendBack (d.replyWords ws st w)
  else d.sendId (hopAt ws (iwPtr ws)) (setPtr ws (iwPtr ws + 1))

/-- A packet that has not reached its target (R352): it goes on unchecked, as only a destination checks (R360). -/
def idTransit (ws : List Word) : Bool := if iwSub ws = 2 then iwPtr ws ≠ 0 else iwPtr ws ≠ iwHops ws

/-- An ID_ASSIGN packet that its target takes (R360). -/
def idFormed (p : FPacket) : Bool :=
  fobOk p && 1 ≤ iwHops p.words && iwPtr p.words ≤ iwHops p.words && nbits (p.word 7) 8 34 = 0 && nbits (p.word 9) 57 3 = 0 &&
    nbits (p.word 9) 32 7 = 0 && p.word 11 = 0 && (iwSub p.words ≠ 3 || nbits (p.word 9) 60 4 ≤ 3)

/-- The ID_ASSIGN packet of a command is taken from its link's receive buffer, one of an isolated node to be discarded (R376). -/
def Dev.takeId2 (d : Dev) (l : LinkId) (p : IdPacket) (sub : Nat) : Option (Dev × Bool) :=
  match (d.link l).rx.findIdx? fun q =>
      q.pkt.ptype = ptIdAssign && q.pkt.words = p.words && (idTransit p.words || idFormed q.pkt) with
  | none => none
  | some i => if iwSub p.words = sub then (d.takeRx l i).map fun x => (x.2, d.fromIsolated x.1) else none

def idRequestOp (sub : Nat) (l : LinkId) (p : IdPacket) (d : Dev) : Dev :=
  match d.takeId2 l p sub with
  | none => d
  | some (d, lost) => if lost then d else d.idRequest l p.words

/-- PACKET_ROUTE: place i of a link's receive buffer. An ID_ASSIGN packet of a known SUB waits for its own command; one of a reserved
SUB follows its hop list to its target, which discards it. -/
def packetRoute (l : LinkId) (i : Nat) (d : Dev) : Dev :=
  match d.takeRx l i with
  | none => d
  | some (p, taken) =>
    if p.ptype ≠ ptIdAssign then (taken.routePacket l p).getD d
    else if !idTransit p.words && !idFormed p then taken.badPacket p
    else if iwSub p.words ≤ 3 then d
    else if taken.fromIsolated p then taken
    else taken.idRequest l p.words

/-- ID_ASSIGN_PROBE. -/
def idProbe (l : LinkId) (p : IdPacket) (d : Dev) : Dev := idRequestOp 0 l p d

/-- ID_ASSIGN_SET. -/
def idSet (l : LinkId) (p : IdPacket) (d : Dev) : Dev := idRequestOp 1 l p d

/-- ID_ASSIGN_ROUTE. -/
def idRoute (l : LinkId) (p : IdPacket) (d : Dev) : Dev := idRequestOp 3 l p d

/-! ### Requests of the root -/

def Dev.setRoll (d : Dev) (r : Roll) : Dev := { d with fbn := { d.fbn with roll := some r } }

/-- A packet from the root along a path. -/
def idWords (src tag : BitVec 16) (sub : BitVec 4) (path : List LinkId) (newId : BitVec 16) (w9 : Word) : List Word :=
  let hops : BitVec 384 := (path.zipIdx).foldl (fun v x => setBits v (6 * x.2) 6 x.1.toNat) 0
  (src ++ tag ++ sub ++ BitVec.ofNat 6 path.length ++ (1 : BitVec 6) ++ newId) :: hopWords hops ++ [0, 0, w9, 0, 0]

def Dev.nextTag (d : Dev) : Dev := { d with fbn := { d.fbn with tag := d.fbn.tag + 1 } }

def Dev.sendPath (d : Dev) (sub : BitVec 4) (path : List LinkId) (newId : BitVec 16) (w9 : Word) : Dev :=
  match path with
  | [] => d
  | l :: _ => (d.sendId l (idWords d.fbn.nodeId d.fbn.tag sub path newId w9)).nextTag

/-! ### Probing (R351) -/

/-- A node is recorded, and waits for its links to be probed. -/
def Dev.record (d : Dev) (r : Roll) (x : RollNode) : Dev × Roll :=
  ({ d with fbn := { d.fbn with nodes := d.fbn.nodes + 1, tk8s := d.fbn.tk8s + b2n x.tk8 } },
    { r with nodes := r.nodes ++ [x], queue := r.queue ++ [x] })

/-- ROLL_DEPTH. -/
def Dev.rollDepth (d : Dev) : Dev := d.fault rFbnErr 5 80 [] []

/-- The next link of the node that is probed. -/
def nextLink (links : Word) (from_ : Nat) : Option Nat := (List.range 64).find? fun i => from_ ≤ i && bit links i

/-- A tree route (R353). -/
def treeEntry (l : LinkId) : BitVec 16 := (0x8000 : BitVec 16) ||| l.setWidth 16

/-- What one forwarding node is told, for its inactive bank: its parent's link for every ID, or nothing at the root; then the IDs below
it. -/
def treeCmds (nodes : List RollNode) (x : RollNode) : List RouteCmd :=
  let base : BitVec 16 := match x.up with
    | none => 0
    | some l => treeEntry l
  let below := nodes.filter fun y => x.path.length < y.path.length && y.path.take x.path.length = x.path
  let all : RouteCmd := { node := x, sub := 0, bank := x.bank, first := 0, count := 65536, entry := base }
  all :: below.map fun y =>
    { all with first := y.id.toNat, count := 1, entry := treeEntry (y.path.getD x.path.length 0) }

/-- One command of a kind to every node. -/
def cmdAll (sub : BitVec 4) (nodes : List RollNode) : List RouteCmd :=
  nodes.map fun x => { node := x, sub := sub, bank := false, first := 0, count := 1, entry := 0 }

/-- Commands for the root itself are performed at once, but STATUS waits until it reports LOCALDONE. -/
def Dev.runLocal (d : Dev) (stage : RollStage) : List RouteCmd → Dev × List RouteCmd
  | [] => (d, [])
  | c :: rest =>
    if !c.node.path.isEmpty || (stage = .poll && !d.localDone) then (d, c :: rest)
    else (d.routeOp c.sub.toNat c.bank c.first c.count c.entry).1.runLocal stage rest

/-- A ROUTE command is sent: source-routed in the flip of a roll-call, as a ROUTE packet otherwise. -/
def Dev.sendCmd (d : Dev) (r : Roll) (c : RouteCmd) : Dev :=
  let d := d.setRoll { r with tag := d.fbn.tag, sentAt := d.clock.run }
  let d : Dev := { d with fbn := { d.fbn with reqs := d.fbn.reqs ++ [({ node := c.node.id, tag := d.fbn.tag, issued := d.clock.run } : FobReq)] } }
  if r.byRoll then
    d.sendPath 3 c.node.path 0
      (c.sub ++ (0 : BitVec 3) ++ b2v c.bank ++ BitVec.ofNat 17 c.count ++ (0 : BitVec 7) ++ BitVec.ofNat 16 c.first ++ c.entry)
  else
    let p : FPacket :=
      { ptype := ptRoute, mc := 6, epoch := d.fab.cur, pspec := c.node.id
        words := [d.fbn.nodeId ++ d.fbn.tag ++ c.sub ++ (0 : BitVec 11) ++ b2v c.bank ++ BitVec.ofNat 16 c.first,
          BitVec.ofNat 64 c.count, c.entry.setWidth 64] }
    d.nextTag.sendFob p

/-- Every graph that spans modules has drained (R358 step 3): those whose census root is here as their waves show; of the others, the
spec gives the root no packet that tells it, and whether they have is free at every look (log 31). -/
def Dev.spansDone (d : Dev) : Bool := d.fab.drains.all (fun x => d.onlyHere x.1) && Config.spansDrained d.clock.run

/-- At the last FLIP answer, graphs that span modules drain anew: a wave in progress does not count. -/
def Dev.rearm (d : Dev) : Dev :=
  let spans := d.graphs.filter fun p => p.2.launched && !p.2.complete && d.isRoot p.2 && !d.onlyHere p.1
  { d with fab := { d.fab with
      drains := spans.foldl (fun m p => minsert m p.1 (if p.2.waveNow.isSome then 3 else 2)) d.fab.drains } }

/-- The bank not in force here holds a valid entry. -/
def Dev.newBankUsed (d : Dev) : Bool := d.fbn.rt.any fun e => e.1 / 65536 = b2n (!d.fab.cur) && bit e.2 15

/-- The nodes that the FLIP of a roll-call goes to: forwarding nodes with a valid entry in their new bank (R358). -/
def Dev.flipSet (d : Dev) (nodes : List RollNode) : List RollNode :=
  nodes.filter fun x => x.fwd && (if x.path.isEmpty then d.newBankUsed else x.wrote)

/-- The answer to the command in front: a bank in force (`survey`), an entry written, a node that forwards nothing (log 77). -/
def Roll.learn (r : Roll) (known : List RollNode) (status : Byte) (answer : Word) : Roll :=
  match r.cmds with
  | [] => r
  | c :: _ =>
    let upd := fun (f : RollNode → RollNode) =>
      { r with nodes := r.nodes.map fun x => if x.id = c.node.id then f x else x }
    match r.stage with
    | .survey => if status = stOk then upd fun x => { x with bank := !bit answer 0 } else r
    | .write => if status = stOk && bit c.entry 15 then upd fun x => { x with wrote := true } else r
    | .flip =>
      if status = stOk || known.any (fun x => x.id = c.node.id) then r
      else { r with nodes := r.nodes.filter fun x => x.id ≠ c.node.id }
    | _ => r

/-- The stages after probing: each ends when its commands are answered, the last with RETIRE. -/
def Dev.rollNext (d : Dev) (r : Roll) : Nat → Dev
  | 0 => d.setRoll r
  | n + 1 =>
    let (d, cmds) := d.runLocal r.stage r.cmds
    let r := { r with cmds := cmds }
    match cmds with
    | c :: _ => if c.node.path.isEmpty then d.setRoll r else d.sendCmd r c
    | [] =>
      match r.stage with
      | .probe => d.setRoll r
      | .survey => d.rollNext { r with stage := .write, cmds := (r.nodes.filter (·.fwd)).flatMap (treeCmds r.nodes) } n
      | .write =>
        let nodes := d.flipSet r.nodes
        d.rollNext { r with stage := .flip, nodes := nodes, cmds := cmdAll 1 nodes } n
      | .flip => d.rearm.rollNext { r with stage := .poll, cmds := cmdAll 2 r.nodes } n
      | .poll => d.rollNext { r with stage := .drain } n
      | .drain => if d.spansDone then d.rollNext { r with stage := .retire, cmds := cmdAll 3 r.nodes } n else d.setRoll r
      | .retire => { d with fbn := { d.fbn with roll := none } }

/-- As many stages as there are. -/
def rollFuel : Nat := 9

/-- The procedure ends: tree routes go into the inactive bank of every forwarding node, which its STATUS names (R353, log 77). -/
def Dev.rollRoutes (d : Dev) (r : Roll) : Dev :=
  let d := { d with fbn := { d.fbn with known := r.nodes } }
  let nodes := r.nodes.map fun x => { x with bank := !d.fab.cur }
  d.rollNext { r with stage := .survey, nodes := nodes, cmds := cmdAll 2 (nodes.filter (·.fwd)) } rollFuel

/-- The next PROBE; the routes when no node is left. -/
def Dev.rollProbe (d : Dev) (r : Roll) : Nat → Dev
  | 0 => d.setRoll r
  | n + 1 =>
    match r.cur with
    | none =>
      match r.queue with
      | [] => d.rollRoutes r
      | x :: q => d.rollProbe { r with queue := q, cur := if x.fwd then some x else none, link := 0 } n
    | some x =>
      match nextLink x.links r.link with
      | none => d.rollProbe { r with cur := none } n
      | some k =>
        if 63 ≤ x.path.length then d.rollDepth.rollProbe { r with link := k + 1 } n
        else
          (d.setRoll { r with link := k + 1, set_ := none, tag := d.fbn.tag, sentAt := d.clock.run }).sendPath 0
            (x.path ++ [BitVec.ofNat 6 k]) 0 0

/-- Steps that end the search for the next PROBE. -/
def Roll.fuel (r : Roll) : Nat := 66 * (r.queue.length + 2)

/-- The link that the outstanding PROBE went to. -/
def Roll.probePath (r : Roll) : List LinkId :=
  match r.cur with
  | none => []
  | some x => x.path ++ [BitVec.ofNat 6 (r.link - 1)]

/-- The next free ID in BASE to LIMIT: never given by a roll-call, held by no node of this run. -/
def Dev.nextId (d : Dev) (r : Roll) : Option Nat :=
  ((List.range (d.fbn.handed.length + r.nodes.length + 1)).map fun i => d.fld rRollcfg 0 16 + i).find? fun n =>
    n ≤ d.fld rRollcfg 16 16 && !(d.fbn.handed.any fun x => x.toNat = n) && !(r.nodes.any fun x => x.id.toNat = n)

/-- The node that a REPLY describes, at the end of the probed path. -/
def replyNode (r : Roll) (ws : List Word) : RollNode :=
  let w := ws.getD 7 0
  { path := r.probePath, up := some (hopAt ws (iwHops ws - 1)), id := bits w 48 16, fwd := bit w 46, tk8 := bit w 45, cls := bits w 42 3
    links := ws.getD 8 0, bank := false, wrote := false }

/-- Two nodes are not one: their kinds, classes or links differ, or one link of theirs would lead to two nodes (log 77). -/
def RollNode.differs (x y : RollNode) : Bool :=
  x.fwd ≠ y.fwd || x.tk8 ≠ y.tk8 || x.cls ≠ y.cls || x.links ≠ y.links || (x.up.isSome && x.up = y.up)

/-- The cable to a node that has an ID, from both its ends. -/
def Roll.cable (r : Roll) (x : RollNode) : List (BitVec 16 × Nat × BitVec 16 × Nat) :=
  match r.cur, x.up with
  | some n, some a => [(n.id, r.link - 1, x.id, a.toNat), (x.id, a.toNat, n.id, r.link - 1)]
  | _, _ => []

/-- A link that was met leads elsewhere: two nodes hold one ID. -/
def Roll.torn (r : Roll) (x : RollNode) : Bool :=
  (r.cable x).any fun e => r.ends.any fun f => e.1 = f.1 && e.2.1 = f.2.1 && e.2.2 ≠ f.2.2

def Roll.join (r : Roll) (x : RollNode) : Roll := { r with ends := r.ends ++ r.cable x }

/-- The REPLY to a PROBE (R351). -/
def Dev.probeReply (d : Dev) (r : Roll) (ws : List Word) : Dev :=
  let x := replyNode r ws
  if bit (ws.getD 7 0) 47 then
    let met := r.nodes.find? fun y => y.id = x.id
    let twice := r.torn x || met.any fun y => y.differs x
    let d := if twice then d.fault rFbnErr 4 79 [] [] else d
    let r := r.join x
    match met with
    | some _ => d.rollProbe r r.fuel
    | none =>
      let (d, r) := d.record r x
      d.rollProbe r r.fuel
  else
    match if x.tk8 && 16384 ≤ d.fbn.tk8s then none else d.nextId r with
    | none => (d.fault rFbnErr 6 81 [] []).rollProbe r r.fuel
    | some n =>
      let id := BitVec.ofNat 16 n
      (d.setRoll { r with set_ := some { x with id := id }, tag := d.fbn.tag, sentAt := d.clock.run }).sendPath 1 x.path id 0

/-- An ID has been given. -/
def Dev.handOut (d : Dev) (n : BitVec 16) : Dev := { d with fbn := { d.fbn with handed := d.fbn.handed ++ [n] } }

/-- The REPLY to a SET. -/
def Dev.setReply (d : Dev) (r : Roll) (x : RollNode) (ws : List Word) : Dev :=
  if bits (ws.getD 7 0) 0 8 = stOk then
    let (d, r) := (d.handOut x.id).record { r.join x with set_ := none } x
    d.rollProbe r r.fuel
  else d.rollProbe { r with set_ := none } r.fuel

/-- A ROUTE command is answered; STATUS is asked again until LOCALDONE. A reserved status counts as FORMAT (R8). -/
def Dev.cmdAnswer (d : Dev) (r : Roll) (status : Byte) (answer : Word) : Dev :=
  let status := receivedStatus status
  if r.stage = .poll && !(status = stOk && bit answer 2) then d.rollNext r rollFuel
  else d.rollNext { r.learn d.fbn.known status answer with cmds := r.cmds.drop 1 } rollFuel

/-- A request leaves the outstanding ones. -/
def Dev.dropReq (d : Dev) (tag : BitVec 16) : Dev :=
  { d with fbn := { d.fbn with reqs := d.fbn.reqs.filter fun q => q.tag ≠ tag } }

/-- A REPLY consumed by the root. -/
def Dev.rootReply (d : Dev) (ws : List Word) : Dev :=
  match d.fbn.roll with
  | none => d
  | some r =>
    if r.tag ≠ iwTag ws then d
    else if r.stage = .probe then
      match r.set_ with
      | some x => d.setReply r x ws
      | none => d.probeReply r ws
    else (d.dropReq r.tag).cmdAnswer r (bits (ws.getD 7 0) 0 8) (ws.getD 10 0)

/-- ID_ASSIGN_REPLY. -/
def idReply (l : LinkId) (p : IdPacket) (d : Dev) : Dev :=
  match d.takeId2 l p 2 with
  | none => d
  | some (d, lost) => if lost then d else if iwPtr p.words = 0 then d.rootReply p.words else d.sendBack p.words

/-- ROLL_PROBE_TIMEOUT: the link is skipped; an ID whose SET had no REPLY is not given again. -/
def rollProbeTimeout (d : Dev) : Dev :=
  match d.fbn.roll with
  | none => d
  | some r =>
    if r.stage = .probe && r.sentAt + 1000000 ≤ d.clock.run then
      match r.set_ with
      | none => d.rollProbe r r.fuel
      | some x => (d.handOut x.id).rollProbe { r with set_ := none } r.fuel
    else d

/-! ### Starting (R350, R358) -/

/-- The root as the first node. -/
def Dev.rootNodeRec (d : Dev) : RollNode :=
  { path := [], up := none, id := d.fbn.nodeId, fwd := true, tk8 := true, cls := 7, links := d.activeLinks
    bank := !d.fab.cur, wrote := false }

/-- Roll-call or a fabric flip is under way. -/
def Dev.rolling (d : Dev) : Bool := d.fbn.roll.isSome

/-- Why the root cannot start roll-call (R348, R350). -/
def Dev.rollStatus (d : Dev) : Byte :=
  if !d.fbn.root then stNoAccess
  else if d.rolling || (!d.fbn.nodeHeld && !d.graphs.isEmpty) then stBusy
  else stOk

/-- Roll-call starts: the root keeps its ID or takes BASE. -/
def Dev.rollStart (d : Dev) : Dev :=
  let base := d.fld rRollcfg 0 16
  let d := if d.fbn.nodeHeld then d
    else { d.handOut (BitVec.ofNat 16 base) with fbn := { (d.handOut (BitVec.ofNat 16 base)).fbn with nodeId := BitVec.ofNat 16 base, nodeHeld := true } }
  let x := d.rootNodeRec
  let r : Roll :=
    { stage := .probe, byRoll := true, queue := [], cur := some x, link := 0, set_ := none, tag := 0, sentAt := d.clock.run
      nodes := [x], ends := [], cmds := [] }
  { d with fbn := { d.fbn with nodes := 1, tk8s := 1 } }.rollProbe r r.fuel

/-- ROLL_CALL_AUTO: 100 ms after READY at the root, when none has run. -/
def rollCallAuto (d : Dev) : Dev :=
  if d.fld rFbn 4 1 = 1 && d.mgt.ready && d.mgt.readyAt + 100000000 ≤ d.clock.aon && d.fbn.nodes = 0 && d.rollStatus = stOk then
    d.rollStart
  else d

/-- The nodes that a later flip goes to: this one, and those with a valid entry in its new bank; of the ones the last roll-call found,
those that forward (R358, log 77). -/
def Dev.tableNodes (d : Dev) : List RollNode :=
  (if d.newBankUsed then [d.rootNodeRec] else []) ++ d.fbn.rt.filterMap fun e =>
    let id := BitVec.ofNat 16 (e.1 % 65536)
    if e.1 / 65536 ≠ b2n (!d.fab.cur) || !bit e.2 15 || id = d.fbn.nodeId then none
    else
      match d.fbn.known.find? fun x => x.id = id with
      | some x => if x.fwd then some x else none
      | none => some { d.rootNodeRec with path := [bits e.2 0 6], id := id }

/-- A fabric flip by FBN.FLIPCTL.FFLIP. -/
def Dev.fflipStart (d : Dev) : Dev :=
  d.rollNext
    { stage := .flip, byRoll := false, queue := [], cur := none, link := 0, set_ := none, tag := 0, sentAt := d.clock.run
      nodes := d.tableNodes, ends := [], cmds := cmdAll 1 d.tableNodes } rollFuel

/-- FBN.STATUS.ROLLBUSY and FRETIRING. -/
def Dev.rollBusy (d : Dev) : Bool :=
  match d.fbn.roll with
  | none => false
  | some r => r.byRoll

def Dev.fretiring (d : Dev) : Bool :=
  match d.fbn.roll with
  | none => false
  | some r => r.stage = .poll || r.stage = .drain || r.stage = .retire

/-- What the root waits for here may have come: its own LOCALDONE, or the graphs that span modules. -/
def Dev.rollTick (d : Dev) : Dev :=
  match d.fbn.roll with
  | none => d
  | some r =>
    let waits : Bool := match r.cmds with
      | [] => r.stage = .drain
      | c :: _ => r.stage = .poll && c.node.path.isEmpty
    if waits then d.rollNext r rollFuel else d

/-! ### Answers to requests (R372) -/

/-- MEM_RESP: matched by SRC and TAG, or discarded. -/
def memResp (p : FPacket) (d : Dev) : Dev :=
  d.onFob p (fun p => p.ptype = ptMemResp) fun d =>
    if d.fbn.reqs.any fun q => q.node = pSrc p && q.tag = pTag p then
      let d := d.dropReq (pTag p)
      match d.fbn.roll with
      | none => d
      | some r => if r.tag = pTag p && r.stage ≠ .probe then d.cmdAnswer r (bits (p.word 0) 24 8) (p.word 1) else d
    else d

/-- A request of this module on the fabric has waited for the initiator timeout (R308, R378). -/
def Dev.fobTimeout (d : Dev) (tag : BitVec 16) : Dev :=
  if d.fbn.reqs.any fun q => q.tag = tag && q.issued + d.initTimeout ≤ d.clock.run then
    let d := (d.dropReq tag).timeoutFault
    match d.fbn.roll with
    | none => d
    | some r => if r.tag = tag && r.stage ≠ .probe then d.cmdAnswer r stTimeout 0 else d
  else d

/-! ### The commands -/

/-- PACKET_ROUTE. -/
def execPacketRoute (l : LinkId) (i : Nat) (s : State) : Host.Outcome State Fault Refusal :=
  onDies (packetRoute l i) s

/-- ID_ASSIGN_PROBE. -/
def execIdAssignProbe (l : LinkId) (p : IdPacket) (s : State) : Host.Outcome State Fault Refusal :=
  onDies (idProbe l p) s

/-- ID_ASSIGN_SET. -/
def execIdAssignSet (l : LinkId) (p : IdPacket) (s : State) : Host.Outcome State Fault Refusal :=
  onDies (idSet l p) s

/-- ID_ASSIGN_ROUTE. -/
def execIdAssignRoute (l : LinkId) (p : IdPacket) (s : State) : Host.Outcome State Fault Refusal :=
  onDies (idRoute l p) s

/-- ID_ASSIGN_REPLY. -/
def execIdAssignReply (l : LinkId) (p : IdPacket) (s : State) : Host.Outcome State Fault Refusal :=
  onDies (idReply l p) s

/-- ROLL_CALL_AUTO. -/
def execRollCallAuto (s : State) : Host.Outcome State Fault Refusal :=
  onHub rollCallAuto s

/-- ROLL_PROBE_TIMEOUT. -/
def execRollProbeTimeout (s : State) : Host.Outcome State Fault Refusal :=
  onHub rollProbeTimeout s

/-- MEM_RESP. -/
def execMemResp (p : FPacket) (s : State) : Host.Outcome State Fault Refusal :=
  onDies (memResp p) s

end Sys2Proof.Machine
end

