-- ==== Sys2Proof/Machine/Remote.lean ====
section
/-! DEFINITION. Requests and notices from other Fober nodes: memory, locks, events, census, refused tokens (R225, R259, R263,
R365 to R368, R374). -/

namespace Sys2Proof.Machine

/-! ### Memory requests (R363 to R365) -/

/-- Conditions of R365 in its order; an isolated stack answers ISOLATED (R310). -/
def Dev.memChecks (d : Dev) (p : FPacket) : List (Bool × Byte) :=
  let a := mAddr p
  let n := szBytes (mSz p)
  [(d.fld rFbn 2 1 = 0 || a ≥ 2 ^ 47 || !d.isPlain a, stNoAccess), (a % n != 0, stUnaligned),
    (hbmEnd ≤ a || (a / 64 != (a + n * mWords p - 1) / 64), stBadValue), (d.stackIso (addrStack (bits (p.word 1) 0 48)), stIsolated)]

/-- A memory request is performed, or refused with the first failing condition. -/
def onFobMem (p : FPacket) (want : FPacket → Bool) (f : Hbm → Dev → Hbm × Dev) (h : Hbm) (d : Dev) : Hbm × Dev :=
  match d.takeFob p want with
  | none => (h, d)
  | some d =>
    match firstFailing (d.memChecks p) with
    | some st => (h, d.answerFob p st 0 [])
    | none => f h (d.wakeStack (addrStack (bits (p.word 1) 0 48)))

/-- Words read from a word on: values, and the mask of those that are poisoned. `us`: what the decoder finds in
each (R236). -/
def fobRead (h : Hbm) (w : Nat) (i : Nat) (us : List Upset) : Nat → Dev → List Word × Byte × Dev
  | 0, d => ([], 0, d)
  | n + 1, d =>
    let (g, d) := readWord h w (us.headD .none) d
    let (ws, m, d) := fobRead h (w + 1) (i + 1) us.tail n d
    (g.val :: ws, (if g.poison then 1#8 <<< i else 0) ||| m, d)

/-- MEM_RD. -/
def memRd (p : FPacket) (us : List Upset) (h : Hbm) (d : Dev) : Hbm × Dev :=
  onFobMem p (fun p => p.ptype = ptMemRd) (fun h d =>
    let (ws, m, d) := fobRead h (mAddr p / 8) 0 us (mWords p) d
    let n := szBytes (mSz p)
    (h, d.answerFob p stOk m (if n = 8 then ws else ws.map fun v => pick v (mAddr p) n))) h d

/-- The i-th data word of a MEM_WR. -/
def writeWord (p : FPacket) (i : Nat) : Word := p.word (2 + i)

/-- Whole words stored from a word on. -/
def fobWrite (p : FPacket) (w i : Nat) : Nat → Hbm → Hbm
  | 0, h => h
  | n + 1, h => fobWrite p (w + 1) (i + 1) n (h.putWord w (writeWord p i) false)

/-- MEM_WR. -/
def memWr (p : FPacket) (u : Upset) (h : Hbm) (d : Dev) : Hbm × Dev :=
  onFobMem p (fun p => p.ptype = ptMemWr) (fun h d =>
    let n := szBytes (mSz p)
    if n = 8 then (fobWrite p (mAddr p / 8) 0 (mWords p) h, d.answerFob p stOk 0 [0])
    else
      let (h, d) := storeBytes h (mAddr p) n (p.word 2) false u d
      (h, d.answerFob p stOk 0 [0])) h d

/-- An ATOMIC as a request: a 4-byte ACAS has e in [63:32] and n in [31:0] of its operand, an 8-byte one has e in slot 1. -/
def atomicReq (op : MemOp) (p : FPacket) : MemReq :=
  { op := op, sz := mSz p, sx := mSgn p, addr := bits (p.word 1) 0 48, data := p.word 2
    cmp := if mSz p = 0 then p.word 3 else p.word 2 >>> 32
    dpoison := false, graph := 0, frame := 0, src := .fober (pSrc p) (pTag p) 0 }

/-- An ATOMIC of one operation: answered with the old value. -/
def fobAtomic (sub : Nat) (op : MemOp) (p : FPacket) (u : Upset) (h : Hbm) (d : Dev) : Hbm × Dev :=
  onFobMem p (isFob ptAtomic sub) (fun h d =>
    let (g, h, d) := performAtomic (atomicReq op p) u h d
    (h, d.answerFob p stOk (if g.poison then 1 else 0) [g.val])) h d

/-! ### Locks (R366) -/

/-- A lock request of a node. -/
def lockReqOf (op : MemOp) (p : FPacket) : MemReq :=
  { op := op, sz := 0, sx := false, addr := bits (p.word 1) 0 48, data := (bits (p.word 1) 50 14).setWidth 64
    cmp := (bits (p.word 2) 0 32).setWidth 64, dpoison := false, graph := bits (p.word 0) 12 6, frame := bits (p.word 0) 0 12
    src := .fober (pSrc p) (pTag p) (bits (p.word 0) 18 10) }

/-- The checks of R509 that no lock unit makes, and an isolated lock unit. -/
def Dev.fobLockStatus (d : Dev) (r : MemReq) : Option Byte :=
  firstFailing [(r.addr.toNat % 8 != 0, stUnaligned), (hbmEnd ≤ r.addr.toNat, stBadValue),
    (d.stackIso (addrStack r.addr), stIsolated)]

/-- LOCK_REQ LOCK: an outcome that leaves the lock unheld also arrives as a grant. -/
def lockReqLock (p : FPacket) (d : Dev) : Dev :=
  d.onFob p (isFob ptLockReq 0) fun d =>
    let r := lockReqOf .lock p
    let k := addrStack r.addr
    match d.fobLockStatus r with
    | some st => (d.lockAck k r).grant k r st
    | none => (d.wakeStack k).doLock k r

/-- A request answered with one word in the layout of R146. -/
def fobLock (t : BitVec 5) (sub : Nat) (op : MemOp) (act : Dev → DieId → MemReq → Dev) (p : FPacket) (d : Dev) : Dev :=
  d.onFob p (isFob t sub) fun d =>
    let r := lockReqOf op p
    match d.fobLockStatus r with
    | some st => d.answerFob p stOk 0 [lockWord r.addr st]
    | none => act (d.wakeStack (addrStack r.addr)) (addrStack r.addr) r

/-- LOCK_REQ TRYLOCK. -/
def lockReqTrylock (p : FPacket) (d : Dev) : Dev := fobLock ptLockReq 1 .trylock Dev.doTrylock p d

/-- LOCK_REL UNLOCK. -/
def lockRelUnlock (p : FPacket) (d : Dev) : Dev := fobLock ptLockRel 0 .unlock Dev.doUnlock p d

/-- LOCK_REL ABANDON. -/
def lockRelAbandon (p : FPacket) (d : Dev) : Dev :=
  d.onFob p (isFob ptLockRel 1) fun d =>
    (d.abandon (Owner.ofNodeGraph (pSrc p) (bits (p.word 0) 12 6))).answerFob p stOk 0 []

/-! ### Events (R367) -/

/-- EVENT: posted in its cell, discarded where its source is disabled (R266), absorbed where the cell is not in the graph's
mask. It carries no colour: its consumer's own is used (log 26). -/
def fobEvent (p : FPacket) (d : Dev) : Dev :=
  d.onFob p (fun p => p.ptype = ptEvent) fun d =>
    let g := eGraph p
    let c := ePost p
    if !d.inMask c g then d.hubAbsorb g (d.hubColour g)
    else if !(d.cell c).enabled g (eSource p) then d.cellConsume c g (d.colour c g)
    else
      let v : Val := { bits := p.word 2, vtype := bits (p.word 1) 8 4, poison := bit (p.word 1) 7 }
      d.post hubMgt c g (eSource p)
        { left := v, right := none, oframe := some (bits (p.word 1) 52 12), oiter := bits (p.word 1) 12 32 } (d.colour c g)

/-! ### Census (R225, R368) -/

/-- A CENSUS packet of an OP for a loaded graph. -/
def Dev.onCensus (d : Dev) (p : FPacket) (op : Nat) (f : GraphId → Graph → Dev → Dev) : Dev :=
  d.onFob p (fun p => p.ptype = ptCensus && pOp p = op) fun d =>
    match d.graph (pGraph p) with
    | none => d
    | some x => f (pGraph p) x d

/-- WAVE: the wave starts on this module, for the node that sent it. -/
def censusWave (p : FPacket) (d : Dev) : Dev :=
  d.onCensus p 0 fun g x d => d.beginWave g x (nbits (p.word 0) 0 32) (some (pSrc p))

/-- SUMS of a child, once in its wave. -/
def censusSums (p : FPacket) (d : Dev) : Dev :=
  d.onCensus p 1 fun g x d =>
    match x.waveNow with
    | none => d
    | some w =>
      if nbits (p.word 0) 0 32 ≠ x.wave % 2 ^ 32 || !(x.children d.fbn.nodeId).contains (pSrc p) ||
          w.childs.any (fun a => a.1 = pSrc p) then d
      else
        let s : Sums := { cr0 := p.word 1, cr1 := p.word 2, cn0 := p.word 3, cn1 := p.word 4 }
        d.setGraph g { x with
          waveNow := some { w with childs := w.childs ++ [(pSrc p, s)]
                                   abandonedBelow := w.abandonedBelow || bit (p.word 0) 32 } }

/-- DONE: the run is complete on this module too, and DONE goes on to its children. -/
def censusDone (p : FPacket) (d : Dev) : Dev := d.onCensus p 2 fun g x d => d.declare g x

/-! ### REFUSE (R374) -/

/-- REFUSE_RECEIVE: the token goes to the Yo-yo of the die whose port received it. -/
def refuseReceive (p : FPacket) (port : BitVec 4) (d : Dev) : Dev :=
  d.onFob p (fun p => p.ptype = ptRefuse) fun d =>
    let k : DieId := clusterDie (portCluster port)
    let y := d.yoyo k
    let r : RtsRec := { tok := p.token, due := 0, count := 0, hub := false, src := clusterCell (portCluster port) }
    refuseStore k y.refused.length (d.setYoyo k { y with refused := y.refused ++ [r] })

/-! ### The commands -/

/-- MEM_RD. -/
def execMemRd (p : FPacket) (us : List Upset) (s : State) : Host.Outcome State Fault Refusal :=
  onMem (memRd p us) s

/-- MEM_WR. -/
def execMemWr (p : FPacket) (u : Upset) (s : State) : Host.Outcome State Fault Refusal :=
  onMem (memWr p u) s

/-- ATOMIC_AADD. -/
def execAtomicAadd (p : FPacket) (u : Upset) (s : State) : Host.Outcome State Fault Refusal :=
  onMem (fobAtomic 0 .aadd p u) s

/-- ATOMIC_AXCHG. -/
def execAtomicAxchg (p : FPacket) (u : Upset) (s : State) : Host.Outcome State Fault Refusal :=
  onMem (fobAtomic 1 .axchg p u) s

/-- ATOMIC_ACAS. -/
def execAtomicAcas (p : FPacket) (u : Upset) (s : State) : Host.Outcome State Fault Refusal :=
  onMem (fobAtomic 2 .acas p u) s

/-- ATOMIC_AMIN. -/
def execAtomicAmin (p : FPacket) (u : Upset) (s : State) : Host.Outcome State Fault Refusal :=
  onMem (fobAtomic 3 .amin p u) s

/-- ATOMIC_AMAX. -/
def execAtomicAmax (p : FPacket) (u : Upset) (s : State) : Host.Outcome State Fault Refusal :=
  onMem (fobAtomic 4 .amax p u) s

/-- ATOMIC_AAND. -/
def execAtomicAand (p : FPacket) (u : Upset) (s : State) : Host.Outcome State Fault Refusal :=
  onMem (fobAtomic 5 .aand p u) s

/-- ATOMIC_AOR. -/
def execAtomicAor (p : FPacket) (u : Upset) (s : State) : Host.Outcome State Fault Refusal :=
  onMem (fobAtomic 6 .aor p u) s

/-- LOCK_REQ_LOCK. -/
def execLockReqLock (p : FPacket) (s : State) : Host.Outcome State Fault Refusal :=
  onDies (lockReqLock p) s

/-- LOCK_REQ_TRYLOCK. -/
def execLockReqTrylock (p : FPacket) (s : State) : Host.Outcome State Fault Refusal :=
  onDies (lockReqTrylock p) s

/-- LOCK_REL_UNLOCK. -/
def execLockRelUnlock (p : FPacket) (s : State) : Host.Outcome State Fault Refusal :=
  onDies (lockRelUnlock p) s

/-- LOCK_REL_ABANDON. -/
def execLockRelAbandon (p : FPacket) (s : State) : Host.Outcome State Fault Refusal :=
  onDies (lockRelAbandon p) s

/-- EVENT. -/
def execEvent (p : FPacket) (s : State) : Host.Outcome State Fault Refusal :=
  onDies (fobEvent p) s

/-- CENSUS_WAVE. -/
def execCensusWave (p : FPacket) (s : State) : Host.Outcome State Fault Refusal :=
  onHub (censusWave p) s

/-- CENSUS_SUMS. -/
def execCensusSums (p : FPacket) (s : State) : Host.Outcome State Fault Refusal :=
  onHub (censusSums p) s

/-- CENSUS_DONE. -/
def execCensusDone (p : FPacket) (s : State) : Host.Outcome State Fault Refusal :=
  onHub (censusDone p) s

/-- REFUSE_RECEIVE. -/
def execRefuseReceive (p : FPacket) (port : BitVec 4) (s : State) : Host.Outcome State Fault Refusal :=
  onDies (refuseReceive p port) s

end Sys2Proof.Machine
end

