-- ==== Sys2Proof/Machine/Refuse.lean ====
section
/-! DEFINITION. Refusal of tokens held too long, and the fabric probes (R211, R212, R313 to R315, R374, R375). -/

namespace Sys2Proof.Machine

/-! ### TOKEN_REFUSE -/

/-- A refused token leaves a cell in a REFUSE packet to its sender. -/
def Dev.refuseFrom (d : Dev) (c : CellId) (t : Token) (s : Sender) (count : Nat) : Dev :=
  d.modPipe c fun p =>
    { p with egress := p.egress ++ [{ pkt := .refuse t s count, epoch := d.fab.cur, lane := none, since := d.clock.aon }] }

/-- A token held at a cell that may be refused: not a grant token, held long enough, its sender's Yo-yo taking more. -/
def Dev.mayRefuse (d : Dev) (t : Token) (since : Nat) (s : Sender) : Bool :=
  t.kind ≠ 3 && d.heldTooLong since && d.refusable s

/-- A token that waited at a cell's crossbar ingress. -/
def refuseIngress (c : CellId) (i : Nat) (d : Dev) : Dev :=
  match takeAt (d.cell c).pipe.ingress i with
  | none => d
  | some (r, rest) =>
    if d.mayRefuse r.tok r.since r.src && !(d.cell c).isolated then
      (d.modPipe c fun p => { p with ingress := rest }).refuseFrom c r.tok r.src r.count
    else d

/-- A token that waited in a lane's result buffer for the local bypass: its sender is this cell. -/
def refuseBypass (c : CellId) (i : Nat) (d : Dev) : Dev :=
  match takeAt (d.cell c).pipe.bypass i with
  | none => d
  | some (r, rest) =>
    if d.mayRefuse r.tok r.since (.cell c) && !(d.cell c).isolated then
      (d.modPipe c fun p => { p with bypass := rest }).refuseFrom c r.tok (.cell c) r.count
    else d

/-- A token refused at a port returns to the node that sent it; one of this module goes to die 0's Yo-yo (R374). -/
def Dev.refuseAtPort (d : Dev) (port : BitVec 4) (p : FPacket) : Dev :=
  if p.pspec = d.fbn.nodeId then
    let y := d.yoyo 0
    let r : RtsRec := { tok := p.token, due := 0, count := 0, hub := false, src := clusterCell (portCluster port) }
    d.setYoyo 0 { y with refused := y.refused ++ [r] }
  else d.sendFob (d.refusePacket p.token p.pspec)

/-- A token that waited in a port's receive buffer. -/
def refuseReceived (l : LinkId) (i : Nat) (d : Dev) : Dev :=
  match (d.link l).rx[i]? with
  | none => d
  | some q =>
    if q.pkt.ptype = ptToken && d.heldTooLong q.since then
      match d.takeRx l i with
      | none => d
      | some (p, d) => d.refuseAtPort (linkPort l) p
    else d

/-- A token that waited without credit in a port's transmit queue (R375). -/
def refuseTransmit (l : LinkId) (i : Nat) (d : Dev) : Dev :=
  let x := d.link l
  match takeAt x.tx i with
  | none => d
  | some (q, rest) =>
    if q.pkt.ptype = ptToken && d.heldTooLong q.since && x.credit 2 = 0 then
      (d.setLink l { x with tx := rest }).refuseAtPort (linkPort l) q.pkt
    else d

/-- TOKEN_REFUSE. -/
def tokenRefuse (site : RefuseSite) (i : Nat) (d : Dev) : Dev :=
  match site with
  | .ingress c => refuseIngress c i d
  | .bypass c => refuseBypass c i d
  | .portReceive l => refuseReceived l i d
  | .portTransmit l => refuseTransmit l i d

/-! ### PROBE_MATCH (R313 to R315) -/

/-- Records of the trace buffer. -/
def traceRecords : Nat := 8192

/-- A record written: at the next index, over the oldest when the buffer is full and wraps, not at all when it is full and
does not. -/
def Kal.record (k : Kal) (wrap : Bool) (r : List Word) : Kal :=
  if k.trace.length < traceRecords then { k with trace := k.trace ++ [r], next := (k.next + 1) % traceRecords }
  else if wrap then { k with trace := putAt k.trace k.next r, next := (k.next + 1) % traceRecords }
  else k

/-- A record offered in a hub cycle: at most four are taken in each, and those beyond are dropped and counted. -/
def Kal.offer (k : Kal) (wrap : Bool) (cycle : Nat) (r : List Word) : Kal :=
  let n := if k.cycle = cycle then k.inCycle else 0
  if n < 4 then { k with cycle := cycle, inCycle := n + 1 }.record wrap r
  else { k with lost := if k.lost = 0xFFFFFFFF then k.lost else k.lost + 1 }

/-- The hub cycle at a time in ns: 1.2 GHz (R15). -/
def hubCycle (ns : Nat) : Nat := ns * 6 / 5

/-- What a probe sees at its point: the words that FIELD 0 to 3 compare, none where there is no such word, and the words that a record
takes for FIELD 0 and for FIELD 1 to 3. -/
structure Seen where
  words : List (Option Word)
  rec0 : List Word
  rec1 : List Word
deriving DecidableEq, Repr

/-- The token of a packet. -/
def Pkt.token : Pkt → Option Token
  | .tok t _ _ => some t
  | .refuse t _ _ => some t
  | .fob p => if p.ptype = ptToken || p.ptype = ptRefuse || p.ptype = ptLockGrant then some p.token else none
  | _ => none

/-- The packet whose first slot is a slot of a flit. -/
def slotPkt : List Pkt → Nat → Option Pkt
  | [], _ => none
  | p :: ps, n => if n = 0 then some p else if n < p.slotCount then none else slotPkt ps (n - p.slotCount)

/-- A flit at a probe of types 1 to 4, with the token in a slot of it. -/
def seenFlit (f : Flit) (now slot : Nat) : Seen :=
  let t := (slotPkt f.pkts slot).bind Pkt.token
  { words := [some (f.header now), t.map (·.w0), t.map (·.w1), t.map (·.w2)]
    rec0 := [f.header now, 0, 0]
    rec1 := match t with | none => [0, 0, 0] | some t => [t.w0, t.w1, t.w2] }

/-- An activation at a dispatch probe. -/
def seenSlot (x : Slot) : Seen :=
  let t := x.act.left.map (·.tok)
  let rec_ := [x.word, (t.map (·.w1)).getD 0, (t.map (·.w2)).getD 0]
  { words := [some x.word, t.map (·.w0), t.map (·.w1), t.map (·.w2)], rec0 := rec_, rec1 := rec_ }

/-- The flit that stands at a point of types 1 to 4 and goes on next there. `sel` says which of the places that the point covers: of the
two mesh cycles in a ns, of the two ends of a module, of the two modules of a die. -/
def Dev.flitAt (d : Dev) (ptype point sel ns : Nat) : Option Flit :=
  let now := d.meshNow (2 * ns + sel % 2)
  let hop := fun (r : ClusterId) (o : Nat) => ((d.lookCredits r now).pickHop r o now).map fun c => c.1.flit
  let end_ := 2 * (point % 16) + sel % 2
  match ptype with
  | 1 => hop (BitVec.ofNat 6 (point / 8)) (point % 8)
  | 2 => (d.nextOnModule (if point < 2048 then end_ else otherEnd end_)).2.map (·.2)
  | 3 =>
    let p : BitVec 4 := BitVec.ofNat 4 point
    if point < 2048 then hop (portCluster p) 0 else (d.crossing (portCross p)).head?
  | 4 =>
    let inp := if point < 4 then 2 * point + sel % 2 else point + 4
    (((d.pullHub inp).lookHub inp).hubNext inp).map (·.2)
  | _ => none

/-- What probe p sees: at a dispatch point, the oldest prefetch slot of lane `sel`. -/
def Dev.probeSees (d : Dev) (k sel ns slot : Nat) : Option Seen :=
  let ptype := d.fld (rPsel k) 12 4
  let point := d.fld (rPsel k) 0 12
  if ptype = 5 then (mget laneReset (d.cell (BitVec.ofNat 10 point)).pipe.lanes (sel % 8)).slots.head?.map seenSlot
  else (d.flitAt ptype point sel ns).map fun f => seenFlit f (d.meshNow (2 * ns)) slot

/-- The words of a record. -/
def Dev.traceRecord (d : Dev) (p : BitVec 4) (ptype ns : Nat) (rec : List Word) (slot : BitVec 2) : List Word :=
  rec ++ [BitVec.ofNat 48 (d.clock.aon + ns) ++ p ++ slot ++ (0 : BitVec 6) ++ BitVec.ofNat 4 ptype]

/-- ARM written. -/
def Dev.setArm (d : Dev) (b : Bool) : Dev := d.setReg rTrctl (setBits (d.reg rTrctl) 1 1 (b2n b))

/-- A match counts and takes the actions that PCTL enables (R314, R315). -/
def Dev.probeHit (d : Dev) (p : BitVec 4) (ns : Nat) (rec : List Word) (slot : BitVec 2) : Dev :=
  let k := p.toNat
  let ctl := d.reg (rPctl k)
  let arm := d.fld rTrctl 1 1 = 1
  let d := d.setReg (rPcnt k) (d.reg (rPcnt k) + 1)
  let d := if bit ctl 6 && arm then
      { d with
        kal := d.kal.offer (d.fld rTrctl 2 1 = 1) (hubCycle (d.clock.aon + ns)) (d.traceRecord p (d.fld (rPsel k) 12 4) ns rec slot) }
    else d
  let d := if bit ctl 5 then d.setArm true else d
  let d := if bit ctl 4 then d.setArm false else d
  if bit ctl 3 then { d with flt := { d.flt with freezeLatch := true } } else d

/-- PROBE_MATCH: probe p looks, `ns` into the current µs, at what passes its point next, at a token slot of it for FIELD 1 to 3 (the
passing is the command that moves the flit or dispatches the activation: DESIGN CHOICE, log 78). -/
def probeMatch (p : BitVec 4) (sel ns : Nat) (slot : BitVec 2) (d : Dev) : Dev :=
  let k := p.toNat
  let ctl := d.reg (rPctl k)
  let field := nbits ctl 0 2
  if !bit ctl 7 then d
  else
    match d.probeSees k sel ns slot.toNat with
    | none => d
    | some x =>
      match x.words.getD field none with
      | none => d
      | some w =>
        if w &&& d.reg (rPmask k) ≠ d.reg (rPval k) then d
        else d.probeHit p ns (if field = 0 then x.rec0 else x.rec1) (if field = 0 || d.fld (rPsel k) 12 4 = 5 then 0 else slot)

/-! ### The commands -/

/-- TOKEN_REFUSE. -/
def execTokenRefuse (site : RefuseSite) (i : Nat) (s : State) : Host.Outcome State Fault Refusal :=
  onDies (tokenRefuse site i) s

/-- PROBE_MATCH. -/
def execProbeMatch (p : BitVec 4) (sel ns : Nat) (slot : BitVec 2) (s : State) : Host.Outcome State Fault Refusal :=
  onDies (probeMatch p sel ns slot) s

end Sys2Proof.Machine
end

