-- ==== Sys2Proof/Machine/Units.lean ====
section
/-! DEFINITION. Units: isolation, cell and cluster reset, containment, quiesce, closing of an episode, reintegration, dead targets
(R282, R309, R444 to R452, R476). -/

namespace Sys2Proof.Machine

/-! ### What a unit holds -/

/-- A unit holds a cell. -/
def unitHas (u : DevUnit) (c : CellId) : Bool :=
  match u with
  | .cell k => k = c
  | .cluster n => cellCluster c = n
  | .die k => cellDie c = k
  | .target (.crossbar n) => cellCluster c = n
  | _ => false

def allCells : List CellId := (List.range 1024).map (BitVec.ofNat 10)

def unitCells (u : DevUnit) : List CellId :=
  match u with
  | .cell c => [c]
  | .cluster n => clusterCells n
  | .target (.crossbar n) => clusterCells n
  | .die k => allCells.filter fun c => cellDie c = k
  | _ => []

/-- The links of a port that are not DISABLED. -/
def Dev.liveLinks (d : Dev) (p : BitVec 4) : List LinkId := (d.portLinks p).filter fun l => (d.link l).st ≠ .disabled

def diePorts (k : DieId) : List (BitVec 4) := (List.range 4).map fun i => BitVec.ofNat 4 (4 * k.toNat + i)

def Dev.unitLinks (d : Dev) (u : DevUnit) : List LinkId :=
  match u with
  | .link l => [l]
  | .target (.port p) => d.liveLinks p
  | .die k => (diePorts k).flatMap d.liveLinks
  | _ => []

/-! ### Isolation (R448) -/

/-- A cell is isolated: its absorber goes on with the counters of its last census read (R311), and the records in its receive buffer go
to the fallback cell (R276). -/
def Dev.isolateCell (d : Dev) (c : CellId) : Dev :=
  if (d.cell c).isolated then d
  else
    let d := d.modCell c fun x => { x with isolated := true, cen := x.lastCen }
    ((d.cell c).ev.recs.filter fun r => r.place = .receive).foldl (fun d r => (d.dropRecord c r.born).turnRecord c r) d

/-- What stands inside a target is lost with it (R309): requests at an HBM controller, packets in a port's crossings, flits in a UCIe
module or in the hub's switch. -/
def Dev.loseInside (d : Dev) (u : DevUnit) : Dev :=
  let modules := fun (l : List Nat) => l.foldl (fun d m => (d.setEnd (2 * m) d2dReset).setEnd (2 * m + 1) d2dReset) d
  match u with
  | .die s => d.modStack s fun x => { x with reqs := [] }
  | .target (.hbm s) => d.modStack s fun x => { x with reqs := [] }
  | .target (.port p) => d.setCrossing (portCross p) []
  | .target (.d2d m) => modules [m.toNat]
  | .target (.hubModule m) => modules [8 + m.toNat]
  | .target .hub => { d with fab := { d.fab with hubq := [] }, hif := { d.hif with hostReqs := [] } }
  | _ => d

/-- A unit is isolated: its cells show it, what is inside is lost, and its links enter ISOLATED. -/
def Dev.isolate (d : Dev) (u : DevUnit) : Dev :=
  if d.isoUnit u then d
  else
    let d := { d with flt := { d.flt with isolated := d.flt.isolated ++ [u] } }
    let d := ((unitCells u).foldl (fun d c => d.isolateCell c) d).loseInside u
    (d.unitLinks u).foldl (fun d l => if (d.link l).st = .isolated then d else d.linkIsolate l) d

/-- A graph's mask includes a cell of a unit. -/
def Graph.touches (x : Graph) (u : DevUnit) : Bool := x.mask.any fun c => unitHas u (BitVec.ofNat 10 c)

/-- The loaded graphs that meet a test are aborted. -/
def Dev.abortWhere (d : Dev) (p : GraphId → Graph → Bool) : Dev :=
  (d.graphs.filter fun x => p (BitVec.ofNat 6 x.1) x.2).foldl (fun d x => d.abortGraph (BitVec.ofNat 6 x.1)) d

/-- A graph holds records in a full ring, or uses a microcode routine that failed: what a source without a unit aborts. -/
def Dev.abortCause (d : Dev) (a : AbortCause) : Dev :=
  match a with
  | .graph g => d.abortGraph g
  | .udef n =>
    d.abortWhere fun _ x => x.mask.any fun c =>
      let cell := BitVec.ofNat 10 c
      (d.cell cell).store.im.any fun w => inRange (x.at cell).ibase (x.at cell).icount w.1 && wOpc w.2 = 0x3F0 + n
  | .spillRing c => d.abortWhere fun g _ => (d.cell c).store.ring.any fun r => keyGraph r.key = g
  | .rtsRing k => d.abortWhere fun g _ => (d.yoyo k).rts.any fun r => r.tok.graph = g

/-- Containment: every unit of the set is isolated, the graphs that touch one are aborted, then those named by sources
without a unit, once. -/
def Dev.contain (d : Dev) (e : Episode) : Dev :=
  let d := { d with flt := { d.flt with episode := some { e with causes := [] } } }
  let d := e.set_.foldl (fun d u => d.isolate u) d
  let d := d.abortWhere fun _ x => e.set_.any x.touches
  e.causes.foldl (fun d a => d.abortCause a) d

/-- Once stage 1 has been entered, later occurrences are contained as they come. -/
def Dev.containNew (d : Dev) : Dev :=
  match d.flt.episode with
  | none => d
  | some e => if 1 ≤ e.stage then d.contain e else d

/-! ### Resets of cells and clusters (R282, R476) -/

/-- The stores after a cell reset: constants and entry frames stay (R476), and so do the in-use bits (R48). -/
def CellStore.clear (s : CellStore) : CellStore :=
  let frames := s.frames.filter fun x => x.2.entry
  { cellReset.store with
    im := s.im, fo := s.fo, ms := s.ms.filter (·.const), frames := frames
    inUse := s.inUse, ringWords := s.ringWords, scan := s.scan, scrub := s.scrub, lru := s.lru }

/-- The pipeline after a cell reset: stream counters stay; events on their way stay, and go back to their post cells; requests for a
place are cancelled (R282), and grants of places go back where they arrive. -/
def CellPipe.clear (p : CellPipe) : CellPipe :=
  { cellReset.pipe with
    expSeq := p.expSeq, sendCtr := p.sendCtr, skips := p.skips, uid := p.uid
    inbox := p.inbox.filterMap fun x => match x with
      | .ev _ _ => some x
      | .evGrant _ _ _ _ => some x
      | _ => none
    egress := p.egress.filter fun o => match o.pkt with
      | .tok _ _ _ => false
      | .refuse _ _ _ => false
      | _ => true }

/-- A record without the place that cell c granted it or was asked for. -/
def EvRec.without (c : CellId) (r : EvRec) : EvRec :=
  { r with
    asked := if r.asked = some c then none else r.asked
    granted := if r.granted = some c then none else r.granted }

/-- Every place that a cell granted, or that was requested of it, is cancelled, wherever the record, the request or the grant stands
(R282). -/
def Dev.cancelPlaces (d : Dev) (c : CellId) : Dev :=
  let d : Dev := { d with cells := d.cells.map fun (x : Nat × Cell) =>
      (x.1, { x.2 with ev := { x.2.ev with recs := x.2.ev.recs.map (EvRec.without c) } }) }
  d.mapPkts fun p => match p with
    | .ev t r => some (.ev t (r.without c))
    | .evAsk t s g n => if t = c then none else some (.evAsk t s g n)
    | .evGrant t s g n => if s = c then none else some (.evGrant t s g n)
    | .evGive t g => if t = c then none else some (.evGive t g)
    | p => some p

/-- CEL.ERR, CEL.QOVRLO, CEL.QOVRHI and CEL.EVERR of a cell are cleared. -/
def Dev.clearCellErrors (d : Dev) (c : CellId) : Dev :=
  let n := c.toNat
  [rCelErr n, rQovr n 0, rQovr n 16, rEverr n].foldl (fun d k => d.clearSticky k 0xFFFFFF) d

/-- A cell reset (R476). -/
def Dev.resetCell (d : Dev) (c : CellId) : Dev :=
  let places := ((d.cell c).ev.recs.filter fun r => r.granted.isSome)
  let d := ((d.consumeItems c).ungrant places).cancelPlaces c
  let d := (d.abandon (Owner.ofCell c)).modCell c fun x =>
    { x with
      store := x.store.clear
      pipe := x.pipe.clear
      ev := { x.ev with recs := [], stack := [], rbReq := [], rbGrant := 0 }
      asleep := false
      idleSince := d.coreNow c }
  d.clearCellErrors c

/-- CEL.STATUS.RESET of some cells. -/
def Dev.setResetting (d : Dev) (cs : List CellId) (b : Bool) : Dev :=
  cs.foldl (fun d c => d.modCell c fun x => { x with resetting := b }) d

/-- The reset of a unit begins: its contents go, and CEL.STATUS.RESET is 1. -/
def Dev.startReset (d : Dev) (u : DevUnit) : Dev :=
  (unitCells u).foldl (fun d c => d.resetCell c) (d.setResetting (unitCells u) true)

/-- UNIT_RESET_DONE: the reset of a cell or cluster ends; an isolation stays. -/
def unitResetDone (u : DevUnit) (d : Dev) : Dev :=
  if d.flt.testing.any fun t => (unitCells u).any (unitHas t) then d else d.setResetting (unitCells u) false

/-! ### Stages (R446 to R449) -/

/-- A stage's time has passed and the episode is not acknowledged. -/
def Dev.stageDue (d : Dev) (e : Episode) (n : Nat) : Bool :=
  e.stage + 1 = n && !e.acked && e.opened + 1000000 * d.fld (rSpint n) 0 16 ≤ d.clock.run

/-- The open episode changed. -/
def Dev.modEpisode (d : Dev) (f : Episode → Episode) : Dev :=
  match d.flt.episode with
  | none => d
  | some e => { d with flt := { d.flt with episode := some (f e) } }

/-- ESCALATION_STAGE_1: containment. -/
def stage1 (d : Dev) : Dev :=
  match d.flt.episode with
  | none => d
  | some e => if d.stageDue e 1 then ((d.contain e).modEpisode fun e => { e with stage := 1 }).episodeNotice 1 else d

/-- ESCALATION_STAGE_2: quiesce. -/
def stage2 (d : Dev) : Dev :=
  match d.flt.episode with
  | none => d
  | some e =>
    if d.stageDue e 2 then
      let d := allDies.foldl (fun d k => d.isolate (.die k)) d
      let d := d.abortWhere fun _ _ => true
      (d.modEpisode fun e =>
        { e with stage := 2, quiesced := true
                 set_ := e.set_ ++ (allDies.map DevUnit.die).filter fun u => !e.set_.contains u }).episodeNotice 2
    else d

/-! ### Closing (R451, R452) -/

/-- Units to test at a close: every isolated unit and dead target that has not failed its test. -/
def Dev.toTest (d : Dev) : List DevUnit :=
  let l := d.flt.isolated ++ (d.fab.dead.map DevUnit.target).filter fun u => !d.flt.isolated.contains u
  l.filter fun u => !d.flt.failed.contains u && !d.flt.testing.contains u

/-- EPISODE_CLOSE: the quiet period has passed, and a FATAL episode is acknowledged; the tests begin. -/
def episodeClose (d : Dev) : Dev :=
  match d.flt.episode with
  | none => d
  | some e =>
    if e.lastAt + 1000000 * d.fld rQuiet 0 16 ≤ d.clock.run && (e.sev ≠ 3 || e.acked) then
      let test := d.toTest
      let recov := if d.flt.recov = 0xFFFF then d.flt.recov else d.flt.recov + 1
      let d := { d with flt := { d.flt with episode := none, recov := recov, testing := d.flt.testing ++ test } }
      test.foldl (fun d u => d.setResetting (unitCells u) true) d
    else d

/-- A cell that no isolated unit holds is isolated no more. -/
def Dev.unisolateCells (d : Dev) (u : DevUnit) : Dev :=
  (unitCells u).foldl (fun d c =>
    if d.flt.isolated.any fun t => unitHas t c then d else d.modCell c fun x => { x with isolated := false }) d

/-- Graphs held under reset are released once their mask has no isolated cell. -/
def Dev.releaseGraphs (d : Dev) : Dev :=
  { d with graphs := d.graphs.map fun x => (x.1, { x.2 with held := x.2.held && d.maskIsolated x.2 }) }

/-- A unit that passed its test is in service again. -/
def Dev.reintegrate (d : Dev) (u : DevUnit) : Dev :=
  let links := d.unitLinks u
  let d := (unitCells u).foldl (fun d c => d.resetCell c) d
  let dead := match u with
    | .target t => d.fab.dead.erase t
    | _ => d.fab.dead
  let d := { d with flt := { d.flt with isolated := d.flt.isolated.erase u }, fab := { d.fab with dead := dead } }
  let d := links.foldl (fun d l => if (d.link l).st = .isolated then d.linkTo l .detect else d) d
  (d.unisolateCells u).releaseGraphs

/-- Cells of a unit whose test has ended come out of reset, unless another test holds them. -/
def Dev.endTest (d : Dev) (u : DevUnit) : Dev :=
  let d := { d with flt := { d.flt with testing := d.flt.testing.erase u } }
  (unitCells u).foldl (fun d c =>
    if d.flt.testing.any fun t => unitHas t c then d else d.modCell c fun x => { x with resetting := false }) d

/-- REINTEGRATION_DONE: a unit passes its test, or stays isolated until power-on or MRST_N. -/
def reintegrationDone (u : DevUnit) (pass : Bool) (d : Dev) : Dev :=
  if !d.flt.testing.contains u then d
  else if pass then (d.reintegrate u).endTest u
  else { d with flt := { d.flt with failed := d.flt.failed ++ [u] } }.endTest u

/-! ### Dead targets (R309) -/

/-- Outputs that lead to a target, and ends of modules in the hub: the keys of `Fabric.waits`. -/
def targetOuts (t : Target) : List Nat :=
  let out := fun (r : ClusterId) (o : Nat) => r.toNat * 8 + o
  let ends := fun (e : Nat) => match endRouter e with
    | some (r, o) => [out r o]
    | none => [512 + e]
  match t with
  | .crossbar n => [out n 4]
  | .hbm s => [out (routerAt s 1 0) 3, out (routerAt s 2 0) 3]
  | .port p => [out (portCluster p) 0]
  | .d2d m => ends (2 * m.toNat) ++ ends (2 * m.toNat + 1)
  | .hubModule m => ends (16 + 2 * m.toNat) ++ ends (17 + 2 * m.toNat)
  | .hub => (List.range 8).flatMap fun m => ends (16 + 2 * m)

/-- A flit has waited for a target for MSH.TMOCFG.DEAD, and a liveness query has had no answer for 10 µs more (R309). -/
def Dev.targetWaits (d : Dev) (t : Target) : Bool :=
  (targetOuts t).any fun k => match mfind d.fab.waits k with
    | none => false
    | some since => since + 10000 * d.fld rTmocfg 0 16 + 10000 ≤ d.clock.run

/-- TGT_DEAD: the target has taken no flit for MSH.TMOCFG.DEAD and does not answer: the router isolates it at once. -/
def tgtDead (t : Target) (d : Dev) : Dev :=
  if d.fab.dead.contains t || !d.targetWaits t then d
  else
    ({ d with fab := { d.fab with dead := d.fab.dead ++ [t] } }.isolate (.target t)).fault rMshErr 4 68 [.target t] []

/-! ### The commands -/

/-- UNIT_RESET_DONE. -/
def execUnitResetDone (t : DevUnit) (s : State) : Host.Outcome State Fault Refusal :=
  onDies (unitResetDone t) s

/-- ESCALATION_STAGE_1. -/
def execEscalationStage1 (s : State) : Host.Outcome State Fault Refusal :=
  onDies stage1 s

/-- ESCALATION_STAGE_2. -/
def execEscalationStage2 (s : State) : Host.Outcome State Fault Refusal :=
  onDies stage2 s

/-- EPISODE_CLOSE. -/
def execEpisodeClose (s : State) : Host.Outcome State Fault Refusal :=
  onDies episodeClose s

/-- REINTEGRATION_DONE. -/
def execReintegrationDone (t : DevUnit) (pass : Bool) (s : State) : Host.Outcome State Fault Refusal :=
  onDies (reintegrationDone t pass) s

/-- TGT_DEAD. -/
def execTgtDead (t : Target) (s : State) : Host.Outcome State Fault Refusal :=
  onDies (tgtDead t) s

end Sys2Proof.Machine
end

