-- ==== Sys2Proof/Machine/Power.lean ====
section
/-! DEFINITION. Power: the governor and its levers, points, temperatures, converter phases (R17, R462 to R474). -/

namespace Sys2Proof.Machine

/-! ### The cap (R17, R464) -/

/-- PWR.CFG.BUDGET in W. -/
def Dev.budget (d : Dev) : Nat := d.fld rPwrCfg 16 9

/-- 9.5 A × VIN is below the budget; VIN counts 10 mV, so the product counts 9,500 × 10 µW. No sample, no cap. -/
def Dev.vincap (d : Dev) : Bool := d.pwr.vin ≠ 0 && d.pwr.vin.toNat * 9500 < d.budget * 100000

/-- The cap in force, in units of 10 µW. -/
def Dev.capTenMicro (d : Dev) : Nat := if d.vincap then d.pwr.vin.toNat * 9500 else d.budget * 100000

/-- Measured input power, in units of 10 µW: VIN in 10 mV times IIN in mA. -/
def Dev.inputPower (d : Dev) : Nat := d.pwr.vin.toNat * d.pwr.iin.toNat

/-! ### Points (R464, R467) -/

def Dev.thermalPoint (d : Dev) (k : DieId) : Nat := 6 - mget 0 d.pwr.thermal k.toNat

/-- The point a die is set to: FIX, or VFMAX; P0 alone without a valid table (R481). -/
def Dev.setPoint (d : Dev) (k : DieId) : Nat :=
  if bit d.mgt.calBad 0 then 0
  else if d.fld (rDiectl k.toNat) 7 1 = 1 then d.fld (rDiectl k.toNat) 4 3 else d.fld (rDiectl k.toNat) 0 3

/-- The point at which a die runs once the governor has started; P0 before that, and without power. -/
def Dev.point (d : Dev) (k : DieId) : Nat :=
  if d.mgt.phase.toNat < 8 || bit d.pwr.dieOff k.toNat || bit d.mgt.calBad 0 then 0
  else
    let top := min d.pwr.ceiling (d.thermalPoint k)
    let fix := d.fld (rDiectl k.toNat) 4 3
    if d.fld (rDiectl k.toNat) 7 1 = 1 && fix ≤ top then fix else min top (d.fld (rDiectl k.toNat) 0 3)

/-- A die runs below its set point. -/
def Dev.isBelow (d : Dev) (k : DieId) : Bool := 8 ≤ d.mgt.phase.toNat && !bit d.pwr.dieOff k.toNat && d.point k < d.setPoint k

/-- A die is lowered for power, or for temperature. -/
def Dev.capped (d : Dev) (k : DieId) : Bool := d.isBelow k && d.pwr.ceiling < d.setPoint k
def Dev.therm (d : Dev) (k : DieId) : Bool := d.isBelow k && d.thermalPoint k < d.setPoint k

/-- A mask of the dies that meet a test. -/
def dieMask (p : DieId → Bool) : BitVec 4 := BitVec.ofNat 4 (allDies.foldl (fun n k => n + b2n (p k) * 2 ^ k.toNat) 0)

/-- The dispatch duty of a die in sixteenths: halved by the governor and for temperature, down to 1/16. -/
def Dev.duty (d : Dev) (k : DieId) : Nat := 16 / 2 ^ min 4 (d.pwr.duty + mget 0 d.pwr.thermalDuty k.toNat)

/-- PWR.DIESTAT.HBMRATE of a stack: the governor's steps of a quarter, and the halving of R468. -/
def Dev.hbmRate (d : Dev) (s : DieId) : BitVec 2 :=
  match d.pwr.hbmStep, bit d.pwr.hbmHot s.toNat with
  | 0, true => 2
  | 2, true => 3
  | 1, true => Config.hbmRateCode true
  | 3, true => Config.hbmRateCode false
  | n, _ => BitVec.ofNat 2 n

/-- The core clock of a die in MHz: a point of the voltage/frequency table in force (R467, R480, R481). -/
def Dev.mhz (d : Dev) (k : DieId) : Nat :=
  let n := d.point k
  if bit d.pwr.dieOff k.toNat then 0
  else if bit d.mgt.calUser 0 then leNat (fun o => mget 0 d.mgt.cal o) (0x40 + 64 * k.toNat + 8 * n) 2
  else 800 + 200 * n

/-! ### First throttled (R488, R489) -/

/-- A die that newly runs below its set point: the THROTTLE source. -/
def Dev.noteBelow (d : Dev) : Dev :=
  let now := dieMask d.isBelow
  let new := now &&& ~~~d.pwr.below
  let d := { d with pwr := { d.pwr with below := now } }
  if new = 0 then d else (d.fault rPwrErr 0 99 [] []).ibiSend 3

/-! ### Levers (R464 to R466) -/

/-- The highest point at which a compute die runs. -/
def Dev.topPoint (d : Dev) : Nat := allDies.foldl (fun n k => max n (d.point k)) 0

/-- The enabled Fober port of highest number. -/
def Dev.topPort (d : Dev) : Option (BitVec 4) := ((List.range 16).reverse.map (BitVec.ofNat 4)).find? d.portEn

/-- A port is shed: EN clears, its links go to DISABLED. -/
def Dev.shedPort (d : Dev) (p : BitVec 4) : Dev :=
  let d := (d.setReg (rFbp p.toNat) (setBits (d.reg (rFbp p.toNat)) 0 1 0)).disableLinks p
  { d with pwr := { d.pwr with shed := if d.pwr.shed.contains p.toNat then d.pwr.shed else d.pwr.shed ++ [p.toNat] } }

/-- The next lever: points, duty, HBM rate, ports. None is left at the end. -/
def Dev.lever (d : Dev) : Option Dev :=
  if d.topPoint ≠ 0 then some { d with pwr := { d.pwr with ceiling := d.topPoint - 1 } }
  else if d.pwr.duty < 4 then some { d with pwr := { d.pwr with duty := d.pwr.duty + 1 } }
  else if d.pwr.hbmStep < 3 then some { d with pwr := { d.pwr with hbmStep := d.pwr.hbmStep + 1 } }
  else d.topPort.map d.shedPort

/-- A lever was applied: VIN_CAP occurs at the first one while VINCAP is 1. -/
def Dev.noteLever (d : Dev) : Dev :=
  if d.vincap && !d.pwr.capSeen then
    { d with pwr := { d.pwr with capSeen := true } }.fault rPwrErr 4 103 [] []
  else d

/-- GOVERNOR_SAMPLE: input voltage in 10 mV and current in mA; one lever while power exceeds the cap. -/
def governorSample (vin iin : BitVec 16) (d : Dev) : Dev :=
  let d := { d with pwr := { d.pwr with vin := vin, iin := iin } }
  let d := if d.vincap then d else { d with pwr := { d.pwr with capSeen := false } }
  if d.inputPower ≤ d.capTenMicro then d
  else
    match d.lever with
    | none => d
    | some d => d.noteLever.noteBelow

/-- GOVERNOR_RELEASE: one lever back, when the governor's estimate (in 0.1 W) of the power after it is 3 % below the cap. -/
def governorRelease (est : Nat) (d : Dev) : Dev :=
  if d.capTenMicro * 97 < est * 10000 * 100 then d
  else
    let p := d.pwr
    let p := if p.hbmStep ≠ 0 then { p with hbmStep := p.hbmStep - 1 }
      else if p.duty ≠ 0 then { p with duty := p.duty - 1 }
      else { p with ceiling := min 6 (p.ceiling + 1) }
    { d with pwr := p }.noteBelow

/-- OVERCURRENT_COMPARATOR: the duty of every die is halved, as one step of the second lever. -/
def overcurrent (d : Dev) : Dev := { d with pwr := { d.pwr with duty := min 4 (d.pwr.duty + 1) } }.noteLever

/-! ### Temperatures (R468 to R471), in 1/16 °C -/

def Dev.temp (d : Dev) (n : Nat) : Int := (mget 0 d.pwr.temps n).toInt

def Dev.setTemp (d : Dev) (n : BitVec 5) (t : BitVec 16) : Dev :=
  { d with pwr := { d.pwr with temps := mset 0 d.pwr.temps n.toNat t } }

/-- The working sensors of a group. -/
def Dev.working (d : Dev) (l : List Nat) : List Nat := l.filter fun n => !bit d.pwr.fails n

/-- The highest of some readings. -/
def hottest (l : List Int) : Option Int :=
  match l with
  | [] => none
  | a :: l => some (l.foldl max a)

def dieSensors (k : DieId) : List Nat := (List.range 6).map fun i => 6 * k.toNat + i

/-- What stands for a failed sensor of a die: its hottest working sensor plus 10 °C, or 100.0 °C when none works (R471). -/
def Dev.standIn (d : Dev) (k : DieId) : Int :=
  match hottest ((d.working (dieSensors k)).map d.temp) with
  | none => 1600
  | some t => t + 160

/-- What the governor takes sensor n of die k to read. -/
def Dev.dieTemp (d : Dev) (k : DieId) (n : Nat) : Int := if bit d.pwr.fails n then d.standIn k else d.temp n

/-- The hottest reading of a die. -/
def Dev.tmax (d : Dev) (k : DieId) : Int := (hottest ((dieSensors k).map (d.dieTemp k))).getD 0

def sensorDie (n : BitVec 5) : DieId := BitVec.ofNat 2 (n.toNat / 6)

/-- THERMAL_STEP: a sensor of a die at 100.0 °C or more. -/
def thermalStep (n : BitVec 5) (t : BitVec 16) (d : Dev) : Dev :=
  if 24 ≤ n.toNat then d
  else
    let k := sensorDie n
    let d := if bit d.pwr.fails n.toNat then d else d.setTemp n t
    if d.dieTemp k n.toNat < 1600 then d
    else
      let p := d.pwr
      let p := if mget 0 p.thermal k.toNat < 6 then { p with thermal := mset 0 p.thermal k.toNat (mget 0 p.thermal k.toNat + 1) }
        else { p with thermalDuty := mset 0 p.thermalDuty k.toNat (min 4 (mget 0 p.thermalDuty k.toNat + 1)) }
      { d with pwr := p }.noteBelow

/-- THERMAL_RELEASE: all sensors of a die below 97.0 °C; `temps` are its six readings. -/
def thermalRelease (k : DieId) (temps : List (BitVec 16)) (d : Dev) : Dev :=
  let d := ((dieSensors k).zip temps).foldl (fun d x =>
    if bit d.pwr.fails x.1 then d else d.setTemp (BitVec.ofNat 5 x.1) x.2) d
  if d.tmax k < 1552 then
    let p := d.pwr
    let p := if mget 0 p.thermalDuty k.toNat ≠ 0 then
        { p with thermalDuty := mset 0 p.thermalDuty k.toNat (mget 0 p.thermalDuty k.toNat - 1) }
      else { p with thermal := mset 0 p.thermal k.toNat (mget 0 p.thermal k.toNat - 1) }
    { d with pwr := p }.noteBelow
  else d

/-- HBM_THERMAL_THROTTLE: the sensor of a stack at 95.0 °C or above, or below 92.0 °C. -/
def hbmThermal (n : BitVec 5) (t : BitVec 16) (d : Dev) : Dev :=
  if n.toNat < 24 || 28 ≤ n.toNat then d
  else
    let m := 1#4 <<< (n.toNat - 24)
    let d := d.setTemp n t
    if 1520 ≤ t.toInt then { d with pwr := { d.pwr with hbmHot := d.pwr.hbmHot ||| m } }
    else if t.toInt < 1472 then { d with pwr := { d.pwr with hbmHot := d.pwr.hbmHot &&& ~~~m } }
    else d

/-- TEMP_HIGH: a die sensor at 105.0 °C or above. -/
def tempHigh (n : BitVec 5) (t : BitVec 16) (d : Dev) : Dev :=
  if 24 ≤ n.toNat || t.toInt < 1680 then d else (d.setTemp n t).fault rPwrErr 1 100 [.die (sensorDie n)] []

/-- A reading with the rails off: AON keeps it, and no fault occurs. -/
def restReading (n : BitVec 5) (r : Option (BitVec 16)) (d : Dev) : Dev :=
  match r with
  | none => d
  | some t => d.setTemp n t

/-- SENSOR: a reading of a sensor. None, or one outside −40 °C to 150 °C, is a failure. -/
def sensorReading (n : BitVec 5) (r : Option (BitVec 16)) (d : Dev) : Dev :=
  let bad : Dev := { d with pwr := { d.pwr with fails := d.pwr.fails ||| (1#32 <<< n.toNat) } }.fault rPwrErr 2 101 [] []
  match r with
  | none => bad
  | some t =>
    if t.toInt < -640 || 2400 < t.toInt then bad
    else { d with pwr := { d.pwr with fails := d.pwr.fails &&& ~~~(1#32 <<< n.toNat) } }.setTemp n t

/-! ### Converter phases (R474) -/

/-- CONV: a phase of a die turns its rails off, and the die is a dead target; the hub and AON have a phase to spare. -/
def converter (p : ConvPhase) (d : Dev) : Dev :=
  match p with
  | .die k =>
    ({ d with pwr := { d.pwr with dieOff := d.pwr.dieOff ||| (1#4 <<< k.toNat) } }.isolate (.die k)).fault rPwrErr 3 102
      [.die k] []
  | _ => d.fault rPwrErr 3 102 [] []

/-! ### Running in AON -/

/-- The effect of a command of the governor and sensors in AON, which a freeze in scope 0 stops (R455). -/
def onGovernor (f : Dev → Dev) (s : State) : Host.Outcome State Fault Refusal := onHub f s

/-! ### The commands -/

/-- GOVERNOR_SAMPLE. -/
def execGovernorSample (vin : BitVec 16) (iin : BitVec 16) (s : State) : Host.Outcome State Fault Refusal :=
  onGovernor (governorSample vin iin) s

/-- GOVERNOR_RELEASE. -/
def execGovernorRelease (est : Nat) (s : State) : Host.Outcome State Fault Refusal :=
  onGovernor (governorRelease est) s

/-- OVERCURRENT_COMPARATOR. -/
def execOvercurrentComparator (s : State) : Host.Outcome State Fault Refusal :=
  onGovernor overcurrent s

/-- THERMAL_STEP. -/
def execThermalStep (n : BitVec 5) (temp : BitVec 16) (s : State) : Host.Outcome State Fault Refusal :=
  onGovernor (thermalStep n temp) s

/-- THERMAL_RELEASE. -/
def execThermalRelease (d : DieId) (temps : List (BitVec 16)) (s : State) : Host.Outcome State Fault Refusal :=
  onGovernor (thermalRelease d temps) s

/-- HBM_THERMAL_THROTTLE. -/
def execHbmThermalThrottle (n : BitVec 5) (temp : BitVec 16) (s : State) : Host.Outcome State Fault Refusal :=
  onGovernor (hbmThermal n temp) s

/-- TEMP_HIGH. -/
def execTempHigh (n : BitVec 5) (temp : BitVec 16) (s : State) : Host.Outcome State Fault Refusal :=
  onGovernor (tempHigh n temp) s

/-- SENSOR. -/
def execSensor (n : BitVec 5) (reading : Option (BitVec 16)) (s : State) : Host.Outcome State Fault Refusal :=
  onAlways (fun d => if d.pwr.off then restReading n reading d else if d.hubRuns then sensorReading n reading d else d) s

/-- CONV. -/
def execConv (phase : ConvPhase) (s : State) : Host.Outcome State Fault Refusal :=
  onGovernor (converter phase) s

end Sys2Proof.Machine
end

