-- ==== Sys2Proof/Machine/RegFields.lean ====
section
/-! DEFINITION. The register tables: every register of BAR0 with its width, its fields, their access, class, lock bit and legal
values (R411 to R436 and the register tables of the chapters). Bits no field covers are reserved (RP, R418). -/

namespace Sys2Proof.Machine

/-- Access of a field. `sc`: a sticky bit; `wo1`: written once. -/
inductive Acc where
  | rw | ro | wo | wo1 | sc
deriving DecidableEq, Repr

/-- Class of a field (R422). -/
inductive Cls where
  | static | shadow | live
deriving DecidableEq, Repr

/-- A field: its low bit and length, access, class, guarding bit of GLB.LOCK, least and greatest legal value. -/
structure Field where
  lo : Nat
  len : Nat
  acc : Acc
  cls : Cls
  lock : Option Nat
  min : Nat
  max : Nat
deriving DecidableEq, Repr

/-- A register: whether it is 64 bits wide, and its fields. -/
structure RegSpec where
  wide : Bool
  fields : List Field
deriving DecidableEq, Repr

def fRo (lo len : Nat) : Field := ⟨lo, len, .ro, .live, none, 0, 2 ^ len - 1⟩
def fWo (lo len : Nat) : Field := ⟨lo, len, .wo, .live, none, 0, 2 ^ len - 1⟩
def fSc (lo len : Nat) : Field := ⟨lo, len, .sc, .live, none, 0, 2 ^ len - 1⟩
def fLive (lo len min max : Nat) : Field := ⟨lo, len, .rw, .live, none, min, max⟩
def fStat (lo len min max : Nat) : Field := ⟨lo, len, .rw, .static, none, min, max⟩
def fShad (lo len min max : Nat) : Field := ⟨lo, len, .rw, .shadow, none, min, max⟩
/-- A field of any value. -/
def fAny (lo len : Nat) : Field := fLive lo len 0 (2 ^ len - 1)
def Field.locked (f : Field) (b : Nat) : Field := { f with lock := some b }

def r32 (l : List Field) : RegSpec := { wide := false, fields := l }
def r64 (l : List Field) : RegSpec := { wide := true, fields := l }
/-- A register of read-only fields, or of none that the table names. -/
def rRo (lo len : Nat) : RegSpec := r32 [fRo lo len]
/-- A status register with `n` sticky bits from bit 0 (R425). -/
def rStatus (n : Nat) : RegSpec := r32 [fRo 24 8, fSc 0 n]

/-! ### The blocks -/

/-- GLB (R434). -/
def specGlb (o : Nat) : Option RegSpec :=
  match o with
  | 0x00 => some (rRo 0 32)
  | 0x04 => some (rRo 8 8)
  | 0x08 => some (r64 [fRo 0 64])
  | 0x10 => some (rRo 0 7)
  | 0x14 => some (r32 [⟨0, 16, .wo1, .live, none, 0, 0xFFFF⟩])
  | 0x18 => some (r32 [(fAny 0 10).locked 0])
  | 0x1C => some (r32 [(fShad 0 8 0 255).locked 0])
  | 0x20 => some (r32 [(fAny 3 1).locked 3, (fAny 2 1).locked 2, (fAny 1 1).locked 1, (fAny 0 1).locked 0])
  | 0x28 => some (r32 [fAny 0 32])
  | 0x2C => some (r32 [fAny 0 32])
  | _ => none

/-- ACC (R435): one's own log, and the log of every requester. -/
def specAcc (o : Nat) : Option RegSpec :=
  if o < 0x10 || (0x100 ≤ o && o < 0x100 + 16 * 65) then
    match o % 16 with
    | 0 => some (r32 [fRo 24 8, fRo 14 3, fRo 0 7])
    | 12 => some (r32 [fLive 0 32 0 0])
    | _ => some (rRo 0 32)
  else none

/-- HIF (R410). -/
def specHif (o : Nat) : Option RegSpec :=
  if o < 0x100 then
    match o with
    | 0x0 => some (rRo 0 32)
    | 0x4 => some (rStatus 3)
    | 0x8 => some (r32 [fStat 16 10 1 1000, fStat 0 1 0 1])
    | 0xC => some (r32 [fWo 0 1])
    | _ => none
  else if o < 0x180 then some (r32 [fLive 16 8 1 255, fAny 0 10])
  else if 0x10000 ≤ o && o < 0x30000 then
    match o % 32 with
    | 0x00 => some (r64 [fStat 12 52 0 (2 ^ 52 - 1)])
    | 0x08 => some (r64 [fStat 12 52 0 (2 ^ 52 - 1)])
    | 0x10 => some (r64 [fStat 3 61 0 (2 ^ 61 - 1)])
    | 0x18 => some (r32 [fAny 31 1, fRo 30 1, fStat 16 5 0 31, fStat 0 5 4 16])
    | 0x1C => some (rRo 0 32)
    | _ => none
  else if 0x30000 ≤ o && o < 0x38000 then
    match o % 32 with
    | 0x00 => some (r64 [fStat 12 52 0 (2 ^ 52 - 1)])
    | 0x08 => some (r64 [fStat 3 61 0 (2 ^ 61 - 1)])
    | 0x10 => some (r32 [fAny 31 1, fRo 30 1, fStat 16 5 0 31, fStat 0 5 4 16])
    | 0x14 => some (rRo 0 16)
    | _ => none
  else none

/-- SCH (R232). -/
def specSch (o : Nat) : Option RegSpec :=
  match o with
  | 0x00 => some (r32 [fLive 0 24 1024 16777215])
  | 0x04 => some (r32 [fLive 0 14 1 10000])
  | 0x08 => some (r32 [fLive 16 16 0 26000, fLive 0 16 1 10000])
  | 0x0C => some (r32 [fLive 16 16 0 32768, fLive 0 16 64 16384])
  | 0x10 => some (r32 [fLive 12 4 1 8, fAny 8 1, fLive 0 8 16 255])
  | 0x14 => some (r32 [fStat 8 4 0 8, fStat 0 3 0 6])
  | 0x18 => some (r32 [fLive 16 16 1 10000, fLive 0 16 1 65535])
  | 0x1C => some (r32 [fLive 0 16 10 65535])
  | 0x20 => some (rStatus 3)
  | 0x24 => some (rRo 0 11)
  | _ =>
    if 0x1000 ≤ o && o < 0x1400 then
      match o % 16 with
      | 0 => some (r32 [fRo 16 10, fRo 0 10])
      | 4 => some (r32 [fRo 16 13, fRo 0 16])
      | 8 => some (r32 [fRo 16 16, fLive 0 16 1 65535])
      | _ => some (r32 [fRo 16 16, fRo 0 4])
    else none

/-- MSH (R316). -/
def specMsh (o : Nat) : Option RegSpec :=
  match o with
  | 0x00 => some (rRo 0 2)
  | 0x04 => some (rStatus 5)
  | 0x08 => some (r32 [fWo 0 1])
  | 0x0C => some (r32 [fShad 24 8 1 64, fShad 16 8 0 255, fShad 0 16 64 65535])
  | 0x10 => some (r32 [fLive 16 16 1 10000, fLive 0 16 10 10000])
  | 0x14 => some (r32 [fLive 16 16 10 65535, fAny 0 1])
  | 0x18 => some (r32 [fAny 9 1, fAny 7 2, fLive 0 7 0 84])
  | 0x1C => some (r32 [fAny 0 16])
  | 0x20 => some (r32 [fAny 9 6, fLive 6 3 0 4, fAny 0 6])
  | 0x24 => some (r32 [fShad 7 1 0 1, fShad 0 6 0 63])
  | 0x30 | 0x34 | 0x40 | 0x44 => some (rRo 0 32)
  | 0x48 => some (rRo 0 21)
  | _ => none

/-- A Fober port (R346). -/
def specFbp (o : Nat) : Option RegSpec :=
  match o with
  | 0x000 => some (r32 [fStat 6 2 0 2, fStat 4 2 0 2, fAny 0 1])
  | 0x008 => some (rStatus 6)
  | 0x00C => some (r32 [fWo 4 4, fWo 0 4])
  | 0x010 => some (r32 [fLive 16 8 1 255, fLive 0 16 1 65535])
  | 0x014 => some (r32 [fStat 0 2 0 2])
  | 0x018 => some (r32 [fLive 16 16 16 65535, fStat 0 8 0 255])
  | _ =>
    if 0x040 ≤ o && o < 0x060 then some (r32 [fShad 0 26 0 (2 ^ 26 - 1)])
    else if 0x080 ≤ o && o < 0x0A0 then some (rRo 0 32)
    else if 0x100 ≤ o && o < 0x180 then
      match o % 32 with
      | 0x00 => some (rRo 4 28)
      | 0x04 | 0x08 | 0x0C => some (rRo 0 32)
      | 0x10 => some (rRo 16 16)
      | _ => none
    else none

/-- FBN (R383). -/
def specFbn (o : Nat) : Option RegSpec :=
  match o with
  | 0x00 => some (r32 [fAny 4 1, fAny 2 1, fLive 0 2 0 2])
  | 0x04 => some (r32 [fRo 16 8, fRo 0 4])
  | 0x08 => some (rStatus 8)
  | 0x0C => some (r32 [fStat 16 16 0 65535, fStat 0 16 0 65535])
  | 0x10 => some (r32 [fWo 0 1])
  | 0x14 => some (rRo 0 32)
  | 0x18 => some (r32 [fAny 0 17])
  | 0x1C => some (r32 [fAny 0 16])
  | 0x20 => some (r32 [fAny 0 16])
  | 0x24 => some (r32 [fAny 0 1])
  | 0x28 | 0x2C => some (r32 [fStat 0 32 0 (2 ^ 32 - 1)])
  | 0x30 => some (r32 [fWo 0 1])
  | _ => none

/-- MEM (R265). -/
def specMem (o : Nat) : Option RegSpec :=
  if o < 0x100 then
    match o with
    | 0x0 => some (rRo 0 5)
    | 0x4 => some (rStatus 7)
    | 0x8 => some (r32 [fAny 0 8])
    | _ => none
  else if o < 0x140 then
    some (r32 [fStat 31 1 0 1, fStat 28 2 0 3, fStat 16 11 0 2047, fStat 0 11 0 2047])
  else if 0x200 ≤ o && o < 0x280 then
    match o % 32 with
    | 0x00 => some (r32 [fRo 16 14, fRo 0 14])
    | 0x04 => some (rRo 0 17)
    | 0x08 => some (rRo 0 15)
    | 0x0C => some (rRo 0 24)
    | 0x10 => some (rRo 0 32)
    | _ => none
  else none

/-- EVC (R286). -/
def specEvc (o : Nat) : Option RegSpec :=
  if 0x100 ≤ o && o < 0x200 then some (r32 [fAny 0 4]) else if o = 0x400 then some (rRo 0 20) else none

/-- The sources of FLT.SRCr: its sticky bits (R438, R453). -/
def srcBits (r : Nat) : List Field :=
  (List.range 24).filterMap fun b => if sevTable.any fun x => x.1 = 32 * r + b then some (fSc b 1) else none

/-- FLT.SEVn: two bits for each listed source (R453). -/
def sevFields (n : Nat) : List Field :=
  (List.range 16).filterMap fun i =>
    if sevTable.any fun x => x.1 = 32 * (n / 2) + 16 * (n % 2) + i then some ((fAny (2 * i) 2).locked 1) else none

/-- FLT (R453, R459): the read-out window, offsets 0x1_0000 and up, stands apart. -/
def specFlt (o : Nat) : Option RegSpec :=
  if o < 0x10 then some (r32 (fRo 24 8 :: srcBits (o / 4)))
  else if 0x20 ≤ o && o < 0x40 then some (r32 (sevFields ((o - 0x20) / 4)))
  else
    match o with
    | 0x40 => some (r32 [fAny 8 5, (fAny 0 2).locked 1])
    | 0x44 | 0x48 | 0x50 => some (r32 [(fLive 0 16 1 65535).locked 1])
    | 0x4C => some (r32 [(fAny 31 1).locked 1, (fLive 0 16 1 65535).locked 1])
    | 0x60 => some (r32 [fRo 16 16, fRo 8 2, fRo 2 5, fRo 0 1])
    | 0x64 => some (r32 [fWo 0 16])
    | 0x68 | 0x70 | 0x74 => some (rRo 0 32)
    | 0x78 => some (rRo 0 20)
    | 0x80 => some (r32 [(fStat 4 2 0 3).locked 3, (fStat 0 2 0 1).locked 3])
    | 0x84 => some (r32 [fWo 1 1, fWo 0 1])
    | 0x90 => some (r32 [fLive 28 4 0 7, fAny 16 10])
    | 0x94 => some (r32 [fAny 0 32])
    | _ => none

/-- PWR (R491). -/
def specPwr (o : Nat) : Option RegSpec :=
  match o with
  | 0x00 => some (r32 [fRo 16 16, fRo 0 9])
  | 0x04 => some (rStatus 5)
  | 0x08 => some (r32 [(fLive 16 9 85 380).locked 2])
  | 0x0C | 0x10 => some (rRo 0 32)
  | 0x100 => some (r32 [fWo 31 1, fWo 30 1, fWo 0 10])
  | _ =>
    if 0x20 ≤ o && o < 0x30 then some (r32 [(fAny 7 1).locked 2, (fLive 4 3 0 6).locked 2, (fLive 0 3 0 6).locked 2])
    else if 0x30 ≤ o && o < 0x40 then some (r32 [fRo 16 16, fRo 8 4, fRo 4 2, fRo 0 3])
    else if 0x80 ≤ o && o < 0x100 then some (rRo 0 17)
    else none

/-- MGT (R491). -/
def specMgt (o : Nat) : Option RegSpec :=
  match o with
  | 0x00 => some (rRo 0 8)
  | 0x04 => some (rStatus 5)
  | 0x08 => some (rRo 0 32)
  | 0x0C => some (rRo 0 5)
  | 0x10 => some (rRo 0 32)
  | 0x14 => some (r32 [fRo 16 8, fRo 0 7])
  | 0x18 => some (rRo 0 16)
  | _ => none

/-- KAL (R317); the trace buffer stands at 0x1_0000 to 0x4_FFFF. -/
def specKal (o : Nat) : Option RegSpec :=
  if o < 0x100 then
    match o with
    | 0x0 => some (r32 [fAny 2 1, fAny 1 1, fWo 0 1])
    | 0x4 => some (r32 [fRo 31 1, fRo 16 13, fRo 0 14])
    | 0x8 => some (rRo 0 32)
    | _ => none
  else if o < 0x300 then
    match o % 32 with
    | 0x00 => some (r32 [fLive 12 4 0 5, fAny 0 12])
    | 0x04 => some (r32 [fAny 7 1, fAny 6 1, fAny 5 1, fAny 4 1, fAny 3 1, fAny 0 2])
    | 0x08 | 0x10 | 0x18 => some (r64 [fAny 0 64])
    | _ => none
  else if 0x10000 ≤ o && o < 0x50000 && o % 8 = 0 then some (r64 [fRo 0 64])
  else none

/-- A cell's window (R191, R233, R284). -/
def specCel (o : Nat) : Option RegSpec :=
  if o < 0x100 then
    match o with
    | 0x00 => some (rRo 0 6)
    | 0x04 => some (rStatus 10)
    | 0x08 | 0x0C => some (rStatus 16)
    | 0x10 => some (r32 [fLive 16 16 1 65535, fStat 0 11 16 1024])
    | 0x14 => some (r32 [fRo 16 11, fRo 0 9])
    | 0x18 => some (r32 [fRo 16 15, fRo 0 15])
    | 0x20 => some (r32 [fLive 30 2 0 1, fAny 0 14])
    | 0x28 | 0x40 | 0x48 | 0x50 => some (r64 [fAny 0 64])
    | 0x58 => some (r32 [fWo 0 1])
    | _ => none
  else if o < 0x180 then
    some (r32 [fShad 24 8 1 255, fShad 21 3 0 7, fShad 20 1 0 1, fStat 8 8 0 255, fStat 0 6 2 63])
  else if 0x200 ≤ o && o < 0x280 then some (r32 [fRo 31 1, fRo 0 13])
  else if 0x400 ≤ o && o < 0x600 then some (r32 [fAny 24 5, fAny 16 5, fAny 8 5, fAny 0 5])
  else if 0x1000 ≤ o && o < 0x1800 then (if o % 8 = 0 then some (r64 [fRo 0 64]) else none)
  else if 0x1800 ≤ o && o < 0x1900 then some (rRo 0 16)
  else if 0x1900 ≤ o && o < 0x1A00 then some (r32 [fRo 16 13, fRo 0 11])
  else
    match o with
    | 0x1A00 | 0x1A04 | 0x1A08 => some (rRo 0 32)
    | 0x1A0C | 0x1A14 => some (rRo 0 24)
    | 0x1A10 => some (rRo 0 19)
    | 0x2000 => some (r32 [fRo 16 4, fRo 0 9])
    | 0x2004 => some (rStatus 3)
    | 0x2040 => some (r32 [fAny 6 6, fAny 0 6])
    | 0x2048 => some (r64 [fAny 0 64])
    | _ => if 0x2010 ≤ o && o < 0x2030 then some (r32 [fRo 31 1, fRo 0 14]) else none

/-- UCT (R90). -/
def specUct (o : Nat) : Option RegSpec :=
  if o < 0x40 then some (r32 [fRo 31 1, fRo 0 27])
  else if 0x1000 ≤ o && o < 0x3000 && o % 8 = 0 then some (r64 [fRo 0 64])
  else none

/-- The register at a BAR0 offset that is a multiple of 4; the high half of a 64-bit register has none of its own (R432). -/
def regSpec (off : Nat) : Option RegSpec :=
  if off < 0x10000 then specGlb off
  else if off < 0x20000 then specAcc (off - 0x10000)
  else if off < 0x100000 then specHif (off - 0x20000)
  else if off < 0x200000 then specSch (off - 0x100000)
  else if off < 0x300000 then specMsh (off - 0x200000)
  else if off < 0x310000 then specFbp (off % 0x1000)
  else if off < 0x380000 then none
  else if off < 0x400000 then specFbn (off - 0x380000)
  else if off < 0x500000 then specMem (off - 0x400000)
  else if off < 0x600000 then specEvc (off - 0x500000)
  else if off < 0x700000 then specFlt (off - 0x600000)
  else if off < 0x800000 then specPwr (off - 0x700000)
  else if off < 0x900000 then specMgt (off - 0x800000)
  else if off < 0xA00000 then specKal (off - 0x900000)
  else if off < 0x1000000 then none
  else if off < 0x2000000 then specCel (off % 0x4000)
  else if off < 0x2003000 then specUct (off - 0x2000000)
  else none

/-- The register that covers an offset, with the offset at which it begins. -/
def regCover (off : Nat) : Option (Nat × RegSpec) :=
  match regSpec off with
  | some r => some (off, r)
  | none =>
    if off % 8 = 4 then
      match regSpec (off - 4) with
      | some r => if r.wide then some (off - 4, r) else none
      | none => none
    else none

/-! ### Masks -/

def Field.mask (f : Field) : Word := BitVec.ofNat 64 ((2 ^ f.len - 1) * 2 ^ f.lo)

/-- The bits of the fields that meet a test. -/
def RegSpec.mask (r : RegSpec) (p : Field → Bool) : Word := (r.fields.filter p).foldl (fun m f => m ||| f.mask) 0

/-- Bits of the register: all of a 64-bit one, the low half of a 32-bit one. -/
def RegSpec.width (r : RegSpec) : Word := if r.wide then BitVec.allOnes 64 else 0xFFFFFFFF

/-- Reserved bits (R418). -/
def RegSpec.reserved (r : RegSpec) : Word := r.width &&& ~~~(r.mask fun _ => true)

/-- The register holds a field that can be written (R417). -/
def RegSpec.writable (r : RegSpec) : Bool := r.fields.any fun f => f.acc ≠ .ro

/-- A status register: it holds sticky bits (R425). -/
def RegSpec.isStatus (r : RegSpec) : Bool := r.fields.any fun f => f.acc = .sc

/-- Fields whose value the register keeps. -/
def Field.kept (f : Field) : Bool := f.acc = .rw

end Sys2Proof.Machine
end

