-- ==== Sys2Proof/Machine/RegRead.lean ====
section
/-! DEFINITION. What registers read: the values that the device itself keeps, block by block, and the value of any register
(R410, R417, R418, R422, R432 to R435 and the register tables of the chapters). -/

namespace Sys2Proof.Machine

/-- Fields put together: (low bit, length, value). -/
def packFields (l : List (Nat × Nat × Nat)) : Word :=
  BitVec.ofNat 64 (l.foldl (fun n x => n + (x.2.1 |> fun len => x.2.2 % 2 ^ len) * 2 ^ x.1) 0)

/-- Blocks of the compute dies (R433). -/
def onComputeDie (off : Nat) : Bool :=
  (0x100000 ≤ off && off < 0x310000) || (0x400000 ≤ off && off < 0x500000) || (0x900000 ≤ off && off < 0xA00000) ||
  (0x1000000 ≤ off && off < 0x2000000)

/-- A mask with a bit for each number below `n` that meets a test. -/
def bitsOf (n : Nat) (p : Nat → Bool) : Nat := (List.range n).foldl (fun m i => m + b2n (p i) * 2 ^ i) 0

def sat (n top : Nat) : Nat := min n top

/-! ### Requesters (R410, R411, R435) -/

/-- The function whose view a requester has: Fober management has the physical function's (R410). -/
def reqFn (req : Requester) : GraphId := if req.toNat < 64 then req.setWidth 6 else 0

/-- The physical function, or Fober management: the whole register space. -/
def reqWhole (req : Requester) : Bool := reqFn req = 0

def accReset : AccLog := { last := 0, offset := 0, data := 0, count := 0 }

def Dev.log (d : Dev) (n : Nat) : AccLog := mget accReset d.regs.logs n

/-- The log that an offset of ACC shows: one's own, or log n (R435). -/
def logAt (req : Requester) (o : Nat) : Nat := if o < 0x10 then (reqFn req).toNat else (o - 0x100) / 16

/-! ### GLB -/

def Dev.throttled (d : Dev) : Bool := allDies.any d.isBelow

/-- GLB.STATUS (R434). -/
def Dev.glbStatus (d : Dev) : Word :=
  packFields [(6, 1, b2n d.mgt.mismatch), (5, 1, b2n d.mgt.patched), (4, 1, b2n d.vincap), (3, 1, b2n d.throttled),
    (2, 1, b2n d.flt.episode.isSome), (1, 1, b2n d.frozen), (0, 1, b2n d.mgt.ready)]

def glbId : Word := 0x1D9C7A18

def Dev.valGlb (d : Dev) (o : Nat) : Word :=
  match o with
  | 0x00 => glbId
  | 0x04 => packFields [(8, 8, Config.stepping.toNat)]
  | 0x08 => glbSerial
  | 0x10 => d.glbStatus
  | 0x14 => d.fbn.nodeId.setWidth 64
  | _ => 0

/-! ### ACC -/

def Dev.valAcc (d : Dev) (req : Requester) (o : Nat) : Word :=
  let x := d.log (logAt req o)
  (match o % 16 with
   | 0 => x.last
   | 4 => x.offset
   | 8 => x.data
   | _ => x.count).setWidth 64

/-! ### HIF -/

def Dev.valHif (d : Dev) (o : Nat) : Word :=
  if o = 0 then 0x01010101
  else if 0x10000 ≤ o && o < 0x30000 then
    let p := d.pair (BitVec.ofNat 12 ((o - 0x10000) / 32))
    match o % 32 with
    | 0x18 => packFields [(30, 1, 1)]
    | 0x1C => packFields [(16, 16, p.sqHead.toNat), (0, 16, p.cqTail.toNat)]
    | _ => 0
  else if 0x30000 ≤ o && o < 0x38000 then
    match o % 32 with
    | 0x10 => packFields [(30, 1, 1)]
    | 0x14 => (d.oring (BitVec.ofNat 10 ((o - 0x30000) / 32))).oTail.setWidth 64
    | _ => 0
  else 0

/-! ### SCH -/

/-- A cell breaks C3 or C4 of R229. -/
def Dev.breaks (d : Dev) (c : CellId) : Bool :=
  let l := d.cellGraphs c
  768 < l.foldl (fun n p => n + p.2.quota.waitcap) 0 || l.any fun p => p.2.quota.frcap < 1312

def Dev.valGraph (d : Dev) (g : GraphId) (o : Nat) : Word :=
  match d.graph g with
  | none => 0
  | some x =>
    let q := x.quota
    match o with
    | 0 => packFields [(16, 10, q.mscap / 64), (0, 10, q.msmin / 64)]
    | 4 => packFields [(16, 13, q.frcap), (11, 5, q.waitcap / 64), (0, 11, q.ctcap)]
    | 8 => packFields [(16, 6, q.waitcap)]
    | _ => packFields [(16, 16, x.lastWave), (3, 1, b2n x.stalled), (2, 1, b2n (x.complete && !x.runNoticeHeld)), (1, 1, b2n x.drained),
        (0, 1, b2n x.launched)]

def Dev.valSch (d : Dev) (o : Nat) : Word :=
  if o = 0x24 then BitVec.ofNat 64 (count d.breaks allCells)
  else if 0x1000 ≤ o then d.valGraph (BitVec.ofNat 6 ((o - 0x1000) / 16)) (o % 16)
  else 0

/-! ### MSH -/

/-- The place in the route banks that MSH.RTADDR names (R301). -/
def Dev.rtPlace (d : Dev) : Nat := d.fld rMshRtaddr 9 1 * 512 + d.fld rMshRtaddr 7 2 * 128 + d.fld rMshRtaddr 0 7

/-- The place in the slot tables that MSH.SLOTADDR names. -/
def Dev.slotOutput (d : Dev) : Nat := d.fld rSlotaddr 9 6 * 8 + d.fld rSlotaddr 6 3
def Dev.slotPlace (d : Dev) : Nat := d.slotOutput * 64 + d.fld rSlotaddr 0 6

def Dev.deadX (d : Dev) : Word :=
  packFields [(20, 1, b2n (d.fab.dead.contains .hub)),
    (12, 8, bitsOf 8 fun m => d.fab.dead.contains (.hubModule (BitVec.ofNat 3 m))),
    (4, 8, bitsOf 8 fun m => d.fab.dead.contains (.d2d (BitVec.ofNat 3 m))),
    (0, 4, bitsOf 4 fun s => d.fab.dead.contains (.hbm (BitVec.ofNat 2 s)))]

def Dev.valMsh (d : Dev) (o : Nat) : Word :=
  let asleep := fun i => match mfind d.fab.power i with
    | some .retained => true
    | _ => false
  let dead := fun (i : Nat) => d.fab.dead.contains (.crossbar (BitVec.ofNat 6 i))
  match o with
  | 0x00 => packFields [(1, 1, b2n d.fab.retiring), (0, 1, b2n d.fab.cur)]
  | 0x1C => (mget 0 d.fab.rt d.rtPlace).setWidth 64
  | 0x24 => (mget 0 d.fab.slotsNew d.slotPlace).setWidth 64
  | 0x30 => BitVec.ofNat 64 (bitsOf 32 asleep)
  | 0x34 => BitVec.ofNat 64 (bitsOf 32 fun i => asleep (32 + i))
  | 0x40 => BitVec.ofNat 64 (bitsOf 32 dead)
  | 0x44 => BitVec.ofNat 64 (bitsOf 32 fun i => dead (32 + i))
  | 0x48 => d.deadX
  | _ => 0

/-! ### FBP -/

def LinkState.code : LinkState → Nat
  | .disabled => 0
  | .detect => 1
  | .eq => 2
  | .lock => 3
  | .hello => 4
  | .active => 5
  | .retrain => 6
  | .isolated => 7

def Dev.valFbp (d : Dev) (p o : Nat) : Word :=
  if 0x080 ≤ o && o < 0x0A0 then BitVec.ofNat 64 (sat (mget 0 d.lsym (8 * p + (o - 0x80) / 4)) (2 ^ 32 - 1))
  else if 0x100 ≤ o && o < 0x180 then
    let l : LinkId := BitVec.ofNat 6 (4 * p + (o - 0x100) / 32)
    let x := d.link l
    if !d.linkExists l then 0
    else
      match o % 32 with
      | 0x00 => packFields [(28, 4, x.st.code), (26, 2, x.rate.toNat), (24, 2, x.width.toNat), (16, 8, x.lanes.toNat),
          (8, 8, x.failed.toNat), (4, 4, x.ver.toNat)]
      | 0x04 => BitVec.ofNat 64 (sat x.fecc (2 ^ 32 - 1))
      | 0x08 => BitVec.ofNat 64 (sat x.fecu (2 ^ 32 - 1))
      | 0x0C => BitVec.ofNat 64 (sat x.replayCnt (2 ^ 32 - 1))
      | _ => packFields [(16, 16, x.peerVermap.toNat)]
  else 0

/-! ### FBN -/

/-- The entry that FBN.RTADDR names: bank and node. -/
def Dev.fbnPlace (d : Dev) : Nat := d.fld rFbnRtaddr 0 17

def Dev.valFbn (d : Dev) (o : Nat) : Word :=
  match o with
  | 0x04 => packFields [(16, 8, d.fbn.slot.toNat), (3, 1, b2n d.fretiring), (2, 1, b2n d.rollBusy), (1, 1, b2n d.fbn.root),
      (0, 1, b2n d.fbn.nodeHeld)]
  | 0x14 => packFields [(15, 17, d.fbn.nodes), (0, 15, d.fbn.tk8s)]
  | 0x1C => (mget 0 d.fbn.rt d.fbnPlace).setWidth 64
  | 0x24 => packFields [(0, 1, b2n (d.fbn.isolated.contains (d.fld rIsoaddr 0 16)))]
  | _ => 0

/-! ### MEM and EVC -/

/-- MEM: in a freeze every stack is in self-refresh (R455), which read-out alone can show. -/
def Dev.valMem (d : Dev) (o : Nat) : Word :=
  if o = 0 then
    packFields [(4, 1, b2n (!d.rgnInit.isEmpty)), (0, 4, bitsOf 4 fun s => (d.stack (BitVec.ofNat 2 s)).selfRef || d.frozen)]
  else if 0x200 ≤ o && o < 0x280 then
    let s : DieId := BitVec.ofNat 2 ((o - 0x200) / 32)
    let x := d.stack s
    match o % 32 with
    | 0x00 => packFields [(16, 14, sat x.lost 16383), (0, 14, x.locks.length)]
    | 0x04 => BitVec.ofNat 64 x.waiters
    | 0x08 => BitVec.ofNat 64 (d.drtUsed s)
    | 0x0C => BitVec.ofNat 64 (count (·.overflow) x.deferred)
    | _ => BitVec.ofNat 64 (sat x.eccCnt (2 ^ 32 - 1))
  else 0

def Dev.valEvc (d : Dev) (o : Nat) : Word :=
  if o = 0x400 then packFields [(12, 8, d.mgt.pupDepth.toNat), (0, 12, d.mgt.pupPend.toNat)] else 0

/-! ### FLT -/

/-- A cell holds a set bit of CEL.ERR or CEL.EVERR of severity DEGR or above (R439). -/
def Dev.cellMarked (d : Dev) (c : CellId) : Bool :=
  let err := d.statusReg (rCelErr c.toNat)
  let ev := d.statusReg (rEverr c.toNat)
  (List.range 10).any (fun b => bit err b && 2 ≤ d.severity b) || (List.range 3).any fun b => bit ev b && 2 ≤ d.severity (14 - b)

def Dev.clMap (d : Dev) (lo : Nat) : Nat :=
  bitsOf 32 fun i => (clusterCells (BitVec.ofNat 6 (lo + i))).any d.cellMarked

/-- FLT.EPISODE. -/
def Dev.episodeReg (d : Dev) : Word :=
  let n := d.flt.eseq.toNat
  match d.flt.episode with
  | none => packFields [(16, 16, n)]
  | some e =>
    packFields [(16, 16, n), (8, 2, e.sev.toNat), (4, 3, e.stage), (3, 1, b2n e.quiesced), (2, 1, b2n e.acked), (0, 1, 1)]

def Dev.recoveryReg (d : Dev) : Word := packFields [(16, 16, d.flt.selfRst.toNat), (0, 16, d.flt.recov.toNat)]

/-- A port shows isolated: one of its links is, or it is a dead target (R309). -/
def Dev.portIso (d : Dev) (p : Nat) : Bool :=
  d.isoTarget (.port (BitVec.ofNat 4 p)) || (List.range 4).any fun k => (d.link (BitVec.ofNat 6 (4 * p + k))).st = .isolated

def Dev.valFlt (d : Dev) (o : Nat) : Word :=
  match o with
  | 0x60 => d.episodeReg
  | 0x68 => d.recoveryReg
  | 0x70 => BitVec.ofNat 64 (d.clMap 0)
  | 0x74 => BitVec.ofNat 64 (d.clMap 32)
  | 0x78 => packFields [(16, 4, bitsOf 4 fun k => d.isoUnit (.die (BitVec.ofNat 2 k))), (0, 16, bitsOf 16 d.portIso)]
  | _ => 0

/-! ### PWR and MGT -/

/-- A temperature as a register shows it. -/
def tempBits (t : Int) : Nat := (BitVec.ofInt 16 t).toNat

/-- Measured power in 0.1 W. -/
def Dev.powerReg (d : Dev) : Nat := d.inputPower / 10000

def Dev.valPwr (d : Dev) (o : Nat) : Word :=
  if 0x30 ≤ o && o < 0x40 then
    let k : DieId := BitVec.ofNat 2 ((o - 0x30) / 4)
    packFields [(16, 16, tempBits (d.tmax k)), (8, 4, d.duty k - 1), (4, 2, (d.hbmRate k).toNat), (0, 3, d.point k)]
  else if 0x80 ≤ o && o < 0x100 then
    let n := (o - 0x80) / 4
    packFields [(16, 1, b2n (bit d.pwr.fails n)), (0, 16, tempBits (d.temp n))]
  else
    match o with
    | 0x00 => packFields [(16, 16, bitsOf 16 fun p => d.pwr.shed.contains p), (8, 1, b2n d.pwr.tshut),
        (4, 4, (dieMask d.therm).toNat), (0, 4, (dieMask d.capped).toNat)]
    | 0x0C => packFields [(16, 16, d.pwr.vin.toNat), (0, 16, d.pwr.iin.toNat)]
    | 0x10 => packFields [(16, 16, d.capTenMicro / 100000), (0, 16, d.powerReg)]
    | _ => 0

/-- The I2C static address (R489). -/
def Dev.staticAddr (d : Dev) : BitVec 7 := 0x40 + (bits d.fbn.slot 0 5).setWidth 7

def Dev.fwVer (d : Dev) : Word := packFields [(16, 16, Config.romVersion.toNat), (0, 16, d.mgt.patchVer.toNat)]

def Dev.valMgt (d : Dev) (o : Nat) : Word :=
  match o with
  | 0x00 => packFields [(7, 1, b2n d.mgt.ucfgErr), (6, 1, b2n d.mgt.fclk), (5, 1, b2n d.mgt.pclk), (4, 1, b2n d.mgt.restoring),
      (0, 4, d.mgt.phase.toNat)]
  | 0x08 => d.fwVer
  | 0x0C => d.mgt.calUser.setWidth 64
  | 0x10 => d.mgt.ucfgIdx.setWidth 64
  | 0x14 => packFields [(23, 1, b2n d.mgt.da.isSome), (16, 7, (d.mgt.da.getD 0).toNat), (0, 7, d.staticAddr.toNat)]
  | 0x18 => d.mgt.stored.setWidth 64
  | _ => 0

/-! ### KAL and UCT -/

def Dev.valKal (d : Dev) (o : Nat) : Word :=
  let n := d.kal.trace.length
  if o = 4 then packFields [(31, 1, b2n (n = traceRecords)), (16, 13, d.kal.next), (0, 14, n)]
  else if o = 8 then d.kal.lost.setWidth 64
  else if 0x10000 ≤ o then (d.kal.trace.getD ((o - 0x10000) / 32) []).getD (o % 32 / 8) 0
  else 0

def Dev.valUct (d : Dev) (o : Nat) : Word :=
  if o < 0x40 then (mget 0 d.uct.entries (o / 4)).setWidth 64 else mget 0 d.uct.uwords ((o - 0x1000) / 8)

/-! ### CEL -/

def Cell.setp (x : Cell) : Bool := x.store.setp0 || x.store.setp1

/-- The cell is in the mask of a loaded graph. -/
def Dev.inUse (d : Dev) (c : CellId) : Bool := d.graphs.any fun p => p.2.has c

def Dev.celStatus (d : Dev) (c : CellId) : Word :=
  let x := d.cell c
  packFields [(5, 1, b2n x.resetting), (4, 1, b2n x.idle), (3, 1, b2n x.setp), (2, 1, b2n x.isolated), (1, 1, b2n x.asleep),
    (0, 1, b2n (d.inUse c))]

/-- The word that CEL.ACCADDR names (R192). -/
def Dev.accWord (d : Dev) (c : CellId) : Word :=
  let a := d.reg (rAccaddr c.toNat)
  if nbits a 30 2 = 0 then mget 0 (d.cell c).store.im (nbits a 0 14) else mget 0 (d.cell c).store.fo (nbits a 0 14)

/-- The event-table entry that CEL.EVTADDR names (R285). -/
def Dev.evtGraph (d : Dev) (c : CellId) : GraphId := BitVec.ofNat 6 (d.fld (rEvtaddr c.toNat) 6 6)
def Dev.evtSource (d : Dev) (c : CellId) : Nat := d.fld (rEvtaddr c.toNat) 0 6
def Dev.evtWord (d : Dev) (c : CellId) : Word :=
  let g := d.evtGraph c
  let s := d.evtSource c
  if !d.loaded g || (23 ≤ s && s ≤ 31) then 0 else (d.cell c).entry g s

/-- The census and quota part of a cell's window (R233). -/
def Dev.valCensus (d : Dev) (c : CellId) (o : Nat) : Word :=
  let x := d.cell c
  if o < 0x1800 then
    let n := x.census (BitVec.ofNat 6 ((o - 0x1000) / 32))
    match o % 32 with
    | 0x00 => n.cr0
    | 0x08 => n.cr1
    | 0x10 => n.cn0
    | _ => n.cn1
  else if o < 0x1900 then BitVec.ofNat 64 (x.store.usage (BitVec.ofNat 6 ((o - 0x1800) / 4)))
  else if o < 0x1A00 then
    let g : GraphId := BitVec.ofNat 6 ((o - 0x1900) / 4)
    packFields [(16, 13, count (fun k => keyGraph k = g) x.store.inUse), (0, 11, (x.entriesOf g).length)]
  else
    match o with
    | 0x1A00 => BitVec.ofNat 64 (bitsOf 32 fun i => d.colour c (BitVec.ofNat 6 i))
    | 0x1A04 => BitVec.ofNat 64 (bitsOf 32 fun i => d.colour c (BitVec.ofNat 6 (32 + i)))
    | 0x1A08 => packFields [(16, 16, d.poolSize c), (0, 16, d.poolFree c)]
    | 0x1A0C => BitVec.ofNat 64 x.store.recordsUsed
    | 0x1A10 => BitVec.ofNat 64 x.store.spilled.length
    | _ => BitVec.ofNat 64 (count (fun r => match r.body with | .parked _ => true | _ => false) x.store.ring)

def Dev.valCel (d : Dev) (c : CellId) (o : Nat) : Word :=
  let x := d.cell c
  if 0x200 ≤ o && o < 0x280 then
    let q := (o - 0x200) / 4
    packFields [(31, 1, b2n (d.qFull c q)), (0, 13, (x.pipe.queue q).length)]
  else if 0x1000 ≤ o && o < 0x2000 then d.valCensus c o
  else if 0x2010 ≤ o && o < 0x2030 then
    match x.ev.stack[(o - 0x2010) / 4]? with
    | none => 0
    | some l => packFields [(31, 1, 1), (8, 6, l.graph.toNat), (0, 8, l.pri.toNat)]
  else
    match o with
    | 0x00 => d.celStatus c
    | 0x14 => packFields [(16, 11, x.pipe.ct.length), (0, 9, x.pipe.rdy.length + x.pipe.rdyH.length)]
    | 0x18 => packFields [(16, 15, count (·.bank) x.store.ms), (0, 15, count (fun e => !e.bank) x.store.ms)]
    | 0x28 => d.accWord c
    | 0x2000 => packFields [(16, 4, x.ev.stack.length), (0, 9, x.ev.recs.length)]
    | 0x2048 => d.evtWord c
    | _ => 0

/-! ### Any register -/

/-- The cell of an offset in CEL. -/
def offCell (off : Nat) : CellId := BitVec.ofNat 10 ((off - 0x1000000) / 0x4000)

/-- What the device itself keeps in the register at an offset: fields no write sets, and windows. -/
def Dev.ownVal (d : Dev) (req : Requester) (off : Nat) : Word :=
  if off < 0x10000 then d.valGlb off
  else if off < 0x20000 then d.valAcc req (off - 0x10000)
  else if off < 0x100000 then d.valHif (off - 0x20000)
  else if off < 0x200000 then d.valSch (off - 0x100000)
  else if off < 0x300000 then d.valMsh (off - 0x200000)
  else if off < 0x380000 then d.valFbp ((off - 0x300000) / 0x1000) (off % 0x1000)
  else if off < 0x400000 then d.valFbn (off - 0x380000)
  else if off < 0x500000 then d.valMem (off - 0x400000)
  else if off < 0x600000 then d.valEvc (off - 0x500000)
  else if off < 0x700000 then d.valFlt (off - 0x600000)
  else if off < 0x800000 then d.valPwr (off - 0x700000)
  else if off < 0x900000 then d.valMgt (off - 0x800000)
  else if off < 0x1000000 then d.valKal (off - 0x900000)
  else if off < 0x2000000 then d.valCel (offCell off) (off % 0x4000)
  else d.valUct (off - 0x2000000)

/-- Registers whose every bit the device keeps elsewhere: they are windows on a table, or set by other means too. -/
def isWindow (off : Nat) : Bool :=
  (off < 0x10000 && off = 0x14) || (0x10000 ≤ off && off < 0x20000) ||
  [0x20001C, 0x200024, 0x38001C, 0x380024].contains off ||
  (0x1000000 ≤ off && off < 0x2000000 && [0x28, 0x2048].contains (off % 0x4000))

/-- The key of a register among the stored ones: HIF.FNCFG and HIF.MSIMOD of each function stand apart (R410). -/
def regKey (fn : GraphId) (off : Nat) : Nat :=
  if off = 0x20008 || (0x20100 ≤ off && off < 0x20180) then off + fn.toNat * 2 ^ 32 else off

/-- Reserved bits of a register: those that the test access port has set as test controls (R418). -/
def Dev.testBits (d : Dev) (off : Nat) (r : RegSpec) : Word := mget 0 d.tap.rtest off &&& r.reserved

/-- The value of a register: its stored fields as last written, the rest from the device (R417, R418, R422). -/
def Dev.regVal (d : Dev) (req : Requester) (off : Nat) (r : RegSpec) : Word :=
  if r.isStatus then (d.statusReg off).setWidth 64 ||| d.testBits off r
  else if isWindow off then d.ownVal req off
  else
    let key := regKey (reqFn req) off
    let stored := (mfind d.regs.staged key).getD (d.reg key)
    (stored &&& r.mask Field.kept) ||| (d.ownVal req off &&& r.mask fun f => f.acc = .ro) ||| d.testBits off r

end Sys2Proof.Machine
end

