-- ==== Sys2Proof/Machine/ReadOut.lean ====
section
/-! DEFINITION. Read-out of a frozen module: the spaces of FLT.ROSEL (R459, R460). -/

namespace Sys2Proof.Machine

/-- Bytes of a unit of a space; none: no such space or unit. `tap`: the test access port asks, which also reaches the hub
(R459, R461). -/
def spaceBytes (space unit : Nat) (tap : Bool) : Option Nat :=
  match space with
  | 0 => if unit < 64 then some 262144 else if unit < 68 then some 1048576 else if unit = 68 && tap then some 524288 else none
  | 1 => some 1052672
  | 2 => some 131072
  | 3 => some 32768
  | 4 => some 262144
  | 5 => some 131072
  | 6 => some 131072
  | 7 => some 67108864
  | _ => none

/-- Entry n of a matching store: ways by bank, set and way, then the overflow buffers in order of entry (log 33). -/
def CellStore.msAt (s : CellStore) (n : Nat) : Option MsEntry :=
  if n < 32768 then
    s.ms.find? fun e => match e.way with
      | some w => b2n e.bank * 16384 + e.set.toNat * 8 + w.toNat = n
      | none => false
  else (s.overflow (32768 + 64 ≤ n))[(n - 32768) % 64]?

def CellStore.msWord (s : CellStore) (w : Nat) : Word :=
  match s.msAt (w / 4) with
  | none => 0
  | some e =>
    tokenWord e.tok (packFields [(63, 1, 1), (62, 1, b2n e.const), (61, 1, b2n e.sticky), (45, 16, e.stamp.toNat)]) (w % 4)

/-- The frame table: bound records in ascending graph and frame number (log 33). -/
def CellStore.frameWord (s : CellStore) (w : Nat) : Word :=
  match s.frames[w / 8]? with
  | none => 0
  | some (k, r) => BitVec.ofNat 64 (frameBits k r / 2 ^ (64 * (w % 8)))

/-- Places of the queue buffer in use: token, queue, HELD and age in core cycles; queue by queue, then the held ones. -/
def Dev.queuePlaces (d : Dev) (c : CellId) : List (Token × Nat × Bool × Nat) :=
  let p := (d.cell c).pipe
  (p.qs.flatMap fun q => q.2.map fun t => (t.tok, q.1, false, d.coreNow c - t.since)) ++
  p.held.map fun h => (h.tok, d.queueOf c h.tok, true, (d.clock.run - h.since) * d.mhz (cellDie c) / 1000)

def Dev.queueWord (d : Dev) (c : CellId) (w : Nat) : Word :=
  match (d.queuePlaces c)[w / 4]? with
  | none => 0
  | some (t, q, held, age) =>
    tokenWord t (packFields [(63, 1, 1), (58, 5, q), (57, 1, b2n held), (33, 24, sat age (2 ^ 24 - 1))]) (w % 4)

def opndWord (o : Option Opnd) (i : Nat) : Word :=
  match o with
  | none => 0
  | some x => tokenWord x.tok 0 i

/-- The continuation table. -/
def CellPipe.ctWord (p : CellPipe) (w : Nat) : Word :=
  match mfind p.ct (w / 16) with
  | none => 0
  | some n =>
    let i := w % 16
    if i < 3 then opndWord n.act.left i
    else if i < 6 then opndWord n.act.right (i - 3)
    else if i = 6 then n.word
    else if i = 7 then packFields [(63, 1, 1), (62, 1, b2n n.acked), (48, 14, n.act.instr.toNat)]
    else 0

/-- Space 7: a pair of 4-byte units of BAR0. -/
def Dev.barUnit (d : Dev) (off : Nat) : Nat :=
  if !onComputeDie off then 0
  else
    match regCover off with
    | none => 0
    | some (o, r) => ((d.regVal 0 o r).toNat >>> (8 * (off - o))) % 2 ^ 32

/-- Word `w` of a unit of a space. -/
def Dev.spaceWord (d : Dev) (space unit w : Nat) : Word :=
  let c : CellId := BitVec.ofNat 10 unit
  let s := (d.cell c).store
  match space with
  | 1 => s.msWord w
  | 2 => mget 0 s.im w
  | 3 => mget 0 s.fo w
  | 4 => s.frameWord w
  | 5 => d.queueWord c w
  | 6 => (d.cell c).pipe.ctWord w
  | _ => BitVec.ofNat 64 (d.barUnit (8 * w) + 2 ^ 32 * d.barUnit (8 * w + 4))

/-- A byte of a unit of a space. -/
def Dev.spaceByte (d : Dev) (space unit o : Nat) (tap : Bool) : Byte :=
  match spaceBytes space unit tap with
  | none => Config.scanByte (1024 * space + unit) o d.clock.run
  | some n =>
    if space = 0 || n ≤ o then Config.scanByte (1024 * space + unit) o d.clock.run
    else bits (d.spaceWord space unit (o / 8)) (8 * (o % 8)) 8

/-- FLT.ROSEL and FLT.ROBASE as a selection: space, unit, base. -/
def Dev.roSel (d : Dev) : Nat × Nat × Nat := (d.fld rRosel 28 4, d.fld rRosel 16 10, d.fld rRobase 0 32)

/-- A 4-byte unit of the read-out window (R460). -/
def Dev.windowUnit (d : Dev) (o : Nat) : Nat :=
  let (space, unit, base) := d.roSel
  leNat (fun i => d.spaceByte space unit i false) (base + o) 4

end Sys2Proof.Machine
end

