-- ==== Sys2Proof/Machine/Resets.lean ====
section
/-! DEFINITION. The end of a freeze, and the resets of the host interface: Function Level Reset, PERST_N, hot reset and the
clearing of VF Enable (R263, R388, R408, R431, R457, R458). -/

namespace Sys2Proof.Machine

/-! ### Places -/

/-- The ring whose registers an offset of HIF belongs to. -/
def offRing (off : Nat) : Option RingName :=
  if 0x30000 ≤ off && off < 0x50000 then some (.pair (BitVec.ofNat 12 ((off - 0x30000) / 32)))
  else if 0x50000 ≤ off && off < 0x58000 then some (.output (BitVec.ofNat 10 ((off - 0x50000) / 32)))
  else none

/-- The function that a ring is assigned to. -/
def Dev.ringFn (d : Dev) (ring : RingName) : GraphId :=
  match ring with
  | .pair r => d.pairFn r
  | .output o => d.oringFn o.toNat

/-! ### A function's host interface -/

/-- The key of a register of a function: its rings', or HIF.FNCFG and HIF.MSIMOD of its own. -/
def Dev.fnKey (d : Dev) (fn : GraphId) (key : Nat) : Bool :=
  let off := key % 2 ^ 32
  match offRing off with
  | some ring => d.ringFn ring = fn
  | none => (off = 0x20008 || (0x20100 ≤ off && off < 0x20180)) && key / 2 ^ 32 = fn.toNat

/-- The log, write stage and read latch of a requester at reset values (R431). -/
def Dev.resetLog (d : Dev) (n : Nat) : Dev :=
  { d with regs := { d.regs with
      logs := merase d.regs.logs n, stage := merase d.regs.stage n, latch := merase d.regs.latch n } }

/-- A function's rings, HIF.FNCFG, vectors and configuration reset, its descriptors end without completion, its log is empty; assignments
stay (R408, R431). -/
def Dev.resetFn (d : Dev) (fn : GraphId) : Dev :=
  { (d.resetLog fn.toNat) with
    regs := { (d.resetLog fn.toNat).regs with
      cfg := d.regs.cfg.filter fun x => !d.fnKey fn x.1
      staged := d.regs.staged.filter fun x => !d.fnKey fn x.1 }
    hif := { d.hif with
      pairs := d.hif.pairs.filter fun x => d.pairFn (BitVec.ofNat 12 x.1) ≠ fn
      orings := d.hif.orings.filter fun x => d.oringFn x.1 ≠ fn
      vectors := d.hif.vectors.filter fun x => x.1 / 32 ≠ fn.toNat
      wake := d.hif.wake.erase fn
      polled := merase d.hif.polled fn.toNat
      pci := merase d.hif.pci fn.toNat
      vfEn := d.hif.vfEn && fn ≠ 0
      numVfs := if fn = 0 then 0 else d.hif.numVfs
      hostReqs := d.hif.hostReqs.filter fun r => d.owner r.graph ≠ fn } }

/-- PERST_N: as for every function; every assignment returns to the physical function, and requester 64 has a fresh log. -/
def Dev.resetHost (d : Dev) : Dev :=
  let d := (List.range 64).foldl (fun d n => d.resetFn (BitVec.ofNat 6 n)) d
  { (d.resetLog 64) with hif := { d.hif with pairFn := [], oringFn := [], cellFn := [], window := [], tlps := [] } }

/-! ### A function's graphs and locks -/

/-- A graph is aborted and unloaded without a notice. -/
def Dev.endGraph (d : Dev) (g : GraphId) : Dev :=
  (d.modGraph g fun x => { x with running := false, notices := [] }).unloadGraph g none

/-- A function's graphs are unloaded, its lock requests dropped and its locks abandoned (R263, R408). -/
def Dev.endFn (d : Dev) (fn : GraphId) : Dev :=
  let mine := (d.graphs.filter fun x => x.2.owner = fn).map fun x => BitVec.ofNat 6 x.1
  let d := mine.foldl (fun d g => d.endGraph g) d
  let keep := fun (r : MemReq) => match r.src with
    | .desc _ f _ => f ≠ fn
    | _ => true
  (allDies.foldl (fun d k => d.modStack k fun x => { x with reqs := x.reqs.filter keep }) d).abandon (Owner.ofFn fn)

def Dev.endAll (d : Dev) : Dev := (List.range 64).foldl (fun d n => d.endFn (BitVec.ofNat 6 n)) d

/-! ### Resets, now or at resume (R457) -/

/-- The part of a reset on the host interface, and the part on the compute dies. `fn` none: PERST_N. -/
def Dev.hostPart (d : Dev) (fn : Option GraphId) : Dev :=
  match fn with
  | none => d.resetHost
  | some fn => d.resetFn fn

def Dev.diePart (d : Dev) (fn : Option GraphId) : Dev :=
  match fn with
  | none => d.endAll
  | some fn => d.endFn fn

/-- Resets of the host interface by one event: those in force now. In a freeze their effects on the dies wait for resume; so do
those on the host interface when the hub stands still. A freeze that they cause puts none of them off. -/
def Dev.fnResets (d : Dev) (l : List (Option GraphId)) : Dev :=
  if d.pwr.off then d
  else if !d.frozen then l.foldl (fun d fn => (d.hostPart fn).diePart fn) d
  else
    let d' := if d.hubRuns then l.foldl Dev.hostPart d else d
    { d' with flt := { d'.flt with
        resetAtResume := d'.flt.resetAtResume ++ l.map fun fn => { fn := fn, host := !d.hubRuns } } }

/-- The end of a freeze: resets put off come first, then links replay (R344, R457, R458). `was`: it was frozen before. -/
def Dev.thaw (was : Bool) (d : Dev) : Dev :=
  if was && !d.frozen then
    let l := d.flt.resetAtResume
    let d := { d with flt := { d.flt with resetAtResume := [] } }
    (l.foldl (fun d x => (if x.host then d.hostPart x.fn else d).diePart x.fn) d).resumeLinks
  else d

/-- FUNCTION_LEVEL_RESET: of the physical function, it resets every function, since its virtual functions cease. -/
def functionReset (fn : GraphId) (d : Dev) : Dev :=
  d.fnResets (if fn = 0 then (List.range 64).map fun n => some (BitVec.ofNat 6 n) else [some fn])

/-- PERST_N. -/
def perst (d : Dev) : Dev := d.fnResets [none]

/-- HOT_RESET: every function is reset; assignments stay (R388 names no hot reset). -/
def hotReset (d : Dev) : Dev := functionReset 0 d

/-- VF_ENABLE_CLEAR: the virtual functions that cease, and the physical function (R408). -/
def vfClear (fns : List GraphId) (d : Dev) : Dev :=
  { d with hif := { d.hif with vfEn := false } }.fnResets (some 0 :: (fns.filter fun fn => fn ≠ 0).map some)

/-! ### Freeze pins and clocks (R454, R458, R473) -/

/-- FREEZE_N_LOW: ignored until READY. -/
def freezeLow (d : Dev) : Dev := if d.mgt.ready then { d with flt := { d.flt with freezePinLow := true } } else d

/-- FREEZE_N_HIGH. -/
def freezeHigh (d : Dev) : Dev := Dev.thaw d.frozen { d with flt := { d.flt with freezePinLow := false } }

/-- PCLK_LOSS: after READY the clock-loss latch sets; PCLK_OK clears. -/
def pclkLoss (d : Dev) : Dev :=
  { d with mgt := { d.mgt with pclk := false }, flt := { d.flt with clockLatch := d.flt.clockLatch || d.mgt.ready } }

/-- PCLK_RESTORED: PCLK has been stable for 1 ms. -/
def pclkRestored (d : Dev) : Dev :=
  Dev.thaw d.frozen { d with mgt := { d.mgt with pclk := true }, flt := { d.flt with clockLatch := false } }

/-- FCLK_LOSS: every link that is not DISABLED goes to DETECT; in a freeze the links stand still, and FCLK_OK alone clears. -/
def fclkLoss (d : Dev) : Dev :=
  let d := { d with mgt := { d.mgt with fclk := false } }
  if d.diesStop then d
  else allLinks.foldl (fun d l => if (d.link l).st = .disabled || (d.link l).st = .isolated then d else d.linkTo l .detect) d

/-- FCLK_RESTORED: links restart from DETECT, where they stand. -/
def fclkRestored (d : Dev) : Dev := { d with mgt := { d.mgt with fclk := true } }

/-! ### The commands -/

/-- FUNCTION_LEVEL_RESET. -/
def execFunctionLevelReset (fn : GraphId) (s : State) : Host.Outcome State Fault Refusal :=
  onAlways (functionReset fn) s

/-- PERST_N. -/
def execPerstN (s : State) : Host.Outcome State Fault Refusal :=
  onAlways perst s

/-- HOT_RESET. -/
def execHotReset (s : State) : Host.Outcome State Fault Refusal :=
  onAlways hotReset s

/-- VF_ENABLE_CLEAR. -/
def execVfEnableClear (fns : List GraphId) (s : State) : Host.Outcome State Fault Refusal :=
  onAlways (vfClear fns) s

/-- FREEZE_N_LOW. -/
def execFreezeNLow (s : State) : Host.Outcome State Fault Refusal :=
  onAlways freezeLow s

/-- PCLK_LOSS. -/
def execPclkLoss (s : State) : Host.Outcome State Fault Refusal :=
  onAlways pclkLoss s

/-- FCLK_LOSS. -/
def execFclkLoss (s : State) : Host.Outcome State Fault Refusal :=
  onAlways fclkLoss s

/-- FCLK_RESTORED. -/
def execFclkRestored (s : State) : Host.Outcome State Fault Refusal :=
  onAlways fclkRestored s

end Sys2Proof.Machine
end

