-- ==== Sys2Proof/Machine/RegCheck.lean ====
section
/-! DEFINITION. What refuses a register write: the checks of R5 from NO_ACCESS on, each block's legal values, idle conditions and
other refusals (R410, R417 to R423, R426, R427, R430 and the register tables of the chapters). -/

namespace Sys2Proof.Machine

/-! ### Places -/

/-- Block of GLB.STATMODE that an offset belongs to (R434). -/
def statBlock (off : Nat) : Nat :=
  if off < 0x100000 then 0
  else if off < 0x200000 then 1
  else if off < 0x300000 then 2
  else if off < 0x380000 then 3
  else if off < 0x400000 then 4
  else if off < 0x500000 then 5
  else if off < 0x700000 then 6
  else if off < 0x800000 then 7
  else if off < 0x900000 then 8
  else 9

/-- A status register in clear-on-read mode (R427, R428). -/
def Dev.clearsOnRead (d : Dev) (off : Nat) (r : RegSpec) : Bool := r.isStatus && d.fld rStatmode (statBlock off) 1 = 1

/-- The port of an offset in FBP. -/
def offPort (off : Nat) : Nat := (off - 0x300000) / 0x1000

def Dev.ringEn (d : Dev) (ring : RingName) : Bool :=
  match ring with
  | .pair r => d.pairEn r
  | .output o => d.oringEn o

/-! ### Views (R386, R410) -/

/-- A register that a requester does not see: a virtual function sees its own ACC and HIF, and each function its own rings. -/
def Dev.hidden (d : Dev) (req : Requester) (off : Nat) : Bool :=
  (!reqWhole req && !(0x10000 ≤ off && off < 0x10010) && !(0x20000 ≤ off && off < 0x100000)) ||
  (match offRing off with
    | none => false
    | some ring => d.ringFn ring ≠ reqFn req)

/-- Writes that the requester may not make, or that the register does not take (NO_ACCESS). -/
def Dev.noAccess (d : Dev) (req : Requester) (off : Nat) (r : RegSpec) (v : Word) : Bool :=
  d.hidden req off || !r.writable || (d.clearsOnRead off r && v &&& r.mask (fun f => f.acc = .sc) ≠ 0) ||
  ((off = rRollctl || off = rFlipctl) && bit v 0 && !d.fbn.root)

/-! ### Lock bits and write-once (R420, R421) -/

/-- Bits of a register's kept fields that a write would change. -/
def Dev.changes (d : Dev) (req : Requester) (off : Nat) (r : RegSpec) (v : Word) : Word :=
  (v ^^^ d.regVal req off r) &&& r.mask Field.kept

def Field.guarded (d : Dev) (f : Field) : Bool :=
  match f.lock with
  | none => false
  | some b => d.fld rLock b 1 = 1

def Dev.isLocked (d : Dev) (req : Requester) (off : Nat) (r : RegSpec) (v : Word) : Bool :=
  d.changes req off r v &&& r.mask (Field.guarded d) ≠ 0 || (off = rNodeId && d.fbn.nodeHeld)

/-! ### Values outside the legal set (R419) -/

/-- A field's value lies outside its range. -/
def Field.bad (f : Field) (v : Word) : Bool :=
  f.acc ≠ .ro && f.acc ≠ .sc && (nbits v f.lo f.len < f.min || f.max < nbits v f.lo f.len)

/-- EN = 1 with a base address of 0, or a doorbell address of 0 in host-memory mode (R410). -/
def Dev.badEnable (d : Dev) (ring : RingName) (v : Word) : Bool :=
  bit v 31 &&
  (match ring with
    | .pair r => d.reg (rSqbase r.toNat) = 0 || d.reg (rCqbase r.toNat) = 0 ||
        (d.dbMode (d.pairFn r) && d.reg (rDbaddr r.toNat) = 0)
    | .output o => d.reg (rObase o.toNat) = 0 || (d.dbMode (d.oringFn o.toNat) && d.reg (rOdbaddr o.toNat) = 0))

/-- RCFG of a pair or OCFG of an output ring. -/
def isRingCfg (off : Nat) : Bool :=
  match offRing off with
  | some (.pair _) => off % 32 = 0x18
  | some (.output _) => off % 32 = 0x10
  | none => false

def Dev.badHif (d : Dev) (off : Nat) (v : Word) : Bool :=
  isRingCfg off &&
  (match offRing off with
    | none => false
    | some ring => d.badEnable ring v)

def badSch (off : Nat) (v : Word) : Bool :=
  (off = rRetry && nbits v 16 16 < nbits v 0 16) || (off = rMswm && nbits v 16 16 < nbits v 0 16 + 64)

/-- A mesh route entry: no reserved bit, no ORDER 3, LINKS toward another die (R301, R316). -/
def Dev.badRoute (d : Dev) (v : Word) : Bool :=
  let away := match tgtDie (BitVec.ofNat 7 (d.fld rMshRtaddr 0 7)) with
    | none => false
    | some k => k.toNat ≠ d.fld rMshRtaddr 7 2
  nbits v 12 3 ≠ 0 || nbits v 0 5 ≠ 0 || nbits v 5 2 = 3 || (bit v 15 && nbits v 8 4 = 0 && away)

/-- Reserved slots of the output that MSH.SLOTADDR names, with one slot given a value (R297). -/
def Dev.slotsReserved (d : Dev) (v : Word) : Nat :=
  let new := mset 0 d.fab.slotsNew d.slotPlace (v.setWidth 8)
  count (fun x => x.1 / 64 = d.slotOutput && bit x.2 7) new

def Dev.badMsh (d : Dev) (off : Nat) (v : Word) : Bool :=
  (off = rMshRtdata && d.badRoute v) || (off = rSlotdata && 48 < d.slotsReserved v)

def badFbp (off : Nat) (v : Word) : Bool := 0x40 ≤ off % 0x1000 && off % 0x1000 < 0x60 && 63 < tapSum v

def badFbn (off : Nat) (v : Word) : Bool :=
  (off = rRollcfg && nbits v 16 16 < nbits v 0 16) || (off = rFbnRtdata && nbits v 6 2 ≠ 0)

/-- A region entry: KIND, BASE and SIZE in range; a valid one is not empty, lies in one stack and overlaps no other (R242). -/
def Dev.badRgn (d : Dev) (n : Nat) (v : Word) : Bool :=
  let base := nbits v 0 11
  let size := nbits v 16 11
  nbits v 28 2 = 3 || 1535 < base || 384 < size ||
  (bit v 31 &&
    (size = 0 || base / 384 ≠ (base + size - 1) / 384 ||
      (List.range 16).any fun m =>
        let w := d.reg (rRgn m)
        m ≠ n && bit w 31 && overlap base size (nbits w 0 11) (nbits w 16 11)))

def Dev.badMem (d : Dev) (off : Nat) (v : Word) : Bool :=
  rRgn 0 ≤ off && off < rRgn 16 && d.badRgn ((off - rRgn 0) / 4) v

/-- A timer that breaks SPINT1 < SPINT2 < SPINT3 (R453). -/
def Dev.badTimer (d : Dev) (off : Nat) (v : Word) : Bool :=
  let t := fun (n : Nat) => if off = rSpint n then nbits v 0 16 else d.fld (rSpint n) 0 16
  (off = rSpint 1 || off = rSpint 2 || off = rSpint 3) && !(t 1 < t 2 && t 2 < t 3)

/-- A selection for read-out that names nothing (R459). -/
def Dev.badSelect (d : Dev) (off : Nat) (v : Word) : Bool :=
  if off = rRosel then (spaceBytes (nbits v 28 4) (nbits v 16 10) false).isNone
  else if off = rRobase then
    match spaceBytes d.roSel.1 d.roSel.2.1 false with
    | none => true
    | some n => nbits v 0 16 ≠ 0 || n ≤ nbits v 0 32
  else false

def Dev.badFlt (d : Dev) (off : Nat) (v : Word) : Bool :=
  d.badTimer off v || d.badSelect off v || (off = rFrzcfg && nbits v 4 2 = 1) || (off = rFrzctl && nbits v 0 2 = 3)

def badPwr (off : Nat) (v : Word) : Bool := off = rUnitrst && bit v 30 && nbits v 6 4 ≠ 0

/-- A point that its type of probe has (R313). -/
def pointOk (ptype point : Nat) : Bool :=
  match ptype with
  | 1 => point < 512 && point % 8 ≤ 4
  | 2 => point % 2048 < 16
  | 3 => point % 2048 < 16
  | 4 => point < 6
  | 5 => point < 1024
  | _ => true

def badKal (off : Nat) (v : Word) : Bool :=
  0x900100 ≤ off && off < 0x900300 && off % 32 = 0 && !pointOk (nbits v 12 4) (nbits v 0 12)

/-- The reserves of a cell's queues in units of 16 tokens, with queue q given another. -/
def Dev.reserves (d : Dev) (c : CellId) (q res : Nat) : Nat :=
  (List.range 32).foldl (fun n i => n + if i = q then res else d.fld (rQcfg c.toNat i) 0 6) 0

def Dev.badQcfg (d : Dev) (c : CellId) (q : Nat) (v : Word) : Bool :=
  let cap := nbits v 8 8
  let res := nbits v 0 6
  cap = 1 || (cap ≠ 0 && cap < res) || 256 < d.reserves c q res

/-- The token in CEL.INJ0 to CEL.INJ2. -/
def Dev.injToken (d : Dev) (c : CellId) : Token :=
  { w0 := d.reg (rInj c.toNat 0), w1 := d.reg (rInj c.toNat 1), w2 := d.reg (rInj c.toNat 2) : Token }.plainSeq

/-- An event-table entry that R285 refuses. -/
def Dev.badEntry (d : Dev) (c : CellId) (v : Word) : Bool :=
  let s := d.evtSource c
  match d.graph (d.evtGraph c) with
  | none => true
  | some x =>
    let to_ := if evTgtv v then evTgt v else c
    (23 ≤ s && s ≤ 31) || nbits v 29 13 ≠ 0 || (s = srcLockGrant && !evEn v) || (evTgtv v && !x.has (evTgt v)) ||
      (evEn v && !x.inRange to_ (evHinstr v))

def Dev.badCel (d : Dev) (off : Nat) (v : Word) : Bool :=
  let c := offCell off
  let o := off % 0x4000
  if 0x100 ≤ o && o < 0x180 then d.badQcfg c ((o - 0x100) / 4) v
  else
    match o with
    | 0x10 => d.qPool c < nbits v 0 11
    | 0x20 => nbits v 30 2 = 1 && 4095 < nbits v 0 14
    | 0x58 => bit v 0 && ((d.injToken c).node ≠ d.fbn.nodeId || (d.injToken c).cell ≠ c)
    | 0x2048 => d.badEntry c v
    | _ => false

/-- A value outside the legal set (BAD_VALUE). -/
def Dev.badValue (d : Dev) (off : Nat) (r : RegSpec) (v : Word) : Bool :=
  (r.fields.any fun f => f.bad v) ||
  (if off < 0x100000 then d.badHif off v
   else if off < 0x200000 then badSch off v
   else if off < 0x300000 then d.badMsh off v
   else if off < 0x380000 then badFbp off v
   else if off < 0x400000 then badFbn off v
   else if off < 0x500000 then d.badMem off v
   else if off < 0x600000 then false
   else if off < 0x700000 then d.badFlt off v
   else if off < 0x800000 then badPwr off v
   else if off < 0x900000 then false
   else if off < 0x1000000 then badKal off v
   else if off < 0x2000000 then d.badCel off v
   else false)

/-! ### Blocks that are not idle (R422, R423) -/

/-- The queue buffer of a cell is empty. -/
def Cell.bufferEmpty (x : Cell) : Bool := x.pipe.held.isEmpty && x.pipe.qs.all fun q => q.2.isEmpty

/-- The function has a ring enabled. -/
def Dev.anyRing (d : Dev) (fn : GraphId) : Bool := !(d.doorbellRings fn).isEmpty

/-- A lock is held on some lock unit. -/
def Dev.anyLock (d : Dev) : Bool := allDies.any fun k => (d.stack k).locks.any fun e => e.owner.isSome

/-- The block is idle for the STATIC fields of a register. -/
def Dev.blockIdle (d : Dev) (req : Requester) (off : Nat) : Bool :=
  if off < 0x100000 then
    match offRing off with
    | some ring => !d.ringEn ring
    | none => !d.anyRing (reqFn req)
  else if off < 0x200000 then d.graphs.isEmpty
  else if off < 0x300000 then true
  else if off < 0x380000 then (d.liveLinks (BitVec.ofNat 4 (offPort off))).isEmpty
  else if off < 0x400000 then d.graphs.isEmpty && !d.rollBusy
  else if off < 0x500000 then d.graphs.isEmpty && !d.anyLock
  else if off < 0x700000 then !d.frozen
  else if off < 0x1000000 then true
  else !d.inUse (offCell off) && (d.cell (offCell off)).bufferEmpty

/-! ### Other grounds for BUSY -/

/-- A ring is idle (R392). -/
def Dev.ringIdle (d : Dev) (ring : RingName) : Bool :=
  match ring with
  | .pair r =>
    d.pairIdle r
  | .output o => !d.outWaits o

/-- A unit that PWR.UNITRST names. -/
def resetUnit (v : Word) : DevUnit := if bit v 30 then .cluster (bits v 0 6) else .cell (bits v 0 10)

/-- A cell of a unit is in the mask of a loaded graph that is not held under reset (R476). -/
def Dev.unitUsed (d : Dev) (u : DevUnit) : Bool := d.graphs.any fun x => !x.2.held && x.2.touches u

/-- A bank of routes that must not be written: the one in force, or either while RETIRING is 1 (R303, R357). -/
def Dev.bankBusy (d : Dev) (bank : Bool) : Bool := d.fab.retiring || bank = d.fab.cur

def Dev.otherBusy (d : Dev) (off : Nat) (v : Word) : Bool :=
  if off < 0x20000 then off = rNodeId && !d.graphs.isEmpty
  else if off < 0x100000 then
    isRingCfg off && !bit v 31 &&
    (match offRing off with
      | none => false
      | some ring => d.ringEn ring && !d.ringIdle ring)
  else if off = rRoutectl then bit v 0 && d.fab.retiring
  else if off = rMshRtdata then d.bankBusy (d.fld rMshRtaddr 9 1 = 1)
  else if off = rFbnRtdata then d.bankBusy (d.fld rFbnRtaddr 16 1 = 1)
  else if off = rRollctl then bit v 0 && d.rollStatus = stBusy
  else if off = rFlipctl then bit v 0 && (d.fretiring || d.rolling)
  else if 0x300000 ≤ off && off < 0x380000 then
    0x40 ≤ off % 0x1000 && off % 0x1000 < 0x60 && d.fld (rFbpEqctl (offPort off)) 0 2 ≠ 2
  else if off = rUnitrst then bit v 31 && d.unitUsed (resetUnit v)
  else false

/-- The register must stand as it is for now (BUSY). -/
def Dev.isBusy (d : Dev) (req : Requester) (off : Nat) (r : RegSpec) (v : Word) : Bool :=
  (d.changes req off r v &&& r.mask (fun f => f.cls = .static) ≠ 0 && !d.blockIdle req off) || d.otherBusy off v

/-! ### STALE (R426, R445) -/

def Dev.isStale (d : Dev) (off : Nat) (r : RegSpec) (v : Word) : Bool :=
  (r.isStatus && !d.clearsOnRead off r && nbits v 24 8 ≠ nbits (d.statusReg off) 24 8) ||
  (off = rFltAck && (d.flt.episode.isNone || nbits v 0 16 ≠ d.flt.eseq.toNat))

/-! ### The checks together -/

/-- A freeze keeps writes out of the compute dies: BUSY, in its place among the checks (R5, R456). -/
def Dev.frozenOut (d : Dev) (off : Nat) : Bool := onComputeDie off && d.frozen

/-- Why a write of a register is refused: the first of R5 that applies, after its width and alignment. -/
def Dev.writeRefusal (d : Dev) (req : Requester) (off : Nat) (r : RegSpec) (v : Word) : Option Byte :=
  firstFailing
    [(d.noAccess req off r v, stNoAccess), (d.isLocked req off r v, stLocked),
      ((v ^^^ d.regVal req off r) &&& r.reserved != 0, stReservedChanged), (d.badValue off r v, stBadValue),
      (d.isBusy req off r v || d.frozenOut off, stBusy), (d.isStale off r v, stStale)]

end Sys2Proof.Machine
end

