-- ==== Sys2Proof/Machine/RegWrite.lean ====
section
/-! DEFINITION. What an accepted register write does: the fields it stores or stages by class, and what each block does then
(R422, R426, R430 and the register tables of the chapters). -/

namespace Sys2Proof.Machine

/-! ### Fields -/

/-- The fields of a register that a write stores: STATIC and LIVE ones come into force, SHADOW ones are staged (R422). A new
PMARGIN waits in each cell for its own boundary, not here (R277). -/
def Dev.storeReg (d : Dev) (req : Requester) (off : Nat) (r : RegSpec) (v : Word) : Dev :=
  let kept := r.mask Field.kept
  let shadow := if off = rEvcfg then 0 else r.mask fun f => f.cls = .shadow
  if isWindow off || kept = 0 then d
  else
    let key := regKey (reqFn req) off
    let d := d.setReg key ((d.reg key &&& shadow) ||| (v &&& kept &&& ~~~shadow))
    if shadow = 0 then d else { d with regs := { d.regs with staged := minsert d.regs.staged key (v &&& kept) } }

/-! ### Freeze (R454, R458) -/

/-- FLT.FRZCTL: FREEZE sets the freeze latch, RESUME clears it. -/
def Dev.frzctl (d : Dev) (v : Word) : Dev :=
  if bit v 0 then { d with flt := { d.flt with freezeLatch := true } }
  else if bit v 1 then Dev.thaw d.frozen { d with flt := { d.flt with freezeLatch := false } }
  else d

/-! ### Blocks -/

/-- A ring's EN written: from 0 to 1 its indexes are 0 and its phase 1 (R392). `was`: EN before. -/
def Dev.ringWritten (d : Dev) (ring : RingName) (was : Bool) : Dev :=
  if was || !d.ringEn ring then d
  else
    match ring with
    | .pair r => d.modPair r fun _ => pairReset
    | .output o => d.modOring o fun _ => oringReset

/-- HIF.WAKE.GO: the function's doorbell words are to be read (R393). -/
def Dev.wakeFn (d : Dev) (fn : GraphId) : Dev :=
  { d with hif := { d.hif with wake := if d.hif.wake.contains fn then d.hif.wake else d.hif.wake ++ [fn] } }

/-- FBP.CFG.EN written: links leave DISABLED and the port is no longer shed, or its links are disabled (R340, R465). -/
def Dev.portWritten (d : Dev) (p : BitVec 4) (was : Bool) : Dev :=
  if d.portEn p then
    ({ d with pwr := { d.pwr with shed := d.pwr.shed.erase p.toNat } }).enableLinks p
  else if was then d.disableLinks p
  else d

/-- FBP.CMD: RETRAIN, then RESTART. -/
def Dev.portCommand (d : Dev) (p : BitVec 4) (v : Word) : Dev :=
  (d.retrainLinks p (nbits v 4 4)).restartLinks p (nbits v 0 4)

/-- FBN.ISODATA: the node that FBN.ISOADDR names is isolated or released (R376). -/
def Dev.isoWritten (d : Dev) (v : Word) : Dev :=
  let n : BitVec 16 := BitVec.ofNat 16 (d.fld rIsoaddr 0 16)
  if bit v 0 then d.isolateNode n else d.releaseNode n

/-- A region entry changed: one that becomes valid as STRUCT is to be set EMPTY (R243). `old`: the entry before. -/
def Dev.rgnWritten (d : Dev) (n : Nat) (old : Word) : Dev :=
  if d.reg (rRgn n) = old then d
  else
    let rest := d.rgnInit.erase n
    let struct_ : Bool := match d.region n with
      | none => false
      | some _ => nbits (d.reg (rRgn n)) 28 2 = 1
    { d with rgnInit := if struct_ then rest ++ [n] else rest }

/-- FLT.ACK: the open episode is acknowledged (R445). -/
def Dev.acknowledge (d : Dev) : Dev := d.modEpisode fun e => { e with acked := true }

/-- KAL.TRCTL.CLR: the trace buffer is empty and KAL.TRLOST zero (R317). -/
def Dev.traceClear (d : Dev) : Dev := { d with kal := { d.kal with trace := [], next := 0, lost := 0 } }

/-- CEL.INJCMD.GO: the token arrives as from the Yo-yo; into a full queue it does not, and the overrun bit sets (R164, R193). A
token that a full ordered-stream hold, a full pool or a full event controller keeps out goes the same way, which R164
leaves open (log 72). -/
def Dev.injectCell (d : Dev) (c : CellId) : Dev :=
  let t := d.injToken c
  match (d.wakeCell c).arrive c (plainQTok t) false false with
  | some d => if d.loaded t.graph then d.cellCreate c t.graph t.colour else d
  | none =>
    let q := d.queueOf c t
    (d.wakeCell c).setSticky (rQovr c.toNat q) (BitVec.ofNat 32 (2 ^ (q % 16)))

/-- CEL.ACCDATA: the word that CEL.ACCADDR names is replaced (R192). -/
def Dev.accWrite (d : Dev) (c : CellId) (v : Word) : Dev :=
  let a := d.reg (rAccaddr c.toNat)
  d.modStore c fun s =>
    if nbits a 30 2 = 0 then { s with im := mset 0 s.im (nbits a 0 14) v } else { s with fo := mset 0 s.fo (nbits a 0 14) v }

/-- Records of a post cell, graph and source that wait in the receive buffer of a cell go back to it (R275). -/
def Dev.returnRecords (d : Dev) (t : CellId) (mine : EvRec → Bool) : Dev :=
  let back := (d.cell t).ev.recs.filter fun r => r.place = .receive && mine r
  back.foldl (fun d r => (d.dropRecord t r.born).sendRecord t r.post r.loose) d

/-- CEL.EVTDATA: the entry is replaced; a change of its target applies to records not yet presented (R269, R275): those in the post cell
are resolved again, those in another cell's receive buffer go back, and those on their way turn back where they arrive. -/
def Dev.entryWrite (d : Dev) (c : CellId) (v : Word) : Dev :=
  let g := d.evtGraph c
  let src := d.evtSource c
  let old := (d.cell c).entry g src
  let d := d.modEv c fun e => { e with evt := mset 0 e.evt (g.toNat * 64 + src) v }
  let target := fun (e : Word) => if evTgtv e then evTgt e else c
  if target old = target v then d
  else
    let mine := fun (r : EvRec) => r.graph = g && r.source.toNat = src && r.post = c
    let d := ((d.cell c).ev.recs.filter mine).foldl (fun d r => d.giveBack c r) d
    let d := (d.listedCells.filter fun t => t ≠ c).foldl (fun d t => d.returnRecords t mine) d
    d.mapPkts fun p => some (match p with
      | .ev t r => if mine r && t ≠ c then .ev t { r with returns := true } else p
      | p => p)

/-- QCFG written: the arbitration fields of an empty queue come into force at once (R171). -/
def Dev.queueWritten (d : Dev) (c : CellId) (q : Nat) : Dev :=
  if ((d.cell c).pipe.queue q).isEmpty then d.applyQcfg c q else d

def Dev.celWritten (d : Dev) (off : Nat) (v : Word) : Dev :=
  let c := offCell off
  let o := off % 0x4000
  if 0x100 ≤ o && o < 0x180 then d.queueWritten c ((o - 0x100) / 4)
  else
    match o with
    | 0x28 => d.accWrite c v
    | 0x58 => if bit v 0 then d.injectCell c else d
    | 0x2048 => d.entryWrite c v
    | _ => d

def Dev.hifWritten (d : Dev) (req : Requester) (off : Nat) (v old : Word) : Dev :=
  if off = rWake then (if bit v 0 then d.wakeFn (reqFn req) else d)
  else if isRingCfg off then
    match offRing off with
    | none => d
    | some ring => d.ringWritten ring (bit old 31)
  else d

def Dev.mshWritten (d : Dev) (off : Nat) (v : Word) : Dev :=
  if off = rRoutectl then (if bit v 0 then d.flip else d)
  else if off = rMshRtdata then { d with fab := { d.fab with rt := mset 0 d.fab.rt d.rtPlace (v.setWidth 16) } }
  else if off = rSlotdata then
    { d with fab := { d.fab with slotsNew := mset 0 d.fab.slotsNew d.slotPlace (v.setWidth 8) } }
  else d

/-- A port whose MODE leaves 2 reads its taps as they are in use (R346). -/
def Dev.dropTaps (d : Dev) (p : BitVec 4) : Dev :=
  { d with regs := { d.regs with
      staged := (List.range 8).foldl (fun m l => merase m (rFbpTxeq p.toNat l)) d.regs.staged } }

def Dev.fbpWritten (d : Dev) (off : Nat) (v old : Word) : Dev :=
  let p : BitVec 4 := BitVec.ofNat 4 (offPort off)
  match off % 0x1000 with
  | 0x000 => d.portWritten p (bit old 0)
  | 0x00C => d.portCommand p v
  | 0x014 => if bits v 0 2 = 2 then d else d.dropTaps p
  | _ => d

def Dev.fbnWritten (d : Dev) (off : Nat) (v : Word) : Dev :=
  if off = rRollctl then (if bit v 0 then d.rollStart else d)
  else if off = rFlipctl then (if bit v 0 then d.fflipStart else d)
  else if off = rFbnRtdata then (d.fobWrite (d.fld rFbnRtaddr 16 1 = 1) (d.fld rFbnRtaddr 0 16) 1 (v.setWidth 16)).1
  else if off = rIsodata then d.isoWritten v
  else d

/-- FLT.ACK and FLT.FRZCTL; a write of FLT.ACK that is not refused names the open episode. -/
def Dev.fltWritten (d : Dev) (off : Nat) (v : Word) : Dev :=
  if off = rFltAck then d.acknowledge else if off = rFrzctl then d.frzctl v else d

def Dev.pwrWritten (d : Dev) (off : Nat) (v : Word) : Dev :=
  if rDiectl 0 ≤ off && off < rDiectl 4 then d.noteBelow
  else if off = rUnitrst then (if bit v 31 then d.startReset (resetUnit v) else d)
  else d

/-- What the blocks do on a write; `old`: the stored fields before it. -/
def Dev.written (d : Dev) (req : Requester) (off : Nat) (v old : Word) : Dev :=
  if off < 0x10000 then (if off = rNodeId then (d.takeId (v.setWidth 16)).1 else d)
  else if off < 0x20000 then
    let n := logAt req (off - 0x10000)
    { d with regs := { d.regs with logs := mset accReset d.regs.logs n { d.log n with count := 0 } } }
  else if off < 0x100000 then d.hifWritten req off v old
  else if off < 0x200000 then d
  else if off < 0x300000 then d.mshWritten off v
  else if off < 0x380000 then d.fbpWritten off v old
  else if off < 0x400000 then d.fbnWritten off v
  else if off < 0x500000 then (if rRgn 0 ≤ off && off < rRgn 16 then d.rgnWritten ((off - rRgn 0) / 4) old else d)
  else if off < 0x600000 then d
  else if off < 0x700000 then d.fltWritten off v
  else if off < 0x800000 then d.pwrWritten off v
  else if off < 0x900000 then d
  else if off < 0x1000000 then (if off = rTrctl && bit v 0 then d.traceClear else d)
  else if off < 0x2000000 then d.celWritten off v
  else d

/-- An accepted write of a register. -/
def Dev.writeReg (d : Dev) (req : Requester) (off : Nat) (r : RegSpec) (v : Word) : Dev :=
  if r.isStatus then
    if d.clearsOnRead off r then d else d.clearSticky off ((v &&& r.mask fun f => f.acc = .sc).setWidth 32)
  else
    let old := d.reg (regKey (reqFn req) off)
    (d.storeReg req off r v).written req off v old

end Sys2Proof.Machine
end

