-- ==== Sys2Proof/Machine/Bus.lean ====
section
/-! DEFINITION. Register accesses as the hub performs them: width and alignment, write stage and read latch, the blocks that do
not respond, the access error log, BAR2, Fober management requests, and the commands that are writes of one register (R5, R308,
R310, R369, R386, R393, R411 to R416, R424, R427, R429 to R433, R456, R460). -/

namespace Sys2Proof.Machine

/-! ### The access error log (R429, R435) -/

/-- Who accesses what: requester, whether BAR2, whether checked as one access of 8 bytes. -/
structure Acss where
  req : Requester
  bar2 : Bool
  w64 : Bool
deriving DecidableEq, Repr

/-- ACC.LAST of a recording. -/
def Acss.last (a : Acss) (code : Byte) (wr : Bool) : Reg :=
  code ++ (0 : BitVec 7) ++ b2v wr ++ b2v a.bar2 ++ b2v a.w64 ++ (0 : BitVec 7) ++ a.req

/-- A recording: LAST, OFFSET and DATA, and COUNT up by one, saturating. -/
def Dev.record_ (d : Dev) (a : Acss) (code : Byte) (wr : Bool) (off : Nat) (data : Reg) : Dev :=
  let x := d.log a.req.toNat
  let y : AccLog :=
    { last := a.last code wr, offset := BitVec.ofNat 32 off, data := data
      count := if x.count = BitVec.allOnes 32 then x.count else x.count + 1 }
  { d with regs := { d.regs with logs := mset accReset d.regs.logs a.req.toNat y } }

/-- A refused write: nothing but the log changes (R7). -/
def Dev.refuse (d : Dev) (a : Acss) (code : Byte) (off : Nat) (data : Reg) : Dev × Byte :=
  (d.record_ a code true off data, code)

/-! ### Blocks that do not respond -/

/-- Blocks that respond before READY (R424). -/
def earlyBlock (off : Nat) : Bool := off < 0x20000 || (0x700000 ≤ off && off < 0x900000)

/-- An access to a register of a compute die: a target declared dead, or without power (R309, R310, R433). -/
def Dev.blockDead (d : Dev) (off : Nat) : Bool :=
  let dieOff := fun (k : Nat) => bit d.pwr.dieOff k
  if 0x1000000 ≤ off && off < 0x2000000 then
    let c := offCell off
    d.fab.dead.contains (.crossbar (cellCluster c)) || dieOff (cellDie c).toNat
  else if 0x300000 ≤ off && off < 0x310000 then
    d.fab.dead.contains (.port (BitVec.ofNat 4 (offPort off))) || dieOff (offPort off / 4)
  else if 0x400200 ≤ off && off < 0x400280 then
    let k := (off - 0x400200) / 32
    d.fab.dead.contains (.hbm (BitVec.ofNat 2 k)) || dieOff k
  else false

/-- The target of the access is isolated by containment (R310). -/
def Dev.blockIso (d : Dev) (off : Nat) : Bool :=
  if 0x1000000 ≤ off && off < 0x2000000 then (d.cell (offCell off)).isolated
  else if 0x300000 ≤ off && off < 0x310000 then
    d.isoTarget (.port (BitVec.ofNat 4 (offPort off))) || d.isoUnit (.die (BitVec.ofNat 2 (offPort off / 4)))
  else if 0x400200 ≤ off && off < 0x400280 then d.stackIso (BitVec.ofNat 2 ((off - 0x400200) / 32))
  else false

/-- The read-out window (R460). -/
def isReadout (off : Nat) : Bool := 0x610000 ≤ off && off < 0x620000

/-- Why a write does not reach its register; `boot`: start-up itself writes (R424). In a freeze nothing reaches a compute die, and the
register's own checks come before BUSY (R5, R456). -/
def Dev.unreached (d : Dev) (boot : Bool) (req : Requester) (off : Nat) : Option Byte :=
  firstFailing
    [(!boot && !d.mgt.ready && !earlyBlock off, stBusy), (d.hidden req off || isReadout off, stNoAccess),
      (onComputeDie off && !d.frozen && (d.blockDead off || d.blockIso off), stIsolated)]

/-- An access to a cell whose cluster is in retention starts its wake (R306). -/
def Dev.wakeFor (d : Dev) (off : Nat) : Dev :=
  if 0x1000000 ≤ off && off < 0x2000000 then
    let n := (cellCluster (offCell off)).toNat
    if mfind d.fab.power n = some .retained then { d with fab := { d.fab with power := minsert d.fab.power n .waking } } else d
  else d

/-! ### Writes (R414, R415) -/

/-- A write of a whole register. -/
def Dev.writeWhole (d : Dev) (a : Acss) (off at_ : Nat) (r : RegSpec) (v : Word) (data : Reg) : Dev × Byte :=
  match d.writeRefusal a.req off r v with
  | some code => d.refuse a code at_ data
  | none => ((d.wakeFor off).writeReg a.req off r v, stOk)

/-- A write to the low half of a 64-bit register is staged. -/
def Dev.stageLow (d : Dev) (a : Acss) (off : Nat) (r : RegSpec) (v : Reg) : Dev × Byte :=
  match firstFailing
    [(d.noAccess a.req off r (v.setWidth 64), stNoAccess), (d.isLocked a.req off r (v.setWidth 64), stLocked),
      (d.frozenOut off, stBusy)] with
  | some code => d.refuse a code off v
  | none => ({ d with regs := { d.regs with stage := minsert d.regs.stage a.req.toNat (off, v) } }, stOk)

/-- A write to the high half writes both, the low one from the stage or as it stands; it empties the stage. -/
def Dev.writeHigh (d : Dev) (a : Acss) (off : Nat) (r : RegSpec) (v : Reg) : Dev × Byte :=
  let low : Reg := match mfind d.regs.stage a.req.toNat with
    | some (o, x) => if o = off then x else (d.regVal a.req off r).setWidth 32
    | none => (d.regVal a.req off r).setWidth 32
  match d.writeRefusal a.req off r (v ++ low) with
  | some code => d.refuse a code (off + 4) v
  | none =>
    let d := (d.wakeFor off).writeReg a.req off r (v ++ low)
    ({ d with regs := { d.regs with stage := merase d.regs.stage a.req.toNat } }, stOk)

/-- A 4-byte write at an offset that is a multiple of 4. -/
def Dev.write4 (d : Dev) (boot : Bool) (req : Requester) (off : Nat) (v : Reg) : Dev × Byte :=
  let a : Acss := { req := req, bar2 := false, w64 := false }
  match d.unreached boot req off with
  | some code => d.refuse a code off v
  | none =>
    match regCover off with
    | none =>
      if v ≠ 0 then d.refuse a stReservedChanged off v
      else if d.frozenOut off then d.refuse a stBusy off v
      else (d.wakeFor off, stOk)
    | some (o, r) =>
      if !r.wide then d.writeWhole a o off r (v.setWidth 64) v
      else if o = off then d.stageLow a o r v
      else d.writeHigh a o r v

/-- An 8-byte write of one 64-bit register. -/
def Dev.write8 (d : Dev) (boot : Bool) (req : Requester) (off : Nat) (r : RegSpec) (v : Word) : Dev × Byte :=
  let a : Acss := { req := req, bar2 := false, w64 := true }
  match d.unreached boot req off with
  | some code => d.refuse a code off (v.setWidth 32)
  | none => d.writeWhole a off off r v (v.setWidth 32)

/-- The first refusal of two. -/
def firstStatus (a b : Byte) : Byte := if a = stOk then b else a

/-- The units of an access in ascending order: one 64-bit register, or 4 bytes (R414). The status is the first refusal. -/
def Dev.writeUnits (d : Dev) (req : Requester) : Nat → List Reg → Dev × Byte
  | _, [] => (d, stOk)
  | off, [v] => d.write4 false req off v
  | off, v :: w :: l =>
    match regSpec off, off % 8 with
    | some r, 0 =>
      if r.wide then
        let x := d.write8 false req off r (w ++ v)
        let y := Dev.writeUnits x.1 req (off + 8) l
        (y.1, firstStatus x.2 y.2)
      else
        let x := d.write4 false req off v
        let y := Dev.writeUnits x.1 req (off + 4) (w :: l)
        (y.1, firstStatus x.2 y.2)
    | _, _ =>
      let x := d.write4 false req off v
      let y := Dev.writeUnits x.1 req (off + 4) (w :: l)
      (y.1, firstStatus x.2 y.2)

/-- Width and alignment of a write of `size` bytes (R414). -/
def formRefusal (off size : Nat) (fullBe : Bool) : Option Byte :=
  firstFailing
    [(size = 0 || size % 4 ≠ 0 || !fullBe, stBadWidth),
      ((if size ≤ 8 then off % size ≠ 0 else off % 4 ≠ 0), stUnaligned)]

/-- The words of a write: as many as its size has. -/
def Access.words (a : Access) : List Reg := (List.range (a.size / 4)).map fun i => a.data.getD i 0

/-- A write to BAR0. -/
def Dev.write0 (d : Dev) (req : Requester) (a : Access) : Dev × Byte :=
  match formRefusal a.off a.size a.fullBe with
  | some code => d.refuse { req := req, bar2 := false, w64 := a.size = 8 } code a.off (a.data.getD 0 0)
  | none => d.writeUnits req a.off (Access.words a)

/-! ### Reads (R414, R416, R427) -/

def allOnes4 : Reg := BitVec.allOnes 32

/-- A read that fails returns ones and is recorded (R429). -/
def Dev.failRead (d : Dev) (a : Acss) (code : Byte) (off : Nat) : Dev × Reg × Byte :=
  (d.record_ a code false off 0, allOnes4, code)

/-- The value of a register to be returned whole, and what a read of it clears. -/
def Dev.readWhole (d : Dev) (req : Requester) (off : Nat) (r : RegSpec) : Dev × Word :=
  let v := d.regVal req off r
  (if d.clearsOnRead off r then d.clearSticky off (v.setWidth 32) else d, v)

/-- A 4-byte read of a 64-bit register: of the low half it latches the high one; of the high half it returns the latch. -/
def Dev.readHalf (d : Dev) (req : Requester) (off at_ : Nat) (r : RegSpec) : Dev × Reg :=
  let v := d.regVal req off r
  if off = at_ then
    ({ d with regs := { d.regs with latch := minsert d.regs.latch req.toNat (off, bits v 32 32) } }, v.setWidth 32)
  else
    match mfind d.regs.latch req.toNat with
    | some (o, x) => (d, if o = off then x else bits v 32 32)
    | none => (d, bits v 32 32)

/-- Why a read fails, once READY has set. -/
def Dev.readFails (d : Dev) (off : Nat) : Option Byte :=
  firstFailing
    [(onComputeDie off && d.frozen, stBusy), (onComputeDie off && d.blockDead off, stIsolated),
      (isReadout off && !d.frozen, stBusy)]

/-- A 4-byte read of BAR0. -/
def Dev.read4 (d : Dev) (req : Requester) (off : Nat) : Dev × Reg × Byte :=
  let a : Acss := { req := req, bar2 := false, w64 := false }
  if off % 4 ≠ 0 then d.failRead a stUnaligned off
  else if (!d.mgt.ready && !earlyBlock off) || d.hidden req off then (d, 0, stOk)
  else
    match d.readFails off with
    | some code => d.failRead a code off
    | none =>
      if isReadout off then (d, BitVec.ofNat 32 (d.windowUnit (off - 0x610000)), stOk)
      else
        let d := d.wakeFor off
        match regCover off with
        | none => (d, 0, stOk)
        | some (o, r) =>
          if r.wide then
            let x := d.readHalf req o off r
            (x.1, x.2, stOk)
          else
            let x := d.readWhole req o r
            (x.1, x.2.setWidth 32, stOk)

/-- An 8-byte read of BAR0: one 64-bit register, atomic and recorded once where it fails, or two 4-byte reads (R414, R429). -/
def Dev.read8 (d : Dev) (req : Requester) (off : Nat) : Dev × Word × Byte :=
  let a : Acss := { req := req, bar2 := false, w64 := true }
  if off % 8 ≠ 0 then ((d.failRead a stUnaligned off).1, BitVec.allOnes 64, stUnaligned)
  else
    match regSpec off with
    | some r =>
      if r.wide then
        if (!d.mgt.ready && !earlyBlock off) || d.hidden req off then (d, 0, stOk)
        else
          match d.readFails off with
          | some code => ((d.failRead a code off).1, BitVec.allOnes 64, code)
          | none => (d.wakeFor off, d.regVal req off r, stOk)
      else
        let x := d.read4 req off
        let y := x.1.read4 req (off + 4)
        (y.1, y.2.1 ++ x.2.1, firstStatus x.2.2 y.2.2)
    | none =>
      let x := d.read4 req off
      let y := x.1.read4 req (off + 4)
      (y.1, y.2.1 ++ x.2.1, firstStatus x.2.2 y.2.2)

/-- The units of a read in ascending order (R414): one 64-bit register, or 4 bytes. -/
def Dev.readUnits (d : Dev) (req : Requester) : Nat → Nat → Dev × List Reg
  | _, 0 => (d, [])
  | off, 1 =>
    let x := d.read4 req off
    (x.1, [x.2.1])
  | off, n + 2 =>
    match regSpec off, off % 8 with
    | some r, 0 =>
      if r.wide then
        let x := d.read8 req off
        let y := Dev.readUnits x.1 req (off + 8) n
        (y.1, x.2.1.setWidth 32 :: bits x.2.1 32 32 :: y.2)
      else
        let x := d.read4 req off
        let y := Dev.readUnits x.1 req (off + 4) (n + 1)
        (y.1, x.2.1 :: y.2)
    | _, _ =>
      let x := d.read4 req off
      let y := Dev.readUnits x.1 req (off + 4) (n + 1)
      (y.1, x.2.1 :: y.2)

/-- Bytes of a register, read without side effect (R414). -/
def Dev.peek (d : Dev) (req : Requester) (off size : Nat) : Reg :=
  let base := off / 4 * 4
  if (!d.mgt.ready && !earlyBlock base) || d.hidden req base then 0
  else if isReadout base then BitVec.ofNat 32 (d.windowUnit (base - 0x610000) >>> (8 * (off - base)) % 2 ^ (8 * size))
  else
    match regCover base with
    | none => 0
    | some (o, r) => BitVec.ofNat 32 ((d.regVal req o r).toNat >>> (8 * (off - o)) % 2 ^ (8 * size))

/-- A read of BAR0 of any size: its data in 4-byte units, ones when it is not aligned (R414). -/
def Dev.read0 (d : Dev) (req : Requester) (off size : Nat) : Dev × List Reg :=
  if (if size ≤ 8 then off % size ≠ 0 else off % 4 ≠ 0) then
    (d.record_ { req := req, bar2 := false, w64 := size = 8 } stUnaligned false off 0, List.replicate ((size + 3) / 4) allOnes4)
  else if size < 4 then
    match if (!d.mgt.ready && !earlyBlock off) || d.hidden req off then none else d.readFails off with
    | some code => (d.record_ { req := req, bar2 := false, w64 := false } code false off 0, [allOnes4])
    | none => (d, [d.peek req off size])
  else d.readUnits req off (size / 4)

/-! ### BAR2 (R386, R393) -/

/-- A doorbell register of BAR2: its ring, and whether it is CQHEAD. -/
def doorbellAt (off : Nat) : Option (RingName × Bool) :=
  if off < 0x40000 then
    let r : BitVec 12 := BitVec.ofNat 12 (off / 64)
    if off % 64 = 0 then some (.pair r, false) else if off % 64 = 4 then some (.pair r, true) else none
  else if off < 0x50000 then
    if off % 64 = 0 then some (.output (BitVec.ofNat 10 ((off - 0x40000) / 64)), false) else none
  else none

/-- The ring whose page an offset lies in. -/
def pageRing (off : Nat) : Option RingName :=
  if off < 0x40000 then some (.pair (BitVec.ofNat 12 (off / 64)))
  else if off < 0x50000 then some (.output (BitVec.ofNat 10 ((off - 0x40000) / 64)))
  else none

/-- The page of a ring that is not the function's. -/
def Dev.foreignPage (d : Dev) (fn : GraphId) (off : Nat) : Bool :=
  match pageRing off with
  | none => false
  | some ring => d.ringFn ring ≠ fn

def Dev.ringEntries (d : Dev) (ring : RingName) : Nat :=
  match ring with
  | .pair r => d.pairSize r
  | .output o => d.oringSize o

/-- A doorbell's index taken. -/
def Dev.ring (d : Dev) (ring : RingName) (cq : Bool) (v : BitVec 16) : Dev :=
  match ring with
  | .pair r => d.modPair r fun p => if cq then { p with cqHead := v } else { p with sqTail := v }
  | .output o => d.modOring o fun x => { x with oHead := v }

/-- A write of the MSI-X table: an entry's address, data and mask (log 11); a vector unmasked with its pending bit set signals. -/
def Dev.writeVector (d : Dev) (fn : GraphId) (o : Nat) (v : Reg) : Dev :=
  let n : BitVec 5 := BitVec.ofNat 5 (o / 16)
  let x := d.vector fn n
  match o % 16 with
  | 0 => d.setVector fn n { x with addr := bits x.addr 32 32 ++ v }
  | 4 => d.setVector fn n { x with addr := v ++ bits x.addr 0 32 }
  | 8 => d.setVector fn n { x with data := v }
  | _ =>
    let open_ := !bit v 0
    let d := d.setVector fn n { x with unmasked := open_, pba := x.pba && !open_ }
    if open_ && x.pba then d.msix fn n else d

/-- A 4-byte write of BAR2: its refusal, or what it does. -/
def Dev.bar2Status (d : Dev) (fn : GraphId) (off : Nat) (v : Reg) : Option Byte :=
  if !d.mgt.ready then some stBusy
  else if d.foreignPage fn off then some stNoAccess
  else
    match doorbellAt off with
    | some (ring, _) =>
      firstFailing
        [(d.dbMode fn, stNoAccess), (nbits v 16 16 ≠ 0, stReservedChanged),
          (d.ringEntries ring ≤ nbits v 0 16, stBadValue), (!d.ringEn ring, stBusy)]
    | none =>
      if 0x50000 ≤ off && off < 0x50200 then
        if off % 16 = 12 && nbits v 1 31 ≠ 0 then some stReservedChanged else none
      else if off = 0x51000 then some stNoAccess
      else if v ≠ 0 then some stReservedChanged
      else none

def Dev.write2At (d : Dev) (req : Requester) (off : Nat) (v : Reg) : Dev × Byte :=
  match d.bar2Status (reqFn req) off v with
  | some code => d.refuse { req := req, bar2 := true, w64 := false } code off v
  | none =>
    match doorbellAt off with
    | some (ring, cq) => (d.ring ring cq (v.setWidth 16), stOk)
    | none => if 0x50000 ≤ off && off < 0x50200 then (d.writeVector (reqFn req) (off - 0x50000) v, stOk) else (d, stOk)

/-- The 4-byte units of a BAR2 write. -/
def Dev.write2Units (d : Dev) (req : Requester) : Nat → List Reg → Dev
  | _, [] => d
  | off, v :: l => Dev.write2Units (d.write2At req off v).1 req (off + 4) l

/-- A 4-byte unit of BAR2 as it reads: the index of a doorbell's ring, the MSI-X table (log 11), the pending bits (R386, R393). -/
def Dev.read2At (d : Dev) (fn : GraphId) (off : Nat) : Reg :=
  if !d.mgt.ready || d.foreignPage fn off then 0
  else
    match doorbellAt off with
    | some (.pair r, cq) => if cq then (d.pair r).cqTail.setWidth 32 else (d.pair r).sqHead.setWidth 32
    | some (.output o, _) => (d.oring o).oTail.setWidth 32
    | none =>
      if 0x50000 ≤ off && off < 0x50200 then
        let x := d.vector fn (BitVec.ofNat 5 ((off - 0x50000) / 16))
        match off % 16 with
        | 0 => x.addr.setWidth 32
        | 4 => bits x.addr 32 32
        | 8 => x.data
        | _ => (b2v !x.unmasked).setWidth 32
      else if off = 0x51000 then
        BitVec.ofNat 32 (bitsOf 32 fun i => (d.vector fn (BitVec.ofNat 5 i)).pba)
      else 0

/-- A read of BAR2 by the rules of width and alignment of BAR0. -/
def Dev.read2 (d : Dev) (req : Requester) (off size : Nat) : Dev × List Reg :=
  if (if size ≤ 8 then off % size ≠ 0 else off % 4 ≠ 0) then
    (d.record_ { req := req, bar2 := true, w64 := size = 8 } stUnaligned false off 0, List.replicate ((size + 3) / 4) allOnes4)
  else if size < 4 then
    (d, [BitVec.ofNat 32 ((d.read2At (reqFn req) (off / 4 * 4)).toNat >>> (8 * (off % 4)) % 2 ^ (8 * size))])
  else (d, (List.range (size / 4)).map fun i => d.read2At (reqFn req) (off + 4 * i))

/-- A write to BAR2. -/
def Dev.write2 (d : Dev) (req : Requester) (a : Access) : Dev :=
  match formRefusal a.off a.size a.fullBe with
  | some code => (d.refuse { req := req, bar2 := true, w64 := a.size = 8 } code a.off (a.data.getD 0 0)).1
  | none => d.write2Units req a.off (Access.words a)

/-! ### Configuration space (R384, log 25) -/

/-- A 4-byte register of a function's configuration space: identity, command, class and revision, power state, SR-IOV, errors. -/
def Dev.configReg (d : Dev) (fn : GraphId) (off : Nat) : Reg :=
  let x := d.pci fn
  match off with
  | 0x00 => (if fn = 0 then 0x7A18 else 0x7A19 : BitVec 16) ++ (0x1D9C : BitVec 16)
  | 0x04 => BitVec.ofNat 32 (2 * b2n x.memSpace + 4 * b2n x.bme)
  | 0x08 => (0x120000 : BitVec 24) ++ BitVec.ofNat 8 Config.stepping.toNat
  | 0x44 => if x.d3hot then 3 else 0
  | 0x104 => x.aer
  | 0x168 => BitVec.ofNat 32 (if fn = 0 then b2n d.hif.vfEn else 0)
  | 0x170 => BitVec.ofNat 32 (if fn = 0 then d.hif.numVfs else 0)
  | _ => 0

/-- VF Enable written: clearing it ends the virtual functions (R408). -/
def Dev.setVfEn (d : Dev) (b : Bool) : Dev :=
  if d.hif.vfEn && !b then vfClear ((List.range d.hif.numVfs).map fun i => BitVec.ofNat 6 (i + 1)) d
  else { d with hif := { d.hif with vfEn := b } }

/-- A 4-byte write of configuration space. NumVFs stands while VF Enable is set; error bits clear where 1 is written. -/
def Dev.writeConfig (d : Dev) (fn : GraphId) (off : Nat) (v : Reg) : Dev :=
  match off with
  | 0x04 => d.modPci fn fun x => { x with memSpace := bit v 1, bme := bit v 2 }
  | 0x44 => d.modPci fn fun x => { x with d3hot := nbits v 0 2 = 3 }
  | 0x104 => d.modPci fn fun x => { x with aer := x.aer &&& ~~~v }
  | 0x168 => if fn = 0 then d.setVfEn (bit v 0) else d
  | 0x170 => if fn = 0 && !d.hif.vfEn then { d with hif := { d.hif with numVfs := min 63 (nbits v 0 16) } } else d
  | _ => d

/-! ### Accesses from the host (R387, R411) -/

/-- An access performed by the hub. -/
def Dev.performTlp (d : Dev) (t : HostTlp) : Dev :=
  match t with
  | .write req a =>
    match a.space with
    | .bar0 => (d.write0 req a).1
    | .bar2 => d.write2 req a
    | .config =>
      ((List.range (a.size / 4)).zip (Access.words a)).foldl (fun d x => d.writeConfig (reqFn req) (a.off + 4 * x.1) x.2) d
  | .read req space off size =>
    let x := match space with
      | .bar0 => d.read0 req off size
      | .bar2 => d.read2 req off size
      | .config => (d, (List.range ((size + 3) / 4)).map fun i => d.configReg (reqFn req) (off / 4 * 4 + 4 * i))
    x.1.emit (.regData req off x.2)

/-- TLPs that the queue from the PCIe core to the hub holds. -/
def tlpPlaces : Nat := 128

def HostTlp.req : HostTlp → Requester
  | .write req _ => req
  | .read req _ _ _ => req

/-- The device as an access reaches it: performed while the hub runs; in a full freeze the dual-clock queue holds it (R387), unless it
is full or the access comes over Fober. -/
def Dev.hostAccess (d : Dev) (t : HostTlp) : Dev :=
  if d.hubRuns then d.performTlp t
  else if d.frozen && !d.pwr.off && t.req.toNat < 64 && d.hif.tlps.length < tlpPlaces then
    { d with hif := { d.hif with tlps := d.hif.tlps ++ [t] } }
  else d

/-- The accesses that a full freeze held are performed, first in first out, once it has ended. -/
def Dev.drainTlps (d : Dev) : Dev :=
  if d.hubRuns then d.hif.tlps.foldl (fun d t => d.performTlp t) { d with hif := { d.hif with tlps := [] } } else d

def HostTlp.space : HostTlp → Space
  | .write _ a => a.space
  | .read _ space _ _ => space

/-- The greatest requester of an access: 0 to 63 are functions, 64 is Fober management (R411), which has BAR0 alone. -/
def HostTlp.top (t : HostTlp) : Nat := if t.space = .bar0 then 64 else 63

/-- A register access of a requester. -/
def onAccess (t : HostTlp) (s : State) : Host.Outcome State Fault Refusal :=
  if t.top < t.req.toNat then .refused .noSuchRequester else .next { s with dev := s.dev.hostAccess t }

/-- A 4-byte write of one register of BAR0. -/
def regWrite (req : Requester) (off : Nat) (v : Reg) : HostTlp :=
  .write req { space := .bar0, off := off, size := 4, data := [v], fullBe := true }

/-- An 8-byte write of one register of BAR0. -/
def regWrite8 (req : Requester) (off : Nat) (v : Word) : HostTlp :=
  .write req { space := .bar0, off := off, size := 8, data := [v.setWidth 32, bits v 32 32], fullBe := true }

/-- A 4-byte write of BAR2. -/
def bar2Write (req : Requester) (off : Nat) (v : Reg) : HostTlp :=
  .write req { space := .bar2, off := off, size := 4, data := [v], fullBe := true }

/-- RCFG of a pair or OCFG of an output ring. -/
def ringCfg (ring : RingName) : Nat :=
  match ring with
  | .pair r => rRcfg r.toNat
  | .output o => rOcfg o.toNat

/-! ### Fober management requests (R369) -/

/-- The identity block. -/
def Dev.identity (d : Dev) (off : Nat) : Reg :=
  match off with
  | 0x00 => 0x1D9C7A18
  | 0x04 => (0 : BitVec 8) ++ (64 : BitVec 8) ++ (2 : BitVec 8) ++ (7 : BitVec 8)
  | 0x08 => 98304
  | 0x0C => (0 : BitVec 15) ++ b2v d.fbn.nodeHeld ++ d.fbn.nodeId
  | _ => 0

def mSpace (p : FPacket) : Nat := nbits (p.word 1) 40 8
def mOffset (p : FPacket) : Nat := nbits (p.word 1) 0 40
def mW64 (p : FPacket) : Bool := bit (p.word 0) 27

/-- FBN.CFG.MGMTACC lets the sender reach SPACE 0: the root only, any node, or none. -/
def Dev.mgmtAllowed (d : Dev) (p : FPacket) : Bool :=
  match d.fld rFbn 0 2 with
  | 0 => d.rootNode = some (pSrc p)
  | 1 => true
  | _ => false

/-- A management request's own refusal in SPACE 0, recorded in log 64; its alignment comes first (R5). -/
def Dev.mgmtStatus (d : Dev) (p : FPacket) : Option Byte :=
  firstFailing [(mOffset p % (if mW64 p then 8 else 4) ≠ 0, stUnaligned), (!d.mgmtAllowed p, stNoAccess),
    (0x4000000 ≤ mOffset p, stBadValue)]

def mgmtAcss (p : FPacket) : Acss := { req := 64, bar2 := false, w64 := mW64 p }

/-- MGMT_RD. -/
def mgmtRd (p : FPacket) (d : Dev) : Dev :=
  d.onFob p (fun p => p.ptype = ptMgmtRd) fun d =>
    match mSpace p with
    | 0 =>
      match d.mgmtStatus p with
      | some code => (d.record_ (mgmtAcss p) code false (mOffset p) 0).answerFob p code 0 []
      | none =>
        if mW64 p then
          let x := d.read8 64 (mOffset p)
          x.1.answerFob p x.2.2 0 (if x.2.2 = stOk then [x.2.1] else [])
        else
          let x := d.read4 64 (mOffset p)
          x.1.answerFob p x.2.2 0 (if x.2.2 = stOk then [x.2.1.setWidth 64] else [])
    | 1 =>
      let lo := d.identity (mOffset p)
      let hi : Reg := if mW64 p then d.identity (mOffset p + 4) else 0
      d.answerFob p stOk 0 [hi ++ lo]
    | _ => d.answerFob p stBadValue 0 []

/-- MGMT_WR. -/
def mgmtWr (p : FPacket) (d : Dev) : Dev :=
  d.onFob p (fun p => p.ptype = ptMgmtWr) fun d =>
    match mSpace p with
    | 0 =>
      let v := p.word 2
      match d.mgmtStatus p with
      | some code => (d.record_ (mgmtAcss p) code true (mOffset p) (v.setWidth 32)).answerFob p code 0 [0]
      | none =>
        let data := if mW64 p then [v.setWidth 32, bits v 32 32] else [v.setWidth 32]
        let x := d.write0 64 { space := .bar0, off := mOffset p, size := if mW64 p then 8 else 4, data := data, fullBe := true }
        x.1.answerFob p x.2 0 [0]
    | 1 => d.answerFob p stNoAccess 0 [0]
    | _ => d.answerFob p stBadValue 0 [0]

/-! ### INITIATOR_TIMEOUT (R188, R308, R378) -/

/-- A descriptor to HBM or a lock whose request has had no answer for the initiator timeout ends with TIMEOUT, a LOCK with the word of
R146 as its result; the answer that comes later is discarded. -/
def descTimeout (r : BitVec 12) (k : Nat) (d : Dev) : Dev :=
  match d.desc r k with
  | none => d
  | some x =>
    let queued : Bool := allDies.any fun s => (d.stack s).locks.any fun e => e.waiters.any fun w => match w.req.src with
      | .desc p _ n => p = r && n = x.index
      | _ => false
    let opc := nbits (x.words.getD 0 0) 56 8
    let asked : Bool := opc = 0x09 && !queued
    let hbm : Bool := !x.waiting && 5 ≤ opc && opc ≤ 7
    if ((x.waiting && asked) || hbm) && x.issued + d.initTimeout ≤ d.clock.run then
      (d.finish r x stTimeout (if hbm then 0 else lockWord (bits (x.words.getD 1 0) 0 48) stTimeout)).timeoutFault
    else d

/-- A register access to a compute die that has had no answer for the initiator timeout (R308, R433): TIMEOUT in the requester's log,
and ones for a read. -/
def accessTimeout (req : Requester) (off : Nat) (data : Option Reg) (issued : Nat) (d : Dev) : Dev :=
  if 64 < req.toNat || !onComputeDie off || d.frozen || d.clock.run < issued + d.initTimeout then d
  else
    let a : Acss := { req := req, bar2 := false, w64 := false }
    match data with
    | some v => (d.record_ a stTimeout true off v).timeoutFault
    | none => ((d.record_ a stTimeout false off 0).timeoutFault).emit (.regData req off [allOnes4])

/-- INITIATOR_TIMEOUT. -/
def initiatorTimeout (w : Initiator) (d : Dev) : Dev :=
  match w with
  | .cellEntry c e fo => if d.diesStop then d else cellTimeout c e fo d
  | .descriptor r k => if d.frozen then d else descTimeout r k d
  | .register req off data issued => accessTimeout req off data issued d
  | .fober tag => if d.frozen then d else d.fobTimeout tag

end Sys2Proof.Machine
end

