-- ==== Sys2Proof/Machine/Registers.lean ====
section
/-! DEFINITION. The commands that access registers, each over the register bus. -/

namespace Sys2Proof.Machine

/-- REGISTER_WRITE. -/
def execRegisterWrite (req : Requester) (a : Access) (s : State) : Host.Outcome State Fault Refusal :=
  onAccess (.write req a) s

/-- STATUS_CLEAR. -/
def execStatusClear (req : Requester) (off : Nat) (v : Reg) (s : State) : Host.Outcome State Fault Refusal :=
  onAccess (regWrite req off v) s

/-- STATUS_CLEAR_ON_READ. -/
def execStatusClearOnRead (req : Requester) (off : Nat) (s : State) : Host.Outcome State Fault Refusal :=
  onAccess (.read req .bar0 off 4) s

/-- REG_WRITE_LOW_HALF. -/
def execRegWriteLowHalf (req : Requester) (off : Nat) (v : Reg) (s : State) : Host.Outcome State Fault Refusal :=
  onAccess (regWrite req off v) s

/-- REG_READ_LOW_HALF: a read of any size, of BAR0, BAR2 or configuration space. -/
def execRegReadLowHalf (req : Requester) (r : RegRead) (s : State) : Host.Outcome State Fault Refusal :=
  onAccess (.read req r.space r.off r.size) s

/-- FREEZE_N_HIGH: at the end of a full freeze the accesses held are performed (R387). -/
def execFreezeNHigh (s : State) : Host.Outcome State Fault Refusal :=
  onAlways (fun d => (freezeHigh d).drainTlps) s

/-- PCLK_RESTORED. -/
def execPclkRestored (s : State) : Host.Outcome State Fault Refusal :=
  onAlways (fun d => (pclkRestored d).drainTlps) s

/-- ACC_COUNT_CLEAR. -/
def execAccCountClear (req : Requester) (off : Nat) (v : Reg) (s : State) : Host.Outcome State Fault Refusal :=
  onAccess (regWrite req off v) s

/-- TRACE_CLEAR. -/
def execTraceClear (req : Requester) (v : Reg) (s : State) : Host.Outcome State Fault Refusal :=
  onAccess (regWrite req rTrctl v) s

/-- FLT_ACK. -/
def execFltAck (req : Requester) (v : Reg) (s : State) : Host.Outcome State Fault Refusal :=
  onAccess (regWrite req rFltAck v) s

/-- FRZCTL_FREEZE. -/
def execFrzctlFreeze (req : Requester) (v : Reg) (s : State) : Host.Outcome State Fault Refusal :=
  onAccess (regWrite req rFrzctl v) s

/-- FRZCTL_RESUME. -/
def execFrzctlResume (req : Requester) (v : Reg) (s : State) : Host.Outcome State Fault Refusal :=
  onAccess (regWrite req rFrzctl v) s

/-- CELL_RESET. -/
def execCellReset (req : Requester) (v : Reg) (s : State) : Host.Outcome State Fault Refusal :=
  onAccess (regWrite req rUnitrst v) s

/-- CLUSTER_RESET. -/
def execClusterReset (req : Requester) (v : Reg) (s : State) : Host.Outcome State Fault Refusal :=
  onAccess (regWrite req rUnitrst v) s

/-- INJCMD_GO. -/
def execInjcmdGo (req : Requester) (c : CellId) (v : Reg) (s : State) : Host.Outcome State Fault Refusal :=
  onAccess (regWrite req (rInjcmd c.toNat) v) s

/-- ACCDATA_WRITE. -/
def execAccdataWrite (req : Requester) (c : CellId) (v : Word) (s : State) : Host.Outcome State Fault Refusal :=
  onAccess (regWrite8 req (rAccdata c.toNat) v) s

/-- EVTDATA_WRITE. -/
def execEvtdataWrite (req : Requester) (c : CellId) (v : Word) (s : State) : Host.Outcome State Fault Refusal :=
  onAccess (regWrite8 req (rEvtdata c.toNat) v) s

/-- ROUTECTL_FLIP. -/
def execRoutectlFlip (req : Requester) (v : Reg) (s : State) : Host.Outcome State Fault Refusal :=
  onAccess (regWrite req rRoutectl v) s

/-- ROLLCTL_GO. -/
def execRollctlGo (req : Requester) (v : Reg) (s : State) : Host.Outcome State Fault Refusal :=
  onAccess (regWrite req rRollctl v) s

/-- FFLIP. -/
def execFflip (req : Requester) (v : Reg) (s : State) : Host.Outcome State Fault Refusal :=
  onAccess (regWrite req rFlipctl v) s

/-- NODE_ISOLATE. -/
def execNodeIsolate (req : Requester) (v : Reg) (s : State) : Host.Outcome State Fault Refusal :=
  onAccess (regWrite req rIsodata v) s

/-- NODE_RELEASE. -/
def execNodeRelease (req : Requester) (v : Reg) (s : State) : Host.Outcome State Fault Refusal :=
  onAccess (regWrite req rIsodata v) s

/-- NODE_ID_WRITE. -/
def execNodeIdWrite (req : Requester) (v : Reg) (s : State) : Host.Outcome State Fault Refusal :=
  onAccess (regWrite req rNodeId v) s

/-- LINK_ENABLE. -/
def execLinkEnable (req : Requester) (p : BitVec 4) (v : Reg) (s : State) : Host.Outcome State Fault Refusal :=
  onAccess (regWrite req (rFbp p.toNat) v) s

/-- LINK_DISABLE. -/
def execLinkDisable (req : Requester) (p : BitVec 4) (v : Reg) (s : State) : Host.Outcome State Fault Refusal :=
  onAccess (regWrite req (rFbp p.toNat) v) s

/-- CMD_RETRAIN. -/
def execCmdRetrain (req : Requester) (p : BitVec 4) (v : Reg) (s : State) : Host.Outcome State Fault Refusal :=
  onAccess (regWrite req (rFbpCmd p.toNat) v) s

/-- CMD_RESTART. -/
def execCmdRestart (req : Requester) (p : BitVec 4) (v : Reg) (s : State) : Host.Outcome State Fault Refusal :=
  onAccess (regWrite req (rFbpCmd p.toNat) v) s

/-- SQTAIL_DOORBELL. -/
def execSqtailDoorbell (req : Requester) (r : BitVec 12) (v : Reg) (s : State) : Host.Outcome State Fault Refusal :=
  onAccess (bar2Write req (64 * r.toNat) v) s

/-- CQHEAD_DOORBELL. -/
def execCqheadDoorbell (req : Requester) (r : BitVec 12) (v : Reg) (s : State) : Host.Outcome State Fault Refusal :=
  onAccess (bar2Write req (64 * r.toNat + 4) v) s

/-- OHEAD_DOORBELL. -/
def execOheadDoorbell (req : Requester) (o : BitVec 10) (v : Reg) (s : State) : Host.Outcome State Fault Refusal :=
  onAccess (bar2Write req (0x40000 + 64 * o.toNat) v) s

/-- RING_ENABLE. -/
def execRingEnable (req : Requester) (ring : RingName) (v : Reg) (s : State) : Host.Outcome State Fault Refusal :=
  onAccess (regWrite req (ringCfg ring) v) s

/-- RING_DISABLE. -/
def execRingDisable (req : Requester) (ring : RingName) (v : Reg) (s : State) : Host.Outcome State Fault Refusal :=
  onAccess (regWrite req (ringCfg ring) v) s

/-- WAKE_GO. -/
def execWakeGo (req : Requester) (v : Reg) (s : State) : Host.Outcome State Fault Refusal :=
  onAccess (regWrite req rWake v) s

/-- INITIATOR_TIMEOUT. -/
def execInitiatorTimeout (w : Initiator) (s : State) : Host.Outcome State Fault Refusal :=
  onHub (initiatorTimeout w) s

/-- MGMT_RD. -/
def execMgmtRd (p : FPacket) (s : State) : Host.Outcome State Fault Refusal :=
  onHub (mgmtRd p) s

/-- MGMT_WR. -/
def execMgmtWr (p : FPacket) (s : State) : Host.Outcome State Fault Refusal :=
  onHub (mgmtWr p) s

end Sys2Proof.Machine
end

