-- ==== Sys2Proof/Machine/Firmware.lean ====
section
/-! DEFINITION. The non-volatile store, calibration, the firmware patch, and the management cores' watchdogs (R396 to R398, R479 to
R487). -/

namespace Sys2Proof.Machine

/-! ### The NV store (R479, R480) -/

def nvRegion : Nat := 0x100000

/-- A byte of the NV store; region 0 is the factory calibration. -/
def Dev.nvByte (d : Dev) (a : Nat) : Byte := if a < nvRegion then Config.factoryByte a else mget 0 d.mgt.nv a

/-- A little-endian number of n bytes in the NV store. -/
def Dev.nvNat (d : Dev) (a n : Nat) : Nat := leNat d.nvByte a n

/-- Bytes from an address. -/
def Dev.nvBytes (d : Dev) (a n : Nat) : List Byte := (List.range n).map fun i => d.nvByte (a + i)

/-- Bytes put into the NV store from an address. -/
def nvPut : Map Byte → Nat → List Byte → Map Byte
  | m, _, [] => m
  | m, a, b :: l => nvPut (mset 0 m a b) (a + 1) l

/-- The first bytes of some words. -/
def bytesOf (ws : List Word) (n : Nat) : List Byte := (List.range n).map (byteAt ws)

def Dev.putNv (d : Dev) (a : Nat) (bs : List Byte) : Dev := { d with mgt := { d.mgt with nv := nvPut d.mgt.nv a bs } }

/-- A corrected word sets NV_CORR, an uncorrectable one NV_UNC. -/
def Dev.nvFault (d : Dev) (u : Upset) : Dev :=
  match u with
  | .none => d
  | .corrected => d.fault rMgtErr 0 104 [] []
  | .uncorrectable => d.fault rMgtErr 1 105 [] []

/-- The errors met in the words of a range. -/
def Dev.nvFaults (d : Dev) (l : List (Nat × Upset)) : Dev := l.foldl (fun d x => d.nvFault x.2) d

/-- A word of n bytes from an address cannot be corrected. -/
def nvBad (l : List (Nat × Upset)) (a n : Nat) : Bool := l.any fun x => x.2 = .uncorrectable && a < 8 * x.1 + 8 && 8 * x.1 < a + n

/-! ### NVSTORE -/

def Desc.region (x : Desc) : Nat := nbits (x.w 1) 0 2
def Desc.isWrite (x : Desc) : Bool := bit (x.w 1) 2
def Desc.nvLen (x : Desc) : Nat := nbits (x.w 1) 32 32
def Desc.nvOff (x : Desc) : Nat := nbits (x.w 2) 0 32
def Desc.nvAddr (x : Desc) : Nat := nvRegion * x.region + x.nvOff

/-- The checks of NVSTORE; regions 0 and 2 take no write (R398, R479). -/
def nvChecks (r : BitVec 12) (x : Desc) : List (Bool × Byte) :=
  headChecks r x true [0xFFFFFFFF00000007#64, lowMask 32, allBits] ++
    [(x.isWrite && (x.region = 0 || x.region = 2), stLocked), (x.nvOff % 8 ≠ 0 || x.nvLen % 8 ≠ 0, stUnaligned),
      (Nat.blt nvRegion (x.nvOff + x.nvLen), stBadValue)]

/-- n words from an address, with the SECDED outcome of each: an uncorrectable one is a free value. -/
def Dev.nvWords (a : Nat) (us : List Upset) : Nat → Dev → Dev × List Word
  | 0, d => (d, [])
  | n + 1, d =>
    let u := us.headD .none
    let w := BitVec.ofNat 64 (d.nvNat a 8)
    let (d, w) := if u = .uncorrectable then (d.free.2, d.free.1) else (d, w)
    let (d, ws) := Dev.nvWords (a + 8) us.tail n (d.nvFault u)
    (d, w :: ws)

/-- NVSTORE_READ: an uncorrectable word ends it POISONED after all its bytes have moved. `us`: the SECDED outcome of each word. -/
def nvstoreRead (r : BitVec 12) (k : Nat) (us : List Upset) (d : Dev) : Dev :=
  d.perform r k (fun x => x.opc = 0x44 && !x.isWrite) (nvChecks r) fun x d =>
    let n := x.nvLen / 8
    let y := Dev.nvWords x.nvAddr us n d
    let st := if (us.take n).contains .uncorrectable then stPoisoned else stOk
    (y.1.emit (.hostWrite (d.pairFn r) (x.w 3) x.nvLen y.2 [])).finish r x st (BitVec.ofNat 64 x.nvLen)

/-- NVSTORE_WRITE. -/
def nvstoreWrite (r : BitVec 12) (k : Nat) (h : HostData) (d : Dev) : Dev :=
  d.perform r k (fun x => x.opc = 0x44 && x.isWrite) (nvChecks r) fun x d =>
    let d := d.readHost (d.pairFn r) (x.w 3) x.nvLen h.status (!h.poisoned.isEmpty)
    if dataStatus h ≠ stOk then d.finish r x (dataStatus h) 0
    else (d.putNv x.nvAddr (bytesOf h.words x.nvLen)).finish r x stOk (BitVec.ofNat 64 x.nvLen)

/-! ### The patch (R484 to R486) -/

/-- Little-endian numbers in some bytes. -/
def leAt (bs : List Byte) (o n : Nat) : Nat := leNat (fun i => bs.getD i 0) o n

/-- CRC-32C over an image with bytes 0x18 to 0x1B taken as zero. -/
def patchCrc (bs : List Byte) : Nat :=
  (crc32c (bs.take 0x18 ++ [0, 0, 0, 0] ++ bs.drop 0x1C)).toNat

/-- MAGIC, LEN and CRC of an image of `len` bytes. -/
def patchFormed (bs : List Byte) (len : Nat) : Bool :=
  64 ≤ len && len ≤ 524280 && len % 8 = 0 && leAt bs 0 4 = 0x5441504F && leAt bs 8 4 = len && leAt bs 0x18 4 = patchCrc bs

/-- Reserved fields of the header are zero, and PATCHVER is not. -/
def patchFieldsOk (bs : List Byte) : Bool :=
  leAt bs 6 2 = 0 && leAt bs 0xE 2 = 0 && leAt bs 0x1C 36 = 0 && leAt bs 0xC 2 ≠ 0

/-- An image fits this stepping and ROM. -/
def patchFits (bs : List Byte) : Bool :=
  let s := Config.stepping.toNat
  let rom := Config.romVersion.toNat
  s ≤ 31 && (leAt bs 0x10 4).testBit s && leAt bs 0x14 2 ≤ rom && rom ≤ leAt bs 0x16 2

/-- The checks of R485 in order. -/
def patchStatus (bs : List Byte) (len : Nat) : Option Byte :=
  firstFailing
    [(!patchFormed bs len, stFormat), (leAt bs 4 2 ≠ 1, stUnknownVersion), (!patchFieldsOk bs, stFormat),
      (!patchFits bs, stMismatch)]

/-- Where a half of region 2 begins, and its commit word. -/
def patchHalf (h : Bool) : Nat := 2 * nvRegion + if h then 0x80000 else 0
def Dev.commitWord (d : Dev) (h : Bool) : Word := BitVec.ofNat 64 (d.nvNat (patchHalf h + 0x7FFF8) 8)
def Dev.generation (d : Dev) (h : Bool) : Nat := nbits (d.commitWord h) 0 32

/-- The image of a half, and whether the half holds one: VALID, and a correct CRC. -/
def Dev.halfImage (d : Dev) (h : Bool) : List Byte :=
  d.nvBytes (patchHalf h) (min 524280 (d.nvNat (patchHalf h + 8) 4))
def Dev.halfValid (d : Dev) (h : Bool) : Bool :=
  bit (d.commitWord h) 32 && patchFormed (d.halfImage h) (d.nvNat (patchHalf h + 8) 4)

/-- Of two halves, which are valid or not, the one of higher generation. -/
def Dev.pickHalf (d : Dev) (v0 v1 : Bool) : Option Bool :=
  match v0, v1 with
  | true, true => some (d.generation false < d.generation true)
  | true, false => some false
  | false, true => some true
  | false, false => none

/-- The half in use. -/
def Dev.liveHalf (d : Dev) : Option Bool := d.pickHalf (d.halfValid false) (d.halfValid true)

/-- A half at start-up: a word of its image or of its commit that cannot be corrected makes it invalid (R480). -/
def Dev.halfReads (d : Dev) (l : List (Nat × Upset)) (h : Bool) : Bool :=
  d.halfValid h && !nvBad l (patchHalf h) (d.halfImage h).length && !nvBad l (patchHalf h + 0x7FFF8) 8

/-- FWPATCH: the image goes into the half not in use, its commit word last. -/
def fwpatch (r : BitVec 12) (k : Nat) (h : HostData) (d : Dev) : Dev :=
  d.perform r k (fun x => x.opc = 0x43) (fun x => headChecks r x true [lowMask 32, allBits]) fun x d =>
    let len := nbits (x.w 1) 0 32
    let d := d.readHost (d.pairFn r) (x.w 2) len h.status (!h.poisoned.isEmpty)
    let bs := bytesOf h.words (min len 524288)
    if dataStatus h ≠ stOk then d.finish r x (dataStatus h) 0
    else
      match patchStatus bs len with
      | some st => d.finish r x st 0
      | none =>
        let half : Bool := d.liveHalf = some false
        let commit : Word := 0x100000000#64 ||| BitVec.ofNat 64 ((d.generation (!half) + 1) % 2 ^ 32)
        let d := (d.putNv (patchHalf half) bs).putNv (patchHalf half + 0x7FFF8) (wordBytes commit)
        { d with mgt := { d.mgt with stored := BitVec.ofNat 16 (leAt bs 0xC 2) } }.finish r x stOk 0

/-- Step 2 of start-up: the patch is selected and checked (R486). -/
def Dev.selectPatch (d : Dev) (l : List (Nat × Upset)) : Dev :=
  match d.pickHalf (d.halfReads l false) (d.halfReads l true) with
  | none => { d with mgt := { d.mgt with patchVer := 0, patched := false, mismatch := false, stored := 0 } }
  | some h =>
    let bs := d.halfImage h
    let v : BitVec 16 := BitVec.ofNat 16 (leAt bs 0xC 2)
    if patchFits bs then { d with mgt := { d.mgt with patchVer := v, patched := true, mismatch := false, stored := v } }
    else
      { d with mgt := { d.mgt with patchVer := 0, patched := false, mismatch := true, stored := v } }.fault rMgtErr 2 106 [] []

/-! ### Calibration (R480, R481, R483) -/

/-- Offset and length of each group. -/
def calGroups : List (Nat × Nat) := [(0x40, 256), (0x140, 128), (0x1C0, 64), (0x1000, 4096), (0x2000, 65536)]

/-- A point of a voltage/frequency table: MHz, mV and VALID. -/
def pointAt (f : Nat → Byte) (k n : Nat) : Nat × Nat × Nat :=
  let o := 0x40 + 64 * k + 8 * n
  (leNat f o 2, leNat f (o + 2) 2, leNat f (o + 4) 1 % 2)

/-- Points P0 to P6 of a die lie in the ranges of expert control and ascend (R467). -/
def pointsOk (f : Nat → Byte) (k : Nat) : Bool :=
  ((List.range 7).all fun n =>
    let (hz, mv, v) := pointAt f k n
    800 ≤ hz && hz ≤ 2000 && 600 ≤ mv && mv ≤ 1000 && v = 1) &&
  (List.range 6).all fun n => (pointAt f k n).1 < (pointAt f k (n + 1)).1 && (pointAt f k n).2.1 < (pointAt f k (n + 1)).2.1

/-- Group g of a region with bytes `f` is valid: MAGIC and VER, VALID, and the CRC. -/
def groupOk (f : Nat → Byte) (g : Nat) : Bool :=
  let (o, n) := calGroups.getD g (0, 0)
  leNat f 0 4 = 0x4C41434F && leNat f 4 2 = 1 && leNat f (0x14 + 8 * g) 1 % 2 = 1 &&
  leNat f (0x10 + 8 * g) 4 = (crc32c ((List.range n).map fun i => f (o + i))).toNat

/-- Group g of region 1 replaces the factory group. -/
def userOk (f : Nat → Byte) (g : Nat) : Bool := groupOk f g && (g ≠ 0 || (List.range 4).all (pointsOk f))

/-- Factory groups that are invalid. -/
def factoryBad : BitVec 5 := BitVec.ofNat 5 (bitsOf 5 fun g => !groupOk Config.factoryByte g)

/-- No word of a group, of its directory entry or of its region's header is beyond correction (R480). -/
def groupReads (l : List (Nat × Upset)) (region g : Nat) : Bool :=
  let (o, n) := calGroups.getD g (0, 0)
  let base := nvRegion * region
  !nvBad l base 8 && !nvBad l (base + 0x10 + 8 * g) 8 && !nvBad l (base + o) n

/-- Region 1 by offset. -/
def Dev.userCal (d : Dev) : Map Byte :=
  (d.mgt.nv.filter fun x => nvRegion ≤ x.1 && x.1 < 2 * nvRegion).map fun x => (x.1 - nvRegion, x.2)

/-- The groups of start-up. -/
def Dev.selectCal (d : Dev) (l : List (Nat × Upset)) : Dev :=
  let cal := d.userCal
  let user : BitVec 5 := BitVec.ofNat 5 (bitsOf 5 fun g => userOk (fun o => mget 0 cal o) g && groupReads l 1 g)
  let bad : BitVec 5 := factoryBad ||| BitVec.ofNat 5 (bitsOf 5 fun g => !groupReads l 0 g)
  { d with mgt := { d.mgt with calUser := user, calBad := bad &&& ~~~user, cal := if user = 0 then [] else cal } }

/-- A loaded graph is neither complete nor not launched. -/
def Dev.graphsRun (d : Dev) : Bool := d.graphs.any fun g => g.2.launched && !g.2.complete

/-- RESTORE_FACTORY: region 1 is cleared and the factory groups are in use; it ends at the next tick. -/
def restoreFactory (r : BitVec 12) (k : Nat) (d : Dev) : Dev :=
  d.perform r k (fun x => x.opc = 0x45) (fun x => headChecks r x true [] ++ [(d.graphsRun, stBusy)]) fun x d =>
    let nv := d.mgt.nv.filter fun x => !(nvRegion ≤ x.1 && x.1 < 2 * nvRegion)
    let d := { d with mgt := { d.mgt with nv := nv, calUser := 0, calBad := factoryBad, cal := [], restoring := true } }
    (d.park r x).noteBelow

/-- RESTORE_FACTORY completes. -/
def Dev.finishRestore (d : Dev) : Dev :=
  if d.mgt.restoring then
    let d := { d with mgt := { d.mgt with restoring := false } }
    ((d.pair 0).started.filter fun x => x.opc = 0x45 && x.waiting).foldl (fun d x => d.finish 0 x stOk 0) d
  else d

/-! ### Watchdogs (R286, R487) -/

/-- MGT_WDOG: the core restarts, so its event controller is empty. -/
def mgtWdog (core : Bool) (d : Dev) : Dev :=
  let m := d.mgt
  let m := if core then { m with pupDepth := m.pupDepth &&& 0x0F, pupPend := m.pupPend &&& 0x03F }
    else { m with pupDepth := m.pupDepth &&& 0xF0, pupPend := m.pupPend &&& 0xFC0 }
  { d with mgt := m }.fault rMgtErr 3 107 [] []

/-! ### The commands -/

/-- FWPATCH. -/
def execFwpatch (r : BitVec 12) (k : Nat) (h : HostData) (s : State) : Host.Outcome State Fault Refusal :=
  onHub (fwpatch r k h) s

/-- NVSTORE_READ. -/
def execNvstoreRead (r : BitVec 12) (k : Nat) (us : List Upset) (s : State) : Host.Outcome State Fault Refusal :=
  onHub (nvstoreRead r k us) s

/-- NVSTORE_WRITE. -/
def execNvstoreWrite (r : BitVec 12) (k : Nat) (h : HostData) (s : State) : Host.Outcome State Fault Refusal :=
  onHub (nvstoreWrite r k h) s

/-- RESTORE_FACTORY. -/
def execRestoreFactory (r : BitVec 12) (k : Nat) (s : State) : Host.Outcome State Fault Refusal :=
  onDies (restoreFactory r k) s

/-- MGT_WDOG. -/
def execMgtWdog (core : Bool) (s : State) : Host.Outcome State Fault Refusal :=
  onHub (mgtWdog core) s

end Sys2Proof.Machine
end

