-- ==== Sys2Proof/Machine/Startup.lean ====
section
/-! DEFINITION. Supply, module resets and start-up (R450, R462, R463, R470, R473, R475 to R478, R482, R499). Start-up takes no time
of the model. -/

namespace Sys2Proof.Machine

def hbmEmpty : Hbm := { bytes := [], poison := [], full := [] }

/-! ### What a reset leaves -/

/-- Everything at reset but the NV store, TSHUT and the AON oscillator (R475); what the model counts itself goes on. -/
def Dev.moduleReset (d : Dev) : Dev :=
  let z := State.reset.dev
  { z with
    out := d.out, clock := d.clock, freeCtr := d.freeCtr
    mgt := { z.mgt with nv := d.mgt.nv, phase := 2 }
    pwr := { z.pwr with tshut := d.pwr.tshut, ovlo := d.pwr.ovlo } }

/-- The registers that a self-reset keeps: GLB.LOCK, FLT.SEV, FLT.CFG and the timers (R450). -/
def selfKept (key : Nat) : Bool := key = rLock || (rFltSev 0 ≤ key && key < rFltSev 8) || (rFltCfg ≤ key && key ≤ rQuiet)

/-- A module self-reset: as MRST_N, except as R450 states; the open episode closes. -/
def Dev.selfReset (d : Dev) : Dev :=
  let z := d.moduleReset
  { z with
    regs := { z.regs with
      cfg := d.regs.cfg.filter fun x => selfKept x.1
      status := d.regs.status.filter fun x => rFltSrc 0 ≤ x.1 && x.1 < rFltSrc 4 }
    flt := { z.flt with
      eseq := d.flt.eseq, recov := d.flt.recov
      selfRst := if d.flt.selfRst = 0xFFFF then d.flt.selfRst else d.flt.selfRst + 1 } }

/-- The rails off and on again: AON keeps the strap, the slot and the state of the I3C target (R462). -/
def Dev.railReset (d : Dev) : Dev :=
  let z := d.moduleReset
  { z with
    fbn := { z.fbn with
      root := d.fbn.root, slot := d.fbn.slot, slotKnown := d.fbn.slotKnown, enumLast := d.fbn.enumLast
      enumHigh := d.fbn.enumHigh, enumOut := d.fbn.enumOut, enumFrom := d.fbn.enumFrom }
    mgt := { z.mgt with da := d.mgt.da, ibi := d.mgt.ibi, mrl := d.mgt.mrl, ptr := d.mgt.ptr } }

/-! ### User configuration records (R482) -/

def ucfgBase : Nat := 3 * nvRegion

/-- The header and CRC of region 3 are right. -/
def Dev.ucfgOk (d : Dev) : Bool :=
  let n := d.nvNat (ucfgBase + 8) 4
  d.nvNat ucfgBase 4 = 0x4643554F && d.nvNat (ucfgBase + 4) 2 = 1 && n ≤ 131070 &&
  d.nvNat (ucfgBase + 12) 4 = (crc32c (d.nvBytes (ucfgBase + 16) (8 * n))).toNat

/-- A record at the start of which the index stands: a write of requester 0. -/
def Dev.applyRecord (d : Dev) (i : Nat) : Dev × Byte :=
  let off := d.nvNat (ucfgBase + 16 + 8 * i) 4
  let v : Reg := BitVec.ofNat 32 (d.nvNat (ucfgBase + 20 + 8 * i) 4)
  if off % 4 ≠ 0 then d.refuse { req := 0, bar2 := false, w64 := false } stUnaligned off v else d.write4 true 0 off v

/-- Records from index i; one whose word cannot be corrected is passed over, and the first refused write stops them (R480, log 80). -/
def Dev.applyRecords (d : Dev) (l : List (Nat × Upset)) (i : Nat) : Nat → Dev
  | 0 => d
  | n + 1 =>
    let x := if nvBad l (ucfgBase + 16 + 8 * i) 8 then (d, stOk) else d.applyRecord i
    if x.2 = stOk then Dev.applyRecords x.1 l (i + 1) n
    else { x.1 with mgt := { x.1.mgt with ucfgErr := true, ucfgIdx := BitVec.ofNat 32 i } }

/-- Step 9. An erased region 3 has no header. -/
def Dev.applyUser (d : Dev) (l : List (Nat × Upset)) : Dev :=
  if d.ucfgOk && !nvBad l ucfgBase 16 then d.applyRecords l 0 (d.nvNat (ucfgBase + 8) 4)
  else { d with mgt := { d.mgt with ucfgErr := true, ucfgIdx := BitVec.allOnes 32 } }

/-! ### Steps (R478) -/

/-- The end of step 1, or MRST_N rising: ROOT_N is latched, the wait for the slot begins, and ENUM_OUT is high meanwhile (R349, R499). -/
def Dev.latchStrap (d : Dev) (st : Startup) : Dev :=
  { d with fbn := { d.fbn with root := st.rootLow, enumFrom := d.clock.aon, enumHigh := false, enumOut := !d.fbn.slotKnown } }

/-- A die that fails its self-test or its stack's training is left isolated (R478). -/
def Dev.failDie (d : Dev) (k : DieId) : Dev := (d.isolate (.die k)).fault rMshErr 4 68 [.die k] []

/-- Steps 3 to 10, with PCLK present. -/
def Dev.startRest (d : Dev) (st : Startup) : Dev :=
  let d := { d with mgt := { d.mgt with phase := 8, pclk := true, fclk := st.fclk }
                    pwr := { d.pwr with off := false } }
  let d := (allDies.filter fun k => bit st.failedDies k.toNat).foldl (fun d k => d.failDie k) d
  let d := ({ d with mgt := { d.mgt with phase := 9 } }.nvFaults (st.nv.filter fun x => ucfgBase ≤ 8 * x.1)).applyUser st.nv
  let d := { d with mgt := { d.mgt with phase := 10, ready := true, readyAt := d.clock.aon } }
  let ports := ((List.range 16).map (BitVec.ofNat 4)).filter d.portEn
  let d := (ports.foldl (fun d p => d.enableLinks p) d).ibiSend 2
  { d with flt := { d.flt with freezePinLow := st.freezeLow } }

/-- Steps 2 to 10; step 3 waits while PCLK is absent. -/
def Dev.startUp (d : Dev) (st : Startup) : Dev :=
  let d := { d with mgt := { d.mgt with phase := 2, pclk := st.pclk, fclk := st.fclk }
                    pwr := { d.pwr with hotHold := false } }
  let d := ((d.nvFaults (st.nv.filter fun x => 8 * x.1 < ucfgBase)).selectPatch st.nv).selectCal st.nv
  if st.pclk then d.startRest st else { d with mgt := { d.mgt with phase := 3 } }

/-! ### Supply and reset events -/

/-- A sensor that works reads 95.0 °C or more (R470). -/
def Dev.tooHot (d : Dev) : Bool := (d.working (List.range 32)).any fun n => 1520 ≤ d.temp n

/-- The module may not restart yet after a thermal shutdown. -/
def Dev.heldHot (d : Dev) : Bool := d.pwr.hotHold && d.tooHot

/-- Rails off but AON's. -/
def Dev.railsOff (d : Dev) : Dev :=
  { d with
    pwr := { d.pwr with off := true }
    mgt := { d.mgt with phase := if d.mgt.phase = 1 then 1 else 2, ready := false } }

/-- A start of the whole device: HBM contents are lost. -/
def restart (d : Dev) : Hbm × Dev := (hbmEmpty, d)

/-- POWER_ON. -/
def powerOn (st : Startup) (h : Hbm) (d : Dev) : Hbm × Dev :=
  if d.mgt.phase = 1 && !d.heldHot then restart ((d.latchStrap st).startUp st) else (h, d)

/-- UVLO_FALL: every rail is off; the NV store alone keeps what it holds (R463, R470). -/
def uvloFall (d : Dev) : Hbm × Dev :=
  let z := d.moduleReset
  restart { z with
    mgt := { z.mgt with phase := 1 }
    pwr := { z.pwr with tshut := false, ovlo := false, hotHold := d.pwr.hotHold
                        temps := if d.pwr.hotHold then d.pwr.temps else [] } }

/-- OVLO_RISE. -/
def ovloRise (d : Dev) : Dev :=
  if d.mgt.phase = 1 then d else { d.railsOff with pwr := { d.railsOff.pwr with ovlo := true } }

/-- OVLO_FALL: start-up from step 2. -/
def ovloFall (st : Startup) (h : Hbm) (d : Dev) : Hbm × Dev :=
  if !d.pwr.ovlo then (h, d)
  else
    let d := { d with pwr := { d.pwr with ovlo := false } }
    if d.pwr.hotHold then (h, d) else restart (d.railReset.startUp st)

/-- MRST_N: from its rising edge. Before VIN is valid it does nothing; above overvoltage lockout the rails stay off; after a
thermal shutdown it waits until every sensor is cool. -/
def mrst (st : Startup) (h : Hbm) (d : Dev) : Hbm × Dev :=
  if d.mgt.phase = 1 || d.heldHot then (h, d)
  else if d.pwr.ovlo then restart (d.moduleReset.latchStrap st)
  else restart ((d.moduleReset.latchStrap st).startUp st)

/-- THERMAL_SHUTDOWN: any sensor at 115.0 °C or above; it needs no firmware and works in every freeze. -/
def thermalShutdown (n : BitVec 5) (t : BitVec 16) (d : Dev) : Dev :=
  if 1840 ≤ t.toInt then
    let d := (d.setTemp n t).railsOff
    { d with pwr := { d.pwr with tshut := true, hotHold := true } }
  else d

/-- ESCALATION_STAGE_3: the module resets itself when SPINT3 has passed unacknowledged and is enabled (R450). -/
def stage3 (st : Startup) (h : Hbm) (d : Dev) : Hbm × Dev :=
  match d.flt.episode with
  | none => (h, d)
  | some e =>
    if d.stageDue e 3 && d.fld (rSpint 3) 31 1 = 1 && !d.diesStop then
      restart (((d.selfReset.latchStrap st).faultOnly 109 [] []).startUp st)
    else (h, d)

/-- PCLK_ARRIVAL: start-up goes on from step 3. -/
def pclkArrival (st : Startup) (d : Dev) : Dev :=
  if d.mgt.phase = 3 && !d.pwr.ovlo && !d.pwr.hotHold then d.startRest st else d

/-- The effect of an event of the supply, which works in every state, on HBM and the device. -/
def onSupply (f : Hbm → Dev → Hbm × Dev) (s : State) : Host.Outcome State Fault Refusal :=
  .next { s with hbm := (f s.hbm s.dev).1, dev := (f s.hbm s.dev).2 }

/-! ### The commands -/

/-- MRST_N. -/
def execMrstN (st : Startup) (s : State) : Host.Outcome State Fault Refusal :=
  onSupply (mrst st) s

/-- POWER_ON. -/
def execPowerOn (st : Startup) (s : State) : Host.Outcome State Fault Refusal :=
  onSupply (powerOn st) s

/-- UVLO_FALL. -/
def execUvloFall (s : State) : Host.Outcome State Fault Refusal :=
  onSupply ((fun _ d => uvloFall d)) s

/-- OVLO_RISE. -/
def execOvloRise (s : State) : Host.Outcome State Fault Refusal :=
  onAlways ovloRise s

/-- OVLO_FALL. -/
def execOvloFall (st : Startup) (s : State) : Host.Outcome State Fault Refusal :=
  onSupply (ovloFall st) s

/-- THERMAL_SHUTDOWN. -/
def execThermalShutdown (n : BitVec 5) (temp : BitVec 16) (s : State) : Host.Outcome State Fault Refusal :=
  onAlways (thermalShutdown n temp) s

/-- ESCALATION_STAGE_3. -/
def execEscalationStage3 (st : Startup) (s : State) : Host.Outcome State Fault Refusal :=
  onSupply (stage3 st) s

/-- PCLK_ARRIVAL. -/
def execPclkArrival (st : Startup) (s : State) : Host.Outcome State Fault Refusal :=
  onAlways (pclkArrival st) s

end Sys2Proof.Machine
end

