-- ==== Sys2Proof/Machine/Debug.lean ====
section
/-! DEFINITION. The test access port, the I3C target, and the FAULT_N pin (R441, R461, R489, R490, R499). -/

namespace Sys2Proof.Machine

/-! ### FAULT_N (R441, R470, R499) -/

/-- The fault collector drives FAULT_N low: a source whose bit is set stands at or above PINTHR. -/
def Dev.faultPin (d : Dev) : Bool :=
  sevTable.any fun s => bit (d.statusReg (rFltSrc (s.1 / 32))) (s.1 % 32) && d.fld rFltCfg 0 2 ≤ d.severity s.1

/-- FAULT_N is low: held after a thermal shutdown, in steps 1 to 3 of start-up, or by the collector. -/
def Dev.faultLow (d : Dev) : Bool := d.pwr.tshut && d.pwr.off || d.mgt.phase.toNat < 4 || d.faultPin

/-! ### The test access port -/

/-- An instruction is in the instruction register. -/
def Dev.tapIr (d : Dev) (code : Byte) : Dev := { d with tap := { d.tap with ir := code } }

/-- The n low bits of a number, bit 0 first. -/
def bitList (v n : Nat) : List Bool := (List.range n).map v.testBit

/-- EXTEST: the boundary register stands between TDI and TDO, and drives the pins. -/
def extest (d : Dev) : Dev := (d.tapIr 0x00).emit (.tdo (bitList d.tap.boundary.toNat 96))

/-- SAMPLE_PRELOAD: the boundary register takes the pins. -/
def samplePreload (pins : BitVec 96) (d : Dev) : Dev :=
  { (d.tapIr 0x01) with tap := { (d.tapIr 0x01).tap with boundary := pins } }.emit (.tdo (bitList pins.toNat 96))

/-- The identification code. -/
def idcodeBits : Reg := bits Config.stepping 0 4 ++ (0x7A18 : BitVec 16) ++ (0x557 : BitVec 11) ++ (1 : BitVec 1)

def idcode (d : Dev) : Dev := (d.tapIr 0x02).emit (.tdo (bitList idcodeBits.toNat 32))

/-- FREEZE: the freeze latch sets; without power there is none. -/
def tapFreeze (d : Dev) : Dev :=
  let d := (d.tapIr 0x08).emit (.tdo [false])
  if d.pwr.off then d else { d with flt := { d.flt with freezeLatch := true } }

/-- RESUME: the freeze latch clears. -/
def tapResume (d : Dev) : Dev :=
  let d := (d.tapIr 0x09).emit (.tdo [false])
  (Dev.thaw d.frozen { d with flt := { d.flt with freezeLatch := false } }).drainTlps

/-- ROSEL: the port's own selection and base. -/
def tapRosel (v : Word) (d : Dev) : Dev := { (d.tapIr 0x0A) with tap := { (d.tapIr 0x0A).tap with rosel := v } }

/-- Bit i of the selected space from the base; ones when no freeze is in force. -/
def Dev.roBit (d : Dev) (i : Nat) : Bool :=
  if d.frozen then
    bit (d.spaceByte (nbits d.tap.rosel 60 4) (nbits d.tap.rosel 48 10) (nbits d.tap.rosel 0 32 + i / 8) true) (i % 8)
  else true

/-- RODATA: n bits shifted out. -/
def rodata (n : Nat) (d : Dev) : Dev := (d.tapIr 0x0B).emit (.tdo ((List.range n).map d.roBit))

/-- n words the spec leaves open. -/
def Dev.freeWords (d : Dev) : Nat → Dev × List Word
  | 0 => (d, [])
  | n + 1 => ((Dev.freeWords d.free.2 n).1, d.free.1 :: (Dev.freeWords d.free.2 n).2)

/-- IJTAG: n bits of the IEEE 1687 network, whose layout the spec does not give: free values (log 14). -/
def ijtag (n : Nat) (d : Dev) : Dev :=
  let x := d.freeWords ((n + 63) / 64)
  (x.1.tapIr 0x10).emit (.tdo ((x.2.flatMap fun w => bitList w.toNat 64).take n))

/-- BYPASS: the one bit of its register captures 0. -/
def bypass (d : Dev) : Dev := (d.tapIr 0xFF).emit (.tdo [false])

/-- TRST_N: Test-Logic-Reset (log 14). -/
def trst (d : Dev) : Dev := d.tapIr 0x02

/-! ### I3C (R489; log 13) -/

/-- The provisioned ID, most significant byte first. -/
def Dev.pidBytes (d : Dev) : List Byte := [0x05, 0x8E, 0x7A, 0x18, (0 : BitVec 4) ++ bits d.fbn.slot 4 4, bits d.fbn.slot 0 4 ++ (0 : BitVec 4)]

def bcr : Byte := 0x06
def dcr : Byte := 0x00

def Dev.setDa (d : Dev) (a : Option (BitVec 7)) : Dev := { d with mgt := { d.mgt with da := a } }

/-- ENTDAA: a target without an address sends its ID and takes one. -/
def entdaa (da : BitVec 7) (d : Dev) : Dev :=
  if d.mgt.da.isSome then d else (d.setDa (some da)).emit (.i3c (d.pidBytes ++ [bcr, dcr]))

def rstdaa (d : Dev) : Dev := d.setDa none

/-- SETDASA: an address given by the static address. -/
def setdasa (da : BitVec 7) (d : Dev) : Dev := if d.mgt.da.isSome then d else d.setDa (some da)

/-- SETNEWDA: a new address in place of the one held. -/
def setnewda (da : BitVec 7) (d : Dev) : Dev := if d.mgt.da.isSome then d.setDa (some da) else d

def setIbi (b : Bool) (d : Dev) : Dev := { d with mgt := { d.mgt with ibi := b } }

/-- A directed code answered by a target that has a dynamic address. -/
def i3cGet (f : Dev → List Byte) (d : Dev) : Dev := if d.mgt.da.isSome then d.emit (.i3c (f d)) else d

def setmrl (n : BitVec 16) (d : Dev) : Dev := { d with mgt := { d.mgt with mrl := n } }

/-- GETMRL: the length, most significant byte first, and one byte of interrupt payload. -/
def mrlBytes (d : Dev) : List Byte := [bits d.mgt.mrl 8 8, bits d.mgt.mrl 0 8, 1]

/-! ### Telemetry (R490) -/

/-- Bytes of a number, little-endian. -/
def leBytes (v n : Nat) : List Byte := (List.range n).map fun i => BitVec.ofNat 8 (v / 256 ^ i)

/-- The hotter of two sensors. -/
def Dev.hotOf (d : Dev) (a b : Nat) : Nat := tempBits (max (d.temp a) (d.temp b))

/-- The telemetry page up to byte 0x2F; the rest reads 0. -/
def Dev.page (d : Dev) : List Byte :=
  leBytes glbId.toNat 4 ++ leBytes d.glbStatus.toNat 4 ++ leBytes d.pwr.vin.toNat 2 ++ leBytes d.pwr.iin.toNat 2 ++
  leBytes d.powerReg 2 ++ leBytes d.fbn.slot.toNat 2 ++ (allDies.flatMap fun k => leBytes (tempBits (d.tmax k)) 2) ++
  leBytes (d.hotOf 28 29) 2 ++ leBytes (d.hotOf 30 31) 2 ++
  ([24, 25, 26, 27].flatMap fun n => leBytes (tempBits (d.temp n)) 2) ++ leBytes d.episodeReg.toNat 4 ++
  leBytes d.recoveryReg.toNat 4 ++ leBytes d.fwVer.toNat 4

/-- I3C_POINTER_WRITE: the first byte is the pointer. -/
def pointerWrite (b : List Byte) (d : Dev) : Dev :=
  match b with
  | [] => d
  | p :: _ => { d with mgt := { d.mgt with ptr := p } }

/-- I3C_TELEMETRY_READ: n bytes of one snapshot from the pointer, wrapping at 0xFF. -/
def telemetryRead (n : Nat) (d : Dev) : Dev :=
  let page := d.page
  d.emit (.i3c ((List.range n).map fun i => page.getD ((d.mgt.ptr.toNat + i) % 256) 0))

/-! ### The commands -/

/-- EXTEST. -/
def execExtest (s : State) : Host.Outcome State Fault Refusal :=
  onAlways extest s

/-- SAMPLE_PRELOAD. -/
def execSamplePreload (pins : BitVec 96) (s : State) : Host.Outcome State Fault Refusal :=
  onAlways (samplePreload pins) s

/-- IDCODE. -/
def execIdcode (s : State) : Host.Outcome State Fault Refusal :=
  onAlways idcode s

/-- TAP_FREEZE. -/
def execTapFreeze (s : State) : Host.Outcome State Fault Refusal :=
  onAlways tapFreeze s

/-- TAP_RESUME. -/
def execTapResume (s : State) : Host.Outcome State Fault Refusal :=
  onAlways tapResume s

/-- ROSEL. -/
def execRosel (v : Word) (s : State) : Host.Outcome State Fault Refusal :=
  onAlways (tapRosel v) s

/-- RODATA. -/
def execRodata (n : Nat) (s : State) : Host.Outcome State Fault Refusal :=
  onAlways (rodata n) s

/-- IJTAG. -/
def execIjtag (n : Nat) (s : State) : Host.Outcome State Fault Refusal :=
  onAlways (ijtag n) s

/-- BYPASS. -/
def execBypass (s : State) : Host.Outcome State Fault Refusal :=
  onAlways bypass s

/-- TRST_N. -/
def execTrstN (s : State) : Host.Outcome State Fault Refusal :=
  onAlways trst s

/-- ENTDAA. -/
def execEntdaa (da : BitVec 7) (s : State) : Host.Outcome State Fault Refusal :=
  onAlways (entdaa da) s

/-- RSTDAA. -/
def execRstdaa (s : State) : Host.Outcome State Fault Refusal :=
  onAlways rstdaa s

/-- SETDASA. -/
def execSetdasa (da : BitVec 7) (s : State) : Host.Outcome State Fault Refusal :=
  onAlways (setdasa da) s

/-- SETNEWDA. -/
def execSetnewda (da : BitVec 7) (s : State) : Host.Outcome State Fault Refusal :=
  onAlways (setnewda da) s

/-- ENEC. -/
def execEnec (s : State) : Host.Outcome State Fault Refusal :=
  onAlways (setIbi true) s

/-- DISEC. -/
def execDisec (s : State) : Host.Outcome State Fault Refusal :=
  onAlways (setIbi false) s

/-- GETPID. -/
def execGetpid (s : State) : Host.Outcome State Fault Refusal :=
  onAlways (i3cGet Dev.pidBytes) s

/-- GETBCR. -/
def execGetbcr (s : State) : Host.Outcome State Fault Refusal :=
  onAlways (i3cGet fun _ => [bcr]) s

/-- GETDCR. -/
def execGetdcr (s : State) : Host.Outcome State Fault Refusal :=
  onAlways (i3cGet fun _ => [dcr]) s

/-- GETSTATUS. -/
def execGetstatus (s : State) : Host.Outcome State Fault Refusal :=
  onAlways (i3cGet fun _ => [0, 0]) s

/-- SETMRL. -/
def execSetmrl (n : BitVec 16) (s : State) : Host.Outcome State Fault Refusal :=
  onAlways (setmrl n) s

/-- GETMRL. -/
def execGetmrl (s : State) : Host.Outcome State Fault Refusal :=
  onAlways (i3cGet mrlBytes) s

/-- I3C_POINTER_WRITE. -/
def execI3cPointerWrite (b : List Byte) (s : State) : Host.Outcome State Fault Refusal :=
  onAlways (pointerWrite b) s

/-- I3C_TELEMETRY_READ. -/
def execI3cTelemetryRead (n : Nat) (s : State) : Host.Outcome State Fault Refusal :=
  onAlways (telemetryRead n) s

end Sys2Proof.Machine
end

