-- ==== Sys2Proof/Machine/DecimalArith.lean ====
section
/-! DEFINITION. Dispatch of the opcodes 0x0C0 to 0x0FF (R115 to R120), one definition per command. -/

namespace Sys2Proof.Machine

/-- DADD. -/
def execDadd (x : Disp) (s : State) : Host.Outcome State Fault Refusal := onDies (dispatch 0x0C0 x) s

/-- DSUB. -/
def execDsub (x : Disp) (s : State) : Host.Outcome State Fault Refusal := onDies (dispatch 0x0C1 x) s

/-- DADJ. -/
def execDadj (x : Disp) (s : State) : Host.Outcome State Fault Refusal := onDies (dispatch 0x0C2 x) s

/-- DMUL1. -/
def execDmul1 (x : Disp) (s : State) : Host.Outcome State Fault Refusal := onDies (dispatch 0x0C3 x) s

/-- DSHL. -/
def execDshl (x : Disp) (s : State) : Host.Outcome State Fault Refusal := onDies (dispatch 0x0C4 x) s

/-- DSHR. -/
def execDshr (x : Disp) (s : State) : Host.Outcome State Fault Refusal := onDies (dispatch 0x0C5 x) s

/-- DVAL. -/
def execDval (x : Disp) (s : State) : Host.Outcome State Fault Refusal := onDies (dispatch 0x0C6 x) s

/-- DTOB. -/
def execDtob (x : Disp) (s : State) : Host.Outcome State Fault Refusal := onDies (dispatch 0x0C7 x) s

/-- BTOD. -/
def execBtod (x : Disp) (s : State) : Host.Outcome State Fault Refusal := onDies (dispatch 0x0C8 x) s

/-- DNEG. -/
def execDneg (x : Disp) (s : State) : Host.Outcome State Fault Refusal := onDies (dispatch 0x0C9 x) s

/-- DSEQ. -/
def execDseq (x : Disp) (s : State) : Host.Outcome State Fault Refusal := onDies (dispatch 0x0D0 x) s

/-- DSLT. -/
def execDslt (x : Disp) (s : State) : Host.Outcome State Fault Refusal := onDies (dispatch 0x0D1 x) s

/-- DSLE. -/
def execDsle (x : Disp) (s : State) : Host.Outcome State Fault Refusal := onDies (dispatch 0x0D2 x) s

end Sys2Proof.Machine
end

