-- ==== Sys2Proof/Machine/FloatArith.lean ====
section
/-! DEFINITION. Dispatch of the opcodes 0x080 to 0x0BF (R110 to R112), one definition per command. -/

namespace Sys2Proof.Machine

/-- FADD. -/
def execFadd (x : Disp) (s : State) : Host.Outcome State Fault Refusal := onDies (dispatch 0x080 x) s

/-- FSUB. -/
def execFsub (x : Disp) (s : State) : Host.Outcome State Fault Refusal := onDies (dispatch 0x081 x) s

/-- FMUL. -/
def execFmul (x : Disp) (s : State) : Host.Outcome State Fault Refusal := onDies (dispatch 0x082 x) s

/-- FDIV. -/
def execFdiv (x : Disp) (s : State) : Host.Outcome State Fault Refusal := onDies (dispatch 0x083 x) s

/-- FSQRT. -/
def execFsqrt (x : Disp) (s : State) : Host.Outcome State Fault Refusal := onDies (dispatch 0x084 x) s

/-- FMIN. -/
def execFmin (x : Disp) (s : State) : Host.Outcome State Fault Refusal := onDies (dispatch 0x085 x) s

/-- FMAX. -/
def execFmax (x : Disp) (s : State) : Host.Outcome State Fault Refusal := onDies (dispatch 0x086 x) s

/-- FNEG. -/
def execFneg (x : Disp) (s : State) : Host.Outcome State Fault Refusal := onDies (dispatch 0x087 x) s

/-- FABS. -/
def execFabs (x : Disp) (s : State) : Host.Outcome State Fault Refusal := onDies (dispatch 0x088 x) s

/-- FCVTD. -/
def execFcvtd (x : Disp) (s : State) : Host.Outcome State Fault Refusal := onDies (dispatch 0x089 x) s

/-- FCVTS. -/
def execFcvts (x : Disp) (s : State) : Host.Outcome State Fault Refusal := onDies (dispatch 0x08A x) s

/-- FCVTH. -/
def execFcvth (x : Disp) (s : State) : Host.Outcome State Fault Refusal := onDies (dispatch 0x08B x) s

/-- FTOI. -/
def execFtoi (x : Disp) (s : State) : Host.Outcome State Fault Refusal := onDies (dispatch 0x08C x) s

/-- ITOF. -/
def execItof (x : Disp) (s : State) : Host.Outcome State Fault Refusal := onDies (dispatch 0x08D x) s

/-- FRND. -/
def execFrnd (x : Disp) (s : State) : Host.Outcome State Fault Refusal := onDies (dispatch 0x08E x) s

end Sys2Proof.Machine
end

