-- ==== Sys2Proof/Machine/Integer.lean ====
section
/-! DEFINITION. Dispatch of the opcodes 0x000 to 0x03F (chapter 4), one definition per command. -/

namespace Sys2Proof.Machine

/-- ADD. -/
def execAdd (x : Disp) (s : State) : Host.Outcome State Fault Refusal := onDies (dispatch 0x000 x) s

/-- SUB. -/
def execSub (x : Disp) (s : State) : Host.Outcome State Fault Refusal := onDies (dispatch 0x001 x) s

/-- MUL. -/
def execMul (x : Disp) (s : State) : Host.Outcome State Fault Refusal := onDies (dispatch 0x002 x) s

/-- MULH. -/
def execMulh (x : Disp) (s : State) : Host.Outcome State Fault Refusal := onDies (dispatch 0x003 x) s

/-- DIV. -/
def execDiv (x : Disp) (s : State) : Host.Outcome State Fault Refusal := onDies (dispatch 0x004 x) s

/-- REM. -/
def execRem (x : Disp) (s : State) : Host.Outcome State Fault Refusal := onDies (dispatch 0x005 x) s

/-- AND. -/
def execAnd (x : Disp) (s : State) : Host.Outcome State Fault Refusal := onDies (dispatch 0x006 x) s

/-- OR. -/
def execOr (x : Disp) (s : State) : Host.Outcome State Fault Refusal := onDies (dispatch 0x007 x) s

/-- XOR. -/
def execXor (x : Disp) (s : State) : Host.Outcome State Fault Refusal := onDies (dispatch 0x008 x) s

/-- ANDN. -/
def execAndn (x : Disp) (s : State) : Host.Outcome State Fault Refusal := onDies (dispatch 0x009 x) s

/-- NOT. -/
def execNot (x : Disp) (s : State) : Host.Outcome State Fault Refusal := onDies (dispatch 0x00A x) s

/-- NEG. -/
def execNeg (x : Disp) (s : State) : Host.Outcome State Fault Refusal := onDies (dispatch 0x00B x) s

/-- ABS. -/
def execAbs (x : Disp) (s : State) : Host.Outcome State Fault Refusal := onDies (dispatch 0x00C x) s

/-- MIN. -/
def execMin (x : Disp) (s : State) : Host.Outcome State Fault Refusal := onDies (dispatch 0x00D x) s

/-- MAX. -/
def execMax (x : Disp) (s : State) : Host.Outcome State Fault Refusal := onDies (dispatch 0x00E x) s

/-- ADDC. -/
def execAddc (x : Disp) (s : State) : Host.Outcome State Fault Refusal := onDies (dispatch 0x00F x) s

/-- SUBB. -/
def execSubb (x : Disp) (s : State) : Host.Outcome State Fault Refusal := onDies (dispatch 0x010 x) s

/-- MOV. -/
def execMov (x : Disp) (s : State) : Host.Outcome State Fault Refusal := onDies (dispatch 0x011 x) s

/-- LDI. -/
def execLdi (x : Disp) (s : State) : Host.Outcome State Fault Refusal := onDies (dispatch 0x012 x) s

end Sys2Proof.Machine
end

