-- ==== Sys2Proof/Machine/MemoryOps.lean ====
section
/-! DEFINITION. Dispatch of the opcodes 0x180 to 0x1BF (R139 to R147), one definition per command. -/

namespace Sys2Proof.Machine

/-- LD. -/
def execLd (x : Disp) (s : State) : Host.Outcome State Fault Refusal := onDies (dispatch 0x180 x) s

/-- ST. -/
def execSt (x : Disp) (s : State) : Host.Outcome State Fault Refusal := onDies (dispatch 0x181 x) s

/-- LDS. -/
def execLds (x : Disp) (s : State) : Host.Outcome State Fault Refusal := onDies (dispatch 0x182 x) s

/-- STS. -/
def execSts (x : Disp) (s : State) : Host.Outcome State Fault Refusal := onDies (dispatch 0x183 x) s

/-- AADD. -/
def execAadd (x : Disp) (s : State) : Host.Outcome State Fault Refusal := onDies (dispatch 0x184 x) s

/-- AXCHG. -/
def execAxchg (x : Disp) (s : State) : Host.Outcome State Fault Refusal := onDies (dispatch 0x185 x) s

/-- ACAS. -/
def execAcas (x : Disp) (s : State) : Host.Outcome State Fault Refusal := onDies (dispatch 0x186 x) s

/-- AMIN. -/
def execAmin (x : Disp) (s : State) : Host.Outcome State Fault Refusal := onDies (dispatch 0x187 x) s

/-- AMAX. -/
def execAmax (x : Disp) (s : State) : Host.Outcome State Fault Refusal := onDies (dispatch 0x188 x) s

/-- AAND. -/
def execAand (x : Disp) (s : State) : Host.Outcome State Fault Refusal := onDies (dispatch 0x189 x) s

/-- AOR. -/
def execAor (x : Disp) (s : State) : Host.Outcome State Fault Refusal := onDies (dispatch 0x18A x) s

/-- LOCK. -/
def execLock (x : Disp) (s : State) : Host.Outcome State Fault Refusal := onDies (dispatch 0x18B x) s

/-- TRYLOCK. -/
def execTrylock (x : Disp) (s : State) : Host.Outcome State Fault Refusal := onDies (dispatch 0x18C x) s

/-- UNLOCK. -/
def execUnlock (x : Disp) (s : State) : Host.Outcome State Fault Refusal := onDies (dispatch 0x18D x) s

/-- FENCE. -/
def execFence (x : Disp) (s : State) : Host.Outcome State Fault Refusal := onDies (dispatch 0x18E x) s

end Sys2Proof.Machine
end

