-- ==== Sys2Proof/Machine/Shift.lean ====
section
/-! DEFINITION. Dispatch of the opcodes 0x040 to 0x07F (R106), one definition per command. -/

namespace Sys2Proof.Machine

/-- SHL. -/
def execShl (x : Disp) (s : State) : Host.Outcome State Fault Refusal := onDies (dispatch 0x040 x) s

/-- SHR. -/
def execShr (x : Disp) (s : State) : Host.Outcome State Fault Refusal := onDies (dispatch 0x041 x) s

/-- SAR. -/
def execSar (x : Disp) (s : State) : Host.Outcome State Fault Refusal := onDies (dispatch 0x042 x) s

/-- ROL. -/
def execRol (x : Disp) (s : State) : Host.Outcome State Fault Refusal := onDies (dispatch 0x043 x) s

/-- ROR. -/
def execRor (x : Disp) (s : State) : Host.Outcome State Fault Refusal := onDies (dispatch 0x044 x) s

/-- POPC. -/
def execPopc (x : Disp) (s : State) : Host.Outcome State Fault Refusal := onDies (dispatch 0x045 x) s

/-- CLZ. -/
def execClz (x : Disp) (s : State) : Host.Outcome State Fault Refusal := onDies (dispatch 0x046 x) s

/-- CTZ. -/
def execCtz (x : Disp) (s : State) : Host.Outcome State Fault Refusal := onDies (dispatch 0x047 x) s

/-- BREV. -/
def execBrev (x : Disp) (s : State) : Host.Outcome State Fault Refusal := onDies (dispatch 0x048 x) s

/-- BSWAP. -/
def execBswap (x : Disp) (s : State) : Host.Outcome State Fault Refusal := onDies (dispatch 0x049 x) s

/-- SPLAT. -/
def execSplat (x : Disp) (s : State) : Host.Outcome State Fault Refusal := onDies (dispatch 0x04A x) s

/-- EXTR. -/
def execExtr (x : Disp) (s : State) : Host.Outcome State Fault Refusal := onDies (dispatch 0x04B x) s

end Sys2Proof.Machine
end

