-- ==== Sys2Proof/Machine/Steering.lean ====
section
/-! DEFINITION. Dispatch of the opcodes 0x100 to 0x13F (R124), one definition per command. -/

namespace Sys2Proof.Machine

/-- SEQ. -/
def execSeq (x : Disp) (s : State) : Host.Outcome State Fault Refusal := onDies (dispatch 0x100 x) s

/-- SLT. -/
def execSlt (x : Disp) (s : State) : Host.Outcome State Fault Refusal := onDies (dispatch 0x101 x) s

/-- SLE. -/
def execSle (x : Disp) (s : State) : Host.Outcome State Fault Refusal := onDies (dispatch 0x102 x) s

/-- FSEQ. -/
def execFseq (x : Disp) (s : State) : Host.Outcome State Fault Refusal := onDies (dispatch 0x103 x) s

/-- FSLT. -/
def execFslt (x : Disp) (s : State) : Host.Outcome State Fault Refusal := onDies (dispatch 0x104 x) s

/-- FSLE. -/
def execFsle (x : Disp) (s : State) : Host.Outcome State Fault Refusal := onDies (dispatch 0x105 x) s

/-- FSUN. -/
def execFsun (x : Disp) (s : State) : Host.Outcome State Fault Refusal := onDies (dispatch 0x106 x) s

/-- STEST. -/
def execStest (x : Disp) (s : State) : Host.Outcome State Fault Refusal := onDies (dispatch 0x107 x) s

/-- STEER. -/
def execSteer (x : Disp) (s : State) : Host.Outcome State Fault Refusal := onDies (dispatch 0x108 x) s

/-- GATE. -/
def execGate (x : Disp) (s : State) : Host.Outcome State Fault Refusal := onDies (dispatch 0x109 x) s

/-- MERGE. -/
def execMerge (x : Disp) (s : State) : Host.Outcome State Fault Refusal := onDies (dispatch 0x10A x) s

end Sys2Proof.Machine
end

