-- ==== Sys2Proof/Machine/TagFrame.lean ====
section
/-! DEFINITION. Dispatch of the opcodes 0x140 to 0x17F (R126 to R136), one definition per command. -/

namespace Sys2Proof.Machine

/-- NEWF. -/
def execNewf (x : Disp) (s : State) : Host.Outcome State Fault Refusal := onDies (dispatch 0x140 x) s

/-- FREEF. -/
def execFreef (x : Disp) (s : State) : Host.Outcome State Fault Refusal := onDies (dispatch 0x141 x) s

/-- LOOPW. -/
def execLoopw (x : Disp) (s : State) : Host.Outcome State Fault Refusal := onDies (dispatch 0x142 x) s

/-- ADVW. -/
def execAdvw (x : Disp) (s : State) : Host.Outcome State Fault Refusal := onDies (dispatch 0x143 x) s

/-- SETS. -/
def execSets (x : Disp) (s : State) : Host.Outcome State Fault Refusal := onDies (dispatch 0x144 x) s

/-- GETS. -/
def execGets (x : Disp) (s : State) : Host.Outcome State Fault Refusal := onDies (dispatch 0x145 x) s

/-- GETIT. -/
def execGetit (x : Disp) (s : State) : Host.Outcome State Fault Refusal := onDies (dispatch 0x146 x) s

/-- SETIT. -/
def execSetit (x : Disp) (s : State) : Host.Outcome State Fault Refusal := onDies (dispatch 0x147 x) s

/-- GETF. -/
def execGetf (x : Disp) (s : State) : Host.Outcome State Fault Refusal := onDies (dispatch 0x148 x) s

/-- SETF. -/
def execSetf (x : Disp) (s : State) : Host.Outcome State Fault Refusal := onDies (dispatch 0x149 x) s

/-- SETCL. -/
def execSetcl (x : Disp) (s : State) : Host.Outcome State Fault Refusal := onDies (dispatch 0x14A x) s

/-- SEND. -/
def execSend (x : Disp) (s : State) : Host.Outcome State Fault Refusal := onDies (dispatch 0x14B x) s

/-- SENDO. -/
def execSendo (x : Disp) (s : State) : Host.Outcome State Fault Refusal := onDies (dispatch 0x14C x) s

end Sys2Proof.Machine
end

