-- ==== Sys2Proof/Machine/Dispatch.lean ====
section
/-! DEFINITION. The meaning of each command: one arm per row of spec/opcode_table.json, one definition per arm. -/

namespace Sys2Proof.Machine

/-- The effect of a command on everything but the queue of waiting commands. -/
def exec (i : Instr) (s : State) : Host.Outcome State Fault Refusal :=
  match i with
  | .add d => Sys2Proof.Machine.execAdd d s
  | .sub d => Sys2Proof.Machine.execSub d s
  | .mul d => Sys2Proof.Machine.execMul d s
  | .mulh d => Sys2Proof.Machine.execMulh d s
  | .div d => Sys2Proof.Machine.execDiv d s
  | .rem d => Sys2Proof.Machine.execRem d s
  | .and d => Sys2Proof.Machine.execAnd d s
  | .or d => Sys2Proof.Machine.execOr d s
  | .xor d => Sys2Proof.Machine.execXor d s
  | .andn d => Sys2Proof.Machine.execAndn d s
  | .not d => Sys2Proof.Machine.execNot d s
  | .neg d => Sys2Proof.Machine.execNeg d s
  | .abs d => Sys2Proof.Machine.execAbs d s
  | .min d => Sys2Proof.Machine.execMin d s
  | .max d => Sys2Proof.Machine.execMax d s
  | .addc d => Sys2Proof.Machine.execAddc d s
  | .subb d => Sys2Proof.Machine.execSubb d s
  | .mov d => Sys2Proof.Machine.execMov d s
  | .ldi d => Sys2Proof.Machine.execLdi d s
  | .shl d => Sys2Proof.Machine.execShl d s
  | .shr d => Sys2Proof.Machine.execShr d s
  | .sar d => Sys2Proof.Machine.execSar d s
  | .rol d => Sys2Proof.Machine.execRol d s
  | .ror d => Sys2Proof.Machine.execRor d s
  | .popc d => Sys2Proof.Machine.execPopc d s
  | .clz d => Sys2Proof.Machine.execClz d s
  | .ctz d => Sys2Proof.Machine.execCtz d s
  | .brev d => Sys2Proof.Machine.execBrev d s
  | .bswap d => Sys2Proof.Machine.execBswap d s
  | .splat d => Sys2Proof.Machine.execSplat d s
  | .extr d => Sys2Proof.Machine.execExtr d s
  | .fadd d => Sys2Proof.Machine.execFadd d s
  | .fsub d => Sys2Proof.Machine.execFsub d s
  | .fmul d => Sys2Proof.Machine.execFmul d s
  | .fdiv d => Sys2Proof.Machine.execFdiv d s
  | .fsqrt d => Sys2Proof.Machine.execFsqrt d s
  | .fmin d => Sys2Proof.Machine.execFmin d s
  | .fmax d => Sys2Proof.Machine.execFmax d s
  | .fneg d => Sys2Proof.Machine.execFneg d s
  | .fabs d => Sys2Proof.Machine.execFabs d s
  | .fcvtd d => Sys2Proof.Machine.execFcvtd d s
  | .fcvts d => Sys2Proof.Machine.execFcvts d s
  | .fcvth d => Sys2Proof.Machine.execFcvth d s
  | .ftoi d => Sys2Proof.Machine.execFtoi d s
  | .itof d => Sys2Proof.Machine.execItof d s
  | .frnd d => Sys2Proof.Machine.execFrnd d s
  | .dadd d => Sys2Proof.Machine.execDadd d s
  | .dsub d => Sys2Proof.Machine.execDsub d s
  | .dadj d => Sys2Proof.Machine.execDadj d s
  | .dmul1 d => Sys2Proof.Machine.execDmul1 d s
  | .dshl d => Sys2Proof.Machine.execDshl d s
  | .dshr d => Sys2Proof.Machine.execDshr d s
  | .dval d => Sys2Proof.Machine.execDval d s
  | .dtob d => Sys2Proof.Machine.execDtob d s
  | .btod d => Sys2Proof.Machine.execBtod d s
  | .dneg d => Sys2Proof.Machine.execDneg d s
  | .dseq d => Sys2Proof.Machine.execDseq d s
  | .dslt d => Sys2Proof.Machine.execDslt d s
  | .dsle d => Sys2Proof.Machine.execDsle d s
  | .seq d => Sys2Proof.Machine.execSeq d s
  | .slt d => Sys2Proof.Machine.execSlt d s
  | .sle d => Sys2Proof.Machine.execSle d s
  | .fseq d => Sys2Proof.Machine.execFseq d s
  | .fslt d => Sys2Proof.Machine.execFslt d s
  | .fsle d => Sys2Proof.Machine.execFsle d s
  | .fsun d => Sys2Proof.Machine.execFsun d s
  | .stest d => Sys2Proof.Machine.execStest d s
  | .steer d => Sys2Proof.Machine.execSteer d s
  | .gate d => Sys2Proof.Machine.execGate d s
  | .merge d => Sys2Proof.Machine.execMerge d s
  | .newf d => Sys2Proof.Machine.execNewf d s
  | .freef d => Sys2Proof.Machine.execFreef d s
  | .loopw d => Sys2Proof.Machine.execLoopw d s
  | .advw d => Sys2Proof.Machine.execAdvw d s
  | .sets d => Sys2Proof.Machine.execSets d s
  | .gets d => Sys2Proof.Machine.execGets d s
  | .getit d => Sys2Proof.Machine.execGetit d s
  | .setit d => Sys2Proof.Machine.execSetit d s
  | .getf d => Sys2Proof.Machine.execGetf d s
  | .setf d => Sys2Proof.Machine.execSetf d s
  | .setcl d => Sys2Proof.Machine.execSetcl d s
  | .send d => Sys2Proof.Machine.execSend d s
  | .sendo d => Sys2Proof.Machine.execSendo d s
  | .ld d => Sys2Proof.Machine.execLd d s
  | .st d => Sys2Proof.Machine.execSt d s
  | .lds d => Sys2Proof.Machine.execLds d s
  | .sts d => Sys2Proof.Machine.execSts d s
  | .aadd d => Sys2Proof.Machine.execAadd d s
  | .axchg d => Sys2Proof.Machine.execAxchg d s
  | .acas d => Sys2Proof.Machine.execAcas d s
  | .amin d => Sys2Proof.Machine.execAmin d s
  | .amax d => Sys2Proof.Machine.execAmax d s
  | .aand d => Sys2Proof.Machine.execAand d s
  | .aor d => Sys2Proof.Machine.execAor d s
  | .lock d => Sys2Proof.Machine.execLock d s
  | .trylock d => Sys2Proof.Machine.execTrylock d s
  | .unlock d => Sys2Proof.Machine.execUnlock d s
  | .fence d => Sys2Proof.Machine.execFence d s
  | .rep d => Sys2Proof.Machine.execRep d s
  | .repFiring c ln u => Sys2Proof.Machine.execRepFiring c ln u s
  | .out d => Sys2Proof.Machine.execOut d s
  | .raise d => Sys2Proof.Machine.execRaise d s
  | .rete d => Sys2Proof.Machine.execRete d s
  | .nop d => Sys2Proof.Machine.execNop d s
  | .timer d => Sys2Proof.Machine.execTimer d s
  | .udef d uc => Sys2Proof.Machine.execUdef d uc s
  | .tokenArrival c src idx => Sys2Proof.Machine.execTokenArrival c src idx s
  | .orderGapTimeout c g st => Sys2Proof.Machine.execOrderGapTimeout c g st s
  | .tokenSelect c qb u => Sys2Proof.Machine.execTokenSelect c qb u s
  | .prefetchFill c ln im => Sys2Proof.Machine.execPrefetchFill c ln im s
  | .replyReceive c r => Sys2Proof.Machine.execReplyReceive c r s
  | .requestAck c idx => Sys2Proof.Machine.execRequestAck c idx s
  | .initiatorTimeout w => Sys2Proof.Machine.execInitiatorTimeout w s
  | .newfRecordFreed c e => Sys2Proof.Machine.execNewfRecordFreed c e s
  | .frameExhausted c e => Sys2Proof.Machine.execFrameExhausted c e s
  | .outAccept c e => Sys2Proof.Machine.execOutAccept c e s
  | .outputEntryWrite o => Sys2Proof.Machine.execOutputEntryWrite o s
  | .cellTimer c e => Sys2Proof.Machine.execCellTimer c e s
  | .cellSleep c => Sys2Proof.Machine.execCellSleep c s
  | .msScrub c bank way u => Sys2Proof.Machine.execMsScrub c bank way u s
  | .spillTrigger c => Sys2Proof.Machine.execSpillTrigger c s
  | .spillMove c => Sys2Proof.Machine.execSpillMove c s
  | .reelBackStart c => Sys2Proof.Machine.execReelBackStart c s
  | .reelToken c => Sys2Proof.Machine.execReelToken c s
  | .parkReel c => Sys2Proof.Machine.execParkReel c s
  | .tokenRefuse site idx => Sys2Proof.Machine.execTokenRefuse site idx s
  | .refuseStore d idx => Sys2Proof.Machine.execRefuseStore d idx s
  | .retrySend d => Sys2Proof.Machine.execRetrySend d s
  | .waveStart g => Sys2Proof.Machine.execWaveStart g s
  | .waveReceive g p => Sys2Proof.Machine.execWaveReceive g p s
  | .sumsAggregate g a => Sys2Proof.Machine.execSumsAggregate g a s
  | .waveAbandon g => Sys2Proof.Machine.execWaveAbandon g s
  | .flitHop r o sub u => Sys2Proof.Machine.execFlitHop r o sub u s
  | .crossbarFlitSend x => Sys2Proof.Machine.execCrossbarFlitSend x s
  | .hubForward inp => Sys2Proof.Machine.execHubForward inp s
  | .clusterRetention n permit => Sys2Proof.Machine.execClusterRetention n permit s
  | .clusterWake n => Sys2Proof.Machine.execClusterWake n s
  | .tgtDead t => Sys2Proof.Machine.execTgtDead t s
  | .d2dDown m => Sys2Proof.Machine.execD2dDown m s
  | .routeBankRetire => Sys2Proof.Machine.execRouteBankRetire s
  | .probeMatch p sel ns slot => Sys2Proof.Machine.execProbeMatch p sel ns slot s
  | .trainingFrameReceive l lane f => Sys2Proof.Machine.execTrainingFrameReceive l lane f s
  | .detectTimeout l => Sys2Proof.Machine.execDetectTimeout l s
  | .eqTimeout l => Sys2Proof.Machine.execEqTimeout l s
  | .lockTimeout l => Sys2Proof.Machine.execLockTimeout l s
  | .codewordLock a => Sys2Proof.Machine.execCodewordLock a s
  | .hello l m => Sys2Proof.Machine.execHello l m s
  | .retrain l m => Sys2Proof.Machine.execRetrain l m s
  | .down l => Sys2Proof.Machine.execDown l s
  | .flitReceive l cw f => Sys2Proof.Machine.execFlitReceive l cw f s
  | .flitTransmit l => Sys2Proof.Machine.execFlitTransmit l s
  | .replayTimeout l => Sys2Proof.Machine.execReplayTimeout l s
  | .laneFail l x => Sys2Proof.Machine.execLaneFail l x s
  | .packetRoute l idx => Sys2Proof.Machine.execPacketRoute l idx s
  | .idAssignProbe l p => Sys2Proof.Machine.execIdAssignProbe l p s
  | .idAssignSet l p => Sys2Proof.Machine.execIdAssignSet l p s
  | .idAssignRoute l p => Sys2Proof.Machine.execIdAssignRoute l p s
  | .idAssignReply l p => Sys2Proof.Machine.execIdAssignReply l p s
  | .rollCallAuto => Sys2Proof.Machine.execRollCallAuto s
  | .rollProbeTimeout => Sys2Proof.Machine.execRollProbeTimeout s
  | .memRd p us => Sys2Proof.Machine.execMemRd p us s
  | .memWr p u => Sys2Proof.Machine.execMemWr p u s
  | .atomicAadd p u => Sys2Proof.Machine.execAtomicAadd p u s
  | .atomicAxchg p u => Sys2Proof.Machine.execAtomicAxchg p u s
  | .atomicAcas p u => Sys2Proof.Machine.execAtomicAcas p u s
  | .atomicAmin p u => Sys2Proof.Machine.execAtomicAmin p u s
  | .atomicAmax p u => Sys2Proof.Machine.execAtomicAmax p u s
  | .atomicAand p u => Sys2Proof.Machine.execAtomicAand p u s
  | .atomicAor p u => Sys2Proof.Machine.execAtomicAor p u s
  | .lockReqLock p => Sys2Proof.Machine.execLockReqLock p s
  | .lockReqTrylock p => Sys2Proof.Machine.execLockReqTrylock p s
  | .lockRelUnlock p => Sys2Proof.Machine.execLockRelUnlock p s
  | .lockRelAbandon p => Sys2Proof.Machine.execLockRelAbandon p s
  | .event p => Sys2Proof.Machine.execEvent p s
  | .censusWave p => Sys2Proof.Machine.execCensusWave p s
  | .censusSums p => Sys2Proof.Machine.execCensusSums p s
  | .censusDone p => Sys2Proof.Machine.execCensusDone p s
  | .mgmtRd p => Sys2Proof.Machine.execMgmtRd p s
  | .mgmtWr p => Sys2Proof.Machine.execMgmtWr p s
  | .routeWrite p => Sys2Proof.Machine.execRouteWrite p s
  | .routeFlip p => Sys2Proof.Machine.execRouteFlip p s
  | .routeStatus p => Sys2Proof.Machine.execRouteStatus p s
  | .routeRetire p => Sys2Proof.Machine.execRouteRetire p s
  | .isolateOrder p => Sys2Proof.Machine.execIsolateOrder p s
  | .isolateRelease p => Sys2Proof.Machine.execIsolateRelease p s
  | .isolateNotice p => Sys2Proof.Machine.execIsolateNotice p s
  | .memResp p => Sys2Proof.Machine.execMemResp p s
  | .refuseReceive p port => Sys2Proof.Machine.execRefuseReceive p port s
  | .enumFrame highs => Sys2Proof.Machine.execEnumFrame highs s
  | .enumSlot0Timeout => Sys2Proof.Machine.execEnumSlot0Timeout s
  | .enumOutFrame => Sys2Proof.Machine.execEnumOutFrame s
  | .controllerRead k idx u => Sys2Proof.Machine.execControllerRead k idx u s
  | .controllerWrite k idx u => Sys2Proof.Machine.execControllerWrite k idx u s
  | .controllerAtomic k idx u => Sys2Proof.Machine.execControllerAtomic k idx u s
  | .controllerLds k idx pres u => Sys2Proof.Machine.execControllerLds k idx pres u s
  | .controllerSts k idx pres => Sys2Proof.Machine.execControllerSts k idx pres s
  | .ldsReissue c e => Sys2Proof.Machine.execLdsReissue c e s
  | .lockUnitLock k idx => Sys2Proof.Machine.execLockUnitLock k idx s
  | .lockUnitTrylock k idx => Sys2Proof.Machine.execLockUnitTrylock k idx s
  | .lockUnitUnlock k idx => Sys2Proof.Machine.execLockUnitUnlock k idx s
  | .hostMemRequest idx a => Sys2Proof.Machine.execHostMemRequest idx a s
  | .hbmSelfRefresh k permit => Sys2Proof.Machine.execHbmSelfRefresh k permit s
  | .hbmScrub k u => Sys2Proof.Machine.execHbmScrub k u s
  | .regionInitDone => Sys2Proof.Machine.execRegionInitDone s
  | .eventPresent c => Sys2Proof.Machine.execEventPresent c s
  | .eventRecordSend c idx => Sys2Proof.Machine.execEventRecordSend c idx s
  | .receiveBufferGrant c => Sys2Proof.Machine.execReceiveBufferGrant c s
  | .eventRecordArrival c idx => Sys2Proof.Machine.execEventRecordArrival c idx s
  | .puppeteerPost c g v vt poison => Sys2Proof.Machine.execPuppeteerPost c g v vt poison s
  | .descriptorFetch reads => Sys2Proof.Machine.execDescriptorFetch reads s
  | .load r k h => Sys2Proof.Machine.execLoad r k h s
  | .inject r k h => Sys2Proof.Machine.execInject r k h s
  | .greset r k => Sys2Proof.Machine.execGreset r k s
  | .unload r k => Sys2Proof.Machine.execUnload r k s
  | .hbmrd r k us => Sys2Proof.Machine.execHbmrd r k us s
  | .hbmwr r k h => Sys2Proof.Machine.execHbmwr r k h s
  | .sclear r k => Sys2Proof.Machine.execSclear r k s
  | .evpost r k => Sys2Proof.Machine.execEvpost r k s
  | .lockDescLock r k => Sys2Proof.Machine.execLockDescLock r k s
  | .lockDescTrylock r k => Sys2Proof.Machine.execLockDescTrylock r k s
  | .lockDescUnlock r k => Sys2Proof.Machine.execLockDescUnlock r k s
  | .assignRingPairs r k => Sys2Proof.Machine.execAssignRingPairs r k s
  | .assignOutputRings r k => Sys2Proof.Machine.execAssignOutputRings r k s
  | .assignCells r k => Sys2Proof.Machine.execAssignCells r k s
  | .assignHbmWindow r k => Sys2Proof.Machine.execAssignHbmWindow r k s
  | .quota r k => Sys2Proof.Machine.execQuota r k s
  | .ucodeLoad r k h => Sys2Proof.Machine.execUcodeLoad r k h s
  | .ucodeClear r k => Sys2Proof.Machine.execUcodeClear r k s
  | .fwpatch r k h => Sys2Proof.Machine.execFwpatch r k h s
  | .nvstoreRead r k us => Sys2Proof.Machine.execNvstoreRead r k us s
  | .nvstoreWrite r k h => Sys2Proof.Machine.execNvstoreWrite r k h s
  | .restoreFactory r k => Sys2Proof.Machine.execRestoreFactory r k s
  | .sqtailDoorbell req r v => Sys2Proof.Machine.execSqtailDoorbell req r v s
  | .cqheadDoorbell req r v => Sys2Proof.Machine.execCqheadDoorbell req r v s
  | .oheadDoorbell req o v => Sys2Proof.Machine.execOheadDoorbell req o v s
  | .doorbellPoll fn reads => Sys2Proof.Machine.execDoorbellPoll fn reads s
  | .wakeGo req v => Sys2Proof.Machine.execWakeGo req v s
  | .ringEnable req ring v => Sys2Proof.Machine.execRingEnable req ring v s
  | .ringDisable req ring v => Sys2Proof.Machine.execRingDisable req ring v s
  | .noticeWriteHeld g => Sys2Proof.Machine.execNoticeWriteHeld g s
  | .msixTime fn v => Sys2Proof.Machine.execMsixTime fn v s
  | .functionLevelReset fn => Sys2Proof.Machine.execFunctionLevelReset fn s
  | .perstN => Sys2Proof.Machine.execPerstN s
  | .mrstN st => Sys2Proof.Machine.execMrstN st s
  | .powerOn st => Sys2Proof.Machine.execPowerOn st s
  | .uvloFall => Sys2Proof.Machine.execUvloFall s
  | .ovloRise => Sys2Proof.Machine.execOvloRise s
  | .ovloFall st => Sys2Proof.Machine.execOvloFall st s
  | .governorSample vin iin => Sys2Proof.Machine.execGovernorSample vin iin s
  | .governorRelease est => Sys2Proof.Machine.execGovernorRelease est s
  | .overcurrentComparator => Sys2Proof.Machine.execOvercurrentComparator s
  | .thermalStep n temp => Sys2Proof.Machine.execThermalStep n temp s
  | .thermalRelease d temps => Sys2Proof.Machine.execThermalRelease d temps s
  | .tempHigh n temp => Sys2Proof.Machine.execTempHigh n temp s
  | .thermalShutdown n temp => Sys2Proof.Machine.execThermalShutdown n temp s
  | .sensor n reading => Sys2Proof.Machine.execSensor n reading s
  | .conv phase => Sys2Proof.Machine.execConv phase s
  | .pclkLoss => Sys2Proof.Machine.execPclkLoss s
  | .pclkRestored => Sys2Proof.Machine.execPclkRestored s
  | .fclkLoss => Sys2Proof.Machine.execFclkLoss s
  | .fclkRestored => Sys2Proof.Machine.execFclkRestored s
  | .mgtWdog core => Sys2Proof.Machine.execMgtWdog core s
  | .escalationStage1 => Sys2Proof.Machine.execEscalationStage1 s
  | .escalationStage2 => Sys2Proof.Machine.execEscalationStage2 s
  | .escalationStage3 st => Sys2Proof.Machine.execEscalationStage3 st s
  | .episodeClose => Sys2Proof.Machine.execEpisodeClose s
  | .reintegrationDone t pass => Sys2Proof.Machine.execReintegrationDone t pass s
  | .fltAck req v => Sys2Proof.Machine.execFltAck req v s
  | .freezeNLow => Sys2Proof.Machine.execFreezeNLow s
  | .freezeNHigh => Sys2Proof.Machine.execFreezeNHigh s
  | .frzctlFreeze req v => Sys2Proof.Machine.execFrzctlFreeze req v s
  | .frzctlResume req v => Sys2Proof.Machine.execFrzctlResume req v s
  | .cellReset req v => Sys2Proof.Machine.execCellReset req v s
  | .clusterReset req v => Sys2Proof.Machine.execClusterReset req v s
  | .unitResetDone t => Sys2Proof.Machine.execUnitResetDone t s
  | .injcmdGo req c v => Sys2Proof.Machine.execInjcmdGo req c v s
  | .accdataWrite req c v => Sys2Proof.Machine.execAccdataWrite req c v s
  | .evtdataWrite req c v => Sys2Proof.Machine.execEvtdataWrite req c v s
  | .routectlFlip req v => Sys2Proof.Machine.execRoutectlFlip req v s
  | .rollctlGo req v => Sys2Proof.Machine.execRollctlGo req v s
  | .fflip req v => Sys2Proof.Machine.execFflip req v s
  | .nodeIsolate req v => Sys2Proof.Machine.execNodeIsolate req v s
  | .nodeRelease req v => Sys2Proof.Machine.execNodeRelease req v s
  | .nodeIdWrite req v => Sys2Proof.Machine.execNodeIdWrite req v s
  | .linkEnable req p v => Sys2Proof.Machine.execLinkEnable req p v s
  | .linkDisable req p v => Sys2Proof.Machine.execLinkDisable req p v s
  | .cmdRetrain req p v => Sys2Proof.Machine.execCmdRetrain req p v s
  | .cmdRestart req p v => Sys2Proof.Machine.execCmdRestart req p v s
  | .traceClear req v => Sys2Proof.Machine.execTraceClear req v s
  | .accCountClear req off v => Sys2Proof.Machine.execAccCountClear req off v s
  | .statusClear req off v => Sys2Proof.Machine.execStatusClear req off v s
  | .statusClearOnRead req off => Sys2Proof.Machine.execStatusClearOnRead req off s
  | .regWriteLowHalf req off v => Sys2Proof.Machine.execRegWriteLowHalf req off v s
  | .regReadLowHalf req r => Sys2Proof.Machine.execRegReadLowHalf req r s
  | .registerWrite req a => Sys2Proof.Machine.execRegisterWrite req a s
  | .extest => Sys2Proof.Machine.execExtest s
  | .samplePreload pins => Sys2Proof.Machine.execSamplePreload pins s
  | .idcode => Sys2Proof.Machine.execIdcode s
  | .tapFreeze => Sys2Proof.Machine.execTapFreeze s
  | .tapResume => Sys2Proof.Machine.execTapResume s
  | .rosel v => Sys2Proof.Machine.execRosel v s
  | .rodata n => Sys2Proof.Machine.execRodata n s
  | .ijtag n => Sys2Proof.Machine.execIjtag n s
  | .bypass => Sys2Proof.Machine.execBypass s
  | .trstN => Sys2Proof.Machine.execTrstN s
  | .entdaa da => Sys2Proof.Machine.execEntdaa da s
  | .rstdaa => Sys2Proof.Machine.execRstdaa s
  | .setdasa da => Sys2Proof.Machine.execSetdasa da s
  | .setnewda da => Sys2Proof.Machine.execSetnewda da s
  | .enec => Sys2Proof.Machine.execEnec s
  | .disec => Sys2Proof.Machine.execDisec s
  | .getpid => Sys2Proof.Machine.execGetpid s
  | .getbcr => Sys2Proof.Machine.execGetbcr s
  | .getdcr => Sys2Proof.Machine.execGetdcr s
  | .getstatus => Sys2Proof.Machine.execGetstatus s
  | .setmrl n => Sys2Proof.Machine.execSetmrl n s
  | .getmrl => Sys2Proof.Machine.execGetmrl s
  | .i3cPointerWrite b => Sys2Proof.Machine.execI3cPointerWrite b s
  | .i3cTelemetryRead n => Sys2Proof.Machine.execI3cTelemetryRead n s
  | .laneLock l lane => Sys2Proof.Machine.execLaneLock l lane s
  | .codewordLockLoss l => Sys2Proof.Machine.execCodewordLockLoss l s
  | .pclkArrival st => Sys2Proof.Machine.execPclkArrival st s
  | .hotReset => Sys2Proof.Machine.execHotReset s
  | .vfEnableClear fns => Sys2Proof.Machine.execVfEnableClear fns s
  | .hostWriteFailed => Sys2Proof.Machine.execHostWriteFailed s
  | .hbmThermalThrottle n temp => Sys2Proof.Machine.execHbmThermalThrottle n temp s

end Sys2Proof.Machine
end

