-- ==== Sys2Proof/Machine/Tick.lean ====
section
/-! DEFINITION. A microsecond of time, which passes when no command waits (log 1): the clocks, and what the device does by itself
then without a row of the table (R190, R305, R422, R448, R454, R483). -/

namespace Sys2Proof.Machine

/-- Core cycles that each die runs in a microsecond. -/
def Dev.coreTick (d : Dev) : Map Nat :=
  allDies.foldl (fun m k => mset 0 m k.toNat (mget 0 m k.toNat + d.mhz k)) d.clock.core

/-- A cell that is not idle has not begun to be. -/
def Cell.markIdle (x : Cell) (now : Nat) : Cell := if x.idle then x else { x with idleSince := now }

/-- Cells and clusters that are at work now are not idle since earlier. -/
def Dev.markIdle (d : Dev) : Dev :=
  let d := { d with cells := d.cells.map fun (x : Nat × Cell) => (x.1, x.2.markIdle (d.coreNow (BitVec.ofNat 10 x.1))) }
  let busy := ((List.range 64).map (BitVec.ofNat 6)).filter fun n => !d.clusterQuiet n
  { d with fab := { d.fab with
      idleSince := busy.foldl (fun (m : Map Nat) (n : ClusterId) => mset 0 m n.toNat d.clock.run) d.fab.idleSince } }

/-- STALL events that wait for a record. -/
def Dev.raiseStalls (d : Dev) : Dev := d.graphs.foldl (fun d x => d.raiseStall (BitVec.ofNat 6 x.1)) d

/-- What comes due by itself: staged tables, containment of new units, aborts, the root's waits, and the end of a restore. -/
def Dev.settle (d : Dev) : Dev :=
  let d := { d with fab := { d.fab with slots := d.fab.slotsNew } }.applyStaged rArbcfg
  (d.containNew.abortAll.rollTick).finishRestore.raiseStalls

/-- A microsecond: the always-on timebase counts always, the rest only while the dies run. -/
def Dev.tick (d : Dev) : Dev :=
  let aon := d.clock.aon + 1000
  if d.diesStop then { d with clock := { d.clock with aon := aon } }
  else { d with clock := { aon := aon, run := d.clock.run + 1000, core := d.coreTick } }.markIdle.settle

end Sys2Proof.Machine
end

