-- ==== Sys2Proof/WellFormed.lean ====
section
/-! DEFINITION. Commands that the device can be sent: requesters that exist (R411), data of the length that its row carries, and
values that write what the row's name says. -/

namespace Sys2Proof

/-- The words said to be poisoned are among those read. -/
def hostDataOk (h : HostData) : Bool := h.poisoned.all fun i => i < h.words.length

/-- A submission entry that is read is 64 bytes (R394, R513). -/
def entryOk (e : EntryRead) : Bool := e.status ≠ .ok || e.words.length = 8

/-- A Fober packet has a first word (R359). -/
def packetOk (p : FPacket) : Bool := 0 < p.words.length

/-- An access carries the words of its size. -/
def accessOk (a : Access) : Bool := a.data.length = (a.size + 3) / 4

/-- A register access that may time out has a requester. -/
def initiatorOk (w : Initiator) : Bool :=
  match w with
  | .register req _ _ _ => req.toNat ≤ 64
  | .cellEntry _ _ _ | .descriptor _ _ | .fober _ => true

/-- A well-formed command. -/
def Instr.wf (i : Instr) : Bool :=
  match i with
  | .initiatorTimeout w => initiatorOk w
  | .probeMatch _ _ ns _ => ns < 1000
  | .hello _ m => m.buf.length = 7
  | .idAssignProbe _ p => p.words.length = 12
  | .idAssignSet _ p => p.words.length = 12
  | .idAssignRoute _ p => p.words.length = 12
  | .idAssignReply _ p => p.words.length = 12
  | .memRd p _ => packetOk p
  | .memWr p _ => packetOk p
  | .atomicAadd p _ => packetOk p
  | .atomicAxchg p _ => packetOk p
  | .atomicAcas p _ => packetOk p
  | .atomicAmin p _ => packetOk p
  | .atomicAmax p _ => packetOk p
  | .atomicAand p _ => packetOk p
  | .atomicAor p _ => packetOk p
  | .lockReqLock p => packetOk p
  | .lockReqTrylock p => packetOk p
  | .lockRelUnlock p => packetOk p
  | .lockRelAbandon p => packetOk p
  | .event p => packetOk p
  | .censusWave p => packetOk p
  | .censusSums p => packetOk p
  | .censusDone p => packetOk p
  | .mgmtRd p => packetOk p
  | .mgmtWr p => packetOk p
  | .routeWrite p => packetOk p
  | .routeFlip p => packetOk p
  | .routeStatus p => packetOk p
  | .routeRetire p => packetOk p
  | .isolateOrder p => packetOk p
  | .isolateRelease p => packetOk p
  | .isolateNotice p => packetOk p
  | .memResp p => packetOk p
  | .refuseReceive p _ => packetOk p
  | .hostMemRequest _ a => hostDataOk a
  | .descriptorFetch reads => reads.length ≤ 8 && reads.all entryOk
  | .load _ _ h => hostDataOk h
  | .inject _ _ h => hostDataOk h
  | .hbmwr _ _ h => hostDataOk h
  | .ucodeLoad _ _ h => hostDataOk h
  | .fwpatch _ _ h => hostDataOk h
  | .nvstoreWrite _ _ h => hostDataOk h
  | .sqtailDoorbell req _ _ => req.toNat < 64
  | .cqheadDoorbell req _ _ => req.toNat < 64
  | .oheadDoorbell req _ _ => req.toNat < 64
  | .doorbellPoll _ reads => reads.all hostDataOk
  | .wakeGo req v => req.toNat ≤ 64 && v.getLsbD 0
  | .ringEnable req _ v => req.toNat ≤ 64 && v.getLsbD 31
  | .ringDisable req _ v => req.toNat ≤ 64 && !v.getLsbD 31
  | .thermalStep n _ => n.toNat < 24
  | .thermalRelease _ temps => temps.length = 6
  | .tempHigh n _ => n.toNat < 24
  | .fltAck req _ => req.toNat ≤ 64
  | .frzctlFreeze req v => req.toNat ≤ 64 && v.getLsbD 0
  | .frzctlResume req v => req.toNat ≤ 64 && v.getLsbD 1
  | .cellReset req v => req.toNat ≤ 64 && v.getLsbD 31 && !v.getLsbD 30
  | .clusterReset req v => req.toNat ≤ 64 && v.getLsbD 31 && v.getLsbD 30
  | .injcmdGo req _ v => req.toNat ≤ 64 && v.getLsbD 0
  | .accdataWrite req _ _ => req.toNat ≤ 64
  | .evtdataWrite req _ _ => req.toNat ≤ 64
  | .routectlFlip req v => req.toNat ≤ 64 && v.getLsbD 0
  | .rollctlGo req v => req.toNat ≤ 64 && v.getLsbD 0
  | .fflip req v => req.toNat ≤ 64 && v.getLsbD 0
  | .nodeIsolate req v => req.toNat ≤ 64 && v.getLsbD 0
  | .nodeRelease req v => req.toNat ≤ 64 && !v.getLsbD 0
  | .nodeIdWrite req _ => req.toNat ≤ 64
  | .linkEnable req _ v => req.toNat ≤ 64 && v.getLsbD 0
  | .linkDisable req _ v => req.toNat ≤ 64 && !v.getLsbD 0
  | .cmdRetrain req _ v => req.toNat ≤ 64 && v.toNat / 16 % 16 ≠ 0
  | .cmdRestart req _ v => req.toNat ≤ 64 && v.toNat % 16 ≠ 0
  | .traceClear req v => req.toNat ≤ 64 && v.getLsbD 0
  | .accCountClear req _ v => req.toNat ≤ 64 && v = 0
  | .statusClear req _ _ => req.toNat ≤ 64
  | .statusClearOnRead req _ => req.toNat ≤ 64
  | .regWriteLowHalf req _ _ => req.toNat ≤ 64
  | .regReadLowHalf req r => req.toNat ≤ 64 && ((r.space = .bar0 || req.toNat < 64) && 0 < r.size)
  | .registerWrite req a => req.toNat ≤ 64 && (accessOk a && (a.space = .bar0 || req.toNat < 64))
  | .i3cPointerWrite b => b ≠ []
  | .vfEnableClear fns => fns.all fun f => f ≠ 0
  | .hbmThermalThrottle n _ => 24 ≤ n.toNat && n.toNat < 28
  | .add .. | .sub .. | .mul .. | .mulh .. | .div .. | .rem .. | .and .. | .or .. | .xor .. | .andn .. | .not .. | .neg ..
  | .abs .. | .min .. | .max .. | .addc .. | .subb .. | .mov .. | .ldi .. | .shl .. | .shr .. | .sar .. | .rol .. | .ror ..
  | .popc .. | .clz .. | .ctz .. | .brev .. | .bswap .. | .splat .. | .extr .. | .fadd .. | .fsub .. | .fmul .. | .fdiv ..
  | .fsqrt .. | .fmin .. | .fmax .. | .fneg .. | .fabs .. | .fcvtd .. | .fcvts .. | .fcvth .. | .ftoi .. | .itof ..
  | .frnd .. | .dadd .. | .dsub .. | .dadj .. | .dmul1 .. | .dshl .. | .dshr .. | .dval .. | .dtob .. | .btod .. | .dneg ..
  | .dseq .. | .dslt .. | .dsle .. | .seq .. | .slt .. | .sle .. | .fseq .. | .fslt .. | .fsle .. | .fsun .. | .stest ..
  | .steer .. | .gate .. | .merge .. | .newf .. | .freef .. | .loopw .. | .advw .. | .sets .. | .gets .. | .getit ..
  | .setit .. | .getf .. | .setf .. | .setcl .. | .send .. | .sendo .. | .ld .. | .st .. | .lds .. | .sts .. | .aadd ..
  | .axchg .. | .acas .. | .amin .. | .amax .. | .aand .. | .aor .. | .lock .. | .trylock .. | .unlock .. | .fence ..
  | .rep .. | .repFiring .. | .out .. | .raise .. | .rete .. | .nop .. | .timer .. | .udef .. | .tokenArrival ..
  | .orderGapTimeout .. | .tokenSelect .. | .prefetchFill .. | .replyReceive .. | .requestAck .. | .newfRecordFreed ..
  | .frameExhausted .. | .outAccept .. | .outputEntryWrite .. | .cellTimer .. | .cellSleep .. | .msScrub ..
  | .spillTrigger .. | .spillMove .. | .reelBackStart .. | .reelToken .. | .parkReel .. | .tokenRefuse .. | .refuseStore ..
  | .retrySend .. | .waveStart .. | .waveReceive .. | .sumsAggregate .. | .waveAbandon .. | .flitHop ..
  | .crossbarFlitSend .. | .hubForward .. | .clusterRetention .. | .clusterWake .. | .tgtDead .. | .d2dDown ..
  | .routeBankRetire .. | .trainingFrameReceive .. | .detectTimeout .. | .eqTimeout .. | .lockTimeout .. | .codewordLock ..
  | .retrain .. | .down .. | .flitReceive .. | .flitTransmit .. | .replayTimeout .. | .laneFail .. | .packetRoute ..
  | .rollCallAuto .. | .rollProbeTimeout .. | .enumFrame .. | .enumSlot0Timeout .. | .enumOutFrame .. | .controllerRead ..
  | .controllerWrite .. | .controllerAtomic .. | .controllerLds .. | .controllerSts .. | .ldsReissue .. | .lockUnitLock ..
  | .lockUnitTrylock .. | .lockUnitUnlock .. | .hbmSelfRefresh .. | .hbmScrub .. | .regionInitDone .. | .eventPresent ..
  | .eventRecordSend .. | .receiveBufferGrant .. | .eventRecordArrival .. | .puppeteerPost .. | .greset .. | .unload ..
  | .hbmrd .. | .sclear .. | .evpost .. | .lockDescLock .. | .lockDescTrylock .. | .lockDescUnlock .. | .assignRingPairs ..
  | .assignOutputRings .. | .assignCells .. | .assignHbmWindow .. | .quota .. | .ucodeClear .. | .nvstoreRead ..
  | .restoreFactory .. | .noticeWriteHeld .. | .msixTime .. | .functionLevelReset .. | .perstN .. | .mrstN .. | .powerOn ..
  | .uvloFall .. | .ovloRise .. | .ovloFall .. | .governorSample .. | .governorRelease .. | .overcurrentComparator ..
  | .thermalShutdown .. | .sensor .. | .conv .. | .pclkLoss .. | .pclkRestored .. | .fclkLoss .. | .fclkRestored ..
  | .mgtWdog .. | .escalationStage1 .. | .escalationStage2 .. | .escalationStage3 .. | .episodeClose ..
  | .reintegrationDone .. | .freezeNLow .. | .freezeNHigh .. | .unitResetDone .. | .extest .. | .samplePreload ..
  | .idcode .. | .tapFreeze .. | .tapResume .. | .rosel .. | .rodata .. | .ijtag .. | .bypass .. | .trstN .. | .entdaa ..
  | .rstdaa .. | .setdasa .. | .setnewda .. | .enec .. | .disec .. | .getpid .. | .getbcr .. | .getdcr .. | .getstatus ..
  | .setmrl .. | .getmrl .. | .i3cTelemetryRead .. | .laneLock .. | .codewordLockLoss .. | .pclkArrival .. | .hotReset ..
  | .hostWriteFailed .. => true

/-- The requester that a command names. -/
def Instr.requester (i : Instr) : Option Requester :=
  match i with
  | .sqtailDoorbell req _ _ => some req
  | .cqheadDoorbell req _ _ => some req
  | .oheadDoorbell req _ _ => some req
  | .wakeGo req _ => some req
  | .ringEnable req _ _ => some req
  | .ringDisable req _ _ => some req
  | .fltAck req _ => some req
  | .frzctlFreeze req _ => some req
  | .frzctlResume req _ => some req
  | .cellReset req _ => some req
  | .clusterReset req _ => some req
  | .injcmdGo req _ _ => some req
  | .accdataWrite req _ _ => some req
  | .evtdataWrite req _ _ => some req
  | .routectlFlip req _ => some req
  | .rollctlGo req _ => some req
  | .fflip req _ => some req
  | .nodeIsolate req _ => some req
  | .nodeRelease req _ => some req
  | .nodeIdWrite req _ => some req
  | .linkEnable req _ _ => some req
  | .linkDisable req _ _ => some req
  | .cmdRetrain req _ _ => some req
  | .cmdRestart req _ _ => some req
  | .traceClear req _ => some req
  | .accCountClear req _ _ => some req
  | .statusClear req _ _ => some req
  | .statusClearOnRead req _ => some req
  | .regWriteLowHalf req _ _ => some req
  | .regReadLowHalf req _ => some req
  | .registerWrite req _ => some req
  | .add .. | .sub .. | .mul .. | .mulh .. | .div .. | .rem .. | .and .. | .or .. | .xor .. | .andn .. | .not .. | .neg ..
  | .abs .. | .min .. | .max .. | .addc .. | .subb .. | .mov .. | .ldi .. | .shl .. | .shr .. | .sar .. | .rol .. | .ror ..
  | .popc .. | .clz .. | .ctz .. | .brev .. | .bswap .. | .splat .. | .extr .. | .fadd .. | .fsub .. | .fmul .. | .fdiv ..
  | .fsqrt .. | .fmin .. | .fmax .. | .fneg .. | .fabs .. | .fcvtd .. | .fcvts .. | .fcvth .. | .ftoi .. | .itof ..
  | .frnd .. | .dadd .. | .dsub .. | .dadj .. | .dmul1 .. | .dshl .. | .dshr .. | .dval .. | .dtob .. | .btod .. | .dneg ..
  | .dseq .. | .dslt .. | .dsle .. | .seq .. | .slt .. | .sle .. | .fseq .. | .fslt .. | .fsle .. | .fsun .. | .stest ..
  | .steer .. | .gate .. | .merge .. | .newf .. | .freef .. | .loopw .. | .advw .. | .sets .. | .gets .. | .getit ..
  | .setit .. | .getf .. | .setf .. | .setcl .. | .send .. | .sendo .. | .ld .. | .st .. | .lds .. | .sts .. | .aadd ..
  | .axchg .. | .acas .. | .amin .. | .amax .. | .aand .. | .aor .. | .lock .. | .trylock .. | .unlock .. | .fence ..
  | .rep .. | .repFiring .. | .out .. | .raise .. | .rete .. | .nop .. | .timer .. | .udef .. | .tokenArrival ..
  | .orderGapTimeout .. | .tokenSelect .. | .prefetchFill .. | .replyReceive .. | .requestAck .. | .initiatorTimeout ..
  | .newfRecordFreed .. | .frameExhausted .. | .outAccept .. | .outputEntryWrite .. | .cellTimer .. | .cellSleep ..
  | .msScrub .. | .spillTrigger .. | .spillMove .. | .reelBackStart .. | .reelToken .. | .parkReel .. | .tokenRefuse ..
  | .refuseStore .. | .retrySend .. | .waveStart .. | .waveReceive .. | .sumsAggregate .. | .waveAbandon .. | .flitHop ..
  | .crossbarFlitSend .. | .hubForward .. | .clusterRetention .. | .clusterWake .. | .tgtDead .. | .d2dDown ..
  | .routeBankRetire .. | .probeMatch .. | .trainingFrameReceive .. | .detectTimeout .. | .eqTimeout .. | .lockTimeout ..
  | .codewordLock .. | .hello .. | .retrain .. | .down .. | .flitReceive .. | .flitTransmit .. | .replayTimeout ..
  | .laneFail .. | .packetRoute .. | .idAssignProbe .. | .idAssignSet .. | .idAssignRoute .. | .idAssignReply ..
  | .rollCallAuto .. | .rollProbeTimeout .. | .memRd .. | .memWr .. | .atomicAadd .. | .atomicAxchg .. | .atomicAcas ..
  | .atomicAmin .. | .atomicAmax .. | .atomicAand .. | .atomicAor .. | .lockReqLock .. | .lockReqTrylock ..
  | .lockRelUnlock .. | .lockRelAbandon .. | .event .. | .censusWave .. | .censusSums .. | .censusDone .. | .mgmtRd ..
  | .mgmtWr .. | .routeWrite .. | .routeFlip .. | .routeStatus .. | .routeRetire .. | .isolateOrder .. | .isolateRelease ..
  | .isolateNotice .. | .memResp .. | .refuseReceive .. | .enumFrame .. | .enumSlot0Timeout .. | .enumOutFrame ..
  | .controllerRead .. | .controllerWrite .. | .controllerAtomic .. | .controllerLds .. | .controllerSts .. | .ldsReissue ..
  | .lockUnitLock .. | .lockUnitTrylock .. | .lockUnitUnlock .. | .hostMemRequest .. | .hbmSelfRefresh .. | .hbmScrub ..
  | .regionInitDone .. | .eventPresent .. | .eventRecordSend .. | .receiveBufferGrant .. | .eventRecordArrival ..
  | .puppeteerPost .. | .descriptorFetch .. | .load .. | .inject .. | .greset .. | .unload .. | .hbmrd .. | .hbmwr ..
  | .sclear .. | .evpost .. | .lockDescLock .. | .lockDescTrylock .. | .lockDescUnlock .. | .assignRingPairs ..
  | .assignOutputRings .. | .assignCells .. | .assignHbmWindow .. | .quota .. | .ucodeLoad .. | .ucodeClear .. | .fwpatch ..
  | .nvstoreRead .. | .nvstoreWrite .. | .restoreFactory .. | .doorbellPoll .. | .noticeWriteHeld .. | .msixTime ..
  | .functionLevelReset .. | .perstN .. | .mrstN .. | .powerOn .. | .uvloFall .. | .ovloRise .. | .ovloFall ..
  | .governorSample .. | .governorRelease .. | .overcurrentComparator .. | .thermalStep .. | .thermalRelease ..
  | .tempHigh .. | .thermalShutdown .. | .sensor .. | .conv .. | .pclkLoss .. | .pclkRestored .. | .fclkLoss ..
  | .fclkRestored .. | .mgtWdog .. | .escalationStage1 .. | .escalationStage2 .. | .escalationStage3 .. | .episodeClose ..
  | .reintegrationDone .. | .freezeNLow .. | .freezeNHigh .. | .unitResetDone .. | .extest .. | .samplePreload ..
  | .idcode .. | .tapFreeze .. | .tapResume .. | .rosel .. | .rodata .. | .ijtag .. | .bypass .. | .trstN .. | .entdaa ..
  | .rstdaa .. | .setdasa .. | .setnewda .. | .enec .. | .disec .. | .getpid .. | .getbcr .. | .getdcr .. | .getstatus ..
  | .setmrl .. | .getmrl .. | .i3cPointerWrite .. | .i3cTelemetryRead .. | .laneLock .. | .codewordLockLoss ..
  | .pclkArrival .. | .hotReset .. | .vfEnableClear .. | .hostWriteFailed .. | .hbmThermalThrottle .. => none

end Sys2Proof
end

