-- ==== Sys2Proof/Safety.lean ====
section
/-! DEFINITION. What counts as a safe run: every step answers a next state, and HBM keeps its canonical form. -/

namespace Sys2Proof.Safety

open Sys2Proof.Machine

/-- The state after `n` steps; none once a step faults or is refused. -/
def run : Nat → State → Option State
  | 0, s => some s
  | n + 1, s =>
    match step s with
    | .next t => run n t
    | _ => none

/-- Every waiting command is well formed. -/
def queueOk (s : State) : Prop := ∀ c ∈ s.pending, c.wf = true

/-- A safe state: the queue is well formed and HBM is in its canonical form. -/
def Safe (s : State) : Prop := queueOk s ∧ s.hbm.wf = true

end Sys2Proof.Safety
end

