-- ==== Sys2Proof/Certificates/Slice0/Obligations.lean ====
section
/-! DEFINITION. The statements for the provers. -/

open Sys2Proof Sys2Proof.Machine

/-! ### The machine as a whole -/

/-- A step takes the command in front of the queue and executes it with the rest (the model's queue, log 3). -/
def Obligations.StepRunsFrontCommand : Prop :=
  ∀ (c : Instr) (rest : List Instr) (s : State),
    step { s with pending := c :: rest } = exec c { s with pending := rest }

/-- An empty queue lets a microsecond pass (log 1); in a freeze or without power only the always-on timebase counts. -/
def Obligations.EmptyQueuePassesMicrosecond : Prop :=
  ∀ s : State, s.pending = [] →
    ∃ t, step s = .next t ∧ t.pending = [] ∧ t.hbm = s.hbm ∧ t.dev.clock.aon = s.dev.clock.aon + 1000 ∧
      (s.dev.diesStop = true →
        t.dev = { s.dev with clock := { s.dev.clock with aon := s.dev.clock.aon + 1000 } }) ∧
      (s.dev.diesStop = false → t.dev.clock.run = s.dev.clock.run + 1000)

/-- The canonical form of the HBM tables is an invariant of every step, whatever state it starts from. -/
def Obligations.HbmFormKept : Prop :=
  ∀ s t : State, s.hbm.wf = true → step s = .next t → t.hbm.wf = true

/-- Reset meets the invariant; unlisted bytes read 0 (log 4). -/
def Obligations.ResetHbmFormAndQueue : Prop :=
  State.reset.pending = [] ∧ State.reset.hbm.wf = true ∧
    ∀ a, State.reset.hbm.byte a = 0 ∧ State.reset.hbm.poisoned a = false ∧ State.reset.hbm.isFull a = false

/-- The only stop: a requester outside 0 to 64 (R411), or 64 at BAR2 or configuration space (R386); the spec gives every other command an effect. -/
def Obligations.CommandsStopOnlyForNoRequester : Prop :=
  ∀ (c : Instr) (s : State),
    (c.wf = true → ∃ t, exec c s = .next t) ∧
    ((∃ t, exec c s = .next t) ∨ (exec c s = .refused .noSuchRequester ∧ ∃ r, c.requester = some r ∧ 63 < r.toNat))

namespace Sys2Proof.Claims

/-- The commands that store to HBM or empty it: the stack controllers, requests of other nodes, HBMWR and SCLEAR, and the loss of
the module's power or its restart. -/
def storesHbm (c : Instr) : Bool :=
  match c with
  | .controllerWrite _ _ _ | .controllerAtomic _ _ _ | .controllerLds _ _ _ _ | .controllerSts _ _ _ | .regionInitDone
  | .hbmScrub _ _ | .memWr _ _ | .atomicAadd _ _ | .atomicAxchg _ _ | .atomicAcas _ _ | .atomicAmin _ _ | .atomicAmax _ _
  | .atomicAand _ _ | .atomicAor _ _ | .hbmwr _ _ _ | .sclear _ _ | .mrstN _ | .powerOn _ | .uvloFall | .ovloFall _
  | .escalationStage3 _ => true
  | _ => false

end Sys2Proof.Claims

/-- exec leaves the queue to step, and every command but the stores leaves all of HBM as it was. -/
def Obligations.OnlyStoresChangeHbm : Prop :=
  ∀ (c : Instr) (s t : State), exec c s = .next t →
    t.pending = s.pending ∧ (Claims.storesHbm c = false → t.hbm = s.hbm)


namespace Sys2Proof.Claims

/-- The commands of the compute dies: cells, mesh, stacks, links, and the descriptors and packets that need them. -/
def ofDies (c : Instr) : Bool :=
  match c with
  | .add .. | .sub .. | .mul .. | .mulh .. | .div .. | .rem .. | .and .. | .or .. | .xor .. | .andn .. | .not .. | .neg ..
  | .abs .. | .min .. | .max .. | .addc .. | .subb .. | .mov .. | .ldi .. | .shl .. | .shr .. | .sar .. | .rol .. |
  .ror .. | .popc .. | .clz .. | .ctz .. | .brev .. | .bswap .. | .splat .. | .extr .. | .fadd .. | .fsub .. | .fmul .. |
  .fdiv .. | .fsqrt .. | .fmin .. | .fmax .. | .fneg .. | .fabs .. | .fcvtd .. | .fcvts .. | .fcvth .. | .ftoi .. |
  .itof .. | .frnd .. | .dadd .. | .dsub .. | .dadj .. | .dmul1 .. | .dshl .. | .dshr .. | .dval .. | .dtob .. | .btod ..
  | .dneg .. | .dseq .. | .dslt .. | .dsle .. | .seq .. | .slt .. | .sle .. | .fseq .. | .fslt .. | .fsle .. | .fsun .. |
  .stest .. | .steer .. | .gate .. | .merge .. | .newf .. | .freef .. | .loopw .. | .advw .. | .sets .. | .gets .. |
  .getit .. | .setit .. | .getf .. | .setf .. | .setcl .. | .send .. | .sendo .. | .ld .. | .st .. | .lds .. | .sts .. |
  .aadd .. | .axchg .. | .acas .. | .amin .. | .amax .. | .aand .. | .aor .. | .lock .. | .trylock .. | .unlock .. |
  .fence .. | .rep .. | .repFiring .. | .out .. | .raise .. | .rete .. | .nop .. | .timer .. | .udef .. | .tokenArrival ..
  | .orderGapTimeout .. | .tokenSelect .. | .prefetchFill .. | .replyReceive .. | .requestAck .. | .newfRecordFreed .. |
  .frameExhausted .. | .outAccept .. | .cellTimer .. | .cellSleep .. | .msScrub .. | .spillTrigger .. | .spillMove .. |
  .reelBackStart .. | .reelToken .. | .parkReel .. | .tokenRefuse .. | .refuseStore .. | .retrySend .. | .waveReceive .. |
  .sumsAggregate .. | .flitHop .. | .crossbarFlitSend .. | .clusterRetention .. | .clusterWake .. | .tgtDead .. |
  .d2dDown .. | .probeMatch .. | .trainingFrameReceive .. | .detectTimeout .. | .eqTimeout .. | .lockTimeout .. |
  .codewordLock .. | .hello .. | .retrain .. | .down .. | .flitReceive .. | .flitTransmit .. | .replayTimeout .. |
  .laneFail .. | .packetRoute .. | .idAssignProbe .. | .idAssignSet .. | .idAssignRoute .. | .idAssignReply .. | .memRd ..
  | .memWr .. | .atomicAadd .. | .atomicAxchg .. | .atomicAcas .. | .atomicAmin .. | .atomicAmax .. | .atomicAand .. |
  .atomicAor .. | .lockReqLock .. | .lockReqTrylock .. | .lockRelUnlock .. | .lockRelAbandon .. | .event .. |
  .routeWrite .. | .routeFlip .. | .routeStatus .. | .routeRetire .. | .isolateOrder .. | .isolateRelease .. |
  .isolateNotice .. | .memResp .. | .refuseReceive .. | .controllerRead .. | .controllerWrite .. | .controllerAtomic .. |
  .controllerLds .. | .controllerSts .. | .ldsReissue .. | .lockUnitLock .. | .lockUnitTrylock .. | .lockUnitUnlock .. |
  .hbmSelfRefresh .. | .hbmScrub .. | .regionInitDone | .eventPresent .. | .eventRecordSend .. | .receiveBufferGrant .. |
  .eventRecordArrival .. | .puppeteerPost .. | .load .. | .inject .. | .greset .. | .unload .. | .hbmrd .. | .hbmwr .. |
  .sclear .. | .evpost .. | .lockDescLock .. | .lockDescTrylock .. | .lockDescUnlock .. | .quota .. | .ucodeLoad .. |
  .ucodeClear .. | .restoreFactory .. | .escalationStage1 | .escalationStage2 | .episodeClose | .reintegrationDone .. |
  .unitResetDone .. | .laneLock .. | .codewordLockLoss .. => true
  | _ => false

/-- The commands of the hub: host interface, management, and the governor. -/
def ofHub (c : Instr) : Bool :=
  match c with
  | .initiatorTimeout .. | .outputEntryWrite .. | .waveStart .. | .waveAbandon .. | .hubForward .. | .routeBankRetire
  | .rollCallAuto | .rollProbeTimeout | .censusWave .. | .censusSums .. | .censusDone .. | .mgmtRd .. | .mgmtWr ..
  | .hostMemRequest .. | .descriptorFetch .. | .assignRingPairs .. | .assignOutputRings .. | .assignCells ..
  | .assignHbmWindow .. | .fwpatch .. | .nvstoreRead .. | .nvstoreWrite .. | .doorbellPoll .. | .noticeWriteHeld ..
  | .msixTime .. | .governorSample .. | .governorRelease .. | .overcurrentComparator | .thermalStep ..
  | .thermalRelease .. | .tempHigh .. | .conv .. | .mgtWdog .. | .hostWriteFailed | .hbmThermalThrottle .. => true
  | _ => false

/-- The accesses of the registers, of BAR2 and of configuration space. -/
def ofHost (c : Instr) : Bool :=
  match c with
  | .sqtailDoorbell .. | .cqheadDoorbell .. | .oheadDoorbell .. | .wakeGo .. | .ringEnable .. | .ringDisable ..
  | .fltAck .. | .frzctlFreeze .. | .frzctlResume .. | .cellReset .. | .clusterReset .. | .injcmdGo ..
  | .accdataWrite .. | .evtdataWrite .. | .routectlFlip .. | .rollctlGo .. | .fflip .. | .nodeIsolate ..
  | .nodeRelease .. | .nodeIdWrite .. | .linkEnable .. | .linkDisable .. | .cmdRetrain .. | .cmdRestart ..
  | .traceClear .. | .accCountClear .. | .statusClear .. | .statusClearOnRead .. | .regWriteLowHalf ..
  | .regReadLowHalf .. | .registerWrite .. => true
  | _ => false

end Sys2Proof.Claims

/-- In either scope a freeze stops the compute dies, in scope 0 and after a loss of PCLK the hub too (R455, R473), and a host access
waits in the queue of 128 TLPs (R387); no fault occurs in it (R456); without power the dies stand still too (log 7). -/
def Obligations.FreezeHoldsItsScope : Prop :=
  (∀ (c : Instr) (s : State), Claims.ofDies c = true →
    (s.dev.flt.freezePinLow = true ∨ s.dev.flt.freezeLatch = true ∨ s.dev.flt.clockLatch = true ∨ s.dev.pwr.off = true) →
    exec c s = .next s) ∧
  (∀ (c : Instr) (s : State), Claims.ofHub c = true → c.wf = true → s.dev.frozen = true →
    (s.dev.fld rFrzcfg 0 2 ≠ 1 ∨ s.dev.flt.clockLatch = true) → exec c s = .next s) ∧
  (∀ (c : Instr) (s : State), Claims.ofHost c = true → c.wf = true → s.dev.frozen = true →
    (s.dev.fld rFrzcfg 0 2 ≠ 1 ∨ s.dev.flt.clockLatch = true) →
    ∃ l, exec c s = .next { s with dev := { s.dev with hif := { s.dev.hif with tlps := l } } } ∧
      (l = s.dev.hif.tlps ∨ s.dev.hif.tlps.length < 128 ∧ ∃ t : HostTlp, t.req.toNat < 64 ∧ l = s.dev.hif.tlps ++ [t])) ∧
  (∀ (d : Dev) (key b source : Nat) (units : List DevUnit) (causes : List AbortCause), d.frozen = true →
    d.fault key b source units causes = d ∧ d.faultOnly source units causes = d)


/-! ### Dispatch of activations -/

namespace Sys2Proof.Claims

/-- A lane can dispatch the older of its prefetch slots, and what it dispatches will fire: the cell runs and is awake, the lane has
no REP in progress and its spare record, its result buffer has room (R162), the words read are good and legal (R87, R89), the
predicate is met (R77), and the event controller has records for every event the firing could raise (R273). -/
structure Ready (d : Dev) (x : Disp) (opc : Nat) (sl : Slot) (rest : List Slot) : Prop where
  powered : d.diesStop = false
  runs : (d.cell x.cell).runs = true
  awake : (d.cell x.cell).asleep = false
  lane : (d.cell x.cell).pipe.lane x.lane.toNat = { slots := sl :: rest, rep := none, spareUsed := false }
  older : x.younger = false
  opcode : wOpc sl.word = opc
  room : (d.cell x.cell).pipe.roomFor x.lane (sl.firing x.cell x.lane).word = true
  word : sl.bad ≠ .uncorrectable
  fanout : x.fanout ≠ .uncorrectable
  legal : d.slotFault x.cell sl = none
  met : predMet sl.act (sl.firing x.cell x.lane).word = true
  records : (d.cell x.cell).sharedUsed + 20 ≤ sharedRecords
  spares : (d.cell x.cell).ev.recs.all (fun r => r.place ≠ .spare x.lane) = true

/-- A continuation-table entry is there for the slot, before it those that have waited longer, and the graph is below its caps
(R186, R205). -/
structure EntryFree (d : Dev) (x : Disp) (sl : Slot) (wait : Bool) : Prop where
  entry : (d.cell x.cell).pipe.entryOpen sl = true
  cap : d.belowCap x.cell sl.act.graph wait = true

/-- The device when the activation has left its slot: it is consumed (R60), and a corrected fan-out word is recorded (R89). -/
def begun (d : Dev) (x : Disp) (sl : Slot) (rest : List Slot) : Dev :=
  let d := (d.modLane x.cell x.lane fun l => { l with slots := rest }).consumeAct x.cell sl.act
  if wDfmt (sl.firing x.cell x.lane).word = 2 then d.upsetFault x.cell x.fanout 2 else d

/-- The state after a dispatch whose firing does `effect`: FREEING frames without activations become FREE (R50); nothing else. -/
def fired (s : State) (x : Disp) (sl : Slot) (rest : List Slot) (effect : Firing → Dev → Dev) : State :=
  { s with dev := (effect (sl.firing x.cell x.lane) (begun s.dev x sl rest)).sweepFreeing x.cell }

/-- A compute command: its constructor, its opcode, and its operation on values. -/
structure ComputeRow where
  cmd : Disp → Instr
  opc : Nat
  op : Opn → OpRes

/-- Integer arithmetic and logic (R102 to R104). -/
def integerRows : List ComputeRow :=
  [⟨.add, 0x000, opAdd⟩, ⟨.sub, 0x001, opSub⟩, ⟨.mul, 0x002, opMul⟩, ⟨.mulh, 0x003, opMulh⟩, ⟨.div, 0x004, opDiv⟩,
   ⟨.rem, 0x005, opRem⟩, ⟨.and, 0x006, opAnd⟩, ⟨.or, 0x007, opOr⟩, ⟨.xor, 0x008, opXor⟩, ⟨.andn, 0x009, opAndn⟩,
   ⟨.not, 0x00A, opNot⟩, ⟨.neg, 0x00B, opNeg⟩, ⟨.abs, 0x00C, opAbs⟩, ⟨.min, 0x00D, opMin⟩, ⟨.max, 0x00E, opMax⟩,
   ⟨.addc, 0x00F, opAddc⟩, ⟨.subb, 0x010, opSubb⟩, ⟨.mov, 0x011, opMov⟩, ⟨.ldi, 0x012, opLdi⟩]

/-- Shifts and bit operations (R106). -/
def shiftRows : List ComputeRow :=
  [⟨.shl, 0x040, opShl⟩, ⟨.shr, 0x041, opShr⟩, ⟨.sar, 0x042, opSar⟩, ⟨.rol, 0x043, opRol⟩, ⟨.ror, 0x044, opRor⟩,
   ⟨.popc, 0x045, opPopc⟩, ⟨.clz, 0x046, opClz⟩, ⟨.ctz, 0x047, opCtz⟩, ⟨.brev, 0x048, opBrev⟩,
   ⟨.bswap, 0x049, opBswap⟩, ⟨.splat, 0x04A, opSplat⟩, ⟨.extr, 0x04B, opExtr⟩]

/-- Floating point (R110 to R112). -/
def floatRows : List ComputeRow :=
  [⟨.fadd, 0x080, opFadd⟩, ⟨.fsub, 0x081, opFsub⟩, ⟨.fmul, 0x082, opFmul⟩, ⟨.fdiv, 0x083, opFdiv⟩,
   ⟨.fsqrt, 0x084, opFsqrt⟩, ⟨.fmin, 0x085, opFmin⟩, ⟨.fmax, 0x086, opFmax⟩, ⟨.fneg, 0x087, opFneg⟩,
   ⟨.fabs, 0x088, opFabs⟩, ⟨.fcvtd, 0x089, opFcvtd⟩, ⟨.fcvts, 0x08A, opFcvts⟩, ⟨.fcvth, 0x08B, opFcvth⟩,
   ⟨.ftoi, 0x08C, opFtoi⟩, ⟨.itof, 0x08D, opItof⟩, ⟨.frnd, 0x08E, opFrnd⟩]

/-- Packed decimal (R115 to R120). -/
def decimalRows : List ComputeRow :=
  [⟨.dadd, 0x0C0, opDadd⟩, ⟨.dsub, 0x0C1, opDsub⟩, ⟨.dadj, 0x0C2, opDadj⟩, ⟨.dmul1, 0x0C3, opDmul1⟩,
   ⟨.dshl, 0x0C4, opDshl⟩, ⟨.dshr, 0x0C5, opDshr⟩, ⟨.dval, 0x0C6, opDval⟩, ⟨.dtob, 0x0C7, opDtob⟩,
   ⟨.btod, 0x0C8, opBtod⟩, ⟨.dneg, 0x0C9, opDneg⟩, ⟨.dseq, 0x0D0, opDseq⟩, ⟨.dslt, 0x0D1, opDslt⟩,
   ⟨.dsle, 0x0D2, opDsle⟩]

/-- Steering (R124). -/
def steerRows : List ComputeRow :=
  [⟨.seq, 0x100, opSeq⟩, ⟨.slt, 0x101, opSlt⟩, ⟨.sle, 0x102, opSle⟩, ⟨.fseq, 0x103, opFseq⟩, ⟨.fslt, 0x104, opFslt⟩,
   ⟨.fsle, 0x105, opFsle⟩, ⟨.fsun, 0x106, opFsun⟩, ⟨.stest, 0x107, opStest⟩, ⟨.steer, 0x108, opSteer⟩,
   ⟨.gate, 0x109, opMov⟩, ⟨.merge, 0x10A, opMov⟩]

/-- The 70 compute commands. -/
def computeRows : List ComputeRow := integerRows ++ shiftRows ++ floatRows ++ decimalRows ++ steerRows

/-- The exceptions of a firing that the event table of its graph enables in its cell (R95). -/
def enabledExceptions (d : Dev) (x : Disp) (sl : Slot) (r : OpRes) : List Nat :=
  r.exc.filter ((d.cell x.cell).enabled sl.act.graph)

/-- The slots a firing sends on: those of the operation, but a steer with a poisoned operand goes to slot 1, a poisoned predicate
having decided already whether it fires (R58, R123). -/
def sentSlots (sl : Slot) (kind : ResultKind) (r : OpRes) : Option Result × Option Result :=
  if ((sl.act.left.toList ++ sl.act.right.toList).any fun o => o.tok.poison) && kind = .steer then
    match r.s0 with
    | none => (r.s0, r.s1)
    | some v => (none, some { v with vt := if wOpc sl.word = 0x0C6 then 8 else v.vt })
  else (r.s0, r.s1)

end Sys2Proof.Claims

/-- Without an enabled exception, or with a poisoned input, a compute activation delivers its results; otherwise an enabled
exception raises one event, the lowest, and there is no result (R95 to R97). -/
def Obligations.ComputeDispatchDeliversOrRaises : Prop :=
  (∀ row ∈ Claims.computeRows, ∀ (s : State) (x : Disp) (sl : Slot) (rest : List Slot) (info : OpInfo),
    Claims.Ready s.dev x row.opc sl rest → opInfo s.dev.uct.entries row.opc = some info →
    let f := sl.firing x.cell x.lane
    let r := row.op (f.opn s.dev.uct.entries)
    (sl.act.poisoned = true ∨ Claims.enabledExceptions s.dev x sl r = []) →
    exec (row.cmd x) s = .next (Claims.fired s x sl rest fun f d =>
      f.maker.results (resultPlan info.kind f.word (fanoutList (s.dev.cell x.cell).store.fo f.word))
        (Claims.sentSlots sl info.kind r).1 (Claims.sentSlots sl info.kind r).2 d)) ∧
  (∀ row ∈ Claims.computeRows, ∀ (s : State) (x : Disp) (sl : Slot) (rest : List Slot) (src : Nat),
    Claims.Ready s.dev x row.opc sl rest → sl.act.poisoned = false →
    let f := sl.firing x.cell x.lane
    let es := Claims.enabledExceptions s.dev x sl (row.op (f.opn s.dev.uct.entries))
    src ∈ es → (∀ e ∈ es, src ≤ e) →
    exec (row.cmd x) s = .next (Claims.fired s x sl rest fun f d =>
      d.raise x.cell (some x.lane) sl.act.graph src
        { left := f.a, right := f.right s.dev.uct.entries, oframe := some sl.act.frame, oiter := sl.act.iter }))


/-- The tag opcodes and GETS (R126, R127, R134). -/
def Obligations.TagDispatchDelivers : Prop :=
  ∀ (s : State) (x : Disp) (sl : Slot) (rest : List Slot),
    let b := fun (f : Firing) => (f.b s.dev.uct.entries).bits
    (Claims.Ready s.dev x 0x146 sl rest → exec (.getit x) s = .next (Claims.fired s x sl rest fun f d =>
      f.maker.one sl.word ⟨sl.act.iter.setWidth 64, 0⟩ d)) ∧
    (Claims.Ready s.dev x 0x147 sl rest → exec (.setit x) s = .next (Claims.fired s x sl rest fun f d =>
      { f.maker with iter := (b f).setWidth 32 }.one sl.word ⟨f.a.bits, f.a.vtype⟩ d)) ∧
    (Claims.Ready s.dev x 0x148 sl rest → exec (.getf x) s = .next (Claims.fired s x sl rest fun f d =>
      f.maker.one sl.word ⟨s.dev.fbn.nodeId ++ x.cell ++ (0 : BitVec 2) ++ sl.act.frame ++ (0 : BitVec 24), 8⟩ d)) ∧
    (Claims.Ready s.dev x 0x149 sl rest → exec (.setf x) s = .next (Claims.fired s x sl rest fun f d =>
      { f.maker with frame := (b f).setWidth 12 }.one sl.word ⟨f.a.bits, f.a.vtype⟩ d)) ∧
    (Claims.Ready s.dev x 0x14A sl rest → exec (.setcl x) s = .next (Claims.fired s x sl rest fun f d =>
      { f.maker with cls := (b f).setWidth 3 }.one sl.word ⟨f.a.bits, f.a.vtype⟩ d)) ∧
    (Claims.Ready s.dev x 0x145 sl rest → exec (.gets x) s = .next (Claims.fired s x sl rest fun f d =>
      f.maker.one sl.word ⟨(s.dev.cell x.cell).slot sl.act (nbits (wMod sl.word) 0 2), 8⟩ d)) ∧
    (Claims.Ready s.dev x 0x144 sl rest → exec (.sets x) s = .next (Claims.fired s x sl rest fun f d =>
      f.maker.one sl.word ⟨b f, (f.b s.dev.uct.entries).vtype⟩
        (d.writeFrame x.cell sl.act fun r => r.setSlot (nbits (wMod sl.word) 0 2) f.a.bits))) ∧
    (Claims.Ready s.dev x 0x142 sl rest → (b (sl.firing x.cell x.lane)).toNat ≤ 1024 →
      exec (.loopw x) s = .next (Claims.fired s x sl rest fun f d =>
        f.maker.one sl.word ⟨f.a.bits, f.a.vtype⟩
          (d.writeFrame x.cell sl.act fun r => { r with wbase := sl.act.iter, w := (b f).setWidth 11 }))) ∧
    (Claims.Ready s.dev x 0x143 sl rest → exec (.advw x) s = .next (Claims.fired s x sl rest fun f d =>
      d.writeFrame x.cell sl.act fun r => if r.w = 0 then r else
        { r with wbase := BitVec.ofNat 32 (min (r.wbase.toNat + (b f).toNat % 2 ^ 32) 0xFFFFFFFF) }))

namespace Sys2Proof.Claims

/-- The record that an activation's frame has and may write: bound and not being freed (R47, R50). -/
def ownFrame (d : Dev) (x : Disp) (sl : Slot) : Option FrameRec :=
  match (d.cell x.cell).frame sl.act.graph sl.act.frame with
  | some r => if r.st = .freeing then none else some r
  | none => none

/-- The device with the record of the activation's frame given a new value; only that record changes, its touch stamp with it. -/
def withFrame (d : Dev) (x : Disp) (sl : Slot) (r : FrameRec) : Dev :=
  d.modStore x.cell fun st =>
    { st with frames := minsert st.frames (sl.act.graph.toNat * 4096 + sl.act.frame.toNat) { r with stamp := d.stampNow x.cell } }

end Sys2Proof.Claims

/-- SETS, LOOPW and ADVW (R132 to R134). -/
def Obligations.FrameWindowDispatch : Prop :=
  ∀ (s : State) (x : Disp) (sl : Slot) (rest : List Slot),
    let b := fun (f : Firing) => f.b s.dev.uct.entries
    let write := fun (g : FrameRec → FrameRec) (d : Dev) =>
      match Claims.ownFrame s.dev x sl with
      | none => d
      | some r => Claims.withFrame d x sl (g r)
    (Claims.Ready s.dev x 0x144 sl rest → exec (.sets x) s = .next (Claims.fired s x sl rest fun f d =>
      f.maker.one sl.word ⟨(b f).bits, (b f).vtype⟩ (write (fun r =>
        match nbits (wMod sl.word) 0 2 with
        | 0 => { r with s0 := f.a.bits }
        | 1 => { r with s1 := f.a.bits }
        | 2 => { r with s2 := f.a.bits }
        | _ => { r with s3 := f.a.bits }) d))) ∧
    (Claims.Ready s.dev x 0x142 sl rest → exec (.loopw x) s = .next (Claims.fired s x sl rest fun f d =>
      if (b f).bits.toNat ≤ 1024 then
        f.maker.one sl.word ⟨f.a.bits, f.a.vtype⟩ (write (fun r => { r with wbase := sl.act.iter, w := (b f).bits.setWidth 11 }) d)
      else
        d.raise x.cell (some x.lane) sl.act.graph srcIllegalField
          { left := f.a, right := f.right s.dev.uct.entries, oframe := some sl.act.frame, oiter := sl.act.iter })) ∧
    (Claims.Ready s.dev x 0x143 sl rest → exec (.advw x) s = .next (Claims.fired s x sl rest fun f d =>
      write (fun r => if r.w = 0 then r else
        { r with wbase := BitVec.ofNat 32 (min (r.wbase.toNat + (b f).bits.toNat % 2 ^ 32) 0xFFFFFFFF) }) d))

/-- NEWF and FREEF (R49, R50, R128 to R131). -/
def Obligations.NewfBindsAndFreefFrees : Prop :=
  (∀ (s : State) (x : Disp) (sl : Slot) (rest : List Slot), Claims.Ready s.dev x 0x140 sl rest →
    let f := sl.firing x.cell x.lane
    let bad := wMod sl.word = 2 ∧ (cwPort f.a.bits = 3 ∨ nbits f.a.bits 14 10 ≠ 0)
    let parent : Option Cont := match (wMod sl.word).toNat with
      | 1 => some { node := s.dev.fbn.nodeId, cell := x.cell, frame := sl.act.frame, instr := dInstr (wD1 sl.word)
                    port := dPort (wD1 sl.word), iter := topIter (dTop (wD1 sl.word)) sl.act.iter }
      | 2 => some { node := cwNode f.a.bits, cell := cwCell f.a.bits, frame := cwFrame f.a.bits, instr := cwInstr f.a.bits
                    port := cwPort f.a.bits, iter := sl.act.iter }
      | _ => none
    (∀ n, ¬bad → s.dev.newfNumber x.cell sl.act.graph = some n →
      exec (.newf x) s = .next (Claims.fired s x sl rest fun f d =>
        { f.maker with frame := n }.results
          (if wMod sl.word = 1 then [(false, .local_ (wD0 sl.word))]
            else resultPlan .one sl.word (fanoutList (s.dev.cell x.cell).store.fo sl.word))
          (some ⟨f.a.bits, f.a.vtype⟩) none
          (d.modStore x.cell fun st =>
            { st with
              inUse := insertNum (sl.act.graph.toNat * 4096 + n.toNat) st.inUse
              frames := minsert st.frames (sl.act.graph.toNat * 4096 + n.toNat)
                { st := .live, pv := parent.isSome, parent := parent.getD contZero, wbase := 0, w := 0
                  s0 := 0, s1 := 0, s2 := 0, s3 := 0, entry := false, stamp := d.stampNow x.cell } }))) ∧
    (bad → exec (.newf x) s = .next (Claims.fired s x sl rest fun f d =>
      d.raise x.cell (some x.lane) sl.act.graph srcIllegalField
        { left := f.a, right := none, oframe := some sl.act.frame, oiter := sl.act.iter })) ∧
    (¬bad → s.dev.newfNumber x.cell sl.act.graph = none → Claims.EntryFree s.dev x sl true →
      exec (.newf x) s = .next (Claims.fired s x sl rest fun f d =>
        (d.takeEntry f (.newf false)).1.evict x.cell sl.act.graph))) ∧
  (∀ (s : State) (x : Disp) (sl : Slot) (rest : List Slot), Claims.Ready s.dev x 0x141 sl rest →
    let k := sl.act.graph.toNat * 4096 + sl.act.frame.toNat
    (∀ r, (s.dev.cell x.cell).frame sl.act.graph sl.act.frame = some r → r.entry = true →
      exec (.freef x) s = .next (Claims.fired s x sl rest fun f d =>
        d.raise x.cell (some x.lane) sl.act.graph srcIllegalField
          { left := f.a, right := none, oframe := some sl.act.frame, oiter := sl.act.iter })) ∧
    ((∀ r, (s.dev.cell x.cell).frame sl.act.graph sl.act.frame = some r → r.entry = false) →
      exec (.freef x) s = .next (Claims.fired s x sl rest fun _ d => d.freeFrame x.cell k) ∧
      ∀ t, exec (.freef x) s = .next t →
        (∀ e ∈ (t.dev.cell x.cell).store.ms, e.tok.graph.toNat * 4096 + e.tok.frame.toNat = k → e.const = true) ∧
        (∀ r ∈ (t.dev.cell x.cell).store.ring, r.key ≠ k) ∧ (t.dev.cell x.cell).store.reel ≠ some k))

/-- SEND and SENDO (R135 to R137). -/
def Obligations.SendDispatch : Prop :=
  ∀ (s : State) (x : Disp) (sl : Slot) (rest : List Slot),
    let f := sl.firing x.cell x.lane
    let w := (f.b s.dev.uct.entries).bits
    let good := cwPort w ≠ 3 ∧ nbits w 14 10 = 0
    let k := sl.act.graph.toNat * 16 + (wMod sl.word).toNat
    let tok := fun (iter : BitVec 32) (stream : BitVec 4) (seq : BitVec 9) => TokenFields.pack
      { node := cwNode w, cell := cwCell w, graph := sl.act.graph, cls := sl.act.cls, stream := stream, seq := seq, kind := 0
        vtype := f.a.vtype, poison := sl.act.poisoned, epoch := s.dev.fab.cur
        colour := ((s.dev.cell x.cell).census sl.act.graph).colour, frame := cwFrame w, instr := cwInstr w, port := cwPort w
        iter := iter, value := f.a.bits }
    (Claims.Ready s.dev x 0x14B sl rest → good → exec (.send x) s = .next (Claims.fired s x sl rest fun f d =>
      f.maker.one sl.word ⟨f.a.bits, f.a.vtype⟩
        (d.sendToken x.cell (some x.lane) (tok (topIter (nbits (wMod sl.word) 0 2) sl.act.iter) 0 0)))) ∧
    (Claims.Ready s.dev x 0x14C sl rest → good → exec (.sendo x) s = .next (Claims.fired s x sl rest fun f d =>
      f.maker.one sl.word ⟨f.a.bits, f.a.vtype⟩
        ((d.sendToken x.cell (some x.lane) (tok sl.act.iter (wMod sl.word) (mget 0 (s.dev.cell x.cell).pipe.sendCtr k))).modPipe
          x.cell fun p => { p with sendCtr := mset 0 p.sendCtr k (mget 0 (s.dev.cell x.cell).pipe.sendCtr k + 1) }))) ∧
    (∀ c ∈ [(Instr.send x, 0x14B), (Instr.sendo x, 0x14C)], Claims.Ready s.dev x c.2 sl rest → ¬good →
      exec c.1 s = .next (Claims.fired s x sl rest fun f d =>
        d.raise x.cell (some x.lane) sl.act.graph srcIllegalField
          { left := f.a, right := f.right s.dev.uct.entries, oframe := some sl.act.frame, oiter := sl.act.iter }))


/-! ### Memory, lock and control opcodes as their lane performs them -/

namespace Sys2Proof.Claims

/-- A memory command: its constructor, its opcode, and its operation. -/
structure MemRow where
  cmd : Disp → Instr
  opc : Nat
  op : MemOp

/-- The memory, structure and atomic opcodes (R139). -/
def memoryRows : List MemRow :=
  [⟨.ld, 0x180, .ld⟩, ⟨.st, 0x181, .st⟩, ⟨.lds, 0x182, .lds⟩, ⟨.sts, 0x183, .sts⟩, ⟨.aadd, 0x184, .aadd⟩,
   ⟨.axchg, 0x185, .axchg⟩, ⟨.acas, 0x186, .acas⟩, ⟨.amin, 0x187, .amin⟩, ⟨.amax, 0x188, .amax⟩, ⟨.aand, 0x189, .aand⟩,
   ⟨.aor, 0x18A, .aor⟩]

/-- The lock opcodes (R145). -/
def lockRows : List MemRow := [⟨.lock, 0x18B, .lock⟩, ⟨.trylock, 0x18C, .trylock⟩, ⟨.unlock, 0x18D, .unlock⟩]

/-- The request of a memory opcode: address a[47:0], size MOD[1:0], value b; ACAS takes e and n by R142. -/
def memoryRequest (d : Dev) (x : Disp) (sl : Slot) (op : MemOp) : MemReq :=
  let f := sl.firing x.cell x.lane
  let b := f.b d.uct.entries
  let small := op = .acas ∧ nbits (wMod sl.word) 0 2 = 1
  { op := op, sz := (wMod sl.word).setWidth 2, sx := (wMod sl.word).getLsbD 2, addr := f.a.bits.setWidth 48
    data := if small then (b.bits.setWidth 32).setWidth 64 else b.bits
    cmp := if small then (bits b.bits 32 32).setWidth 64 else if op = .acas then (d.cell x.cell).slot sl.act 1 else 0
    dpoison := b.poison, graph := sl.act.graph, frame := sl.act.frame, src := .cell x.cell 0 0 }

/-- What the issuing cell can see of R138: a[63:48] zero, the address aligned, and HBM or, for LD and ST, host memory. -/
def addressGood (sl : Slot) (op : MemOp) (a : Word) : Prop :=
  a.toNat / 2 ^ 48 = 0 ∧ a.toNat % szBytes ((wMod sl.word).setWidth 2) = 0 ∧
    (a.toNat < 0x1800000000 ∨ (2 ^ 47 ≤ a.toNat ∧ (op = .ld ∨ op = .st)))

/-- The device once the firing has taken the lowest free continuation-table entry, and that entry's number and use. -/
def entryTaken (d : Dev) (f : Firing) (kind : CtKind) : Dev × BitVec 10 × Nat :=
  ((d.takeEntry f kind).1, BitVec.ofNat 10 (d.takeEntry f kind).2, (d.cell f.cell).pipe.uid)

end Sys2Proof.Claims

/-- Memory opcodes issue or are answered by their own cell (R138 to R144). -/
def Obligations.MemoryDispatchIssues : Prop :=
  ∀ row ∈ Claims.memoryRows, ∀ (s : State) (x : Disp) (sl : Slot) (rest : List Slot),
    Claims.Ready s.dev x row.opc sl rest → Claims.EntryFree s.dev x sl (row.op = .lds) →
    let a := (sl.firing x.cell x.lane).a
    let r := Claims.memoryRequest s.dev x sl row.op
    (a.poison = false → Claims.addressGood sl row.op a.bits →
      exec (row.cmd x) s = .next (Claims.fired s x sl rest fun f d =>
        let t := Claims.entryTaken d f (.mem r)
        t.1.sendPkt x.cell (.req { r with src := .cell x.cell t.2.1 t.2.2 }))) ∧
    (∀ ans, ((a.poison = true ∧ ans = .value 0 true) ∨
        (a.poison = false ∧ ¬Claims.addressGood sl row.op a.bits ∧ ans = .memError)) →
      exec (row.cmd x) s = .next (Claims.fired s x sl rest fun f d =>
        let t := Claims.entryTaken d f (.mem r)
        t.1.modPipe x.cell fun p =>
          { p with inbox := p.inbox ++ [.rsp { dst := x.cell, entry := t.2.1, uid := t.2.2, graph := sl.act.graph, ans := ans }] }))

/-- Lock opcodes issue or are answered by their own cell (R145, R146, R509). -/
def Obligations.LockDispatchIssues : Prop :=
  ∀ row ∈ Claims.lockRows, ∀ (s : State) (x : Disp) (sl : Slot) (rest : List Slot),
    Claims.Ready s.dev x row.opc sl rest → Claims.EntryFree s.dev x sl (row.op = .lock) →
    let a := (sl.firing x.cell x.lane).a
    let b := (sl.firing x.cell x.lane).b s.dev.uct.entries
    let r : MemReq :=
      { op := row.op, sz := 0, sx := (wMod sl.word).getLsbD 2, addr := a.bits.setWidth 48
        data := if row.op = .lock then (bits a.bits 48 14).setWidth 64 else b.bits
        cmp := if row.op = .lock then sl.act.iter.setWidth 64 else 0
        dpoison := b.poison, graph := sl.act.graph, frame := sl.act.frame, src := .cell x.cell 0 0 }
    let bad := nbits a.bits 62 2 ≠ 0 ∨ (row.op ≠ .lock ∧ nbits a.bits 48 14 ≠ 0) ∨ 0x1800000000 ≤ nbits a.bits 0 48
    let word := fun (st : Byte) => a.bits.setWidth 48 ++ (0 : Byte) ++ st
    (a.poison = false → nbits a.bits 0 3 = 0 → ¬bad →
      exec (row.cmd x) s = .next (Claims.fired s x sl rest fun f d =>
        let t := Claims.entryTaken d f (.lockReq r)
        t.1.sendPkt x.cell (.req { r with src := .cell x.cell t.2.1 t.2.2 }))) ∧
    (∀ v p, ((a.poison = true ∧ v = 0 ∧ p = true) ∨
        (a.poison = false ∧ nbits a.bits 0 3 ≠ 0 ∧ v = word stUnaligned ∧ p = false) ∨
        (a.poison = false ∧ nbits a.bits 0 3 = 0 ∧ bad ∧ v = word stBadValue ∧ p = false)) →
      exec (row.cmd x) s = .next (Claims.fired s x sl rest fun f d =>
        let t := Claims.entryTaken d f (.lockReq r)
        t.1.modPipe x.cell fun q =>
          { q with inbox := q.inbox ++ [.rsp { dst := x.cell, entry := t.2.1, uid := t.2.2, graph := sl.act.graph, ans := .value v p }] }))

/-- FENCE, OUT, TIMER, RETE and NOP (R143, R148 to R152). -/
def Obligations.ControlDispatchActs : Prop :=
  ∀ (s : State) (x : Disp) (sl : Slot) (rest : List Slot),
    let f := sl.firing x.cell x.lane
    let b := (f.b s.dev.uct.entries).bits
    let owner := match s.dev.graph sl.act.graph with
      | none => 0
      | some g => g.owner
    let mine := mget 0 s.dev.hif.oringFn (b.toNat % 1024) = owner
    let top := (s.dev.cell x.cell).ev.stack.getLast?
    let pops := ∃ l, top = some l ∧ l.pri = f.a.bits.setWidth 8 ∧ l.graph = sl.act.graph
    (Claims.Ready s.dev x 0x1C4 sl rest → exec (.nop x) s = .next (Claims.fired s x sl rest fun _ d => d)) ∧
    (Claims.Ready s.dev x 0x18E sl rest → Claims.EntryFree s.dev x sl false →
      exec (.fence x) s = .next (Claims.fired s x sl rest fun f d =>
        (d.takeEntry f (.fence ((s.dev.cell x.cell).openRequests sl.act.graph))).1.completeFences x.cell sl.act.graph)) ∧
    (Claims.Ready s.dev x 0x1C5 sl rest → Claims.EntryFree s.dev x sl true →
      exec (.timer x) s = .next (Claims.fired s x sl rest fun f d =>
        (d.takeEntry f (.timer (s.dev.clock.run + 8 * (b.toNat % 2 ^ 32)))).1)) ∧
    (Claims.Ready s.dev x 0x1C1 sl rest → mine → Claims.EntryFree s.dev x sl true →
      exec (.out x) s = .next (Claims.fired s x sl rest fun f d =>
        (d.takeEntry f (.out (b.setWidth 10) (bits b 10 10) (wMod sl.word = 1) (s.dev.cell x.cell).pipe.uid)).1)) ∧
    (Claims.Ready s.dev x 0x1C1 sl rest → ¬mine →
      exec (.out x) s = .next (Claims.fired s x sl rest fun f d =>
        d.raise x.cell (some x.lane) sl.act.graph srcIllegalField
          { left := f.a, right := f.right s.dev.uct.entries, oframe := some sl.act.frame, oiter := sl.act.iter })) ∧
    (Claims.Ready s.dev x 0x1C3 sl rest → pops →
      exec (.rete x) s = .next (Claims.fired s x sl rest fun _ d =>
        d.modEv x.cell fun e => { e with stack := e.stack.dropLast })) ∧
    (Claims.Ready s.dev x 0x1C3 sl rest → ¬pops →
      exec (.rete x) s = .next (Claims.fired s x sl rest fun _ d => d.fault (rEverr x.cell.toNat) 0 14 [] []))

/-- RAISE (R149). -/
def Obligations.RaiseDispatchActs : Prop :=
  ∀ (s : State) (x : Disp) (sl : Slot) (rest : List Slot), Claims.Ready s.dev x 0x1C2 sl rest →
    let f := sl.firing x.cell x.lane
    let b := (f.b s.dev.uct.entries).bits
    let src := b.toNat % 64
    let target : CellId := bits b 6 10
    let sameNode := wMod sl.word = 1 ∨ bits b 16 16 = s.dev.fbn.nodeId
    let here := wMod sl.word = 0 ∨ (target = x.cell ∧ sameNode)
    let k : Carried :=
      { left := { f.a with poison := sl.act.poisoned }, right := none, oframe := some sl.act.frame, oiter := sl.act.iter }
    (src < 32 → exec (.raise x) s = .next (Claims.fired s x sl rest fun f d =>
      d.raise x.cell (some x.lane) sl.act.graph srcIllegalField
        { left := f.a, right := f.right s.dev.uct.entries, oframe := some sl.act.frame, oiter := sl.act.iter })) ∧
    (32 ≤ src → here → exec (.raise x) s = .next (Claims.fired s x sl rest fun _ d =>
      d.raise x.cell (some x.lane) sl.act.graph src k)) ∧
    (32 ≤ src → ¬here → sameNode → (s.dev.cell target).enabled sl.act.graph src = true →
      ∃ t, exec (.raise x) s = .next t ∧
        ∃ r ∈ (t.dev.cell x.cell).ev.recs, r.graph = sl.act.graph ∧ r.source = BitVec.ofNat 6 src ∧ r.left = k.left ∧
          r.post = target ∧ r.place = .shared ∧ r.oframe = some sl.act.frame ∧ r.oiter = sl.act.iter) ∧
    (32 ≤ src → ¬here → sameNode → (s.dev.cell target).enabled sl.act.graph src = false →
      exec (.raise x) s = .next (Claims.fired s x sl rest fun _ d => d)) ∧
    (32 ≤ src → ¬here → ¬sameNode → exec (.raise x) s = .next (Claims.fired s x sl rest fun f d =>
      (d.cellCreate x.cell sl.act.graph ((s.dev.cell x.cell).census sl.act.graph).colour).sendPkt x.cell
        (.fob (eventPacket s.dev f b))))

/-- REP, REP_FIRING and UDEF (R84, R89, R93, R153, R154). -/
def Obligations.RepDispatchAndFirings : Prop :=
  (∀ (s : State) (x : Disp) (sl : Slot) (rest : List Slot), Claims.Ready s.dev x 0x1C0 sl rest →
    let n := if (sl.word).getLsbD 48 then ((s.dev.cell x.cell).slot sl.act 0).toNat else sl.word.toNat % 2 ^ 13
    exec (.rep x) s = .next (Claims.fired s x sl rest fun _ d =>
      if n = 0 then d
      else d.modLane x.cell x.lane fun l =>
        { l with rep := some { act := sl.act, word := sl.word, target := sl.target, next := 0, count := n } })) ∧
  (∀ (s : State) (c : CellId) (ln : BitVec 3) (fo uc : Upset) (r : RepSeq),
    let cell := s.dev.cell c
    let lane := cell.pipe.lane ln.toNat
    let f : Firing := { cell := c, lane := ln, act := r.actAt r.next, word := r.target }
    let op := opSpec (wOpc r.target)
    s.dev.diesStop = false → cell.runs = true → lane.rep = some r → lane.spareUsed = false → r.paused cell.pipe = false →
    cell.pipe.roomFor ln r.target = true → fo ≠ .uncorrectable → cell.sharedUsed + 20 ≤ sharedRecords →
    cell.ev.recs.all (fun e => e.place ≠ .spare ln) = true →
    (op.need f s.dev = true → cell.freeEntry.isSome = true ∧ s.dev.belowCap c r.act.graph op.wait = true) →
    let left := s.dev.modLane c ln fun l =>
      { l with rep := if r.next + 1 < r.count then some { r with next := r.next + 1 } else none }
    let read := if wDfmt r.target = 2 then left.upsetFault c fo 2 else left
    (isUdef (wOpc r.target) = false →
      exec (.repFiring c ln ⟨fo, uc⟩) s = .next { s with dev := (op.fire f read).sweepFreeing c }) ∧
    (isUdef (wOpc r.target) = true → uc ≠ .uncorrectable →
      exec (.repFiring c ln ⟨fo, uc⟩) s = .next { s with
        dev := (fireUdef f (if uc = .corrected then read.faultOnly 15 [] [] else read)).sweepFreeing c })) ∧
  (∀ (s : State) (x : Disp) (sl : Slot) (rest : List Slot) (opc : Nat) (uc : Upset), 0x3F0 ≤ opc →
    Claims.Ready s.dev x opc sl rest →
    exec (.udef x uc) s = .next (Claims.fired s x sl rest fun f d =>
      match uc with
      | .none => fireUdef f d
      | .corrected => fireUdef f (d.faultOnly 15 [] [])
      | .uncorrectable =>
        (d.faultOnly 16 [] [.udef (opc - 0x3F0)]).raise x.cell (some x.lane) sl.act.graph srcIllegalOp
          { left := f.a, right := f.right s.dev.uct.entries, oframe := some sl.act.frame, oiter := sl.act.iter }))


/-! ### Cells: arrival, match stage, answers, spill/fill -/

namespace Sys2Proof.Claims

/-- The state with its device changed. -/
def after (s : State) (f : Dev → Dev) : State := { s with dev := f s.dev }

/-- The compute dies run, and the cell is neither isolated nor in reset. -/
def Running (d : Dev) (c : CellId) : Prop := d.diesStop = false ∧ (d.cell c).runs = true

/-- The checks of R35: the fields are legal, the graph is loaded with the cell in its mask and INSTR in its range; and the graph
is not being taken off the device. -/
structure Passes (d : Dev) (c : CellId) (t : Token) (g : Graph) : Prop where
  good : t.wellFormed = true
  graph : d.graph t.graph = some g
  mask : g.has c = true
  alive : g.unloading = none ∧ g.held = false
  range : (g.at c).ibase ≤ t.instr.toNat ∧ t.instr.toNat < (g.at c).ibase + (g.at c).icount

/-- The tokens of a cell's bypass or ingress. -/
def waitingAt (d : Dev) (c : CellId) (byp : Bool) : List Res :=
  if byp then (d.cell c).pipe.bypass else (d.cell c).pipe.ingress

/-- The device when the token at place i of the bypass or ingress has been taken off it, and the cell is awake (R190). -/
def takenOff (d : Dev) (c : CellId) (byp : Bool) (i : Nat) : Dev :=
  (d.modPipe c fun p =>
    if byp then { p with bypass := p.bypass.eraseIdx i } else { p with ingress := p.ingress.eraseIdx i }).wakeCell c

/-- The token at a place of the bypass or ingress can be handled: in the ingress no earlier token is for its queue (R161). -/
def Heads (d : Dev) (c : CellId) (byp : Bool) (i : Nat) (r : Res) : Prop :=
  (waitingAt d c byp)[i]? = some r ∧
    (byp = false → ∀ e ∈ ((d.cell c).pipe.ingress).take i, d.queueOf c e.tok ≠ d.queueOf c r.tok)

end Sys2Proof.Claims

/-- TOKEN_ARRIVAL of a token that no stream orders (R35, R163, R167). -/
def Obligations.ArrivalFillsQueue : Prop :=
  ∀ (s : State) (c : CellId) (byp : Bool) (i : Nat) (r : Res),
    let t := r.tok
    let q := s.dev.queueOf c t
    let cmd : Instr := .tokenArrival c (if byp then .bypass else .ingress) i
    Claims.Running s.dev c → Claims.Heads s.dev c byp i r →
    (∀ g, Claims.Passes s.dev c t g → t.kind ≠ 3 → t.stream = 0 → s.dev.qFull c q = false →
      exec cmd s = .next (Claims.after s fun d => (Claims.takenOff d c byp i).modPipe c fun p =>
        { p with qs := mset [] p.qs q (p.queue q ++
          [{ tok := t, since := d.coreNow c, reeled := false, resv := false, installed := false, asks := r.count ≠ 0 }]) })) ∧
    (∀ g, Claims.Passes s.dev c t g → t.kind ≠ 3 → t.stream = 0 → s.dev.qFull c q = true → exec cmd s = .next s) ∧
    (t.wellFormed = true → s.dev.graph t.graph = none →
      exec cmd s = .next (Claims.after s fun d => (Claims.takenOff d c byp i).faultOnly 11 [] []))

/-- Ordered streams: TOKEN_ARRIVAL and ORDER_GAP_TIMEOUT (R172 to R176). -/
def Obligations.OrderedArrivalAndGap : Prop :=
  (∀ (s : State) (c : CellId) (byp : Bool) (i : Nat) (r : Res) (g : Graph),
    let t := r.tok
    let k := t.graph.toNat * 16 + t.stream.toNat
    let x := s.dev.cell c
    let e := mget 0 x.pipe.expSeq k
    let cmd : Instr := .tokenArrival c (if byp then .bypass else .ingress) i
    Claims.Running s.dev c → Claims.Heads s.dev c byp i r → Claims.Passes s.dev c t g → t.kind ≠ 3 → t.stream ≠ 0 →
    (t.seq = e → s.dev.qFull c (s.dev.queueOf c t) = false →
      exec cmd s = .next (Claims.after s fun d =>
        (((Claims.takenOff d c byp i).enqueue c r.qtok).modPipe c fun p =>
          { p with expSeq := mset 0 p.expSeq k (e + 1), skips := p.skips.erase (k * 512 + e.toNat) }).release c)) ∧
    (t.seq ≠ e → k * 512 + t.seq.toNat ∉ x.pipe.skips →
      (∀ h ∈ x.pipe.held, ¬(h.tok.graph.toNat * 16 + h.tok.stream.toNat = k ∧ h.tok.seq = t.seq)) →
      x.pipe.held.length < s.dev.ordMax c → s.dev.qPoolUsed c < s.dev.qPool c →
      exec cmd s = .next (Claims.after s fun d => (Claims.takenOff d c byp i).modPipe c fun p =>
        { p with held := p.held ++ [{ tok := t, asks := r.count ≠ 0, since := d.clock.run }] }))) ∧
  (∀ (s : State) (c : CellId) (g : GraphId) (st : BitVec 4) (n : Nat),
    let x := s.dev.cell c
    let k := g.toNat * 16 + st.toNat
    let mine := x.pipe.held.filter fun h => h.tok.graph.toNat * 16 + h.tok.stream.toNat = k
    let e := mget 0 x.pipe.expSeq k
    Claims.Running s.dev c → (∃ h ∈ mine, h.since + 1000 * s.dev.fld (rOrdcfg c.toNat) 16 16 ≤ s.dev.clock.run) →
    (∀ h ∈ mine, h.tok.seq ≠ e) → (∃ h ∈ mine, (h.tok.seq - e).toNat = n) → (∀ h ∈ mine, n ≤ (h.tok.seq - e).toNat) →
    x.sharedUsed < sharedRecords →
    exec (.orderGapTimeout c g st) s = .next (Claims.after s fun d =>
      (((d.modPipe c fun p =>
        { p with
          expSeq := mset 0 p.expSeq k (e + BitVec.ofNat 9 n)
          skips := p.skips ++ ((List.range n).map fun j => k * 512 + (e + BitVec.ofNat 9 j).toNat).filter fun m =>
            !p.skips.contains m }).release c).celFault c 9).raise c none g srcOrderGap
        { left := { bits := (st.setWidth 64 <<< 25) ||| (e.setWidth 64 <<< 16) ||| BitVec.ofNat 64 n, vtype := 8, poison := false }
          right := none, oframe := none, oiter := 0 }))

namespace Sys2Proof.Claims

/-- The arbiter of a cell can work: the cell runs and is awake, an ordinary activation finds room in the ready list (R182, R184),
no instruction waits to fire its partners, and no bank's input holds a token (R170). -/
structure Selecting (d : Dev) (c : CellId) : Prop where
  running : Running d c
  awake : (d.cell c).asleep = false
  room : (d.cell c).pipe.rdy.length < 248
  fires : (d.cell c).store.fires = []
  open0 : (d.cell c).store.in0 = []
  open1 : (d.cell c).store.in1 = []

/-- The chosen token meets steps 1 to 4 of R177: its port is used, its frame is not spilled, and ITER is inside the window. -/
structure Passing (d : Dev) (c : CellId) (q : QTok) : Prop where
  port : (portUse d.uct.entries ((d.cell c).matchWord q.tok.instr)).uses q.tok.port = true
  here : frameKey q.tok.graph q.tok.frame ∉ (d.cell c).store.spilled
  window : (d.cell c).beyondWindow q.tok = false
  kept : q.resv = false

/-- A token has left its bank's input, which holds no other and is under no set pressure; held tokens that can follow do (R173). -/
def matched (c : CellId) (q : QTok) (d : Dev) : Dev :=
  (d.modStore c fun m => if q.bank then { m with in1 := [], setp1 := false } else { m with in0 := [], setp0 := false }).release c

end Sys2Proof.Claims

/-- TOKEN_SELECT (R40, R42, R166, R177). -/
def Obligations.SelectedTokenMatches : Prop :=
  ∀ (s : State) (c : CellId) (d : Dev) (q : QTok), Claims.Selecting s.dev c → s.dev.select c = some (d, q) →
    let t := q.tok
    let w := (d.cell c).matchWord t.instr
    let n := (portUse d.uct.entries w).number
    let plain := n ≠ 1 ∧ stickyPort d.uct.entries w ≠ some t.port
    (Claims.Passing d c q → n = 1 →
      exec (.tokenSelect c .none ⟨.none, .none⟩) s = .next { s with dev := Claims.matched c q (d.form c
        { graph := t.graph, frame := t.frame, iter := t.iter, instr := t.instr, left := some { tok := t, sticky := false }
          right := none, pred := none, handler := false, freeing := false }) }) ∧
    (∀ a es, Claims.Passing d c q → plain → (d.cell c).store.complete d.uct.entries w t true = some (a, es) →
      exec (.tokenSelect c .none ⟨.none, .none⟩) s =
        .next { s with dev := Claims.matched c q ((d.modStore c fun m => m.join es (d.stampNow c)).form c a) }) ∧
    (∀ m, Claims.Passing d c q → plain → (d.cell c).store.complete d.uct.entries w t true = none →
      let met := d.modStore c fun m => m.touchAll (m.met d.uct.entries w t) (d.stampNow c)
      met.admits c t.graph = true →
      (met.cell c).store.place (placing t (stickyPort d.uct.entries w).isSome false) (met.stampNow c) = some m →
      exec (.tokenSelect c .none ⟨.none, .none⟩) s = .next { s with
        dev := Claims.matched c q
          (((met.modStore c fun _ => m).markInUse c t.graph t.frame).touchFrame c t.graph t.frame) }) ∧
    (q.resv = false → q.installed = false →
      ∀ im ms, exec (.tokenSelect c .uncorrectable ⟨im, ms⟩) s = .next { s with
        dev := ((d.celFault c 7).cellConsume c t.graph t.colour).release c })


namespace Sys2Proof.Claims

/-- The shared records are free that an entry's end can need: one for each of the 17 destinations of its result and of every FENCE
of its graph (R67, R273). -/
def RecordsFor (d : Dev) (c : CellId) (g : GraphId) : Prop :=
  let x := d.cell c
  let fences := x.pipe.ct.filter fun p => match p.2.kind with | .fence _ => p.2.act.graph = g | _ => false
  x.sharedUsed + 17 * (fences.length + 1) ≤ sharedRecords

/-- The answer at place i of a running cell's inbox is for an entry in the use that asked for it (R187, R188). -/
structure Answered (d : Dev) (c : CellId) (i : Nat) (r : MemRsp) (n : CtEntry) : Prop where
  running : Running d c
  inbox : (d.cell c).pipe.inbox[i]? = some (.rsp r)
  entry : mfind (d.cell c).pipe.ct r.entry.toNat = some n
  use : n.uid = r.uid
  records : RecordsFor d c n.act.graph

/-- The device without the packet at place i of a cell's inbox. -/
def received (d : Dev) (c : CellId) (i : Nat) : Dev := d.modPipe c fun p => { p with inbox := p.inbox.eraseIdx i }

/-- An entry ends: it is released and consumed, and a FENCE that waited for it alone completes (R143, R186). -/
def ended (d : Dev) (c : CellId) (e : BitVec 10) (g : GraphId) : Dev := (d.releaseEntry c e.toNat).completeFences c g

/-- A result of an entry leaves: its fan-out words are read now; a corrected one is recorded, and an uncorrectable one leaves
ILLEGAL_OP in place of the result (R88, R89). -/
def replied (d : Dev) (c : CellId) (n : CtEntry) (fo : Upset) (make : Dev → Dev) : Dev :=
  if wDfmt n.word ≠ 2 then make d
  else
    match fo with
    | .none => make d
    | .corrected => make (d.celFault c 2)
    | .uncorrectable => n.raise c srcIllegalOp (d.celFault c 3)

/-- What an entry's request ends with in place of a value: its event where the graph enables it, else a reply with the value. -/
def eventOr (d : Dev) (c : CellId) (n : CtEntry) (fo : Upset) (src : Nat) (v : Word) : Dev :=
  if (d.cell c).enabled n.act.graph src then n.raise c src d else replied d c n fo ((n.maker c false).one n.word ⟨v, 8⟩)

end Sys2Proof.Claims

/-- REPLY_RECEIVE, REQUEST_ACK and LDS_REISSUE (R139 to R147, R187, R188, R246). -/
def Obligations.AnswersCompleteEntries : Prop :=
  (∀ (s : State) (c : CellId) (i : Nat) (fo : Upset) (r : MemRsp) (n : CtEntry) (q : MemReq),
    Claims.Answered s.dev c i r n → (n.kind = .mem q ∨ n.kind = .lockReq q) →
    let a := opndVal n.act.left
    let fin := fun (d : Dev) => Claims.ended d c r.entry n.act.graph
    let word := fun (v : Word) => if (q.op = .st ∨ q.op = .sts) ∧ a.poison = false then a.bits else v
    (∀ v p, r.ans = .value v p → q.op ≠ .lock → exec (.replyReceive c ⟨i, fo⟩) s = .next (Claims.after s fun d =>
      fin (Claims.replied (Claims.received d c i) c n fo ((n.maker c p).one n.word ⟨word v, 8⟩)))) ∧
    (∀ v p, r.ans = .value v p → q.op = .lock → exec (.replyReceive c ⟨i, fo⟩) s = .next (Claims.after s fun d =>
      let d := Claims.received d c i
      fin (d.sendToken c none ({ n.maker c p with kind := 3 }.token d d.fbn.nodeId c (bits q.data 0 14) 0 n.act.iter
        n.act.frame ⟨v, 8⟩)))) ∧
    (r.ans = .memError → exec (.replyReceive c ⟨i, fo⟩) s = .next (Claims.after s fun d =>
      fin (Claims.eventOr (Claims.received d c i) c n fo srcMemError 0))) ∧
    (r.ans = .writeTwice → exec (.replyReceive c ⟨i, fo⟩) s = .next (Claims.after s fun d =>
      fin (Claims.eventOr (Claims.received d c i) c n fo srcStructWriteTwice (q.replyValue n 0)))) ∧
    (∀ v, r.ans = .notOwner v → exec (.replyReceive c ⟨i, fo⟩) s = .next (Claims.after s fun d =>
      fin (Claims.eventOr (Claims.received d c i) c n fo srcLockNotOwner v)))) ∧
  (∀ (s : State) (c : CellId) (i : Nat) (fo : Upset) (r : MemRsp), Claims.Running s.dev c →
    (s.dev.cell c).pipe.inbox[i]? = some (.rsp r) → (∀ n, mfind (s.dev.cell c).pipe.ct r.entry.toNat = some n → n.uid ≠ r.uid) →
    exec (if r.ans = .ack ∨ r.ans = .notRecorded then .requestAck c i else .replyReceive c ⟨i, fo⟩) s =
      .next (Claims.after s fun d => Claims.received d c i)) ∧
  (∀ (s : State) (c : CellId) (i : Nat) (r : MemRsp) (n : CtEntry), Claims.Answered s.dev c i r n →
    (r.ans = .ack ∨ r.ans = .notRecorded) →
    let m := if r.ans = .ack then { n with acked := true } else { n with again := true }
    exec (.requestAck c i) s = .next (Claims.after s fun d => ((Claims.received d c i).modPipe c fun p =>
      { p with ct := minsert p.ct r.entry.toNat m }).completeFences c n.act.graph)) ∧
  (∀ (s : State) (c : CellId) (e : BitVec 10) (n : CtEntry) (q : MemReq), Claims.Running s.dev c →
    mfind (s.dev.cell c).pipe.ct e.toNat = some n → n.again = true → n.kind = .mem q →
    exec (.ldsReissue c e) s = .next (Claims.after s fun d => (d.modPipe c fun p =>
      { p with ct := minsert p.ct e.toNat { n with again := false } }).sendPkt c (.req { q with src := .cell c e n.uid })))

/-- INITIATOR_TIMEOUT of a cell's entry, NEWF_RECORD_FREED, FRAME_EXHAUSTED and CELL_TIMER (R130, R152, R188, R203, R204). -/
def Obligations.EntriesEndInTime : Prop :=
  ∀ (s : State) (c : CellId) (e : BitVec 10) (fo : Upset) (n : CtEntry), Claims.Running s.dev c →
    mfind (s.dev.cell c).pipe.ct e.toNat = some n → Claims.RecordsFor s.dev c n.act.graph →
    let x := s.dev.cell c
    let g := n.act.graph
    (∀ q, s.dev.hubRuns = true → n.kind = .mem q → n.acked = false →
      n.issued + 100000 * s.dev.fld rTmocfg 16 16 ≤ s.dev.clock.run →
      exec (.initiatorTimeout (.cellEntry c e fo)) s = .next (Claims.after s fun d =>
        (Claims.ended (Claims.eventOr d c n fo srcMemError 0) c e g).fault rMshErr 0 64 [] [])) ∧
    (∀ q, s.dev.hubRuns = true → n.kind = .lockReq q → q.op ≠ .lock → n.acked = false →
      n.issued + 100000 * s.dev.fld rTmocfg 16 16 ≤ s.dev.clock.run →
      exec (.initiatorTimeout (.cellEntry c e fo)) s = .next (Claims.after s fun d =>
        (Claims.ended (Claims.replied d c n fo ((n.maker c false).one n.word ⟨lockWord q.addr stTimeout, 8⟩)) c e g).fault rMshErr 0 64 [] [])) ∧
    (∀ raised f, n.kind = .newf raised → s.dev.newfNumber c g = some f → x.store.recordsWanted < x.store.freeRecords →
      exec (.newfRecordFreed c ⟨e, fo⟩) s = .next (Claims.after s fun d =>
        (Claims.replied d c n fo (newfDone { n.maker c false with kind := 0 } n.word f)).releaseEntry c e.toNat)) ∧
    (n.kind = .newf false → x.enabled g srcFrameExhausted = true →
      n.issued + 1000 * s.dev.fld rFrwait 0 16 ≤ s.dev.clock.run →
      let waiting := (x.pipe.ct.filter fun p =>
        p.2.act.graph = g ∧ (p.2.kind = .newf true ∨ p.2.kind = .newf false)).length
      let atCap := if (s.dev.quota g).frcap ≤ x.store.numbersInUse g then 1 else 0
      exec (.frameExhausted c e) s = .next (Claims.after s fun d =>
        (d.raise c none g srcFrameExhausted
          { left := { bits := BitVec.ofNat 64 (4096 * atCap + min waiting 4095), vtype := 8, poison := false }, right := none
            oframe := none, oiter := 0 }).modPipe c fun p =>
          { p with ct := minsert p.ct e.toNat { n with kind := .newf true } })) ∧
    (∀ due, n.kind = .timer due → due ≤ s.dev.clock.run →
      exec (.cellTimer c e) s = .next (Claims.after s fun d =>
        (d.raise c none g srcCellTimer
          { left := opndVal n.act.left, right := none, oframe := some n.act.frame, oiter := n.act.iter }).releaseEntry c
          e.toNat))

/-- PREFETCH_FILL, CELL_SLEEP and MS_SCRUB (R89, R183 to R185, R190). -/
def Obligations.PrefetchSleepAndScrub : Prop :=
  ((∀ (s : State) (c : CellId) (ln : BitVec 3) (im : Upset) (a : Act) (l : List Act), Claims.Running s.dev c →
    let x := s.dev.cell c
    let word := fun (i : Nat) => mget 0 x.store.im i
    let slot : Slot :=
      { act := a, word := word a.instr.toNat, target := word (a.instr.toNat + 1), bad := im, since := s.dev.coreNow c, waits := none }
    let put := fun (d : Dev) => (d.modLane c ln fun y => { y with slots := y.slots ++ [slot] }).upsetFault c im 0
    (x.pipe.lane ln.toNat).slots.length < 2 →
    (x.pipe.rdyH = a :: l → exec (.prefetchFill c ln im) s =
      .next (Claims.after s fun d => put (d.modPipe c fun p => { p with rdyH := l }))) ∧
    (x.pipe.rdyH = [] → x.pipe.rdy = a :: l → exec (.prefetchFill c ln im) s =
      .next (Claims.after s fun d => put (d.modPipe c fun p => { p with rdy := l })))) ∧
  (∀ (s : State) (c : CellId), Claims.Running s.dev c →
    let x := s.dev.cell c
    x.pipe.qs = [] → x.store.in0 = [] → x.store.in1 = [] → x.pipe.bypass = [] → x.pipe.egress = [] → x.pipe.held = [] → x.pipe.rdyH = [] → x.pipe.rdy = [] → x.pipe.ct = [] →
    (∀ l ∈ x.pipe.lanes, l.2.slots = [] ∧ l.2.rep = none) → (∀ e ∈ x.store.ms, e.const = true) → x.ev.recs = [] →
    x.idleSince + 4096 ≤ s.dev.coreNow c →
    exec (.cellSleep c) s = .next (Claims.after s fun d => d.setCell c { x with asleep := true }))) ∧
  (∀ (s : State) (c : CellId) (bank : Bool) (way : BitVec 3) (u : Upset), Claims.Running s.dev c → (s.dev.cell c).asleep = false →
    let x := s.dev.cell c
    let b := if bank then 1 else 0
    let at_ := mget 0 x.store.scrub b
    let moved := s.dev.modStore c fun m => { m with scrub := mset 0 m.scrub b ((at_ + 1) % 2048) }
    let read := x.store.ms.filter fun e => e.bank = bank ∧ e.set.toNat = at_ % 2048 ∧ e.way = some way
    ((u = .none ∨ read = []) → exec (.msScrub c bank way u) s = .next { s with dev := moved }) ∧
    (∀ e l, read = e :: l →
      exec (.msScrub c bank way .corrected) s = .next { s with dev := moved.celFault c 4 } ∧
      exec (.msScrub c bank way .uncorrectable) s = .next { s with
        dev :=
          let d := (moved.celFault c 5).modStore c fun m => { m with ms := m.ms.erase e }
          if e.const then d.abortDue e.tok.graph
          else if e.sticky then d
          else d.cellConsume c e.tok.graph e.tok.colour }))


/-- SPILL_TRIGGER, SPILL_MOVE, REEL_BACK_START, REEL_TOKEN and PARK_REEL (R55, R198 to R203, R208, R209). -/
def Obligations.SpillEngineMovesFrames : Prop :=
  ∀ (s : State) (c : CellId), Claims.Running s.dev c →
    let x := s.dev.cell c
    let st := x.store
    let free := s.dev.poolFree c
    let on := free < s.dev.fld rMswm 0 16 ∨ (st.spilling = true ∧ free < s.dev.fld rMswm 16 16)
    let set_ := fun (b : Bool) (d : Dev) => d.modStore c fun m => { m with spilling := b }
    let mine := fun (k : Nat) => st.ms.filter fun e => e.const = false ∧ frameKey e.tok.graph e.tok.frame = k
    (¬on → (∀ k, st.demand.head? = some k → s.dev.fits c k = true) →
      exec (.spillTrigger c) s = .next (Claims.after s (set_ false))) ∧
    (on → st.sweep ≠ [] → exec (.spillTrigger c) s = .next (Claims.after s (set_ true))) ∧
    (∀ k, on → st.sweep = [] → s.dev.victim c = some k →
      exec (.spillTrigger c) s = .next (Claims.after s fun d => ((set_ true d).spillFrame c k).modStore c fun m =>
        { m with scan := (m.scan + s.dev.fld rYocfg 0 8) % 2048 })) ∧
    (∀ k rest, st.sweep = k :: rest → mine k = [] →
      exec (.spillMove c) s = .next (Claims.after s fun d => d.modStore c fun m => { m with sweep := rest })) ∧
    (∀ k rest e, st.sweep = k :: rest → minBy MsEntry.sweepOrder (mine k) = some e → st.recordsUsed < s.dev.ringSize →
      let body : SpillBody := .spilled e.tok e.sticky
      let n := freshNum st.numsUsed 0 st.numsUsed.length
      exec (.spillMove c) s = .next (Claims.after s fun d =>
        (d.modStore c fun m =>
          { m with
            ring := m.ring ++ [{ key := k, body := body, nums := [n] }], ringFull := false
            ringWords := addAll m.ringWords (chainHead k body :: recordWords n) }).modStore c fun m =>
          { m with ms := m.ms.erase e, sweep := if mine k = [e] then rest else k :: rest })) ∧
    (∀ k rest, st.sweep = k :: rest → mine k ≠ [] → s.dev.ringSize ≤ st.recordsUsed →
      exec (.spillMove c) s = .next (Claims.after s fun d =>
        if st.ringFull then d
        else (d.modStore c fun m => { m with ringFull := true }).fault rSchErr 0 32 [] [.spillRing c])) ∧
    (∀ k rest, st.demand = k :: rest → st.reel = none → k ∉ st.sweep → s.dev.fits c k = true →
      let n := (st.chain k).length
      let g := (keyGraph k).toNat
      let start := fun (d : Dev) =>
        let d := d.modStore c fun m => { m with demand := rest }
        if n = 0 then d.unspill c k
        else d.modStore c fun m =>
          { m with reel := some k, reelLeft := n, reserved := mset 0 m.reserved g (mget 0 m.reserved g + n) }
      (st.evicted k = none → exec (.reelBackStart c) s = .next (Claims.after s start)) ∧
      (∀ r, st.evicted k = some r → st.frames.length < 4096 → exec (.reelBackStart c) s = .next (Claims.after s fun d =>
        start (d.modStore c fun m =>
          { m with
            frames := minsert m.frames k { r with st := .spilled, stamp := s.dev.stampNow c }
            ring := m.ring.filter fun y => !(y.key = k && match y.body with | .saved _ => true | _ => false) })))) ∧
    (∀ k r rest t sticky g, st.reel = some k → st.chain k = r :: rest → r.body = .spilled t sticky →
      Claims.Passes s.dev c t g → t.kind ≠ 3 → s.dev.qFull c (s.dev.queueOf c t) = false →
      exec (.reelToken c) s = .next (Claims.after s fun d =>
        let q : QTok := { tok := t, since := 0, reeled := true, resv := st.reelLeft ≠ 0, installed := sticky, asks := false }
        let d := ((d.wakeCell c).enqueue c q).modStore c fun m => { m with ring := m.ring.erase r, reelLeft := m.reelLeft - 1 }
        if rest = [] then d.unspill c k else d)) ∧
    (∀ first l r t g, (st.ring.filter fun y => x.admissible y) = first :: l →
      minBy SpillRec.iter ((first :: l).filter fun y => y.key = first.key) = some r → r.body = .parked t →
      Claims.Passes s.dev c t g → t.kind ≠ 3 → s.dev.qFull c (s.dev.queueOf c t) = false →
      exec (.parkReel c) s = .next (Claims.after s fun d =>
        ((d.wakeCell c).enqueue c { tok := t, since := 0, reeled := false, resv := false, installed := false, asks := true }).modStore
          c fun m => { m with ring := m.ring.erase r }))

/-- TOKEN_REFUSE in a cell, REFUSE_STORE and RETRY_SEND (R211 to R214). -/
def Obligations.RefusedTokensReturnAndRetry : Prop :=
  (∀ (s : State) (c : CellId) (byp : Bool) (i : Nat) (r : Res), s.dev.diesStop = false →
    (Claims.waitingAt s.dev c byp)[i]? = some r → (s.dev.cell c).isolated = false → r.tok.kind ≠ 3 →
    let sender := if byp then .cell c else r.src
    r.since + 1000 * s.dev.fld rBplimit 0 14 ≤ s.dev.clock.aon →
    (∀ n, sender ≠ .node n → (s.dev.yoyo sender.die).rts.length < s.dev.rtsPlaces ∨
      (s.dev.yoyo sender.die).refused = []) →
    let out : OutPkt :=
      { pkt := .refuse r.tok sender r.count, epoch := s.dev.fab.cur, lane := none, since := s.dev.clock.aon }
    exec (.tokenRefuse (if byp then .bypass c else .ingress c) i) s = .next (Claims.after s fun d => (d.modPipe c fun p =>
      if byp then { p with bypass := p.bypass.eraseIdx i } else { p with ingress := p.ingress.eraseIdx i }).modPipe c fun p =>
      { p with egress := p.egress ++ [out] })) ∧
  (∀ (s : State) (k : DieId) (i : Nat) (r : RtsRec), s.dev.diesStop = false →
    let y := s.dev.yoyo k
    y.refused[i]? = some r →
    (s.dev.rtsPlaces ≤ y.rts.length →
      exec (.refuseStore k i) s = .next (Claims.after s fun d => d.fault rSchErr 1 33 [] [.rtsRing k])) ∧
    (y.rts.length < s.dev.rtsPlaces →
      let u := lfsrStep (y.lfsr.getD (lfsrSeed k))
      let n := min 255 (r.count + 1)
      let span := min (s.dev.fld rRetry 0 16 * 2 ^ (n - 1)) (s.dev.fld rRetry 16 16) * (98304 + u.toNat) / 131072
      let last := (y.head + (y.rts.length + 1) + (s.dev.rtsPlaces + 1) - 1) % (s.dev.rtsPlaces + 1)
      exec (.refuseStore k i) s = .next (Claims.after s fun d => d.setYoyo k
        { y with
          lfsr := some u
          refused := y.refused.eraseIdx i
          rts := y.rts ++ [{ r with due := BitVec.ofNat 16 (s.dev.clock.aon / 1000 + span), count := n }]
          words := addAll y.words ([0, 1] ++ (List.range 4).map fun j => 512 + 4 * last + j) }))) ∧
  (∀ (s : State) (k : DieId) (r : RtsRec) (rest : List RtsRec), s.dev.diesStop = false →
    let y := s.dev.yoyo k
    y.rts = r :: rest →
    let head := (y.head + 1) % (s.dev.rtsPlaces + 1)
    let due := (BitVec.ofNat 16 (s.dev.clock.aon / 1000) - r.due).toNat < 32768
    (due → exec (.retrySend k) s = .next (Claims.after s fun d =>
      (d.setYoyo k ({ y with rts := rest, head := head }.wrote (s.dev.rtsPlaces + 1))).sendFromDie k
        (.tok r.tok (if r.hub then .hub else .cell r.src) r.count))) ∧
    (¬due → exec (.retrySend k) s = .next (Claims.after s fun d =>
      d.setYoyo k ({ y with rts := rest ++ [r], head := head }.wrote (s.dev.rtsPlaces + 1)))))


/-! ### Census, fabric, rings, events -/

namespace Sys2Proof.Claims

/-- A census of a graph with the colour that wave w gives (R217, R219). -/
def coloured (x : Census) (w : Nat) : Census := { x with colour := w % 2 = 1 }

/-- The sums a participant answers. -/
def sumsOf (x : Census) : Sums := { cr0 := x.cr0, cr1 := x.cr1, cn0 := x.cn0, cn1 := x.cn1 }

/-- The graph with one more answer in its wave. -/
def answered (x : Graph) (w : Wave) (p : Participant) (c : Census) : Graph :=
  { x with waveNow := some { w with parts := w.parts ++ [(p, sumsOf c)] } }

end Sys2Proof.Claims

/-- The waves of a census and what the root declares from them (R39, R217 to R223). -/
def Obligations.CensusWavesCollectAndDeclare : Prop :=
  (∀ (s : State) (g : GraphId) (x : Graph), s.dev.graph g = some x →
    (s.dev.hubRuns = true → x.croot = s.dev.fbn.nodeId → x.waveNow = none →
      (x.launched = true ∧ x.complete = false ∨ x.unloading ≠ none) →
      x.waveEnd + 100 * s.dev.fld rCencfg 0 16 ≤ s.dev.clock.run →
      exec (.waveStart g) s = .next (Claims.after s fun d =>
        let w : Wave := { began := d.clock.aon, tmo := 1000000 * d.fld rCencfg 16 16, asker := none, parts := [], aggs := [], childs := [], abandonedBelow := false }
        let y := { x with wave := x.wave + 1, waveNow := some w }
        (d.setGraph g y).toChildren g y 0)) ∧
    (∀ w c, s.dev.diesStop = false → x.waveNow = some w → c.toNat ∈ x.mask → (∀ a ∈ w.parts, a.1 ≠ .cell c) →
      let n := Claims.coloured ((s.dev.cell c).census g) x.wave
      exec (.waveReceive g (.cell c)) s = .next (Claims.after s fun d => (d.modCell c fun y =>
        { y with cen := mset censusZero y.cen g.toNat n, lastCen := mset censusZero y.lastCen g.toNat n }).setGraph g
          (Claims.answered x w (.cell c) n))) ∧
    (∀ w k, s.dev.diesStop = false → x.waveNow = some w → (∀ a ∈ w.parts, a.1 ≠ .lockUnit k) →
      let n := Claims.coloured (mget censusZero (s.dev.stack k).cen g.toNat) x.wave
      exec (.waveReceive g (.lockUnit k)) s = .next (Claims.after s fun d => (d.modStack k fun y =>
        { y with cen := mset censusZero y.cen g.toNat n }).setGraph g (Claims.answered x w (.lockUnit k) n))) ∧
    (∀ w l, s.dev.diesStop = false → x.waveNow = some w → s.dev.isProxy l = true → (∀ a ∈ w.parts, a.1 ≠ .proxy l) →
      let n := Claims.coloured (s.dev.proxyCensus l g) x.wave
      exec (.waveReceive g (.proxy l)) s = .next (Claims.after s fun d =>
        (d.modProxy l g fun _ => n).setGraph g (Claims.answered x w (.proxy l) n))) ∧
    (∀ w a sum, s.dev.diesStop = false → x.waveNow = some w → a ≠ .hub → (∀ b ∈ w.aggs, b.1 ≠ a) →
      s.dev.aggregate x w a = some sum →
      exec (.sumsAggregate g a) s = .next (Claims.after s fun d =>
        d.setGraph g { x with waveNow := some { w with aggs := w.aggs ++ [(a, sum)] } })) ∧
    (∀ w, s.dev.hubRuns = true → x.waveNow = some w → w.asker = none →
      w.began + w.tmo ≤ s.dev.clock.aon →
      exec (.waveAbandon g) s = .next (Claims.after s fun d =>
        let d := (d.setGraph g
          { x with waveNow := none, waveEnd := d.clock.run, last := none, drains := 0, abandons := x.abandons + 1 }).drainWave
            g false
        if 2 ≤ x.abandons then d.fault rSchErr 2 34 [] [.graph g] else d))) ∧
  (∀ (s : State) (g : GraphId) (x : Graph) (w : Wave) (below : Sums), s.dev.diesStop = false → s.dev.graph g = some x →
    x.waveNow = some w → w.asker = none → w.abandonedBelow = false → (∀ b ∈ w.aggs, b.1 ≠ .hub) →
    s.dev.aggregate x w .hub = some below →
    let sum : Sums :=
      { cr0 := below.cr0 + x.cen.cr0, cr1 := below.cr1 + x.cen.cr1, cn0 := below.cn0 + x.cen.cn0, cn1 := below.cn1 + x.cen.cn1 }
    let twice := sum.cr0 = sum.cn0 ∧ sum.cr1 = sum.cn1 ∧ x.last = some sum
    (twice → x.unloading = none → ∃ t, exec (.sumsAggregate g .hub) s = .next t ∧ t.hbm = s.hbm ∧ t.pending = s.pending ∧
      ∃ y, t.dev.graph g = some y ∧ y.complete = true ∧ y.running = false ∧ y.waveNow = none ∧ y.lastWave = x.wave) ∧
    (∀ b, twice → x.unloading = some b → x.running = false → x.notices = [] → ∃ t, exec (.sumsAggregate g .hub) s = .next t ∧ t.hbm = s.hbm ∧
      t.pending = s.pending ∧ t.dev.graph g = none) ∧
    (¬twice → ∃ t, exec (.sumsAggregate g .hub) s = .next t ∧ t.hbm = s.hbm ∧ t.pending = s.pending ∧
      ∃ y, t.dev.graph g = some y ∧ y.complete = x.complete ∧ y.running = x.running ∧ y.waveNow = none ∧ y.last = some sum ∧
        y.lastWave = x.wave ∧ y.cen = { x.cen with colour := x.wave % 2 = 1 }))


namespace Sys2Proof.Claims

/-- The flits that could leave a router by an output now, one for each input channel that has one (R293, R294). -/
def candidatesAt (d : Dev) (r : ClusterId) (o now : Nat) : List Cand :=
  (routerKeys r).filterMap fun x => d.candOf r o now x.1 x.2

/-- The device when an output has granted a candidate: the round robin stands at its input, the output has sent in this mesh cycle,
and an urgent grant counts among those of 64 mesh cycles (R288, R296). -/
def granted (d : Dev) (r : ClusterId) (o now : Nat) (c : Cand) (urgent : Bool) : Dev :=
  let k := r.toNat * 8 + o
  { d with fab := { d.fab with
      rr := mset 7 d.fab.rr k c.port, sent := mset 0 d.fab.sent k (now + 1)
      urgent := if urgent then mset [] d.fab.urgent k (now :: (mget [] d.fab.urgent k).filter fun t => now < t + 64)
        else d.fab.urgent } }

/-- The flit has left its input channel, and the next one has waited for no credit yet. -/
def popped (d : Dev) (c : Cand) : Dev :=
  let d' := d.setVc c.key ((d.vc c.key).eraseIdx c.idx)
  { d' with fab := { d'.fab with dry := merase d.fab.dry c.key } }

/-- A flit comes to an input of a router, which checks it and chooses its output there (R288, R291). -/
def entered (d : Dev) (r : ClusterId) (port : Nat) (f : Flit) (u : Upset) : Dev :=
  let put := fun (x : Dev) => x.setVc (vcKey r port f.mc f.esc) (x.vc (vcKey r port f.mc f.esc) ++ [{ f with out := x.route r f }])
  match u with
  | .none => put d
  | .corrected => put (d.fault rMshErr 1 65 [] [])
  | .uncorrectable => d.fault rMshErr 2 66 [.cluster r] []

/-- A command answers the next state with the device `d`, but for the record of how long a target has taken nothing (R309). -/
def SendsTo (c : Instr) (s : State) (d : Dev) : Prop :=
  ∃ m, exec c s = .next { s with dev := { d with fab := { d.fab with waits := m } } }

/-- What router r has seen of a channel's head: the cycle since which it is without adaptive credit (R294). -/
def drySince (d : Dev) (r : ClusterId) (now key : Nat) : Option Nat :=
  match d.headOf key with
  | none => none
  | some (_, f) =>
    if f.esc ∨ (d.adaptiveOuts r f).any (fun x => d.credit r x f false) then none
    else some ((mfind d.fab.dry key).getD now)

end Sys2Proof.Claims

/-- FLIT_HOP, CROSSBAR_FLIT_SEND and HUB_FORWARD (R289 to R300, R306). -/
def Obligations.MeshForwardsFlits : Prop :=
  (∀ (s : State) (r : ClusterId) (o : BitVec 3) (sub : Nat) (u : Upset), s.dev.diesStop = false → o.toNat < 5 →
    mget 0 s.dev.fab.sent (r.toNat * 8 + o.toNat) ≠ s.dev.clock.run * 2 + sub + 1 →
    let now := s.dev.clock.run * 2 + sub
    let seen := s.dev.lookCredits r now
    let cs := Claims.candidatesAt seen r o.toNat now
    (s.dev.fab.dry.Pairwise (fun a b => a.1 < b.1) → seen.fab.dry.Pairwise (fun a b => a.1 < b.1) ∧
      ∀ x ∈ routerKeys r, mfind seen.fab.dry x.2 = Claims.drySince s.dev r now x.2) ∧
    (∀ x ∈ routerKeys r, ∀ c, seen.candOf r o.toNat now x.1 x.2 = some c → c.esc = true → c.flit.esc = false →
      ∃ t, mfind seen.fab.dry x.2 = some t ∧ t + 8 ≤ now) ∧
    (∀ c, cs = [c] → ∃ urgent, seen.choose r o.toNat now cs = some (c, urgent)) ∧
    (cs = [] → Claims.SendsTo (.flitHop r o sub u) s seen) ∧
    (∀ c urgent, seen.choose r o.toNat now cs = some (c, urgent) →
      let d := Claims.granted seen r o.toNat now c urgent
      let gone := Claims.popped d c
      (∀ q port, beyond r o.toNat = .router q port →
        Claims.SendsTo (.flitHop r o sub u) s (Claims.entered gone q port { c.flit with esc := c.esc } u)) ∧
      (∀ e, beyond r o.toNat = .module e →
        Claims.SendsTo (.flitHop r o sub u) s (gone.setEnd e
          { gone.end_ e with out := (gone.end_ e).out ++ [{ c.flit with esc := c.esc, out := none, inj := none }] })) ∧
      (∀ n, beyond r o.toNat = .cluster n → mfind s.dev.fab.power n.toNat = none →
        let x := gone.deliverAll (n.setWidth 7) c.flit.pkts
        Claims.SendsTo (.flitHop r o sub u) s
          (if x.2 = [] then x.1 else x.1.setVc c.key ((d.vc c.key).set c.idx { c.flit with pkts := x.2 }))) ∧
      (∀ n p, beyond r o.toNat = .cluster n → mfind s.dev.fab.power n.toNat = some p →
        Claims.SendsTo (.flitHop r o sub u) s (gone.holdFlit n c.flit)))) ∧
  (∀ (s : State) (r : ClusterId) (p : BitVec 4) (sub : Nat) (u : Upset) (f : Flit) (l : List Flit), s.dev.diesStop = false →
    beyond r 0 = .port p → s.dev.crossing p.toNat = f :: l → (s.dev.vc (vcKey r 0 f.mc false)).length < 4 → f.esc = false →
    exec (.flitHop r 5 sub u) s = .next (Claims.after s fun d => Claims.entered (d.setCrossing p.toNat l) r 0 f u)) ∧
  (∀ (s : State) (n : ClusterId) (u : Upset) (x : CellId × Nat × OutPkt) (tgt : BitVec 7), s.dev.diesStop = false →
    let l := s.dev.leaving n
    let p := x.2.2.pkt
    let group := packUp 4 (x :: l.filter fun y => y ≠ x && s.dev.sameFlit x.2.2 y.2.2)
    minBy (fun y => y.2.2.since) l = some x → s.dev.way p = .target tgt → (s.dev.vc (vcKey n 4 p.mc false)).length < 4 →
    exec (.crossbarFlitSend ⟨n, u⟩) s = .next (Claims.after s fun d => Claims.entered (d.takeOut group) n 4
      (flitOf tgt x.1 (2 * s.dev.clock.run) x.2.2.epoch (group.map fun y => y.2.2.pkt) p.mc p.graph) u)) ∧
  (∀ (s : State) (inp : BitVec 4), s.dev.hubRuns = true → inp.toNat ≠ 8 →
    let seen := (s.dev.pullHub inp.toNat).lookHub inp.toNat
    (seen.hubNext inp.toNat = none → exec (.hubForward inp) s = .next { s with dev := seen }) ∧
    (∀ k f e esc, seen.hubNext inp.toNat = some (k, f) → seen.hubGo inp.toNat k f = .module e esc →
      seen.moduleCredit e f esc = true ∧
      Claims.SendsTo (.hubForward inp) s
        (({ seen.setHubIn k ((seen.hubIn k).drop 1) with
          fab := { (seen.setHubIn k ((seen.hubIn k).drop 1)).fab with dry := merase seen.fab.dry (65536 + k) } } : Dev).setEnd e
            { seen.end_ e with out := (seen.end_ e).out ++ [{ f with esc := esc, out := none, inj := none }] })))

/-- CLUSTER_RETENTION, CLUSTER_WAKE, ROUTE_BANK_RETIRE and D2D_DOWN (R299, R302, R305, R306). -/
def Obligations.FabricPowerAndBanks : Prop :=
  (∀ (s : State) (n : ClusterId), s.dev.diesStop = false →
    (s.dev.fld rPwrcfg 0 1 = 1 → mfind s.dev.fab.power n.toNat = none →
      (∀ c ∈ clusterCells n, (s.dev.cell c).asleep = true ∧ (s.dev.cell c).pipe.egress = [] ∧ (s.dev.cell c).pipe.ingress = []) →
      mget 0 s.dev.fab.idleSince n.toNat + 1000 * s.dev.fld rPwrcfg 16 16 ≤ s.dev.clock.run →
      exec (.clusterRetention n true) s = .next (Claims.after s fun d =>
        { d with fab := { d.fab with power := minsert d.fab.power n.toNat .retained } })) ∧
    (mfind s.dev.fab.power n.toNat = some .waking →
      let x := s.dev.releaseHold n (mget [] s.dev.fab.hold n.toNat)
      exec (.clusterWake n) s = .next { s with dev := { x.1 with fab := { x.1.fab with
        hold := mset [] x.1.fab.hold n.toNat x.2
        power := if x.2 = [] then merase x.1.fab.power n.toNat else x.1.fab.power
        idleSince := mset 0 x.1.fab.idleSince n.toNat x.1.clock.run } } }) ∧
    (∀ m : BitVec 4,
      let b := 1#16 <<< m.toNat
      (s.dev.fab.retiring = true → exec (.d2dDown m) s = .next (Claims.after s fun d =>
        { d with fab := { d.fab with d2dDown := d.fab.d2dDown ||| b, routeTodo := d.fab.routeTodo ||| b } }.fault rMshErr 3 67 [] [])) ∧
      (s.dev.fab.retiring = false → s.dev.fab.rt.Pairwise (fun x y => x.1 < y.1) →
        ∃ t, exec (.d2dDown m) s = .next t ∧ t.dev.fab.d2dDown = s.dev.fab.d2dDown ||| b ∧ t.dev.fab.cur = !s.dev.fab.cur ∧
          t.dev.fab.retiring = true ∧ t.dev.fab.routeTodo = 0 ∧ ∀ (die : DieId) (tgt : BitVec 7), tgt.toNat < 85 →
            t.dev.rtEntry die tgt t.dev.fab.cur =
              ((List.range 16).filter fun i => bit (s.dev.fab.routeTodo ||| b) i).foldl (fun e i => dropModule i die tgt e)
                (s.dev.rtEntry die tgt s.dev.fab.cur)))) ∧
  (∀ s : State, s.dev.hubRuns = true → s.dev.fab.retiring = true →
    (s.dev.fab.drains = [] ∧ s.dev.oldFlits (!s.dev.fab.cur) = false ∧ s.dev.fbn.retireWait = false ∧ s.dev.fab.routeTodo = 0 →
      exec .routeBankRetire s = .next (Claims.after s fun d => { d with fab := { d.fab with retiring := false } })) ∧
    (s.dev.fab.drains ≠ [] ∨ s.dev.oldFlits (!s.dev.fab.cur) = true ∨ s.dev.fbn.retireWait = true →
      exec .routeBankRetire s = .next s))


/-- OUT_ACCEPT, OUTPUT_ENTRY_WRITE, NOTICE_WRITE_HELD and MSIX_TIME (R148, R390, R391, R404 to R407). -/
def Obligations.OutputReachesHost : Prop :=
  (∀ (s : State) (c : CellId) (e : BitVec 10) (n : CtEntry) (ring ucode : BitVec 10) (now : Bool) (order : Nat),
    Claims.Running s.dev c → mfind (s.dev.cell c).pipe.ct e.toNat = some n → n.kind = .out ring ucode now order →
    let y := s.dev.oring ring
    let size := 2 ^ s.dev.fld (rOcfg ring.toNat) 0 5
    s.dev.fld (rOcfg ring.toNat) 31 1 = 1 →
    (y.oTail.toNat + size - y.oHead.toNat) % size + y.accepted.length + 1 < size →
    (∀ p ∈ (s.dev.cell c).pipe.ct, ∀ u i k, p.2.kind = .out ring u i k → order ≤ k) →
    let a := opndVal n.act.left
    let poison : BitVec 1 := if a.poison then 1 else 0
    let colour := s.dev.hubColour n.act.graph
    let out : OutEnt :=
      { w0 := a.bits, w1 := n.act.iter ++ n.act.frame ++ c ++ n.act.graph ++ a.vtype, w2hi := ucode ++ poison ++ (0 : BitVec 21)
        graph := n.act.graph, colour := colour, now := now }
    exec (.outAccept c e) s = .next (Claims.after s fun d =>
      ((d.modOring ring fun y => { y with accepted := y.accepted ++ [out] }).hubCreate n.act.graph colour).releaseEntry c
        e.toNat)) ∧
  (∀ (s : State) (o : BitVec 10) (n : OutEnt) (rest : List OutEnt), s.dev.hubRuns = true →
    let y := s.dev.oring o
    let size := 2 ^ s.dev.fld (rOcfg o.toNat) 0 5
    let fn := s.dev.oringFn o.toNat
    let next := BitVec.ofNat 16 ((y.oTail.toNat + 1) % size)
    let phase : Word := if y.phase then 1 else 0
    y.accepted = n :: rest →
    exec (.outputEntryWrite o) s = .next (Claims.after s fun d =>
      let d := d.emit (.hostWrite fn (s.dev.reg (rObase o.toNat) + BitVec.ofNat 64 (32 * y.oTail.toNat)) 32
        [n.w0, n.w1, n.w2hi ++ y.count, phase] [])
      let d := d.modOring o fun y =>
        { y with oTail := next, phase := xor y.phase (next = 0), count := y.count + 1, accepted := rest }
      (d.signal fn (BitVec.ofNat 5 (s.dev.fld (rOcfg o.toNat) 16 5)) n.now).hubConsume n.graph n.colour)) ∧
  (∀ (s : State) (g : GraphId) (x : Graph) (n : Notice) (rest : List Notice), s.dev.hubRuns = true →
    s.dev.graph g = some x → x.notices = n :: rest → s.dev.pairEn x.ring = true →
    (s.dev.cqFree x.ring ≠ 0 → exec (.noticeWriteHeld g) s = .next (Claims.after s fun d =>
      (((d.setGraph g { x with notices := rest }).putCq x.ring (g.setWidth 32) n.status n.type_ n.result false).startFresh
        g).tryRelease g)) ∧
    (s.dev.cqFree x.ring = 0 → exec (.noticeWriteHeld g) s = .next s)) ∧
  (∀ (s : State) (fn : GraphId) (v : BitVec 5), s.dev.hubRuns = true →
    let x := s.dev.vector fn v
    let time := s.dev.fld (rMsimod fn.toNat v.toNat) 0 10
    x.pend ≠ 0 → time ≠ 0 → x.oldest + 1000 * time ≤ s.dev.clock.run →
    (x.unmasked = true → exec (.msixTime fn v) s = .next (Claims.after s fun d =>
      (d.setVector fn v { x with pend := 0 }).emit (.msix fn v))) ∧
    (x.unmasked = false → exec (.msixTime fn v) s = .next (Claims.after s fun d =>
      d.setVector fn v { x with pend := 0, pba := true })))

namespace Sys2Proof.Claims

/-- A function may ring the doorbell of a ring of its own in MMIO mode: BAR2 responds, and the index lies in the enabled ring
(R386, R393). -/
structure Doorbell (d : Dev) (fn : Nat) (owner : GraphId) (en : Bool) (size : Nat) (v : BitVec 32) : Prop where
  hub : d.hubRuns = true
  ready : d.mgt.ready = true
  function : fn < 64
  mine : owner.toNat = fn
  mmio : d.fld (rFncfg fn) 0 1 = 0
  on : en = true
  index : v.toNat < size ∧ v.toNat < 65536

end Sys2Proof.Claims

/-- SQTAIL_DOORBELL, CQHEAD_DOORBELL, OHEAD_DOORBELL and DOORBELL_POLL (R386, R392, R393). -/
def Obligations.DoorbellsMoveIndexes : Prop :=
  (∀ (s : State) (req : Requester) (r : BitVec 12) (v : BitVec 32),
    Claims.Doorbell s.dev req.toNat (s.dev.pairFn r) (s.dev.pairEn r) (s.dev.pairSize r) v →
    exec (.sqtailDoorbell req r v) s =
      .next (Claims.after s fun d => d.modPair r fun p => { p with sqTail := v.setWidth 16 }) ∧
    exec (.cqheadDoorbell req r v) s =
      .next (Claims.after s fun d => d.modPair r fun p => { p with cqHead := v.setWidth 16 })) ∧
  (∀ (s : State) (req : Requester) (o : BitVec 10) (v : BitVec 32),
    Claims.Doorbell s.dev req.toNat (s.dev.oringFn o.toNat) (s.dev.oringEn o) (s.dev.oringSize o) v →
    exec (.oheadDoorbell req o v) s =
      .next (Claims.after s fun d => d.modOring o fun x => { x with oHead := v.setWidth 16 })) ∧
  (∀ (s : State) (req : Requester) (r : BitVec 12) (v : BitVec 32), s.dev.hubRuns = true → s.dev.mgt.ready = true →
    req.toNat < 64 → (s.dev.pairFn r).toNat ≠ req.toNat →
    ∃ t, exec (.sqtailDoorbell req r v) s = .next t ∧ t.hbm = s.hbm ∧
      (∃ m, t.dev = { s.dev with regs := { s.dev.regs with logs := m } }) ∧
      (t.dev.log req.toNat).last = (7 : BitVec 8) ++ (0 : BitVec 7) ++ (1 : BitVec 1) ++ (1 : BitVec 1) ++ (0 : BitVec 8) ++ req ∧
      (t.dev.log req.toNat).data = v) ∧
  (∀ (s : State) (fn : GraphId) (reads : List HostData), s.dev.hubRuns = true →
    (s.dev.fld (rFncfg fn.toNat) 0 1 = 0 → exec (.doorbellPoll fn reads) s = .next s) ∧
    (s.dev.fld (rFncfg fn.toNat) 0 1 = 1 → (∀ r, s.dev.pairEn r = true → s.dev.pairFn r ≠ fn) →
      (∀ o, s.dev.oringEn o = true → s.dev.oringFn o.toNat ≠ fn) →
      let due : Prop := (s.dev.hif.wake.contains fn = true ∨
        (∀ t, mfind s.dev.hif.polled fn.toNat = some t → t + 1000 * s.dev.fld (rFncfg fn.toNat) 16 10 ≤ s.dev.clock.run))
      (due → exec (.doorbellPoll fn reads) s = .next (Claims.after s fun d =>
        { d with hif := { d.hif with
          wake := d.hif.wake.erase fn, polled := minsert d.hif.polled fn.toNat s.dev.clock.run } })) ∧
      (¬due → exec (.doorbellPoll fn reads) s = .next s)))


namespace Sys2Proof.Claims

/-- A record that the cell itself presents now (R274, R278). -/
def presentedHere (d : Dev) (c : CellId) (r : EvRec) : Prop :=
  r ∈ (d.cell c).ev.recs ∧ d.presentable c r = true ∧ ∃ b, d.evWay c r = .here b

/-- A packet of the event class from one cell to another: over their cluster's crossbar, or as it leaves for the mesh (R289, R292). -/
def eventSent (d : Dev) (c t : CellId) (p : Pkt) : Dev :=
  if cellCluster c = cellCluster t then d.modPipe t fun q => { q with inbox := q.inbox ++ [p] }
  else d.modPipe c fun q =>
    { q with egress := q.egress ++ [{ pkt := p, epoch := d.fab.cur, lane := none, since := d.clock.aon }] }

/-- The event record of a number in a cell with a new value. -/
def changed (d : Dev) (c : CellId) (born : Nat) (f : EvRec → EvRec) : Dev :=
  d.modEv c fun e => { e with recs := e.recs.map fun r => if r.born = born then f r else r }

/-- A record that has waited AGE_CAP core cycles (R279). -/
def agedRecord (d : Dev) (c : CellId) (r : EvRec) : Prop := r.since + d.fld rAgecap 0 24 ≤ d.coreNow c

end Sys2Proof.Claims

/-- EVENT_PRESENT (R270 to R272, R278, R279). -/
def Obligations.EventPresentationRunsHandler : Prop :=
  ∀ (s : State) (c : CellId) (r : EvRec), s.dev.chooseRecord c = some r →
    (Claims.presentedHere s.dev c r ∧
      (∀ q, Claims.presentedHere s.dev c q → Claims.agedRecord s.dev c q → Claims.agedRecord s.dev c r ∧ r.born ≤ q.born) ∧
      ((∀ q, Claims.presentedHere s.dev c q → ¬Claims.agedRecord s.dev c q) →
        ∀ q, Claims.presentedHere s.dev c q → (evPri (s.dev.govern r)).toNat ≤ (evPri (s.dev.govern q)).toNat)) ∧
    (Claims.Running s.dev c → (s.dev.cell c).pipe.rdyH.length < 8 →
      let e := s.dev.govern r
      ∃ t a, exec (.eventPresent c) s = .next t ∧ t.hbm = s.hbm ∧ t.pending = s.pending ∧
        (t.dev.cell c).pipe.rdyH = (s.dev.cell c).pipe.rdyH ++ [a] ∧ a.handler = true ∧ a.graph = r.graph ∧ a.pred = none ∧
        (t.dev.cell c).ev.recs.length + 1 = (s.dev.cell c).ev.recs.length ∧
        (t.dev.cell c).ev.stack =
          (if evLvl e then (s.dev.cell c).ev.stack ++ [{ pri := evPri e, graph := r.graph }] else (s.dev.cell c).ev.stack) ∧
        (∀ g, r.grant = some g → a.frame = g.frame ∧ a.instr = g.instr ∧ a.iter = g.iter ∧
          a.left = some { tok := g, sticky := false } ∧ a.right = none) ∧
        (r.grant = none → a.instr = evHinstr e ∧ a.iter = r.oiter ∧
          a.frame = (if evFi e then r.oframe.getD (evHframe e) else evHframe e) ∧
          ∃ l m, a.left = some { tok := l, sticky := false } ∧ a.right = some { tok := m, sticky := false } ∧
            l.kind = 1 ∧ l.w2 = r.left.bits ∧ l.vtype = r.left.vtype ∧ l.poison = r.left.poison ∧ l.port = 0 ∧
            m.kind = 1 ∧ m.w2 = (r.right.map fun v => v.bits).getD 0 ∧ m.port = 1))

/-- EVENT_RECORD_SEND, RECEIVE_BUFFER_GRANT, EVENT_RECORD_ARRIVAL and PUPPETEER_POST (R266, R269, R273, R274). -/
def Obligations.EventRecordsReachTheirCell : Prop :=
  (∀ (s : State) (c : CellId) (i : Nat) (r : EvRec), Claims.Running s.dev c → (s.dev.cell c).ev.recs[i]? = some r →
    let e := (s.dev.cell c).entry r.graph r.source.toNat
    let t := evTgt e
    r.grant = none → r.post = c → evTgtv e = true → t ≠ c → (s.dev.cell t).runs = true →
    (r.granted = some t → exec (.eventRecordSend c i) s =
      .next (Claims.after s fun d => Claims.eventSent (d.dropRecord c r.born) c t (.ev t r))) ∧
    (r.granted ≠ some t → r.asked = some t → exec (.eventRecordSend c i) s = .next s) ∧
    (r.granted = none → r.asked ≠ some t → exec (.eventRecordSend c i) s = .next (Claims.after s fun d =>
      Claims.eventSent (Claims.changed (Claims.changed d c r.born fun q => { q with asked := none, granted := none }) c r.born
        fun q => { q with asked := some t }) c t (.evAsk t c r.graph r.born)))) ∧
  (∀ (s : State) (c src : CellId) (g : GraphId) (born : Nat) (rest : List (CellId × GraphId × Nat)), Claims.Running s.dev c →
    let x := (s.dev.cell c).ev
    x.rbReq = (src, g, born) :: rest → (x.recs.filter fun r => r.place = .receive).length + x.rbGrant < 8 →
    exec (.receiveBufferGrant c) s = .next (Claims.after s fun d =>
      Claims.eventSent (d.modEv c fun y => { y with rbReq := rest, rbGrant := y.rbGrant + 1 }) c src (.evGrant src c g born))) ∧
  (∀ (s : State) (c tgt : CellId) (i : Nat), Claims.Running s.dev c →
    let place := (s.dev.cell c).pipe.inbox[i]?
    let recs := (s.dev.cell c).ev.recs
    (∀ src g born, place = some (.evAsk tgt src g born) → exec (.eventRecordArrival c i) s = .next (Claims.after s fun d =>
      ((Claims.received d c i).modEv c fun e => { e with rbReq := e.rbReq ++ [(src, g, born)] }).wakeCell c)) ∧
    (∀ t g born, place = some (.evGrant tgt t g born) →
      ((∃ r ∈ recs, r.born = born ∧ r.asked = some t) → exec (.eventRecordArrival c i) s = .next (Claims.after s fun d =>
        Claims.changed (Claims.received d c i) c born fun q => { q with granted := some t })) ∧
      ((∀ r ∈ recs, r.born = born → r.asked ≠ some t) → exec (.eventRecordArrival c i) s = .next (Claims.after s fun d =>
        Claims.eventSent (Claims.received d c i) c t (.evGive t g)))) ∧
    (∀ g, place = some (.evGive tgt g) → exec (.eventRecordArrival c i) s = .next (Claims.after s fun d =>
      (Claims.received d c i).modEv c fun e => { e with rbGrant := e.rbGrant - 1 }))) ∧
  (∀ (s : State) (c tgt : CellId) (i : Nat) (r : EvRec), Claims.Running s.dev c →
    let x := (s.dev.cell c).ev
    (s.dev.cell c).pipe.inbox[i]? = some (.ev tgt r) → s.dev.graphUnloading r.graph = false → (r.returns = false ∨ r.post = c) →
    (r.granted = some c ∨ (x.recs.filter fun r => r.place = .receive).length + x.rbGrant < 8) →
    exec (.eventRecordArrival c i) s = .next (Claims.after s fun d => ((Claims.received d c i).modEv c fun e =>
      { e with
        recs := e.recs ++ [{ r with place := .receive, since := s.dev.coreNow c, born := e.born, asked := none, granted := none
                                    returns := false }]
        born := e.born + 1
        rbGrant := if r.granted = some c then e.rbGrant - 1 else e.rbGrant }).wakeCell c)) ∧
  (∀ (s : State) (c : CellId) (g : GraphId) (v : Word) (vt : BitVec 4) (poison : Bool), s.dev.diesStop = false →
    let on := s.dev.inMask c g = true ∧ (s.dev.cell c).enabled g srcPuppeteerPost = true
    (¬on → exec (.puppeteerPost c g v vt poison) s = .next s) ∧
    (on → exec (.puppeteerPost c g v vt poison) s = .next (Claims.after s fun d =>
      let r : EvRec :=
        { graph := g, source := BitVec.ofNat 6 srcPuppeteerPost, left := { bits := v, vtype := vt, poison := poison }
          right := none, oframe := none, oiter := 0, post := c, grant := none, place := .receive, since := s.dev.coreNow c
          born := 0, asked := none, granted := none, returns := false, colour := s.dev.hubColour g }
      (d.hubCreate g (s.dev.hubColour g)).sendFromHub hubMgt (.ev c r))))


/-! ### HBM, structures, locks -/

namespace Sys2Proof.Claims

/-- A request waits at place i of a stack whose controller is in service. -/
structure Waits (d : Dev) (k : DieId) (i : Nat) (r : MemReq) : Prop where
  runs : d.diesStop = false
  here : (d.stack k).reqs[i]? = some r
  served : d.stackIso k = false

/-- The device without the request at place i of a stack. -/
def asked (d : Dev) (k : DieId) (i : Nat) : Dev := d.modStack k fun x => { x with reqs := x.reqs.eraseIdx i }

/-- A state in which a stack has taken a request and answered it. -/
def answeredBy (s : State) (k : DieId) (i : Nat) (r : MemReq) (a : Answer) (h : Hbm) : State :=
  { s with hbm := h, dev := (asked s.dev k i).respond k r a }

/-- An aligned access to a PLAIN address (R138, R241). -/
def plainAt (d : Dev) (r : MemReq) : Prop := d.memKind r.addr.toNat = .plain ∧ r.addr.toNat % szBytes r.sz = 0

/-- After a store of n bytes of v at a: those bytes hold v, little-endian, every other byte is as before (R3, R237). -/
def bytesStored (h h' : Hbm) (a n : Nat) (v : Word) : Prop :=
  ∀ b, h'.byte b = if a ≤ b ∧ b < a + n then (v >>> (8 * (b - a))).setWidth 8 else h.byte b

/-- The poison mark of one word is p; every other poison mark and every FULL mark is as before. -/
def onlyMark (h h' : Hbm) (w : Nat) (p : Bool) : Prop :=
  (∀ x, h'.poisoned x = if x = w then p else h.poisoned x) ∧ ∀ x, h'.isFull x = h.isFull x

end Sys2Proof.Claims

/-- CONTROLLER_READ and CONTROLLER_WRITE (R139, R237, R241). -/
def Obligations.LoadsAndStoresOfHbm : Prop :=
  ∀ (s : State) (k : DieId) (i : Nat) (r : MemReq), Claims.Waits s.dev k i r →
    let a := r.addr.toNat
    let n := szBytes r.sz
    (r.op = .ld → Claims.plainAt s.dev r →
      exec (.controllerRead k i .none) s = .next (Claims.answeredBy s k i r
        (.value (extend (s.hbm.read a n) n r.sx) (s.hbm.poisoned (a / 8))) s.hbm)) ∧
    (r.op = .st → Claims.plainAt s.dev r → ∃ h,
      exec (.controllerWrite k i .none) s = .next (Claims.answeredBy s k i r (.value 0 false) h) ∧
      Claims.bytesStored s.hbm h a n r.data ∧
      Claims.onlyMark s.hbm h (a / 8) (if n = 8 then r.dpoison else s.hbm.poisoned (a / 8) || r.dpoison)) ∧
    (∀ u, s.dev.memKind a ≠ .plain →
      (r.op = .ld → exec (.controllerRead k i u) s = .next (Claims.answeredBy s k i r .memError s.hbm)) ∧
      (r.op = .st → exec (.controllerWrite k i u) s = .next (Claims.answeredBy s k i r .memError s.hbm)))

/-- CONTROLLER_ATOMIC (R142, R249, R250). -/
def Obligations.AtomicsOfHbm : Prop :=
  ∀ (s : State) (k : DieId) (i : Nat) (r : MemReq), Claims.Waits s.dev k i r → Claims.plainAt s.dev r →
    let a := r.addr.toNat
    let n := szBytes r.sz
    let m := s.hbm.read a n
    let signed := r.sx && (r.op = .amin || r.op = .amax)
    let old := extend m n signed
    let less := if r.sx then (extend m n true).toInt < (extend r.data n true).toInt else m.toNat < (extend r.data n false).toNat
    let stores := fun (v : Word) => ∃ h,
      exec (.controllerAtomic k i .none) s = .next (Claims.answeredBy s k i r (.value old false) h) ∧
      Claims.bytesStored s.hbm h a n v ∧ Claims.onlyMark s.hbm h (a / 8) r.dpoison
    (s.hbm.poisoned (a / 8) = true → r.op.isAtomic = true →
      exec (.controllerAtomic k i .none) s = .next (Claims.answeredBy s k i r (.value old true) s.hbm)) ∧
    (s.hbm.poisoned (a / 8) = false →
      (r.op = .aadd → stores (m + r.data)) ∧
      (r.op = .axchg → stores r.data) ∧
      (r.op = .aand → stores (m &&& r.data)) ∧
      (r.op = .aor → stores (m ||| r.data)) ∧
      (r.op = .amin → stores (if less then m else r.data)) ∧
      (r.op = .amax → stores (if less then r.data else m)) ∧
      (r.op = .acas → m = extend r.cmp n false → stores r.data) ∧
      (r.op = .acas → m ≠ extend r.cmp n false →
        exec (.controllerAtomic k i .none) s = .next (Claims.answeredBy s k i r (.value old false) s.hbm)))

/-- CONTROLLER_STS, CONTROLLER_LDS and REGION_INIT_DONE (R243 to R247). -/
def Obligations.StructureWordsFillOnce : Prop :=
  (∀ (s : State) (k : DieId) (i : Nat) (r : MemReq) (rg : Region), Claims.Waits s.dev k i r →
    let w := r.addr.toNat / 8
    s.dev.memKind r.addr.toNat = .data rg →
    (r.op = .sts → s.hbm.isFull w = true →
      exec (.controllerSts k i .none) s = .next (Claims.answeredBy s k i r .writeTwice s.hbm)) ∧
    (r.op = .sts → s.hbm.isFull w = false → ∃ h,
      exec (.controllerSts k i .none) s = .next { s with
        hbm := h, dev := ((Claims.asked s.dev k i).releaseAll k w r.data r.dpoison).respond k r (.value 0 false) } ∧
      Claims.bytesStored s.hbm h (8 * w) 8 r.data ∧
      (∀ x, h.poisoned x = if x = w then r.dpoison else s.hbm.poisoned x) ∧
      ∀ x, h.isFull x = if x = w then true else s.hbm.isFull x) ∧
    (r.op = .lds → s.hbm.isFull w = true →
      exec (.controllerLds k i .none .none) s =
        .next (Claims.answeredBy s k i r (.value (s.hbm.read (8 * w) 8) (s.hbm.poisoned w)) s.hbm)) ∧
    (r.op = .lds → s.hbm.isFull w = false → ((s.dev.stack k).deferred.filter fun x => x.overflow = false).length < 16384 →
      exec (.controllerLds k i .none .none) s = .next { s with
        dev := ((Claims.asked s.dev k i).modStack k fun x =>
          { x with deferred := x.deferred ++ [{ word := w, src := r.src, graph := r.graph, overflow := false }] }).respond k r .ack })) ∧
  (∀ (s : State) (n : Nat) (rest : List Nat) (rg : Region), s.dev.diesStop = false → s.dev.rgnInit = n :: rest →
    s.dev.region n = some rg →
    ∃ t, exec .regionInitDone s = .next t ∧ t.pending = s.pending ∧ t.dev.rgnInit = rest ∧
      t.hbm.bytes = s.hbm.bytes ∧ t.hbm.poison = s.hbm.poison ∧
      (t.dev.stack (wordStack (rg.base / 8))).deferred =
        (s.dev.stack (wordStack (rg.base / 8))).deferred.filter (fun y => !rg.covers (8 * y.word)) ∧
      (s.hbm.wf = true → ∀ x, t.hbm.isFull x = if rg.base / 8 ≤ x ∧ x < rg.dataEnd / 8 then false else s.hbm.isFull x))

/-- HBM_SCRUB, HBM_SELF_REFRESH, HOST_MEM_REQUEST and HOST_WRITE_FAILED (R238, R239, R251, R252). -/
def Obligations.MemoryUpkeepAndHostMemory : Prop :=
  (∀ (s : State) (k : DieId), s.dev.diesStop = false → s.dev.stackIso k = false →
    let x := s.dev.stack k
    let next := fun (d : Dev) => d.modStack k fun x => { x with scrub := (x.scrub + 1) % 0xC0000000 }
    (s.dev.fld rMemCfg 0 8 ≠ 0 →
      exec (.hbmScrub k .none) s = .next (Claims.after s next) ∧
      exec (.hbmScrub k .corrected) s = .next (Claims.after s fun d =>
        ((next d).modStack k fun x => { x with eccCnt := min 0xFFFFFFFF (x.eccCnt + 1) }).fault rMemErr 0 35 [] [])) ∧
    (s.dev.fld rMemCfg 0 8 = 0 → ∀ u, exec (.hbmScrub k u) s = .next s) ∧
    (x.reqs = [] → x.lastReq + 1000000 ≤ s.dev.clock.run →
      exec (.hbmSelfRefresh k true) s = .next (Claims.after s fun d => d.modStack k fun x => { x with selfRef := true }))) ∧
  (∀ (s : State) (i : Nat) (a : HostData) (r : MemReq) (c : CellId) (e : BitVec 10) (uid : Nat), s.dev.hubRuns = true →
    s.dev.hif.hostReqs[i]? = some r → r.src = .cell c e uid →
    let fn := s.dev.owner r.graph
    let addr : Word := BitVec.ofNat 64 (r.addr.toNat % 2 ^ 47)
    let n := szBytes r.sz
    let answer := fun (d : Dev) (x : Answer) =>
      d.sendFromHub 8 (.rsp { dst := c, entry := e, uid := uid, graph := r.graph, ans := x })
    let taken := fun (d : Dev) => { d with hif := { d.hif with hostReqs := d.hif.hostReqs.eraseIdx i } }
    (s.dev.busMaster fn = false →
      exec (.hostMemRequest i a) s = .next (Claims.after s fun d => answer (taken d) .memError)) ∧
    (s.dev.busMaster fn = true → r.op = .st → exec (.hostMemRequest i a) s = .next (Claims.after s fun d =>
      answer ((taken d).emit (.hostWrite fn addr n [extend r.data n false] (if r.dpoison then [0] else []))) (.value 0 false))) ∧
    (s.dev.busMaster fn = true → r.op ≠ .st → a.status = .timeout →
      exec (.hostMemRequest i a) s = .next (Claims.after s fun d =>
        (taken d).readHost fn addr n .timeout (a.poisoned.contains 0))) ∧
    (s.dev.busMaster fn = true → r.op ≠ .st → ∀ x, (a.status = .ok ∧ x = .value (extend (a.words.getD 0 0) n r.sx) (a.poisoned.contains 0)) ∨
        (a.status = .poisoned ∧ x = .value (extend (a.words.getD 0 0) n r.sx) true) ∨
        ((a.status = .unsupported ∨ a.status = .aborted) ∧ x = .memError) →
      exec (.hostMemRequest i a) s = .next (Claims.after s fun d =>
        answer ((taken d).readHost fn addr n a.status (a.poisoned.contains 0)) x))) ∧
  (∀ s : State, s.dev.hubRuns = true →
    exec .hostWriteFailed s = .next (Claims.after s fun d => d.fault rHifErr 2 98 [] []))


namespace Sys2Proof.Claims

/-- A lock request is the first of its stack's lock requests, in HBM outside the SPILL regions and the presence and overflow parts of STRUCT regions. -/
structure LockWaits (d : Dev) (k : DieId) (i : Nat) (r : MemReq) : Prop where
  waits : Waits d k i r
  first : ∀ q ∈ (d.stack k).reqs.take i, q.op.isLock = false
  plain : d.lockInSpill r.addr = false

/-- The device once a lock unit holds these entries. -/
def withLocks (d : Dev) (k : DieId) (l : List LockEnt) : Dev := d.modStack k fun x => { x with locks := l }

/-- A lock unit's entries with those of one address replaced. -/
def relock (l : List LockEnt) (e : LockEnt) : List LockEnt := l.map fun y => if y.addr = e.addr then e else y

end Sys2Proof.Claims

/-- LOCK_UNIT_LOCK, LOCK_UNIT_TRYLOCK and LOCK_UNIT_UNLOCK (R258 to R261, R509). -/
def Obligations.LockUnitActs : Prop :=
  ∀ (s : State) (k : DieId) (i : Nat) (r : MemReq), Claims.LockWaits s.dev k i r →
    let l := (s.dev.stack k).locks
    let found := l.find? fun e => e.addr = r.addr
    let d := Claims.asked s.dev k i
    let word := fun (st : Byte) => Answer.value (r.addr ++ (0 : Byte) ++ st) false
    let mine : LockEnt := { addr := r.addr, owner := some r.owner, abandoned := false, waiters := [], freed := 0 }
    (found = none → l.length < 8192 →
      (r.op = .lock → exec (.lockUnitLock k i) s = .next { s with
        dev := ((Claims.withLocks d k (l ++ [mine])).lockAck k r).grant k r stOk }) ∧
      (r.op = .trylock → exec (.lockUnitTrylock k i) s = .next { s with
        dev := (Claims.withLocks d k (l ++ [mine])).respond k r (word stOk) })) ∧
    (∀ e, found = some e → e.owner = none →
      let taken := Claims.withLocks d k (Claims.relock l { e with owner := some r.owner, abandoned := false })
      (r.op = .lock → exec (.lockUnitLock k i) s = .next { s with dev := (taken.lockAck k r).grant k r stAbandoned }) ∧
      (r.op = .trylock → exec (.lockUnitTrylock k i) s = .next { s with dev := taken.respond k r (word stAbandoned) })) ∧
    (∀ e o, found = some e → e.owner = some o →
      (r.op = .trylock → exec (.lockUnitTrylock k i) s = .next { s with dev := d.respond k r (word stBusy) }) ∧
      (r.op = .lock → (s.dev.stack k).waiters < 65536 → exec (.lockUnitLock k i) s = .next { s with
        dev := (Claims.withLocks d k (l.map fun y =>
          if y.addr = r.addr then { y with waiters := y.waiters ++ [{ owner := r.owner, req := r }] } else y)).lockAck k r }) ∧
      (r.op = .unlock → o ≠ r.owner →
        exec (.lockUnitUnlock k i) s = .next { s with dev := d.respond k r (.notOwner (r.addr ++ (0 : Byte) ++ stNotOwner)) }) ∧
      (r.op = .unlock → o = r.owner → e.waiters = [] →
        exec (.lockUnitUnlock k i) s = .next { s with
          dev := (d.respond k r (word stOk)).modStack k fun x => { x with locks := x.locks.filter fun y => y.addr ≠ r.addr } }) ∧
      (∀ w ws, r.op = .unlock → o = r.owner → e.waiters = w :: ws →
        exec (.lockUnitUnlock k i) s = .next { s with
          dev := ((d.respond k r (word stOk)).modStack k fun x =>
            { x with locks := Claims.relock x.locks { e with owner := some w.owner, waiters := ws } }).grant k w.req stOk }))


/-! ### Descriptors -/

namespace Sys2Proof.Claims

/-- Descriptor x of opcode opc has started on ring pair r and nothing has been done for it. -/
structure Started (d : Dev) (r : BitVec 12) (k : Nat) (x : Desc) (opc : Nat) : Prop where
  here : d.desc r k = some x
  idle : x.waiting = false
  opc : x.opc.toNat = opc

end Sys2Proof.Claims

/-- LOAD, INJECT, GRESET, UNLOAD, EVPOST and QUOTA (R396 to R402). -/
def Obligations.GraphDescriptorsComplete : Prop :=
  ∀ (s : State) (r : BitVec 12) (k : Nat) (x : Desc), s.dev.diesStop = false →
    let fn := s.dev.pairFn r
    let g := x.graph
    (∀ h, Claims.Started s.dev r k x 0x01 → firstFailing (s.dev.loadChecks r x) = none → h.status = .ok → h.poisoned = [] →
      let len := nbits (x.w 1) 32 32
      let m : Image := { ws := h.words, len := len }
      let read := fun (d : Dev) => (d.readHost fn (x.w 2) len .ok false).emit (.hostRead fn (x.w 2) len)
      s.dev.imageStatus m len g fn = none →
      exec (.load r k h) s =
        .next (Claims.after s fun d => ((read d).loadGraph m g fn r).finish r x stOk 0) ∧
      ∀ t, exec (.load r k h) s = .next t → ∃ y, t.dev.graph g = some y ∧ y.owner = fn ∧ y.ring = r ∧ y.mask = m.mask ∧
        y.launched = false ∧ y.run = 0 ∧ y.cen = { cr0 := 0, cr1 := 0, cn0 := 0, cn1 := 0, colour := false }) ∧
    (∀ h, Claims.Started s.dev r k x 0x02 → firstFailing (injectChecks r x) = none →
      let n := max 1 x.count
      let ts := if x.count = 0 then tokensOf [x.w 2, x.w 3, x.w 4] 1 else tokensOf h.words n
      let g := (ts.getD 0 { w0 := 0, w1 := 0, w2 := 0 }).graph
      (x.count ≠ 0 → h.status = .ok ∧ h.poisoned = []) → firstFailing (s.dev.tokenChecks fn g ts) = none →
      s.dev.runWaits g = false →
      exec (.inject r k h) s = .next (Claims.after s fun d =>
        let d := if x.count = 0 then d else d.readHost fn (x.w 2) (24 * n) .ok false
        ((d.modGraph g fun y =>
          if y.running then { y with fresh := true }
          else { y with launched := true, running := true, complete := false, run := y.run + 1
                        consumedAt := s.dev.clock.run, fresh := false }).park r x).injectAll r x.index ts)) ∧
    (Claims.Started s.dev r k x 0x03 → firstFailing (s.dev.graphChecks r x) = none →
      ∃ t, exec (.greset r k) s = .next t ∧ t.hbm = s.hbm ∧ t.pending = s.pending ∧
        (∀ y, s.dev.graph g = some y → ∃ z, t.dev.graph g = some z ∧ z.launched = false ∧ z.running = false ∧ z.run = y.run ∧
          z.mask = y.mask) ∧
        ∀ c, (∀ e ∈ (t.dev.cell c).store.ms, e.tok.graph = g → e.const = true) ∧
          ∀ p ∈ (t.dev.cell c).pipe.ct, p.2.act.graph ≠ g) ∧
    (∀ y, Claims.Started s.dev r k x 0x04 → firstFailing (s.dev.graphChecks r x) = none → s.dev.graph g = some y →
      ∃ t, exec (.unload r k) s = .next t ∧ t.hbm = s.hbm ∧ t.pending = s.pending ∧
        ∃ z, t.dev.graph g = some z ∧ z.unloading = some (some (r, x.index)) ∧ z.mask = y.mask) ∧
    (Claims.Started s.dev r k x 0x08 → firstFailing (s.dev.evpostChecks r x) = none →
      let ev : EvRec :=
        { graph := g, source := BitVec.ofNat 6 srcHostPost
          left := { bits := x.w 2, vtype := bits (x.w 3) 0 4, poison := bit (x.w 3) 4 }
          right := none, oframe := none, oiter := 0, post := x.cell, grant := none, place := .receive
          since := s.dev.coreNow x.cell, born := 0, asked := none, granted := none, returns := false
          colour := s.dev.hubColour g }
      exec (.evpost r k) s = .next (Claims.after s fun d =>
        ((d.hubCreate g (s.dev.hubColour g)).sendFromHub hubHost (.ev x.cell ev)).finish r x stOk 0)) ∧
    (Claims.Started s.dev r k x 0x41 → firstFailing (s.dev.quotaChecks r x) = none →
      exec (.quota r k) s = .next (Claims.after s fun d => ((d.modGraph g fun y =>
        { y with quota :=
          { msmin := 64 * nbits (x.w 2) 0 16, mscap := 64 * nbits (x.w 2) 16 16, frcap := nbits (x.w 2) 32 16
            ctcap := nbits (x.w 2) 48 16, waitcap := nbits (x.w 3) 0 16 } }).setReg (rGstall g.toNat)
              (BitVec.ofNat 64 (nbits (x.w 3) 16 16))).finish r x stOk 0))

/-- HBMRD, HBMWR, SCLEAR and the LOCK descriptors (R396, R398). -/
def Obligations.MemoryDescriptorsComplete : Prop :=
  ∀ (s : State) (r : BitVec 12) (k : Nat) (x : Desc), s.dev.diesStop = false →
    let fn := s.dev.pairFn r
    let w0 := x.addr / 8
    let n := x.len / 8
    (Claims.Started s.dev r k x 0x05 →
      firstFailing (s.dev.moveChecks r x [lowMask 48, allBits, lowMask 32] s.dev.hostMayRead) = none →
      (∀ j, s.dev.spillRegion j = none) →
      let ps := (List.range n).filter fun i => s.hbm.poisoned (w0 + i)
      exec (.hbmrd r k []) s = .next (Claims.after s fun d =>
        ((d.wakeRange x.addr x.len).emit (.hostWrite fn (x.w 2) x.len ((List.range n).map fun i => s.hbm.word (w0 + i)) ps)).finish r x
          (if ps = [] then stOk else stPoisoned) (BitVec.ofNat 64 (8 * ps.headD 0)))) ∧
    (∀ h, Claims.Started s.dev r k x 0x06 → firstFailing (s.dev.hbmwrChecks r x) = none →
      (h.status = .ok ∨ h.status = .poisoned) →
      ∃ m, exec (.hbmwr r k h) s = .next { s with
          hbm := m
          dev := (((s.dev.readHost fn (x.w 2) x.len h.status (!h.poisoned.isEmpty)).wakeRange x.addr x.len).hostWrote w0
            (w0 + n)).finish r x stOk 0 } ∧
        ∀ w, (w0 ≤ w ∧ w < w0 + n → m.word w = h.words.getD (w - w0) 0 ∧
            m.poisoned w = (bit (x.w 3) 63 || h.poisoned.contains (w - w0))) ∧
          (¬(w0 ≤ w ∧ w < w0 + n) → m.word w = s.hbm.word w ∧ m.poisoned w = s.hbm.poisoned w) ∧
          m.isFull w = s.hbm.isFull w) ∧
    (Claims.Started s.dev r k x 0x07 → firstFailing (s.dev.sclearChecks r x) = none →
      ∃ m, exec (.sclear r k) s = .next { s with hbm := m, dev := (s.dev.wakeRange x.addr x.len).finish r x stOk 0 } ∧
        m.bytes = s.hbm.bytes ∧ m.poison = s.hbm.poison ∧
        (s.hbm.wf = true → ∀ w, m.isFull w = if w0 ≤ w ∧ w < (x.addr + x.len) / 8 then false else s.hbm.isFull w)) ∧
    (∀ c ∈ [(Instr.lockDescLock r k, 0, MemOp.lock), (Instr.lockDescTrylock r k, 1, MemOp.trylock),
        (Instr.lockDescUnlock r k, 2, MemOp.unlock)],
      Claims.Started s.dev r k x 0x09 → x.sub = c.2.1 → firstFailing (s.dev.lockChecks r x) = none →
      let a : BitVec 48 := bits (x.w 1) 0 48
      let req : MemReq :=
        { op := c.2.2, sz := 3, sx := false, addr := a, data := 0, cmp := 0, dpoison := false, graph := 0, frame := 0
          src := .desc r fn x.index }
      exec c.1 s = .next (Claims.after s fun d => (d.park r x).sendFromHub hubHost (.req req)))

/-- The ASSIGN, UCODE and DESCRIPTOR_FETCH commands (R90, R94, R388, R395, R398). -/
def Obligations.AdminDescriptorsComplete : Prop :=
  (∀ (s : State) (r : BitVec 12) (k : Nat) (x : Desc), s.dev.hubRuns = true → Claims.Started s.dev r k x 0x40 →
    x.ver = 1 → x.formed [0x33F#64, allBits] = true → r = 0 →
    let hit := fun (i : Nat) => x.first ≤ i ∧ i < x.first + x.number
    let given := fun (m n : Map GraphId) => ∀ i, mget 0 n i = if hit i then x.graph else mget 0 m i
    (x.kind = 0 → x.first + x.number ≤ 4096 → (x.graph = 0 ∨ ¬hit 0) →
      (∀ i, hit i → s.dev.pairEn (BitVec.ofNat 12 i) = false ∧ s.dev.pairIdle (BitVec.ofNat 12 i) = true) →
      ∃ m, given s.dev.hif.pairFn m ∧ exec (.assignRingPairs r k) s = .next (Claims.after s fun d =>
        { d with hif := { d.hif with pairFn := m } }.finish r x stOk 0)) ∧
    (x.kind = 1 → x.first + x.number ≤ 1024 → (∀ i, hit i → s.dev.oringEn (BitVec.ofNat 10 i) = false ∧ s.dev.outWaits (BitVec.ofNat 10 i) = false) →
      ∃ m, given s.dev.hif.oringFn m ∧ exec (.assignOutputRings r k) s = .next (Claims.after s fun d =>
        { d with hif := { d.hif with oringFn := m } }.finish r x stOk 0)) ∧
    (x.kind = 2 → x.first + x.number ≤ 1024 → (∀ p ∈ s.dev.graphs, ∀ c ∈ p.2.mask, ¬hit c) →
      ∃ m, given s.dev.hif.cellFn m ∧ exec (.assignCells r k) s = .next (Claims.after s fun d =>
        { d with hif := { d.hif with cellFn := m } }.finish r x stOk 0)) ∧
    (x.kind = 3 → x.first + x.number ≤ 1536 → (∀ p ∈ s.dev.graphs, p.2.owner ≠ x.graph) →
      exec (.assignHbmWindow r k) s = .next (Claims.after s fun d =>
        { d with hif := { d.hif with window := mset (0, 0) d.hif.window x.graph.toNat (x.first, x.number) } }.finish r x
          stOk 0))) ∧
  (∀ (s : State) (r : BitVec 12) (k : Nat) (x : Desc), s.dev.diesStop = false → Claims.Started s.dev r k x 0x42 →
    x.ver = 1 → r = 0 → s.dev.udefUsed x.ucode = false →
    (x.clear = true → x.formed [0x1F#64] = true → exec (.ucodeClear r k) s = .next (Claims.after s fun d =>
      { d with uct := { d.uct with entries := mset 0 d.uct.entries x.ucode 0 } }.finish r x stOk 0)) ∧
    (∀ h, x.clear = false → x.formed [0x1F#64, lowMask 27, allBits] = true → uentryOk x.uentry = true →
      s.dev.udefOverlap x.ucode x.uentry = false → h.status = .ok → h.poisoned = [] →
      let n := uLen x.uentry
      let word := fun (i : Nat) => h.words.getD i 0
      microOk (uCopy x.uentry) ((List.range n).map word) = true →
      ∃ m, (∀ i, mget 0 m i = if uStart x.uentry ≤ i ∧ i < uStart x.uentry + n then word (i - uStart x.uentry)
          else mget 0 s.dev.uct.uwords i) ∧
        exec (.ucodeLoad r k h) s = .next (Claims.after s fun d =>
          { d.readHost (d.pairFn r) (x.w 3) (8 * n) .ok false with
            uct := { entries := mset 0 d.uct.entries x.ucode (x.uentry ||| 0x80000000#32), uwords := m } }.finish r x stOk 0))) ∧
  (∀ (s : State) (reads : List EntryRead), s.dev.hubRuns = true →
    ((∀ r, s.dev.startable r = false) → exec (.descriptorFetch reads) s = .next s) ∧
    (∀ r e, s.dev.nextRing = some r → reads = [e] → e.status = .ok →
      let p := s.dev.pair r
      let x : Desc := { words := e.words, index := p.fetched, waiting := false, issued := s.dev.clock.run }
      (x.fence = true → p.started = []) → s.dev.fetchRefusal r x = none →
      exec (.descriptorFetch reads) s = .next (Claims.after s fun d =>
        let d := { d with hif := { d.hif with rr := if r = 0 then d.hif.rr else r.toNat } }
        let at_ := s.dev.reg (rSqbase r.toNat) + BitVec.ofNat 64 (64 * p.sqHead.toNat)
        ((d.readHost (s.dev.pairFn r) at_ 64 .ok false).modPair r fun p =>
          { p with sqHead := nextIndex (s.dev.pairSize r) p.sqHead, fetched := p.fetched + 1, fenced := false }).modPair r fun p =>
          { p with started := p.started ++ [x], reserved := p.reserved + 1 })))


/-! ### Fober links -/

namespace Sys2Proof.Claims

/-- A command leaves link l with the value y, every other link, HBM and the queue as they were. -/
def LinkBecomes (s : State) (c : Instr) (l : LinkId) (y : Link) : Prop :=
  ∃ t, exec c s = .next t ∧ t.hbm = s.hbm ∧ t.pending = s.pending ∧ t.dev.link l = y ∧
    ∀ m, m ≠ l → t.dev.link m = s.dev.link m

/-- A link that retrains on the lanes of a group: what RETRAIN keeps stays (R343). -/
def retrained (s : State) (x : Link) (failed : Byte) (w : Nat) (g : List Nat) : Link :=
  { x with
    failed := failed, width := BitVec.ofNat 2 w, lanes := laneMask g, st := .retrain, since := s.dev.clock.run
    fromRetrain := true, retrainDue := 3, train := [] }

/-- A link that equalizes at a rate on some lanes; its lanes hear words anew. -/
def equalizing (s : State) (x : Link) (rate w : Nat) (g : List Nat) : Link :=
  { x with
    st := .eq, since := s.dev.clock.run, rate := BitVec.ofNat 2 rate, eqFrames := 0
    train := x.train.map fun t =>
      (t.1, { t.2 with last := 0, seen := 0, word := none, rsp := 0, tap := 0, req := 0, rdy := false })
    width := BitVec.ofNat 2 w, lanes := laneMask g }

/-- A frame with the word w on a lane, counted. -/
def framed (x : Link) (lane : Nat) (inv : Bool) (w : Word) : Link :=
  let t := x.lane lane
  let n := if t.last = w then t.seen + 1 else 1
  x.setLane lane { t with last := w, seen := min n 3, inv := inv, word := if 3 ≤ n then some w else t.word }

/-- The flit that a link sends with a header and slots: its link word acknowledges, and reports the limit of the next channel in
turn (R329, R332, R333). -/
def outFlit (s : State) (l : LinkId) (x : Link) (hdr : Word) (slots : List RawSlot) : RawFlit :=
  let v := (x.reported + 1) % 7
  let f : RawFlit :=
    { hdr := hdr, s0 := slots.getD 0 slotZero, s1 := slots.getD 1 slotZero, s2 := slots.getD 2 slotZero
      s3 := slots.getD 3 slotZero
      link := linkWord x v (s.dev.ownBuf l v + (mget 0 x.freed v).toNat), crc := 0 }
  { f with crc := flitCrc f }

/-- A link once that flit has gone into the codeword being filled, which goes out when it holds five; the first of every 16,384
follows an alignment codeword (R323, R325). -/
def sentFlit (s : State) (l : LinkId) (x : Link) (hdr : Word) (slots : List RawSlot) : Link :=
  let f := outFlit s l x hdr slots
  let v := (x.reported + 1) % 7
  let n := if x.cw = [] ∧ x.cwCount = 0 then 1 else x.cwCount
  { x with
    reported := v, adv := minsert x.adv v (bits f.link 4 12)
    cw := if x.cw.length + 1 < 5 then x.cw ++ [f] else []
    cwCount := if x.cw.length + 1 < 5 then n else (n + 1) % 16384 }

end Sys2Proof.Claims

/-- LANE_LOCK, TRAINING_FRAME_RECEIVE, the timeouts of DETECT, EQ and LOCK, CODEWORD_LOCK and its loss, LANE_FAIL, HELLO, RETRAIN
and DOWN (R339 to R343). -/
def Obligations.LinksTrainByTheirStates : Prop :=
  ∀ (s : State) (l : LinkId), s.dev.diesStop = false →
    let x := s.dev.link l
    let now := s.dev.clock.run
    let all := s.dev.lanesOf l
    let used := s.dev.lanesUsed l
    (∀ lane : BitVec 3, lane.toNat ∈ all →
      let y := { x.setLane lane.toNat { x.lane lane.toNat with locked := true } with
        firstLock := if x.firstLock = none then some now else x.firstLock }
      ((x.st = .eq ∨ (x.st = .detect ∧ s.dev.groupOf l y.heard = none)) → Claims.LinkBecomes s (.laneLock l lane) l y) ∧
      (x.st = .retrain → (∀ i ∈ all, bit x.lanes i = true → (y.lane i).locked = true) →
        Claims.LinkBecomes s (.laneLock l lane) l { y with st := .lock, since := now })) ∧
    (∀ (lane : BitVec 3) (inv : Bool) (raw : Word) (rx : RxAdapt), (x.lane lane.toNat).locked = true → lane.toNat ∈ all →
      let w := if inv then ~~~raw else raw
      let t := x.lane lane.toNat
      let y := Claims.framed x lane.toNat inv w
      ((x.st = .detect ∨ x.st = .eq ∨ x.st = .retrain) → (t.last ≠ w ∨ t.seen + 1 < 3) →
        Claims.LinkBecomes s (.trainingFrameReceive l lane ⟨inv, raw, rx⟩) l y) ∧
      (∀ wd g, x.st = .detect → t.last = w → 3 ≤ t.seen + 1 → s.dev.groupOf l y.heard = some (wd, g) →
        g.length = all.length →
        Claims.LinkBecomes s (.trainingFrameReceive l lane ⟨inv, raw, rx⟩) l
          (Claims.equalizing s y ((s.dev.setLink l y).commonRate l g) wd g)) ∧
      (x.st = .eq → t.last = w → 3 ≤ t.seen + 1 → t.req = 0 → s.dev.fld (rFbpEqctl (linkPort l).toNat) 0 2 = 2 →
        Claims.LinkBecomes s (.trainingFrameReceive l lane ⟨inv, raw, .ready⟩) l
          (y.setLane lane.toNat { y.lane lane.toNat with rdy := true }))) ∧
    (∀ t, x.st = .detect → x.firstLock = some t → t + 10000000 ≤ now → s.dev.groupOf l x.heard = none → x.retry = [] →
      s.dev.rootNode = none → Claims.LinkBecomes s (.detectTimeout l) l (x.restart .isolated now)) ∧
    (x.st = .eq → x.since + 20000000 ≤ now →
      let group := s.dev.groupOf l fun i => bit x.lanes i && x.usable i
      (∀ w g, group = some (w, g) → Claims.LinkBecomes s (.eqTimeout l) l
        { x with
          failed := x.failed ||| laneMask (used.filter fun i => x.usable i = false), width := BitVec.ofNat 2 w
          lanes := laneMask g, st := .lock, since := now }) ∧
      (group = none → x.rate ≠ 0 → Claims.LinkBecomes s (.eqTimeout l) l
        (Claims.equalizing s { x with failed := 0 } (x.rate.toNat - 1) (s.dev.split (linkPort l)) all)) ∧
      (group = none → x.rate = 0 → x.retry = [] → s.dev.rootNode = none →
        Claims.LinkBecomes s (.eqTimeout l) l (x.restart .isolated now))) ∧
    (x.st = .lock → x.since + 1000000 ≤ now →
      Claims.LinkBecomes s (.lockTimeout l) l (Claims.equalizing s x x.rate.toNat x.width.toNat used)) ∧
    (∀ (syms : List Nat) (skew : Nat), x.st = .lock → skew ≤ 20 →
      syms = (List.range used.length).map (fun i => 0x150 + i) →
      (x.fromRetrain = false → Claims.LinkBecomes s (.codewordLock ⟨l, syms, skew⟩) l { x with st := .hello, since := now }) ∧
      (x.fromRetrain = true → Claims.LinkBecomes s (.codewordLock ⟨l, syms, skew⟩) l
        { x with
          st := .active, since := now, fromRetrain := false, lastNak := none, replays := 0
          replay := x.retry.map fun q => q.seq
          replayCnt := if x.retry = [] then x.replayCnt else min 0xFFFFFFFF (x.replayCnt + 1) })) ∧
    (x.st = .active → Claims.LinkBecomes s (.codewordLockLoss l) l
      { x with st := .retrain, since := now, fromRetrain := true, retrainDue := 3, train := [] }) ∧
    (∀ (lane : BitVec 3) (lost : Bool) w g, x.st = .active → bit x.lanes lane.toNat = true →
      (lost = true ∨ s.dev.fld (rFbpLanecfg (linkPort l).toNat) 16 16 < s.dev.recentSyms l lane.toNat) →
      let failed := x.failed ||| (1#8 <<< lane.toNat)
      s.dev.groupOf l (fun i => bit x.lanes i && !bit failed i) = some (w, g) →
      Claims.LinkBecomes s (.laneFail l ⟨lane, lost⟩) l (Claims.retrained s x failed w g)) ∧
    (∀ (m : RetrainMsg) w g, x.st = .active →
      let failed := x.failed ||| (m.failed &&& laneMask all)
      let left := fun (i : Nat) => bit x.lanes i && !bit failed i
      ((s.dev.namedGroup l m = some (w, g) ∧ g.all left = true) ∨
        (s.dev.namedGroup l m = none ∧ s.dev.groupOf l left = some (w, g))) →
      Claims.LinkBecomes s (.retrain l m) l (Claims.retrained s x failed w g)) ∧
    (∀ m : HelloMsg, x.st = .hello → bit m.vermap 1 = true → x.helloSent = false →
      ∃ lim, (∀ v < m.buf.length, mget 0 lim v = m.buf.getD v 0) ∧
        Claims.LinkBecomes s (.hello l m) l
          { x with
            peerVermap := m.vermap, ver := 1, helloSeen := x.helloSeen || m.ver = 1, peerSeen := x.peerSeen || m.seen
            lim := lim }) ∧
    ((x.st = .lock ∨ x.st = .hello ∨ x.st = .active) → x.retry = [] →
      Claims.LinkBecomes s (.down l) l (x.restart .detect now))

/-- FLIT_TRANSMIT, FLIT_RECEIVE and REPLAY_TIMEOUT (R323 to R337), and where the training commands lead (R340). -/
def Obligations.FlitsAreCheckedAcknowledgedAndReplayed : Prop :=
  ∀ (s : State) (l : LinkId), s.dev.diesStop = false →
    let x := s.dev.link l
    let now := s.dev.clock.run
    let sends := fun (hdr : Word) (slots : List RawSlot) (y : Link) =>
      ∃ t, exec (.flitTransmit l) s = .next t ∧ t.hbm = s.hbm ∧ t.pending = s.pending ∧ t.dev.link l = y ∧
        (∀ m, m ≠ l → t.dev.link m = s.dev.link m) ∧ .flit l (Claims.outFlit s l x hdr slots) ∈ t.dev.out
    let retrain : Link := { x with st := .retrain, since := now, fromRetrain := true, retrainDue := 3, train := [] }
    (x.st = .detect → Claims.LinkBecomes s (.flitTransmit l) l x) ∧
    (x.st = .eq → s.dev.eqDone l = false → Claims.LinkBecomes s (.flitTransmit l) l { x with eqFrames := 0 }) ∧
    (x.st = .eq → s.dev.eqDone l = true →
      (x.eqFrames + 1 < 64 → Claims.LinkBecomes s (.flitTransmit l) l { x with eqFrames := x.eqFrames + 1 }) ∧
      (64 ≤ x.eqFrames + 1 → Claims.LinkBecomes s (.flitTransmit l) l
        { x with eqFrames := x.eqFrames + 1, st := .lock, since := now })) ∧
    (x.st = .lock → sends 0 [] (Claims.sentFlit s l x 0 [])) ∧
    (x.st = .hello → x.helloSeen = false →
      ∃ y, sends (flitHdr 2 0 0) (s.dev.helloSlots l) y ∧ y.st = .hello ∧ y.helloSent = false ∧
        y.cw = (Claims.sentFlit s l x (flitHdr 2 0 0) (s.dev.helloSlots l)).cw) ∧
    (x.st = .retrain → x.retrainDue ≠ 0 →
      let y := Claims.sentFlit s l x (flitHdr 2 0 0) (s.dev.retrainSlots l)
      sends (flitHdr 2 0 0) (s.dev.retrainSlots l) { y with retrainDue := x.retrainDue - 1 }) ∧
    (x.st = .active → x.replay = [] → x.tx = [] → sends 0 [] (Claims.sentFlit s l x 0 [])) ∧
    (∀ q, x.st = .active → x.replay = [] → x.tx = [q] → s.dev.fbn.nodeHeld = true → slotsOf q.pkt ≤ 4 →
      slotsOf q.pkt ≤ x.credit q.pkt.mc.toNat → x.retry.length < s.dev.retryRoom l →
      let slots := packetSlots q.pkt
      let hdr := flitHdr 1 x.txSeq (BitVec.ofNat 4 (2 ^ slots.length - 1))
      ∃ sent,
      (∀ v, mget 0 sent v = mget 0 x.sentCr v + if v = q.pkt.mc.toNat then BitVec.ofNat 12 (slotsOf q.pkt) else 0) ∧
      sends hdr slots (Claims.sentFlit s l
        { x with
          tx := [], sentCr := sent, txSeq := x.txSeq + 1
          retry := x.retry ++ [{ seq := x.txSeq, slots := slots, at_ := now }] } hdr slots)) ∧
    (∀ f, (x.st = .lock ∨ x.st = .hello ∨ x.st = .active) →
      ((x.rxBad = true ∨ f.crc ≠ flitCrc f) → Claims.LinkBecomes s (.flitReceive l none f) l { x with nak := true }) ∧
      (f.crc ≠ flitCrc f → Claims.LinkBecomes s (.flitReceive l (some .clean) f) l { x with rxBad := false, nak := true }) ∧
      (∀ syms, f.crc ≠ flitCrc f → Claims.LinkBecomes s (.flitReceive l (some (.corrected syms)) f) l
        { x with rxBad := false, fecc := min 0xFFFFFFFF (x.fecc + 1), nak := true }) ∧
      Claims.LinkBecomes s (.flitReceive l (some .uncorrectable) f) l
        { x with rxBad := true, fecu := min 0xFFFFFFFF (x.fecu + 1), nak := true }) ∧
    (∀ f ps, (x.st = .lock ∨ x.st = .hello ∨ x.st = .active) → x.rxBad = false → f.crc = flitCrc f → flitCheck f = some ps →
      nbits f.hdr 60 4 = 1 → nbits f.link 16 3 = 7 → bit f.link 19 = false → x.retry = [] → bits f.hdr 48 12 = x.exp →
      s.dev.isProxy l = false → (∀ v < 7, slotsIn v ps ≤ (mget 0 x.adv v - mget 0 x.got v).toNat) → ∃ got,
      (∀ v, mget 0 got v = mget 0 x.got v + BitVec.ofNat 12 (slotsIn v ps)) ∧
      Claims.LinkBecomes s (.flitReceive l none f) l
        { x with
          exp := x.exp + 1, ackSeq := bits f.hdr 48 12, nak := false, got := got
          rx := x.rx ++ ps.map fun p => { pkt := p, since := s.dev.clock.aon, counted := true } }) ∧
    (∀ q rest, x.st = .active → x.retry = q :: rest → x.replay = [] →
      q.at_ + 100 * s.dev.fld (rFbpRetry (linkPort l).toNat) 0 16 ≤ now →
      let limit := s.dev.fld (rFbpRetry (linkPort l).toNat) 16 8
      (x.replays < limit → Claims.LinkBecomes s (.replayTimeout l) l
        { x with
          replay := x.retry.map fun q => q.seq, replays := x.replays + 1
          replayCnt := min 0xFFFFFFFF (x.replayCnt + 1) }) ∧
      (limit ≤ x.replays → Claims.LinkBecomes s (.replayTimeout l) l retrain)) ∧
    (∀ c ∈ [Instr.detectTimeout l, Instr.eqTimeout l, Instr.lockTimeout l, Instr.laneLock l 0,
        Instr.trainingFrameReceive l 0 ⟨false, 0, .hold⟩, Instr.codewordLock ⟨l, [], 0⟩],
      (x.st = .disabled ∨ x.st = .isolated) → exec c s = .next s) ∧
    (x.st = .lock → x.since + 1000000 ≤ now →
      ∃ t, exec (.lockTimeout l) s = .next t ∧ (t.dev.link l).st = .eq ∧ (t.dev.link l).rate = x.rate) ∧
    (x.st = .eq → x.since + 20000000 ≤ now →
      ∃ t, exec (.eqTimeout l) s = .next t ∧ t.hbm = s.hbm ∧ t.pending = s.pending) ∧
    (∀ t0, x.st = .detect → x.firstLock = some t0 → t0 + 10000000 ≤ now → s.dev.groupOf l x.heard = none →
      ∃ t, exec (.detectTimeout l) s = .next t ∧ t.hbm = s.hbm ∧ t.pending = s.pending) ∧
    (∀ lane : BitVec 3, x.trains = true → lane.toNat ∈ s.dev.lanesOf l → ∃ t, exec (.laneLock l lane) s = .next t) ∧
    (∀ (lane : BitVec 3) (inv : Bool) (raw : Word) (rx : RxAdapt), x.trains = true → lane.toNat ∈ s.dev.lanesOf l →
      ∃ t, exec (.trainingFrameReceive l lane ⟨inv, raw, rx⟩) s = .next t ∧ t.hbm = s.hbm) ∧
    (∀ syms skew, x.st = .lock → skew ≤ 20 → syms = (List.range (s.dev.lanesUsed l).length).map alignSymbol →
      ∃ t, exec (.codewordLock ⟨l, syms, skew⟩) s = .next t ∧
        (t.dev.link l).st = if x.fromRetrain then .active else .hello) ∧
    (x.st = .active → ∃ t, exec (.codewordLockLoss l) s = .next t ∧ (t.dev.link l).st = .retrain) ∧
    (∀ lane : BitVec 3, x.st = .active → bit x.lanes lane.toNat = true →
      ∃ t, exec (.laneFail l ⟨lane, true⟩) s = .next t ∧ t.hbm = s.hbm ∧ t.pending = s.pending) ∧
    (∀ m : RetrainMsg, x.st = .active → ∃ t, exec (.retrain l m) s = .next t ∧ t.hbm = s.hbm ∧ t.pending = s.pending) ∧
    (∀ m : HelloMsg, x.st = .hello → bit m.vermap 1 = true →
      ∃ t, exec (.hello l m) s = .next t ∧ (t.dev.link l).peerVermap = m.vermap) ∧
    ((x.st = .lock ∨ x.st = .hello ∨ x.st = .active) → ∃ t, exec (.down l) s = .next t ∧ (t.dev.link l).st = .detect)


/-! ### The Fober network -/

namespace Sys2Proof.Claims

/-- The device without the packet at place i of a link's receive buffer: its slots are freed (R332). -/
def unqueued (d : Dev) (l : LinkId) (i : Nat) (q : PortPkt) : Dev :=
  let x := d.link l
  let v := q.pkt.mc.toNat
  let n := mget 0 x.freed v + BitVec.ofNat 12 (slotsOf q.pkt)
  d.setLink l { x with rx := x.rx.eraseIdx i, freed := if q.counted then mset 0 x.freed v n else x.freed }

/-- A flit of one packet on its way from a port to a target. -/
def portFlit (d : Dev) (port : BitVec 4) (tgt : BitVec 7) (epoch : Bool) (p : Pkt) : Flit :=
  flitOf tgt (clusterCell (portCluster port)) (d.meshNow 0) epoch [p] p.mc p.graph

/-- A node other than the root learns the root's ID from an ID_ASSIGN packet (log 30). -/
def learned (d : Dev) (ws : List Word) : Dev :=
  if d.fbn.root then d else { d with fbn := { d.fbn with rootId := some (iwSrc ws) } }

/-- The words of an ID_ASSIGN packet once the hop it came by is recorded (R352 step 1). -/
def arrivedOn (l : LinkId) (ws : List Word) : List Word := if iwPtr ws = 0 then ws else setHop ws (iwPtr ws - 1) l

end Sys2Proof.Claims

/-- PACKET_ROUTE (R348, R356, R360, R376). -/
def Obligations.PacketsAreRoutedByTheirNode : Prop :=
  ∀ (s : State) (l : LinkId) (i : Nat) (q : PortPkt), s.dev.diesStop = false → (s.dev.link l).rx[i]? = some q →
    q.pkt.ptype ≠ ptIdAssign →
    let p := q.pkt
    let port := linkPort l
    let ends := fun (f : Dev → Dev) =>
      exec (.packetRoute l i) s = .next (Claims.after s fun d => f (Claims.unqueued d l i q))
    let enters := fun (x : Pkt) (tgt : BitVec 7) (epoch : Bool) => (s.dev.crossing (portCross port)).length < 64 →
      ends fun d => d.setCrossing (portCross port)
        (s.dev.crossing (portCross port) ++ [Claims.portFlit s.dev port tgt epoch x])
    (s.dev.fbn.nodeHeld = false → ends id) ∧
    (s.dev.fbn.nodeHeld = true →
      (s.dev.fromIsolated p = true → ends fun d => d.loseFob p) ∧
      (s.dev.fromIsolated p = false →
        (p.node = s.dev.fbn.nodeId →
          (fobOk p = false → ends fun d =>
            let d := (d.fault rFbnErr 0 75 [] []).loseFob p
            if p.isRequest then d.answerFob p stFormat 0 [] else d) ∧
          (fobOk p = true →
            (p.ptype ≠ ptToken → p.ptype ≠ ptLockGrant →
              ends fun d => { d with fbn := { d.fbn with delivered := d.fbn.delivered ++ [p] } }) ∧
            ((p.ptype = ptToken ∨ p.ptype = ptLockGrant) →
              enters (.tok p.token (.node p.pspec) 0) (tgtCluster (cellCluster p.token.cell)) p.token.epoch))) ∧
        (p.node ≠ s.dev.fbn.nodeId → s.dev.fbn.isolated.contains p.node.toNat = true → p.isRequest = true →
          ends fun d => d.sendFob (d.absorbedResp p stIsolated)) ∧
        (p.node ≠ s.dev.fbn.nodeId → s.dev.fbn.isolated.contains p.node.toNat = false →
          let e := mget 0 s.dev.fbn.rt (b2n p.epoch * 65536 + p.node.toNat)
          let pri : LinkId := bits e 0 6
          let alt : LinkId := bits e 8 6
          ((bit e 15 = false ∨ pri = l ∨ (bit e 14 = true ∧ alt = l)) → p.isRequest = true →
            ends fun d => (d.fault rFbnErr 2 77 [] []).sendFob (d.absorbedResp p stNotFound)) ∧
          (bit e 15 = true → pri ≠ l → (bit e 14 = false ∨ alt ≠ l) →
            ((s.dev.link pri).up = true →
              enters (.fob p) (tgtPort (linkPort pri)) p.epoch) ∧
            ((s.dev.link pri).up = false → bit e 14 = true → (s.dev.link alt).up = true →
              enters (.fob p) (tgtPort (linkPort alt)) p.epoch) ∧
            ((s.dev.link pri).up = false → (bit e 14 = false ∨ (s.dev.link alt).up = false) → p.isRequest = true →
              ends fun d => d.sendFob (d.absorbedResp p stIsolated))))))

/-- ID_ASSIGN_PROBE, SET, ROUTE and REPLY, ENUM_FRAME, ENUM_SLOT0_TIMEOUT and ENUM_OUT_FRAME (R348, R349, R352). -/
def Obligations.IdAssignPacketsFollowTheirHops : Prop :=
  (∀ (s : State) (l : LinkId) (p : IdPacket) (q : PortPkt) (rest : List PortPkt), s.dev.diesStop = false →
    (s.dev.link l).rx = q :: rest → q.pkt.ptype = ptIdAssign → q.pkt.words = p.words →
    (idFormed q.pkt = true ∨ idTransit p.words = true) → s.dev.fromIsolated q.pkt = false →
    let ws := Claims.arrivedOn l p.words
    let d := Claims.unqueued s.dev l 0 q
    let becomes := fun (c : Instr) (e : Dev) => exec c s = .next { s with dev := e }
    (∀ c ∈ [(Instr.idAssignProbe l p, 0), (Instr.idAssignSet l p, 1), (Instr.idAssignRoute l p, 3)], iwSub p.words = c.2 →
      iwPtr ws ≠ iwHops ws → becomes c.1 (d.sendId (hopAt ws (iwPtr ws)) (setPtr ws (iwPtr ws + 1)))) ∧
    (iwPtr ws = iwHops ws →
      let replies := fun (e : Dev) (st : Byte) (w : Word) =>
        (Claims.learned e ws).sendBack ((Claims.learned e ws).replyWords ws st w)
      (iwSub p.words = 0 → becomes (.idAssignProbe l p) (replies d stOk 0)) ∧
      (iwSub p.words = 1 →
        (s.dev.fbn.nodeHeld = true → becomes (.idAssignSet l p) (replies d stLocked 0)) ∧
        (s.dev.fbn.nodeHeld = false → s.dev.graphs ≠ [] → becomes (.idAssignSet l p) (replies d stBusy 0)) ∧
        (s.dev.fbn.nodeHeld = false → s.dev.graphs = [] →
          becomes (.idAssignSet l p)
            (replies { d with fbn := { d.fbn with nodeId := iwNew p.words, nodeHeld := true } } stOk 0))) ∧
      (iwSub p.words = 3 → nbits (p.words.getD 9 0) 60 4 = 2 →
        becomes (.idAssignRoute l p) (replies d stOk d.routeStatus))) ∧
    (iwSub p.words = 2 → iwPtr p.words ≠ 0 → becomes (.idAssignReply l p) (d.sendBack p.words))) ∧
  (∀ s : State, s.dev.fbn.slotKnown = false →
    exec (.enumFrame []) s = .next s ∧
    (∀ highs, highs ≠ [] → (∀ w ∈ highs, 700 < w) → exec (.enumFrame highs) s =
      .next (Claims.after s fun d => { d with fbn := { d.fbn with enumHigh := true } })) ∧
    (∀ highs w, w ∈ highs → w ≤ 700 → s.dev.fbn.enumLast ≠ some (pulsesIn highs) → exec (.enumFrame highs) s =
      .next (Claims.after s fun d => { d with fbn := { d.fbn with enumHigh := true, enumLast := some (pulsesIn highs) } })) ∧
    (∀ highs w, w ∈ highs → w ≤ 700 → s.dev.fbn.enumLast = some (pulsesIn highs) →
      let n := pulsesIn highs
      let d := { s.dev with fbn := { s.dev.fbn with slot := BitVec.ofNat 8 (min n 255), slotKnown := true, enumOut := false } }
      exec (.enumFrame highs) s = .next { s with dev := if n ≤ 255 then d else d.fault rFbnErr 7 82 [] [] }) ∧
    (s.dev.fbn.enumOut = true → s.dev.fbn.enumHigh = false → s.dev.fbn.enumFrom + 10000000 ≤ s.dev.clock.aon →
      exec .enumSlot0Timeout s =
        .next (Claims.after s fun d => { d with fbn := { d.fbn with slot := 0, slotKnown := true, enumOut := false } }))) ∧
  (∀ s : State, (s.dev.fbn.enumOut = false ∨ s.dev.fbn.enumHigh = true) → exec .enumSlot0Timeout s = .next s) ∧
  (∀ s : State, s.dev.fbn.slotKnown = true →
    (∀ highs, exec (.enumFrame highs) s = .next s) ∧
      exec .enumOutFrame s = .next (Claims.after s fun d => d.emit (.enumPulses (s.dev.fbn.slot.toNat + 1))))


/-! ### Roll-call, routes and isolation -/

namespace Sys2Proof.Claims

/-- A packet waits at this node for its command; the device without it. -/
def Delivered (d : Dev) (p : FPacket) : Prop := d.diesStop = false ∧ d.fbn.delivered.contains p = true

def withoutFob (d : Dev) (p : FPacket) : Dev := { d with fbn := { d.fbn with delivered := d.fbn.delivered.erase p } }

/-- The PROBE of link k of node x goes out, and roll-call waits for its REPLY. -/
def probing (d : Dev) (r : Roll) (x : RollNode) (k : Nat) : Dev :=
  (d.setRoll { r with cur := some x, link := k + 1, set_ := none, tag := d.fbn.tag, sentAt := d.clock.run }).sendPath 0
    (x.path ++ [BitVec.ofNat 6 k]) 0 0

/-- The node probed and its lowest link from r.link on. -/
def NextProbe (r : Roll) (x : RollNode) (k : Nat) : Prop :=
  r.stage = .probe ∧ r.cur = some x ∧ nextLink x.links r.link = some k ∧ x.path.length < 63

end Sys2Proof.Claims

/-- ROLL_CALL_AUTO, ROLL_PROBE_TIMEOUT and the REPLYs that the root consumes (R350, R351). -/
def Obligations.RollCallProbesAndAssigns : Prop :=
  (∀ (s : State) (k : Nat), s.dev.hubRuns = true → s.dev.fld rFbn 4 1 = 1 → s.dev.mgt.ready = true →
    s.dev.mgt.readyAt + 100000000 ≤ s.dev.clock.aon → s.dev.fbn.nodes = 0 → s.dev.fbn.root = true → s.dev.fbn.roll = none →
    (s.dev.fbn.nodeHeld = true ∨ s.dev.graphs = []) → nextLink s.dev.activeLinks 0 = some k →
    let base := s.dev.fld rRollcfg 0 16
    let named := fun (d : Dev) =>
      if s.dev.fbn.nodeHeld then d
      else { d with fbn := { d.fbn with nodeId := BitVec.ofNat 16 base, nodeHeld := true, handed := d.fbn.handed ++ [BitVec.ofNat 16 base] } }
    let x : RollNode :=
      { path := [], up := none, id := (named s.dev).fbn.nodeId, fwd := true, tk8 := true, cls := 7, links := s.dev.activeLinks
        bank := !s.dev.fab.cur, wrote := false }
    let r : Roll :=
      { stage := .probe, byRoll := true, queue := [], cur := some x, link := 0, set_ := none, tag := 0
        sentAt := s.dev.clock.run, nodes := [x], ends := [], cmds := [] }
    exec .rollCallAuto s = .next (Claims.after s fun d =>
      let d := named d
      Claims.probing { d with fbn := { d.fbn with nodes := 1, tk8s := 1 } } r x k)) ∧
  (∀ (s : State) (l : LinkId) (p : IdPacket) (q : PortPkt) (rest : List PortPkt) (r : Roll) (x : RollNode) (k : Nat),
    s.dev.diesStop = false → (s.dev.link l).rx = q :: rest → q.pkt.ptype = ptIdAssign → q.pkt.words = p.words →
    idFormed q.pkt = true → iwSub p.words = 2 → iwPtr p.words = 0 → s.dev.fromIsolated q.pkt = false →
    s.dev.fbn.roll = some r → r.tag = iwTag p.words →
    Claims.NextProbe r x k →
    let d := Claims.unqueued s.dev l 0 q
    let y := replyNode r p.words
    (∀ n, r.set_ = none → bit (p.words.getD 7 0) 47 = false → (y.tk8 = false ∨ s.dev.fbn.tk8s < 16384) →
      let taken := fun (m : Nat) => (∃ z ∈ r.nodes, z.id.toNat = m) ∨ ∃ z ∈ s.dev.fbn.handed, z.toNat = m
      (s.dev.fld rRollcfg 0 16 ≤ n ∧ n ≤ s.dev.fld rRollcfg 16 16 ∧ ¬taken n ∧
        ∀ m, s.dev.fld rRollcfg 0 16 ≤ m → m < n → taken m) →
      exec (.idAssignReply l p) s = .next { s with dev :=
        ((d.setRoll { r with
          set_ := some { y with id := BitVec.ofNat 16 n }, tag := d.fbn.tag, sentAt := d.clock.run }).sendPath 1 y.path
          (BitVec.ofNat 16 n) 0) }) ∧
    (∀ z, r.set_ = some z → bits (p.words.getD 7 0) 0 8 = stOk →
      let e := { d with fbn := { d.fbn with
        handed := d.fbn.handed ++ [z.id], nodes := d.fbn.nodes + 1, tk8s := d.fbn.tk8s + (if z.tk8 then 1 else 0) } }
      let r' := { r with set_ := none, ends := r.ends ++ r.cable z, nodes := r.nodes ++ [z], queue := r.queue ++ [z] }
      exec (.idAssignReply l p) s = .next { s with dev := Claims.probing e r' x k })) ∧
  (∀ (s : State) (r : Roll) (x : RollNode) (k : Nat), s.dev.hubRuns = true → s.dev.fbn.roll = some r →
    (s.dev.clock.run < r.sentAt + 1000000 → exec .rollProbeTimeout s = .next s) ∧
    (Claims.NextProbe r x k → r.sentAt + 1000000 ≤ s.dev.clock.run → r.set_ = none →
      exec .rollProbeTimeout s = .next (Claims.after s fun d => Claims.probing d r x k)))

/-- ROUTE, ISOLATE and MEM_RESP packets delivered to this node (R370 to R372, R376). -/
def Obligations.RouteAndIsolateRequestsAreAnswered : Prop :=
  (∀ (m : Map (BitVec 16)) (lo n : Nat) (v : BitVec 16) (i : Nat), mwf 0 0 m = true →
    mget 0 (mrange 0 m lo n v) i = if lo ≤ i ∧ i < lo + n then v else mget 0 m i) ∧
  ∀ (s : State) (p : FPacket), Claims.Delivered s.dev p →
    let d := Claims.withoutFob s.dev p
    let becomes := fun (c : Instr) (e : Dev) => exec c s = .next { s with dev := e }
    let bank := bit (p.word 0) 16
    let first := nbits (p.word 0) 0 16
    let count := nbits (p.word 1) 0 17
    let e : BitVec 16 := bits (p.word 2) 0 16
    (p.ptype = ptRoute →
      (pSub p = 0 → count ≠ 0 → nbits e 6 2 = 0 →
        (65536 < first + count → becomes (.routeWrite p) (d.answerFob p stBadValue 0 [0])) ∧
        (first + count ≤ 65536 → (bank = s.dev.fab.cur ∨ s.dev.fab.retiring = true) →
          becomes (.routeWrite p) (d.answerFob p stBusy 0 [0])) ∧
        (first + count ≤ 65536 → bank = !s.dev.fab.cur → s.dev.fab.retiring = false →
          let rt := mrange 0 d.fbn.rt ((if bank then 65536 else 0) + first) count e
          becomes (.routeWrite p) ({ d with fbn := { d.fbn with rt := rt } }.answerFob p stOk 0 [0]))) ∧
      (pSub p = 1 →
        (s.dev.fab.retiring = true → becomes (.routeFlip p) (d.answerFob p stBusy 0 [0])) ∧
        (s.dev.fab.retiring = false →
          let f := d.flip
          becomes (.routeFlip p) ({ f with fbn := { f.fbn with retireWait := true } }.answerFob p stOk 0 [0]) ∧
          f.fab.cur = !s.dev.fab.cur ∧ f.fab.retiring = true)) ∧
      (pSub p = 2 →
        let w : Word := BitVec.ofNat 64
          ((if d.localDone then 4 else 0) + (if s.dev.fab.retiring then 2 else 0) + if s.dev.fab.cur then 1 else 0)
        becomes (.routeStatus p) (d.answerFob p stOk 0 [w])) ∧
      (pSub p = 3 →
        let f := { d with fab := { d.fab with retiring := false, drains := [] }, fbn := { d.fbn with retireWait := false } }
        becomes (.routeRetire p) (f.answerFob p stOk 0 [0]))) ∧
    (p.ptype = ptIsolate →
      let n : BitVec 16 := bits (p.word 0) 0 16
      (pSub p = 0 → s.dev.fbn.isolated.contains n.toNat = false →
        let f := { d with fbn := { d.fbn with isolated := d.fbn.isolated ++ [n.toNat] } }
        becomes (.isolateOrder p) (((f.abandon (Owner.ofNode n)).fault rFbnErr 1 76 [] []).answerFob p stOk 0 [])) ∧
      (pSub p = 1 →
        becomes (.isolateRelease p)
          ({ d with fbn := { d.fbn with isolated := d.fbn.isolated.erase n.toNat } }.answerFob p stOk 0 [])) ∧
      (pSub p = 2 → becomes (.isolateNotice p) d)) ∧
    (p.ptype = ptMemResp → s.dev.fbn.roll = none →
      ((∃ q ∈ s.dev.fbn.reqs, q.node = pSrc p ∧ q.tag = pTag p) →
        becomes (.memResp p) { d with fbn := { d.fbn with reqs := d.fbn.reqs.filter fun q => q.tag ≠ pTag p } }) ∧
      ((∀ q ∈ s.dev.fbn.reqs, q.node ≠ pSrc p ∨ q.tag ≠ pTag p) → becomes (.memResp p) d))


/-! ### Requests from other nodes -/

namespace Sys2Proof.Claims

/-- A memory request of another node that R365 answers OK: memory access enabled, an aligned PLAIN address of HBM, its words in one
64-byte block, and the stack in service. -/
structure Reaches (d : Dev) (p : FPacket) : Prop where
  here : Delivered d p
  enabled : d.fld rFbn 2 1 = 1
  low : mAddr p < 2 ^ 47
  plain : d.isPlain (mAddr p) = true
  aligned : mAddr p % szBytes (mSz p) = 0
  hbm : mAddr p < 0x1800000000
  block : mAddr p / 64 = (mAddr p + szBytes (mSz p) * mWords p - 1) / 64
  served : d.stackIso (addrStack (bits (p.word 1) 0 48)) = false

/-- What an atomic stores: the value, or nothing (R142, R249). -/
def atomicStores (op : MemOp) (n : Nat) (sx : Bool) (m b e : Word) : Option Word :=
  let less := if sx then (extend m n true).toInt < (extend b n true).toInt else m.toNat < (extend b n false).toNat
  match op with
  | .aadd => some (m + b)
  | .axchg => some b
  | .aand => some (m &&& b)
  | .aor => some (m ||| b)
  | .amin => some (if less then m else b)
  | .amax => some (if less then b else m)
  | .acas => if m = extend e n false then some b else none
  | _ => none

/-- A lock request of another node that its lock unit performs: aligned, at an address where it takes locks, the stack in
service. -/
structure Locks (d : Dev) (p : FPacket) (r : MemReq) : Prop where
  here : Delivered d p
  aligned : r.addr.toNat % 8 = 0
  hbm : r.addr.toNat < 0x1800000000
  served : d.stackIso (addrStack r.addr) = false
  plain : d.lockInSpill r.addr = false

end Sys2Proof.Claims

/-- MEM_RD, MEM_WR and the seven ATOMIC requests (R363 to R365). -/
def Obligations.RemoteMemoryRequestsAreServed : Prop :=
  ∀ (s : State) (p : FPacket), Claims.Reaches s.dev p →
    let d := (Claims.withoutFob s.dev p).wakeStack (addrStack (bits (p.word 1) 0 48))
    let a := mAddr p
    let n := szBytes (mSz p)
    let w := a / 8
    let nw := mWords p
    (p.ptype = ptMemRd →
      (n = 8 → ∃ mask : Byte, (∀ i < 8, bit mask i = (decide (i < nw) && s.hbm.poisoned (w + i))) ∧
        exec (.memRd p []) s = .next { s with
          dev := d.answerFob p stOk mask ((List.range nw).map fun i => s.hbm.word (w + i)) }) ∧
      (n ≠ 8 → nw = 1 → exec (.memRd p []) s = .next { s with
        dev := d.answerFob p stOk (if s.hbm.poisoned w then 1 else 0) [extend (s.hbm.read a n) n false] })) ∧
    (p.ptype = ptMemWr → ∃ h, exec (.memWr p .none) s = .next { s with hbm := h, dev := d.answerFob p stOk 0 [0] } ∧
      (∀ x, h.isFull x = s.hbm.isFull x) ∧
      (n = 8 → ∀ x, h.word x = (if w ≤ x ∧ x < w + nw then p.word (2 + (x - w)) else s.hbm.word x) ∧
        h.poisoned x = if w ≤ x ∧ x < w + nw then false else s.hbm.poisoned x) ∧
      (n ≠ 8 → Claims.bytesStored s.hbm h a n (p.word 2) ∧ ∀ x, h.poisoned x = s.hbm.poisoned x)) ∧
    (∀ c ∈ [(Instr.atomicAadd p .none, 0, MemOp.aadd), (Instr.atomicAxchg p .none, 1, MemOp.axchg),
        (Instr.atomicAcas p .none, 2, MemOp.acas), (Instr.atomicAmin p .none, 3, MemOp.amin),
        (Instr.atomicAmax p .none, 4, MemOp.amax), (Instr.atomicAand p .none, 5, MemOp.aand),
        (Instr.atomicAor p .none, 6, MemOp.aor)], p.ptype = ptAtomic → pSub p = c.2.1 →
      let m := s.hbm.read a n
      let old := extend m n (mSgn p && (c.2.2 = .amin || c.2.2 = .amax))
      let e := if mSz p = 0 then p.word 3 else p.word 2 >>> 32
      (s.hbm.poisoned w = true → exec c.1 s = .next { s with dev := d.answerFob p stOk 1 [old] }) ∧
      (s.hbm.poisoned w = false → ∃ h, exec c.1 s = .next { s with hbm := h, dev := d.answerFob p stOk 0 [old] } ∧
        match Claims.atomicStores c.2.2 n (mSgn p) m (p.word 2) e with
        | none => h = s.hbm
        | some v => Claims.bytesStored s.hbm h a n v ∧ Claims.onlyMark s.hbm h w false))

/-- LOCK_REQ, LOCK_REL, EVENT and REFUSE packets delivered to this node (R259 to R263, R366, R367, R374). -/
def Obligations.RemoteLocksEventsAndTokensArrive : Prop :=
  ∀ (s : State) (p : FPacket),
    let d := Claims.withoutFob s.dev p
    let becomes := fun (c : Instr) (e : Dev) => exec c s = .next { s with dev := e }
    let request := fun (op : MemOp) => lockReqOf op p
    let k := addrStack (bits (p.word 1) 0 48)
    let l := (s.dev.stack k).locks
    let word := fun (st : Byte) => lockWord (bits (p.word 1) 0 48) st
    let found := l.find? fun e => e.addr = bits (p.word 1) 0 48
    (Claims.Locks s.dev p (request .lock) →
      let taken := Claims.withLocks (d.wakeStack k) k
        (l ++ [{ addr := (request .lock).addr, owner := some (request .lock).owner, abandoned := false, waiters := [], freed := 0 }])
      (found = none → l.length < 8192 → p.ptype = ptLockReq →
        (pSub p = 0 → becomes (.lockReqLock p) ((taken.lockAck k (request .lock)).grant k (request .lock) stOk)) ∧
        (pSub p = 1 → becomes (.lockReqTrylock p) (taken.respond k (request .trylock) (.value (word stOk) false)))) ∧
      (∀ e, found = some e → e.owner ≠ none → p.ptype = ptLockReq → pSub p = 1 →
        becomes (.lockReqTrylock p) ((d.wakeStack k).respond k (request .trylock) (.value (word stBusy) false))) ∧
      (∀ e, found = some e → e.owner = some (request .unlock).owner → e.waiters = [] → p.ptype = ptLockRel → pSub p = 0 →
        becomes (.lockRelUnlock p) (((d.wakeStack k).respond k (request .unlock) (.value (word stOk) false)).modStack k fun x =>
          { x with locks := x.locks.filter fun y => y.addr ≠ (request .unlock).addr }))) ∧
    (Claims.Delivered s.dev p → (request .lock).addr.toNat % 8 ≠ 0 →
      (p.ptype = ptLockReq → pSub p = 1 → becomes (.lockReqTrylock p) (d.answerFob p stOk 0 [word stUnaligned])) ∧
      (p.ptype = ptLockRel → pSub p = 0 → becomes (.lockRelUnlock p) (d.answerFob p stOk 0 [word stUnaligned]))) ∧
    (Claims.Delivered s.dev p → p.ptype = ptLockRel → pSub p = 1 →
      becomes (.lockRelAbandon p)
        ((d.abandon (Owner.ofNodeGraph (pSrc p) (bits (p.word 0) 12 6))).answerFob p stOk 0 [])) ∧
    (Claims.Delivered s.dev p → p.ptype = ptEvent → s.dev.inMask (ePost p) (eGraph p) = true →
      let c := ePost p
      let g := eGraph p
      let colour := ((s.dev.cell c).census g).colour
      let v : Val := { bits := p.word 2, vtype := bits (p.word 1) 8 4, poison := bit (p.word 1) 7 }
      ((s.dev.cell c).enabled g (eSource p) = false → becomes (.event p) (d.cellConsume c g colour)) ∧
      ((s.dev.cell c).enabled g (eSource p) = true →
        becomes (.event p) (d.sendFromHub hubMgt
          (.ev c { graph := g, source := BitVec.ofNat 6 (eSource p), left := v, right := none
                   oframe := some (bits (p.word 1) 52 12), oiter := bits (p.word 1) 12 32, post := c, grant := none
                   place := .receive, since := s.dev.coreNow c, born := 0, asked := none, granted := none
                   returns := false, colour := colour })))) ∧
    (∀ port : BitVec 4, Claims.Delivered s.dev p → p.ptype = ptRefuse →
      let n := clusterDie (portCluster port)
      let y := s.dev.yoyo n
      s.dev.rtsFull n = false →
      ∃ t, exec (.refuseReceive p port) s = .next t ∧ t.hbm = s.hbm ∧ t.pending = s.pending ∧
        (t.dev.yoyo n).refused = y.refused ∧
        (t.dev.yoyo n).rts = y.rts ++ [{ tok := p.token, due := s.dev.dueTime 1 (lfsrStep (y.lfsr.getD (lfsrSeed n))), count := 1
                                         hub := false, src := clusterCell (portCluster port) }])

/-- CENSUS and MGMT packets delivered to this node (R225, R368, R369). -/
def Obligations.RemoteCensusAndManagementAreAnswered : Prop :=
  ∀ (s : State) (p : FPacket), s.dev.hubRuns = true → s.dev.fbn.delivered.contains p = true →
    let d := Claims.withoutFob s.dev p
    let becomes := fun (c : Instr) (e : Dev) => exec c s = .next { s with dev := e }
    (∀ x, p.ptype = ptCensus → s.dev.graph (pGraph p) = some x →
      let g := pGraph p
      (pOp p = 0 →
        let w : Wave :=
          { began := s.dev.clock.aon, tmo := 1000000 * s.dev.fld rCencfg 16 16, asker := some (pSrc p), parts := [], aggs := [], childs := [], abandonedBelow := false }
        let y := { x with wave := nbits (p.word 0) 0 32, waveNow := some w }
        becomes (.censusWave p) ((d.setGraph g y).toChildren g y 0)) ∧
      (∀ w, pOp p = 1 → x.waveNow = some w → nbits (p.word 0) 0 32 = x.wave % 2 ^ 32 →
        (x.children s.dev.fbn.nodeId).contains (pSrc p) = true → (∀ a ∈ w.childs, a.1 ≠ pSrc p) →
        let sums : Sums := { cr0 := p.word 1, cr1 := p.word 2, cn0 := p.word 3, cn1 := p.word 4 }
        let below := w.abandonedBelow || bit (p.word 0) 32
        let w' := { w with childs := w.childs ++ [(pSrc p, sums)], abandonedBelow := below }
        becomes (.censusSums p) (d.setGraph g { x with waveNow := some w' })) ∧
      (pOp p = 2 → x.fresh = false → x.unloading = none → ∃ t, exec (.censusDone p) s = .next t ∧ t.hbm = s.hbm ∧ t.pending = s.pending ∧
        ∃ y, t.dev.graph g = some y ∧ y.complete = true ∧ y.running = false ∧ y.run = x.run ∧ y.mask = x.mask)) ∧
    (p.ptype = ptMgmtRd →
      (mSpace p = 1 → mW64 p = false →
        (mOffset p = 0x0 → becomes (.mgmtRd p) (d.answerFob p stOk 0 [0x1D9C7A18])) ∧
        (mOffset p = 0x4 → becomes (.mgmtRd p) (d.answerFob p stOk 0 [0x00400207])) ∧
        (mOffset p = 0x8 → becomes (.mgmtRd p) (d.answerFob p stOk 0 [98304])) ∧
        (0x10 ≤ mOffset p → becomes (.mgmtRd p) (d.answerFob p stOk 0 [0]))) ∧
      (1 < mSpace p → becomes (.mgmtRd p) (d.answerFob p stBadValue 0 [])) ∧
      (mSpace p = 0 → mOffset p % (if mW64 p then 8 else 4) = 0 → s.dev.mgmtAllowed p = false →
        becomes (.mgmtRd p)
          ((d.record_ { req := 64, bar2 := false, w64 := mW64 p } stNoAccess false (mOffset p) 0).answerFob p stNoAccess 0 [])) ∧
      (mSpace p = 0 → mOffset p % (if mW64 p then 8 else 4) ≠ 0 →
        becomes (.mgmtRd p)
          ((d.record_ { req := 64, bar2 := false, w64 := mW64 p } stUnaligned false (mOffset p) 0).answerFob p stUnaligned 0
            [])) ∧
      (mSpace p = 0 → s.dev.mgmtAllowed p = true → mOffset p < 0x4000000 → mOffset p % 4 = 0 → mW64 p = false →
        let x := d.read4 64 (mOffset p)
        x.2.2 = stOk → becomes (.mgmtRd p) (x.1.answerFob p stOk 0 [x.2.1.setWidth 64]))) ∧
    (p.ptype = ptMgmtWr →
      (mSpace p = 1 → becomes (.mgmtWr p) (d.answerFob p stNoAccess 0 [0])) ∧
      (1 < mSpace p → becomes (.mgmtWr p) (d.answerFob p stBadValue 0 [0])) ∧
      (mSpace p = 0 → s.dev.mgmtAllowed p = true → mOffset p < 0x4000000 → mOffset p % 4 = 0 → mW64 p = false →
        let x := d.write0 64
          { space := .bar0, off := mOffset p, size := 4, data := [(p.word 2).setWidth 32], fullBe := true }
        becomes (.mgmtWr p) (x.1.answerFob p x.2 0 [0])))


/-! ### Units, episodes, probes -/

namespace Sys2Proof.Claims

/-- Stage n of an open episode is due: the one before has been entered, its time has passed, and it is not acknowledged (R446). -/
structure Due (d : Dev) (e : Episode) (n : Nat) : Prop where
  open_ : d.flt.episode = some e
  before : e.stage + 1 = n
  unacked : e.acked = false
  time : e.opened + 1000000 * d.fld (rSpint n) 0 16 ≤ d.clock.run

end Sys2Proof.Claims

/-- ESCALATION_STAGE_1 and 2, EPISODE_CLOSE, REINTEGRATION_DONE, UNIT_RESET_DONE and TGT_DEAD (R309, R446 to R452, R476). -/
def Obligations.FaultyUnitsAreContainedAndReturn : Prop :=
  ∀ s : State, s.dev.diesStop = false →
    (∀ e, s.dev.flt.episode = some e →
      (e.acked = true ∨ s.dev.clock.run < e.opened + 1000000 * s.dev.fld (rSpint 1) 0 16 → exec .escalationStage1 s = .next s) ∧
      (e.acked = true ∨ s.dev.clock.run < e.opened + 1000000 * s.dev.fld (rSpint 2) 0 16 → exec .escalationStage2 s = .next s)) ∧
    (∀ e (c : CellId) g x, Claims.Due s.dev e 1 → e.set_ = [DevUnit.cell c] → e.causes = [] → s.dev.isoUnit (.cell c) = false →
      s.dev.graphs = [(BitVec.toNat (g : GraphId), x)] → c.toNat ∈ x.mask → x.held = false →
      ∃ t, exec .escalationStage1 s = .next t ∧ t.hbm = s.hbm ∧ t.pending = s.pending ∧ (t.dev.cell c).isolated = true ∧
        t.dev.flt.isolated = s.dev.flt.isolated ++ [DevUnit.cell c] ∧ (∃ e', t.dev.flt.episode = some e' ∧ e'.stage = 1) ∧
        ∃ y, t.dev.graph g = some y ∧ y.held = true ∧ y.running = false ∧ y.launched = false ∧ y.run = x.run) ∧
    (∀ e, Claims.Due s.dev e 2 → (∀ k, s.dev.isoUnit (.die k) = false) →
      ∃ t, exec .escalationStage2 s = .next t ∧ t.hbm = s.hbm ∧ t.pending = s.pending ∧
        (∀ k, t.dev.isoUnit (.die k) = true) ∧ (∀ c, (t.dev.cell c).isolated = true) ∧
        (∃ e', t.dev.flt.episode = some e' ∧ e'.stage = 2 ∧ e'.quiesced = true) ∧
        ∀ g x, s.dev.graph g = some x → x.held = false → ∃ y, t.dev.graph g = some y ∧ y.running = false) ∧
    (∀ e, s.dev.flt.episode = some e → e.lastAt + 1000000 * s.dev.fld rQuiet 0 16 ≤ s.dev.clock.run →
      (e.sev = 3 → e.acked = true) →
      let test := s.dev.toTest
      let recov := if s.dev.flt.recov = 0xFFFF then s.dev.flt.recov else s.dev.flt.recov + 1
      exec .episodeClose s = .next (Claims.after s fun d =>
        let d := { d with flt := { d.flt with episode := none, recov := recov, testing := d.flt.testing ++ test } }
        test.foldl (fun d u => d.setResetting (unitCells u) true) d) ∧
      ∀ u ∈ test, u ∉ s.dev.flt.failed ∧ (u ∈ s.dev.flt.isolated ∨ ∃ t ∈ s.dev.fab.dead, u = .target t)) ∧
    (∀ c : CellId, s.dev.flt.testing = [.cell c] → s.dev.flt.isolated = [.cell c] →
      (∃ t, exec (.reintegrationDone (.cell c) true) s = .next t ∧ t.hbm = s.hbm ∧ t.pending = s.pending ∧
        t.dev.flt.testing = [] ∧ t.dev.flt.isolated = [] ∧ (t.dev.cell c).isolated = false ∧
        (t.dev.cell c).resetting = false ∧ (t.dev.cell c).pipe.qs = [] ∧ ∀ e ∈ (t.dev.cell c).store.ms, e.const = true) ∧
      (exec (.reintegrationDone (.cell c) false) s = .next (Claims.after s fun d =>
        { d with flt := { d.flt with failed := d.flt.failed ++ [DevUnit.cell c], testing := [] } }.modCell c fun x =>
          { x with resetting := false }))) ∧
    (∀ u, s.dev.flt.testing = [] →
      ∃ t, exec (.unitResetDone u) s = .next t ∧ t.hbm = s.hbm ∧ t.pending = s.pending ∧
        ∀ c, t.dev.cell c = if c ∈ unitCells u then { s.dev.cell c with resetting := false } else s.dev.cell c) ∧
    (∀ n, s.dev.targetWaits (.crossbar n) = false → exec (.tgtDead (.crossbar n)) s = .next s) ∧
    (∀ n since, s.dev.fab.dead.contains (.crossbar n) = false → s.dev.isoUnit (.target (.crossbar n)) = false →
      mfind s.dev.fab.waits (8 * n.toNat + 4) = some since → since + 10000 * s.dev.fld rTmocfg 0 16 + 10000 ≤ s.dev.clock.run →
      ∃ t, exec (.tgtDead (.crossbar n)) s = .next t ∧ t.hbm = s.hbm ∧ t.pending = s.pending ∧
        t.dev.fab.dead = s.dev.fab.dead ++ [.crossbar n] ∧ t.dev.isoTarget (.crossbar n) = true ∧
        ∀ c, (t.dev.cell c).isolated = (decide (cellCluster c = n) || (s.dev.cell c).isolated))

/-- PROBE_MATCH (R313 to R315). -/
def Obligations.ProbesCountTraceAndFreeze : Prop :=
  ∀ (s : State) (p : BitVec 4) (sel ns : Nat) (slot : BitVec 2), s.dev.diesStop = false →
    let ctl := s.dev.reg (rPctl p.toNat)
    let ptype := s.dev.fld (rPsel p.toNat) 12 4
    let arm := s.dev.fld rTrctl 1 1
    let wrap := s.dev.fld rTrctl 2 1
    let field := nbits ctl 0 2
    let look := s.dev.probeSees p.toNat sel ns slot.toNat
    let hits := fun (w : Word) => bit ctl 7 = true ∧ w &&& s.dev.reg (rPmask p.toNat) = s.dev.reg (rPval p.toNat)
    let k := s.dev.kal
    let cycle := hubCycle (s.dev.clock.aon + ns)
    let before := if k.cycle = cycle then k.inCycle else 0
    let full := if k.lost = 0xFFFFFFFF then k.lost else k.lost + 1
    (look = none → exec (.probeMatch p sel ns slot) s = .next s) ∧
    (ptype = 0 → exec (.probeMatch p sel ns slot) s = .next s) ∧
    (∀ x, look = some x → (∀ w, x.words.getD field none = some w → ¬hits w) → exec (.probeMatch p sel ns slot) s = .next s) ∧
    (1 ≤ ptype → ptype ≤ 4 → ∀ f, s.dev.flitAt ptype (s.dev.fld (rPsel p.toNat) 0 12) sel ns = some f →
      ∃ x, look = some x ∧ x.words.getD 0 none = some (f.header (s.dev.meshNow (2 * ns)))) ∧
    (∀ x w, look = some x → x.words.getD field none = some w → hits w →
      let shown : BitVec 2 := if field = 0 ∨ ptype = 5 then 0 else slot
      let record := (if field = 0 then x.rec0 else x.rec1) ++
        [BitVec.ofNat 48 (s.dev.clock.aon + ns) ++ p ++ shown ++ (0 : BitVec 6) ++ BitVec.ofNat 4 ptype]
      ∃ t, exec (.probeMatch p sel ns slot) s = .next t ∧ t.hbm = s.hbm ∧ t.pending = s.pending ∧
      t.dev.reg (rPcnt p.toNat) = s.dev.reg (rPcnt p.toNat) + 1 ∧
      t.dev.flt.freezeLatch = (s.dev.flt.freezeLatch || bit ctl 3) ∧
      (bit ctl 5 = true → bit ctl 4 = false → t.dev.fld rTrctl 1 1 = 1) ∧
      (bit ctl 4 = true → bit ctl 5 = false → t.dev.fld rTrctl 1 1 = 0) ∧
      (bit ctl 5 = false → bit ctl 4 = false → t.dev.fld rTrctl 1 1 = arm) ∧
      (bit ctl 6 = false ∨ arm = 0 → t.dev.kal = k) ∧
      (bit ctl 6 = true → arm = 1 → 4 ≤ before → t.dev.kal = { k with lost := full }) ∧
      (bit ctl 6 = true → arm = 1 → before < 4 → t.dev.kal.lost = k.lost ∧
        (k.trace.length < 8192 → t.dev.kal.trace = k.trace ++ [record]) ∧
        (8192 ≤ k.trace.length → wrap = 1 → t.dev.kal.trace = putAt k.trace k.next record) ∧
        (8192 ≤ k.trace.length → wrap = 0 → t.dev.kal.trace = k.trace)))


/-! ### Supply, resets, clocks -/

namespace Sys2Proof.Claims

/-- A start-up that nothing holds back: the clocks are present, every die passes, the NV store reads without error. -/
structure Smooth (st : Startup) : Prop where
  pclk : st.pclk = true
  fclk : st.fclk = true
  dies : st.failedDies = 0
  nv : st.nv = []

/-- The module has started: READY, its rails on, at step 10. -/
structure Started_ (t : State) (st : Startup) : Prop where
  ready : t.dev.mgt.ready = true
  phase : t.dev.mgt.phase = 10
  rails : t.dev.pwr.off = false
  pclk : t.dev.mgt.pclk = true
  pin : t.dev.flt.freezePinLow = st.freezeLow

/-- HBM whose contents are lost. -/
def Lost (h : Hbm) : Prop := ∀ a, h.byte a = 0 ∧ h.poisoned a = false ∧ h.isFull a = false

end Sys2Proof.Claims

/-- POWER_ON, MRST_N, OVLO_RISE, OVLO_FALL, UVLO_FALL, THERMAL_SHUTDOWN, PCLK_ARRIVAL and ESCALATION_STAGE_3 (R450, R462, R463,
R470, R475, R478). HBM reads 0 where it lists nothing (the model's choice, log 4). -/
def Obligations.SupplyEventsStopAndRestart : Prop :=
  (∀ (s : State) (st : Startup), Claims.Smooth st → s.dev.ucfgOk = false → s.dev.pwr.hotHold = false →
    let restarts := fun (c : Instr) (p : State → Prop) => ∃ t, exec c s = .next t ∧ t.pending = s.pending ∧ Claims.Lost t.hbm ∧
      t.dev.mgt.nv = s.dev.mgt.nv ∧ Claims.Started_ t st ∧ p t
    (s.dev.mgt.phase = 1 → restarts (.powerOn st) fun t => t.dev.fbn.root = st.rootLow) ∧
    (s.dev.mgt.phase ≠ 1 → s.dev.pwr.ovlo = false →
      restarts (.mrstN st) fun t => t.dev.graphs = [] ∧ t.dev.cells = State.reset.dev.cells ∧ t.dev.fbn.root = st.rootLow ∧
        t.dev.pwr.tshut = s.dev.pwr.tshut ∧ t.dev.fbn.nodeHeld = false) ∧
    (s.dev.pwr.ovlo = true →
      restarts (.ovloFall st) fun t => t.dev.graphs = [] ∧ t.dev.pwr.ovlo = false ∧ t.dev.fbn.slot = s.dev.fbn.slot ∧
        t.dev.fbn.root = s.dev.fbn.root ∧ t.dev.mgt.da = s.dev.mgt.da) ∧
    (∀ e, Claims.Due s.dev e 3 → s.dev.fld (rSpint 3) 31 1 = 1 → s.dev.diesStop = false →
      restarts (.escalationStage3 st) fun t => t.dev.graphs = [] ∧
        t.dev.flt.selfRst = (if s.dev.flt.selfRst = 0xFFFF then s.dev.flt.selfRst else s.dev.flt.selfRst + 1) ∧
        t.dev.flt.recov = s.dev.flt.recov ∧ ∀ x ∈ s.dev.regs.cfg,
          (x.1 = rLock ∨ x.1 = rFltCfg ∨ x.1 = rQuiet ∨ (∃ n, 1 ≤ n ∧ n ≤ 3 ∧ x.1 = rSpint n) ∨ ∃ n, n < 8 ∧ x.1 = rFltSev n) →
          x ∈ t.dev.regs.cfg) ∧
    (s.dev.mgt.phase = 3 → s.dev.pwr.ovlo = false →
      ∃ t, exec (.pclkArrival st) s = .next t ∧ t.pending = s.pending ∧ t.hbm = s.hbm ∧ Claims.Started_ t st ∧
        t.dev.mgt.nv = s.dev.mgt.nv)) ∧
  (∀ s : State,
    (∃ t, exec .uvloFall s = .next t ∧ t.pending = s.pending ∧ Claims.Lost t.hbm ∧ t.dev.mgt.nv = s.dev.mgt.nv ∧
      t.dev.mgt.phase = 1 ∧ t.dev.mgt.ready = false ∧ t.dev.pwr.off = true ∧ t.dev.pwr.tshut = false ∧
      t.dev.regs = State.reset.dev.regs ∧ t.dev.cells = State.reset.dev.cells ∧ t.dev.graphs = []) ∧
    (s.dev.mgt.phase ≠ 1 → exec .ovloRise s = .next (Claims.after s fun d =>
      { d with pwr := { d.pwr with off := true, ovlo := true }, mgt := { d.mgt with phase := 2, ready := false } })) ∧
    (∀ n (temp : BitVec 16), temp.toInt < 1840 → exec (.thermalShutdown n temp) s = .next s) ∧
    (∀ n (temp : BitVec 16), 1840 ≤ temp.toInt →
      ∃ t, exec (.thermalShutdown n temp) s = .next t ∧ t.pending = s.pending ∧ t.hbm = s.hbm ∧ t.dev.pwr.off = true ∧
        t.dev.pwr.tshut = true ∧ t.dev.mgt.ready = false ∧ t.dev.temp n.toNat = temp.toInt))

/-- Function resets, PERST_N, FREEZE_N and the clocks (R408, R454, R457, R458, R473). That HOT_RESET keeps assignments is the
model's reading of R388. -/
def Obligations.HostResetsFreezePinsAndClocks : Prop :=
  (∀ (s : State) (fn : GraphId), fn ≠ 0 → s.dev.diesStop = false →
    ∀ c ∈ [(Instr.functionLevelReset fn, true), (Instr.hotReset, true), (Instr.vfEnableClear [fn], true), (Instr.perstN, false)],
      ∃ t, exec c.1 s = .next t ∧ t.hbm = s.hbm ∧ t.pending = s.pending ∧
        (∀ r, s.dev.pairFn r = fn → t.dev.pair r = pairReset ∧ t.dev.pairEn r = false) ∧
        ∀ r, t.dev.pairFn r = if c.2 then s.dev.pairFn r else 0) ∧
  (∀ (s : State) (fn : GraphId), fn ≠ 0 → s.dev.frozen = true → s.dev.hubRuns = false → s.dev.pwr.off = false →
    exec (.functionLevelReset fn) s = .next (Claims.after s fun d =>
      { d with flt := { d.flt with resetAtResume := d.flt.resetAtResume ++ [{ fn := some fn, host := true }] } }) ∧
    exec .perstN s = .next (Claims.after s fun d =>
      { d with flt := { d.flt with resetAtResume := d.flt.resetAtResume ++ [{ fn := none, host := true }] } })) ∧
  (∀ s : State,
    let f := s.dev.flt
    let pin := fun (b : Bool) (d : Dev) => { d with flt := { d.flt with freezePinLow := b } }
    let clock := fun (ok latch : Bool) (d : Dev) =>
      { d with mgt := { d.mgt with pclk := ok }, flt := { d.flt with clockLatch := latch } }
    exec .freezeNLow s = .next (Claims.after s fun d => if s.dev.mgt.ready then pin true d else d) ∧
    (f.freezeLatch = true ∨ f.clockLatch = true → exec .freezeNHigh s = .next (Claims.after s fun d => (pin false d).drainTlps)) ∧
    (f.freezeLatch = false → f.clockLatch = false → f.freezePinLow = true → f.resetAtResume = [] →
      exec .freezeNHigh s = .next (Claims.after s fun d => (pin false d).resumeLinks.drainTlps)) ∧
    exec .pclkLoss s = .next (Claims.after s (clock false (f.clockLatch || s.dev.mgt.ready))) ∧
    (f.freezeLatch = true ∨ f.freezePinLow = true →
      exec .pclkRestored s = .next (Claims.after s fun d => (clock true false d).drainTlps)) ∧
    (f.freezeLatch = false → f.freezePinLow = false → f.clockLatch = true → f.resetAtResume = [] →
      exec .pclkRestored s = .next (Claims.after s fun d => (clock true false d).resumeLinks.drainTlps)) ∧
    exec .fclkRestored s = .next (Claims.after s fun d => { d with mgt := { d.mgt with fclk := true } }) ∧
    (s.dev.diesStop = true →
      exec .fclkLoss s = .next (Claims.after s fun d => { d with mgt := { d.mgt with fclk := false } })) ∧
    (s.dev.diesStop = false → (∀ l, (s.dev.link l).retry = []) →
      ∃ t, exec .fclkLoss s = .next t ∧ t.hbm = s.hbm ∧ t.pending = s.pending ∧ t.dev.mgt.fclk = false ∧
        ∀ l, t.dev.link l =
          if (s.dev.link l).st = .disabled ∨ (s.dev.link l).st = .isolated then s.dev.link l
          else (s.dev.link l).restart .detect s.dev.clock.run))


/-! ### The governor and the sensors -/

namespace Sys2Proof.Claims

/-- A command of the governor answers a next state with HBM and queue as they were and power as given. -/
def Governs (s : State) (c : Instr) (p : State → Prop) : Prop :=
  ∃ t, exec c s = .next t ∧ t.hbm = s.hbm ∧ t.pending = s.pending ∧ p t

/-- The levers in force: ceiling, duty halvings, HBM rate steps. -/
def levers (t : State) (ceiling duty rate : Nat) : Prop :=
  t.dev.pwr.ceiling = ceiling ∧ t.dev.pwr.duty = duty ∧ t.dev.pwr.hbmStep = rate

end Sys2Proof.Claims

/-- The governor, the comparator, the sensors and the converter (R464 to R471, R474). -/
def Obligations.GovernorAndSensorsAct : Prop :=
  ∀ s : State, s.dev.hubRuns = true → s.dev.diesStop = false →
    let p := s.dev.pwr
    let kept := fun (t : State) => Claims.levers t p.ceiling p.duty p.hbmStep
    (∀ vin iin : BitVec 16,
      let budget := s.dev.fld rPwrCfg 16 9 * 100000
      let cap := if vin ≠ 0 ∧ vin.toNat * 9500 < budget then vin.toNat * 9500 else budget
      let top := s.dev.topPoint
      let does := fun (q : State → Prop) =>
        Claims.Governs s (.governorSample vin iin) fun t => t.dev.pwr.vin = vin ∧ t.dev.pwr.iin = iin ∧ q t
      (vin.toNat * iin.toNat ≤ cap → does kept) ∧
      (cap < vin.toNat * iin.toNat →
        (top ≠ 0 → does fun t => Claims.levers t (top - 1) p.duty p.hbmStep) ∧
        (top = 0 → p.duty < 4 → does fun t => Claims.levers t p.ceiling (p.duty + 1) p.hbmStep) ∧
        (top = 0 → 4 ≤ p.duty → p.hbmStep < 3 → does fun t => Claims.levers t p.ceiling p.duty (p.hbmStep + 1)) ∧
        (∀ n : BitVec 4, top = 0 → 4 ≤ p.duty → 3 ≤ p.hbmStep → s.dev.portEn n = true →
          (∀ m : BitVec 4, n.toNat < m.toNat → s.dev.portEn m = false) →
          does fun t => kept t ∧ t.dev.portEn n = false ∧ n.toNat ∈ t.dev.pwr.shed))) ∧
    (∀ est,
      let low := est * 10000 * 100 ≤ s.dev.capTenMicro * 97
      (¬low → exec (.governorRelease est) s = .next s) ∧
      (low → Claims.Governs s (.governorRelease est) fun t =>
        if p.hbmStep ≠ 0 then Claims.levers t p.ceiling p.duty (p.hbmStep - 1)
        else if p.duty ≠ 0 then Claims.levers t p.ceiling (p.duty - 1) p.hbmStep
        else Claims.levers t (min 6 (p.ceiling + 1)) p.duty p.hbmStep)) ∧
    (Claims.Governs s .overcurrentComparator fun t => Claims.levers t p.ceiling (min 4 (p.duty + 1)) p.hbmStep) ∧
    (∀ (n : BitVec 5) (temp : BitVec 16), n.toNat < 24 → bit p.fails n.toNat = false →
      let k := sensorDie n
      let steps := mget 0 p.thermal k.toNat
      (temp.toInt < 1600 → Claims.Governs s (.thermalStep n temp) fun t =>
        t.dev.temp n.toNat = temp.toInt ∧ t.dev.pwr.thermal = p.thermal ∧ t.dev.pwr.thermalDuty = p.thermalDuty) ∧
      (1600 ≤ temp.toInt → Claims.Governs s (.thermalStep n temp) fun t => t.dev.temp n.toNat = temp.toInt ∧
        mget 0 t.dev.pwr.thermal k.toNat = (if steps < 6 then steps + 1 else steps) ∧
        mget 0 t.dev.pwr.thermalDuty k.toNat =
          if steps < 6 then mget 0 p.thermalDuty k.toNat else min 4 (mget 0 p.thermalDuty k.toNat + 1)) ∧
      (1680 ≤ temp.toInt → exec (.tempHigh n temp) s = .next (Claims.after s fun d =>
        (d.setTemp n temp).fault rPwrErr 1 100 [.die k] [])) ∧
      (temp.toInt < 1680 → exec (.tempHigh n temp) s = .next s)) ∧
    (∀ (k : DieId) (temps : List (BitVec 16)), temps.length = 6 → (∀ x ∈ temps, BitVec.toInt x < 1552) →
      (∀ i < 6, bit p.fails (6 * k.toNat + i) = false) →
      Claims.Governs s (.thermalRelease k temps) fun t =>
        let duty := mget 0 p.thermalDuty k.toNat
        mget 0 t.dev.pwr.thermalDuty k.toNat = duty - 1 ∧
        mget 0 t.dev.pwr.thermal k.toNat = if duty ≠ 0 then mget 0 p.thermal k.toNat else mget 0 p.thermal k.toNat - 1) ∧
    (∀ (k : DieId) (temp : BitVec 16),
      let n := BitVec.ofNat 5 (24 + k.toNat)
      Claims.Governs s (.hbmThermalThrottle n temp) fun t => t.dev.temp n.toNat = temp.toInt ∧ ∀ j : DieId,
        bit t.dev.pwr.hbmHot j.toNat =
          if j ≠ k then bit p.hbmHot j.toNat
          else if 1520 ≤ temp.toInt then true else if temp.toInt < 1472 then false else bit p.hbmHot j.toNat) ∧
    (∀ (n : BitVec 5) (r : Option (BitVec 16)),
      let good := fun (temp : BitVec 16) => -640 ≤ temp.toInt ∧ temp.toInt ≤ 2400
      (∀ temp, r = some temp → good temp → Claims.Governs s (.sensor n r) fun t =>
        t.dev.temp n.toNat = temp.toInt ∧ bit t.dev.pwr.fails n.toNat = false) ∧
      ((∀ temp, r = some temp → ¬good temp) → exec (.sensor n r) s = .next (Claims.after s fun d =>
        { d with pwr := { d.pwr with fails := d.pwr.fails ||| (1#32 <<< n.toNat) } }.fault rPwrErr 2 101 [] []))) ∧
    (∀ k : DieId, s.dev.isoUnit (.die k) = false → Claims.Governs s (.conv (.die k)) fun t =>
      bit t.dev.pwr.dieOff k.toNat = true ∧ t.dev.isoUnit (.die k) = true ∧ t.dev.stackIso k = true ∧
      ∀ c, cellDie c = k → (t.dev.cell c).isolated = true) ∧
    exec (.conv .hub) s = .next (Claims.after s fun d => d.fault rPwrErr 3 102 [] [])

/-! ### Registers -/

namespace Sys2Proof.Claims

/-- The command is a 4-byte write, by a requester, of a value to a BAR0 offset. -/
def IsWrite (c : Instr) (req : Requester) (off : Nat) (v : Reg) : Prop :=
  match c with
  | .registerWrite q a => q = req ∧ a = { space := .bar0, off := off, size := 4, data := [v], fullBe := true }
  | .statusClear q o x | .regWriteLowHalf q o x | .accCountClear q o x => q = req ∧ o = off ∧ x = v
  | .traceClear q x => q = req ∧ off = rTrctl ∧ x = v
  | .fltAck q x => q = req ∧ off = rFltAck ∧ x = v
  | .frzctlFreeze q x | .frzctlResume q x => q = req ∧ off = rFrzctl ∧ x = v
  | .cellReset q x | .clusterReset q x => q = req ∧ off = rUnitrst ∧ x = v
  | .injcmdGo q c x => q = req ∧ off = rInjcmd c.toNat ∧ x = v
  | .routectlFlip q x => q = req ∧ off = rRoutectl ∧ x = v
  | .rollctlGo q x => q = req ∧ off = rRollctl ∧ x = v
  | .fflip q x => q = req ∧ off = rFlipctl ∧ x = v
  | .nodeIsolate q x | .nodeRelease q x => q = req ∧ off = rIsodata ∧ x = v
  | .nodeIdWrite q x => q = req ∧ off = rNodeId ∧ x = v
  | .linkEnable q p x | .linkDisable q p x => q = req ∧ off = rFbp p.toNat ∧ x = v
  | .cmdRetrain q p x | .cmdRestart q p x => q = req ∧ off = rFbpCmd p.toNat ∧ x = v
  | .ringEnable q n x | .ringDisable q n x => q = req ∧ off = ringCfg n ∧ x = v
  | .wakeGo q x => q = req ∧ off = rWake ∧ x = v
  | _ => False

/-- The command is a 4-byte read, by a requester, of a BAR0 offset. -/
def IsRead (c : Instr) (req : Requester) (off : Nat) : Prop :=
  c = .regReadLowHalf req ⟨.bar0, off, 4⟩ ∨ c = .statusClearOnRead req off

/-- A requester that exists and an offset that is a multiple of 4, while the hub runs. -/
structure Asks (d : Dev) (req : Requester) (off : Nat) : Prop where
  who : req.toNat ≤ 64
  runs : d.hubRuns = true
  place : off % 4 = 0

/-- The entry of a requester's log after an access by BAR0 with 4 bytes is recorded. -/
def logged (x : AccLog) (req : Requester) (code : Byte) (wr : BitVec 1) (off : Nat) (data : Reg) : AccLog :=
  { last := code ++ (0 : BitVec 7) ++ wr ++ (0 : BitVec 9) ++ req, offset := BitVec.ofNat 32 off, data := data
    count := if x.count = BitVec.allOnes 32 then x.count else x.count + 1 }

/-- The command is refused with a status: its requester's log records it, and nothing else changes from `d`. -/
def Refuses (c : Instr) (s : State) (d : Dev) (req : Requester) (off : Nat) (v : Reg) (code : Byte) : Prop :=
  ∃ t, exec c s = .next t ∧ t = { s with dev := { d with regs := { d.regs with logs := t.dev.regs.logs } } } ∧
    ∀ n, t.dev.log n = if n = req.toNat then logged (s.dev.log n) req code 1 off v else s.dev.log n

end Sys2Proof.Claims

/-- Checks and plain effects of register writes (R5, R415, R422, R426, R427, R429, R430). -/
def Obligations.RegisterWritesAreChecked : Prop :=
  ∀ (s : State) (c : Instr) (req : Requester) (off : Nat) (v : Reg), Claims.IsWrite c req off v → Claims.Asks s.dev req off →
    (∀ code, s.dev.unreached false req off = some code → Claims.Refuses c s s.dev req off v code) ∧
    (s.dev.unreached false req off = none →
      let d := s.dev.wakeFor off
      let w : Word := v.setWidth 64
      (∀ r, regSpec off = some r → r.wide = false →
        (∀ code, s.dev.writeRefusal req off r w = some code → Claims.Refuses c s s.dev req off v code) ∧
        (s.dev.writeRefusal req off r w = none →
          (r.isStatus = true → s.dev.clearsOnRead off r = true → exec c s = .next { s with dev := d }) ∧
          (r.isStatus = true → s.dev.clearsOnRead off r = false →
            ∃ m, exec c s = .next { s with dev := { d with regs := { d.regs with status := m } } } ∧ ∀ k,
              mget 0 m k = if k = off then
                s.dev.statusReg k &&& ~~~((w &&& r.mask fun f => f.acc = .sc).setWidth 32 &&& 0x00FFFFFF)
              else s.dev.statusReg k) ∧
          (0x10000 ≤ off → off < 0x20000 →
            ∃ m, exec c s = .next { s with dev := { d with regs := { d.regs with logs := m } } } ∧ ∀ k, mget accReset m k =
              if k = logAt req (off - 0x10000) then { s.dev.log k with count := 0 } else s.dev.log k) ∧
          (r.isStatus = false → r.mask Field.kept ≠ 0 → off / 0x100000 ∈ [1, 5, 8] →
            let shadow := r.mask fun f => f.cls = .shadow
            ∃ t, exec c s = .next t ∧
              t = { s with dev := { d with regs := { d.regs with cfg := t.dev.regs.cfg, staged := t.dev.regs.staged } } } ∧
              t.dev.reg off = (s.dev.reg off &&& shadow) ||| (w &&& r.mask Field.kept &&& ~~~shadow) ∧
              (shadow ≠ 0 → mfind t.dev.regs.staged off = some (w &&& r.mask Field.kept)) ∧
              ∀ k, k ≠ off → t.dev.reg k = s.dev.reg k ∧ mfind t.dev.regs.staged k = mfind s.dev.regs.staged k))) ∧
      (∀ r, regSpec off = some r → r.wide = true → s.dev.noAccess req off r w = false → s.dev.isLocked req off r w = false →
        s.dev.frozenOut off = false →
        ∃ m, exec c s = .next { s with dev := { s.dev with regs := { s.dev.regs with stage := m } } } ∧
          mfind m req.toNat = some (off, v) ∧ ∀ k, k ≠ req.toNat → mfind m k = mfind s.dev.regs.stage k) ∧
      (∀ low r (lo : Reg), off = low + 4 → off % 8 = 4 → regSpec off = none → regSpec low = some r → r.wide = true →
        lo = (match mfind s.dev.regs.stage req.toNat with
          | some (o, x) => if o = low then x else (s.dev.regVal req low r).setWidth 32
          | none => (s.dev.regVal req low r).setWidth 32) →
        (∀ code, s.dev.writeRefusal req low r (v ++ lo) = some code → Claims.Refuses c s s.dev req off v code) ∧
        (s.dev.writeRefusal req low r (v ++ lo) = none →
          let x := (s.dev.wakeFor low).writeReg req low r (v ++ lo)
          ∃ m, exec c s = .next { s with dev := { x with regs := { x.regs with stage := m } } } ∧
            ∀ k, mfind m k = if k = req.toNat then none else mfind x.regs.stage k)))

/-- What the blocks do on accepted writes of their command registers. -/
def Obligations.RegisterWritesAct : Prop :=
  (∀ (s : State) (c : Instr) (req : Requester) (off : Nat) (v : Reg) (r : RegSpec),
    Claims.IsWrite c req off v → Claims.Asks s.dev req off → s.dev.unreached false req off = none →
    regSpec off = some r → r.wide = false →
    let woken := s.dev.wakeFor off
    let w : Word := v.setWidth 64
    s.dev.writeRefusal req off r w = none →
    let d := woken.storeReg req off r w
    let old := s.dev.reg off
    let ends := fun (x : Dev) => exec c s = .next { s with dev := x }
    (off = rTrctl → bit v 0 = true → ends { d with kal := { d.kal with trace := [], next := 0, lost := 0 } }) ∧
    (off = rFltAck → ends { d with flt := { d.flt with episode := d.flt.episode.map fun e => { e with acked := true } } }) ∧
    (off = rFrzctl → bit v 0 = true → ends { d with flt := { d.flt with freezeLatch := true } }) ∧
    (off = rFrzctl → bit v 1 = true →
      let f := { d.flt with freezeLatch := false }
      (d.flt.freezePinLow = true ∨ d.flt.clockLatch = true ∨ d.frozen = false → ends { d with flt := f }) ∧
      (d.flt.freezePinLow = false → d.flt.clockLatch = false → d.flt.freezeLatch = true → d.flt.resetAtResume = [] →
        ends (Dev.resumeLinks { d with flt := f }))) ∧
    (off = rUnitrst → bit v 31 = true → ends (d.startReset (if bit v 30 then .cluster (bits v 0 6) else .cell (bits v 0 10)))) ∧
    (∀ x : CellId, off = rInjcmd x.toNat → bit v 0 = true →
      let k := d.injToken x
      let q := d.queueOf x k
      let a := (d.wakeCell x).arrive x (plainQTok k) false false
      (∀ y, a = some y → ends (if y.loaded k.graph then y.cellCreate x k.graph k.colour else y)) ∧
      (a = none → ends ((d.wakeCell x).setSticky (rQovr x.toNat q) (BitVec.ofNat 32 (2 ^ (q % 16)))))) ∧
    (off = rRoutectl → bit v 0 = true → ∃ l, ends { d with fab := { d.fab with cur := !d.fab.cur, retiring := true, drains := l } }) ∧
    (off = rRollctl → bit v 0 = true → ends d.rollStart) ∧
    (off = rFlipctl → bit v 0 = true → ends d.fflipStart) ∧
    (off = rIsodata →
      let n : BitVec 16 := BitVec.ofNat 16 (s.dev.fld rIsoaddr 0 16)
      ends (if bit v 0 then d.isolateNode n else d.releaseNode n)) ∧
    (off = rNodeId → ends { d with fbn := { d.fbn with nodeId := v.setWidth 16, nodeHeld := true } }) ∧
    (∀ p : BitVec 4, off = rFbp p.toNat →
      ends (if bit v 0 then Dev.enableLinks { d with pwr := { d.pwr with shed := d.pwr.shed.erase p.toNat } } p
        else if bit old 0 then d.disableLinks p
        else d)) ∧
    (∀ p : BitVec 4, off = rFbpCmd p.toNat → ends ((d.retrainLinks p (nbits v 4 4)).restartLinks p (nbits v 0 4))) ∧
    (∀ p : BitVec 12, off = rRcfg p.toNat → ends (if !bit old 31 && bit v 31 then d.modPair p fun _ => pairReset else d)) ∧
    (∀ o : BitVec 10, off = rOcfg o.toNat → ends (if !bit old 31 && bit v 31 then d.modOring o fun _ => oringReset else d)) ∧
    (off = rWake → bit v 0 = true →
      let fn : GraphId := if req.toNat < 64 then req.setWidth 6 else 0
      ends { d with hif := { d.hif with wake := if d.hif.wake.contains fn then d.hif.wake else d.hif.wake ++ [fn] } })) ∧
  (∀ (s : State) (req : Requester) (x : CellId) (v : Word), s.dev.hubRuns = true → req.toNat ≤ 64 →
    let d := s.dev.wakeFor (rCel x.toNat)
    let a := s.dev.reg (rAccaddr x.toNat)
    let r := r64 [fAny 0 64]
    (s.dev.unreached false req (rAccdata x.toNat) = none → s.dev.writeRefusal req (rAccdata x.toNat) r v = none →
      exec (.accdataWrite req x v) s = .next { s with
        dev := d.modStore x fun m =>
          if nbits a 30 2 = 0 then { m with im := mset 0 m.im (nbits a 0 14) v }
          else { m with fo := mset 0 m.fo (nbits a 0 14) v } }) ∧
    (s.dev.unreached false req (rEvtdata x.toNat) = none → s.dev.writeRefusal req (rEvtdata x.toNat) r v = none →
      exec (.evtdataWrite req x v) s = .next { s with dev := d.entryWrite x v } ∧
      ∀ t, exec (.evtdataWrite req x v) s = .next t →
        (t.dev.cell x).entry (d.evtGraph x) (d.evtSource x) = v))

/-- The read latch (R416). A read of a cell's register first wakes a retained cluster (R306). -/
def Obligations.HalfReadsUseTheLatch : Prop :=
  ∀ (s : State) (c : Instr) (req : Requester) (off low : Nat) (r : RegSpec),
    Claims.IsRead c req off → Claims.Asks s.dev req off → s.dev.hidden req off = false → s.dev.readFails off = none →
    (s.dev.mgt.ready = true ∨ earlyBlock off = true) → isReadout off = false →
    regSpec low = some r → r.wide = true →
    let d := s.dev.wakeFor off
    let v := d.regVal req low r
    (off = low →
      ∃ m, exec c s = .next { s with
          dev := Dev.emit { d with regs := { d.regs with latch := m } } (.regData req off [bits v 0 32]) } ∧
        mfind m req.toNat = some (low, bits v 32 32) ∧ ∀ k, k ≠ req.toNat → mfind m k = mfind s.dev.regs.latch k) ∧
    (off = low + 4 → off % 8 = 4 → regSpec off = none →
      exec c s = .next { s with
        dev := d.emit (.regData req off [match mfind s.dev.regs.latch req.toNat with
          | some (o, x) => if o = low then x else bits v 32 32
          | none => bits v 32 32]) })

/-- Reads of status registers, reads that fail, reads of doorbells and of configuration space (R384, R393, R410, R424, R427, R429;
the layout of configuration space is PCI Express's, log 25). -/
def Obligations.ClearOnReadClears : Prop :=
  (∀ (s : State) (c : Instr) (req : Requester) (off : Nat), Claims.IsRead c req off → Claims.Asks s.dev req off →
    let seen := s.dev.hidden req off = false ∧ (s.dev.mgt.ready = true ∨ earlyBlock off = true)
    (¬seen → exec c s = .next { s with dev := s.dev.emit (.regData req off [0]) }) ∧
    (∀ code, seen → s.dev.readFails off = some code →
      ∃ l, exec c s = .next { s with
          dev := Dev.emit { s.dev with regs := { s.dev.regs with logs := l } } (.regData req off [BitVec.allOnes 32]) } ∧
        ∀ n, mget accReset l n = if n = req.toNat then Claims.logged (s.dev.log n) req code 0 off 0 else s.dev.log n) ∧
    (∀ r, seen → s.dev.readFails off = none → isReadout off = false → regSpec off = some r → r.isStatus = true →
      r.wide = false →
      let d := s.dev.wakeFor off
      let told : Out := .regData req off [(s.dev.statusReg off) ||| (s.dev.testBits off r).setWidth 32]
      (s.dev.clearsOnRead off r = false → exec c s = .next { s with dev := d.emit told }) ∧
      (s.dev.clearsOnRead off r = true →
        ∃ m, exec c s = .next { s with dev := Dev.emit { d with regs := { d.regs with status := m } } told } ∧
          mget 0 m off = s.dev.statusReg off &&& 0xFF000000 ∧ ∀ k, k ≠ off → mget 0 m k = s.dev.statusReg k))) ∧
  (∀ (s : State) (req : Requester) (sp : Space) (off size : Nat), req.toNat < 64 → s.dev.hubRuns = true →
    (∃ d x, exec (.regReadLowHalf req ⟨sp, off, size⟩) s = .next { s with dev := Dev.emit d (.regData req off x) }) ∧
    exec (.regReadLowHalf req ⟨.config, 0, 4⟩) s = .next (Claims.after s fun d =>
      d.emit (.regData req 0 [if reqFn req = 0 then 0x7A181D9C else 0x7A191D9C]))) ∧
  (∀ (s : State) (req : Requester), req.toNat < 64 → s.dev.hubRuns = true → s.dev.mgt.ready = true →
    (∀ r : BitVec 12, s.dev.pairFn r = reqFn req →
      exec (.regReadLowHalf req ⟨.bar2, (64 * r.toNat), 4⟩) s = .next (Claims.after s fun d =>
        d.emit (.regData req (64 * r.toNat) [(s.dev.pair r).sqHead.setWidth 32])) ∧
      exec (.regReadLowHalf req ⟨.bar2, (64 * r.toNat + 4), 4⟩) s = .next (Claims.after s fun d =>
        d.emit (.regData req (64 * r.toNat + 4) [(s.dev.pair r).cqTail.setWidth 32]))) ∧
    (∀ o : BitVec 10, s.dev.oringFn o.toNat = reqFn req →
      exec (.regReadLowHalf req ⟨.bar2, (0x40000 + 64 * o.toNat), 4⟩) s = .next (Claims.after s fun d =>
        d.emit (.regData req (0x40000 + 64 * o.toNat) [(s.dev.oring o).oTail.setWidth 32]))))

/-! ### Firmware, the test access port, I3C -/

/-- The NV store, the patch, calibration and the watchdogs (R398, R479 to R487). The value of an uncorrectable word is free (log 6). -/
def Obligations.NonVolatileStoreAndPatch : Prop :=
  (∀ (s : State) (r : BitVec 12) (k : Nat) (x : Desc), s.dev.hubRuns = true → Claims.Started s.dev r k x 0x44 →
    firstFailing (nvChecks r x) = none →
    let ws := (List.range (x.nvLen / 8)).map fun i => BitVec.ofNat 64 (s.dev.nvNat (x.nvAddr + 8 * i) 8)
    let told := fun (l : List Word) (d : Dev) => d.emit (.hostWrite (s.dev.pairFn r) (x.w 3) x.nvLen l [])
    (x.isWrite = false →
      (∀ us, us = [] ∨ x.nvLen = 0 → exec (.nvstoreRead r k us) s = .next (Claims.after s fun d =>
        (told ws d).finish r x stOk (BitVec.ofNat 64 x.nvLen))) ∧
      (x.nvLen ≠ 0 →
        exec (.nvstoreRead r k [.corrected]) s = .next (Claims.after s fun d =>
          (told ws (d.fault rMgtErr 0 104 [] [])).finish r x stOk (BitVec.ofNat 64 x.nvLen)) ∧
        exec (.nvstoreRead r k [.uncorrectable]) s = .next (Claims.after s fun _ =>
          (told (s.dev.free.1 :: ws.drop 1) (s.dev.free.2.fault rMgtErr 1 105 [] [])).finish r x stPoisoned
            (BitVec.ofNat 64 x.nvLen)))) ∧
    (∀ h, x.isWrite = true → h.status = .ok → h.poisoned = [] →
      ∃ m, exec (.nvstoreWrite r k h) s = .next (Claims.after s fun d =>
          { d.readHost (d.pairFn r) (x.w 3) x.nvLen .ok false with mgt := { d.mgt with nv := m } }.finish r x stOk
            (BitVec.ofNat 64 x.nvLen)) ∧
        ∀ a, mget 0 m a = if x.nvAddr ≤ a ∧ a < x.nvAddr + x.nvLen then byteAt h.words (a - x.nvAddr) else mget 0 s.dev.mgt.nv a)) ∧
  (∀ (s : State) (r : BitVec 12) (k : Nat) (x : Desc) (h : HostData), s.dev.hubRuns = true → Claims.Started s.dev r k x 0x43 →
    firstFailing (headChecks r x true [lowMask 32, allBits]) = none → h.status = .ok → h.poisoned = [] →
    let len := nbits (x.w 1) 0 32
    let bs := bytesOf h.words (min len 524288)
    let d := s.dev.readHost (s.dev.pairFn r) (x.w 2) len .ok false
    (∀ st, patchStatus bs len = some st → exec (.fwpatch r k h) s = .next { s with dev := d.finish r x st 0 }) ∧
    (patchStatus bs len = none →
      let half := s.dev.liveHalf = some false
      let at_ := 0x200000 + if half then 0x80000 else 0
      ∃ m, exec (.fwpatch r k h) s = .next { s with
          dev := { d with mgt := { d.mgt with nv := m, stored := BitVec.ofNat 16 (leAt bs 0xC 2) } }.finish r x stOk 0 } ∧
        (∀ i, i < len → mget 0 m (at_ + i) = bs.getD i 0) ∧
        leNat (mget 0 m) (at_ + 0x7FFF8) 8 =
          0x100000000 + (s.dev.generation (decide ¬half) + 1) % 2 ^ 32 ∧
        ∀ a, ¬(at_ ≤ a ∧ a < at_ + 0x80000) → mget 0 m a = mget 0 s.dev.mgt.nv a)) ∧
  (∀ (s : State) (r : BitVec 12) (k : Nat) (x : Desc), s.dev.diesStop = false → Claims.Started s.dev r k x 0x45 →
    firstFailing (headChecks r x true []) = none → (∀ g ∈ s.dev.graphs, g.2.launched = true → g.2.complete = true) →
    ∃ t, exec (.restoreFactory r k) s = .next t ∧ t.hbm = s.hbm ∧ t.pending = s.pending ∧ t.dev.mgt.calUser = 0 ∧
      t.dev.mgt.cal = [] ∧ t.dev.mgt.restoring = true ∧
      ∀ e, e ∈ t.dev.mgt.nv ↔ e ∈ s.dev.mgt.nv ∧ ¬(0x100000 ≤ e.1 ∧ e.1 < 0x200000)) ∧
  (∀ (s : State) (core : Bool), s.dev.hubRuns = true →
    exec (.mgtWdog core) s = .next (Claims.after s fun d =>
      let keep : Byte := if core then 0x0F else 0xF0
      let pend : BitVec 12 := if core then 0x03F else 0xFC0
      Dev.fault { d with mgt := { d.mgt with pupDepth := d.mgt.pupDepth &&& keep, pupPend := d.mgt.pupPend &&& pend } } rMgtErr
        3 107 [] []))

namespace Sys2Proof.Claims

/-- An instruction stands in the instruction register, and bits are shifted out. -/
def scanned (ir : Byte) (l : List Bool) (d : Dev) : Dev :=
  { d with tap := { d.tap with ir := ir }, out := d.out ++ [.tdo l] }

/-- Bytes answered on the I3C bus. -/
def i3cTells (l : List Byte) (d : Dev) : Dev := { d with out := d.out ++ [.i3c l] }

end Sys2Proof.Claims

/-- The test access port (R454, R458, R461; log 14) and the I3C target (R489, R490). GETSTATUS, GETMRL and the maximum read length
are the model's (log 13). -/
def Obligations.TestPortAndI3cTargetAnswer : Prop :=
  (∀ s : State,
    let f := { s.dev.flt with freezeLatch := false }
    let boundary := (List.range 96).map s.dev.tap.boundary.getLsbD
    let id : BitVec 32 := bits Config.stepping 0 4 ++ (0x7A18 : BitVec 16) ++ (0x557 : BitVec 11) ++ (1 : BitVec 1)
    exec .extest s = .next (Claims.after s (Claims.scanned 0x00 boundary)) ∧
    (∀ pins, exec (.samplePreload pins) s = .next (Claims.after s fun d =>
      Claims.scanned 0x01 ((List.range 96).map pins.getLsbD) { d with tap := { d.tap with boundary := pins } })) ∧
    exec .idcode s = .next (Claims.after s (Claims.scanned 0x02 ((List.range 32).map id.getLsbD))) ∧
    exec .bypass s = .next (Claims.after s (Claims.scanned 0xFF [false])) ∧
    (∀ v, exec (.rosel v) s = .next (Claims.after s fun d => { d with tap := { d.tap with ir := 0x0A, rosel := v } })) ∧
    (∀ n, exec (.rodata n) s = .next (Claims.after s (Claims.scanned 0x0B ((List.range n).map fun i =>
      let sel := s.dev.tap.rosel
      if s.dev.frozen then
        (s.dev.spaceByte (nbits sel 60 4) (nbits sel 48 10) (nbits sel 0 32 + i / 8) true).getLsbD (i % 8)
      else true)))) ∧
    (∀ n, ∃ t l, exec (.ijtag n) s = .next t ∧ l.length = n ∧ t.hbm = s.hbm ∧ t.pending = s.pending ∧
      t.dev = { Claims.scanned 0x10 l s.dev with freeCtr := t.dev.freeCtr }) ∧
    exec .trstN s = .next (Claims.after s fun d => { d with tap := { d.tap with ir := 0x02 } }) ∧
    exec .tapFreeze s = .next (Claims.after s fun d =>
      Claims.scanned 0x08 [false] { d with flt := { d.flt with freezeLatch := d.flt.freezeLatch || !d.pwr.off } }) ∧
    (s.dev.flt.freezePinLow = true ∨ s.dev.flt.clockLatch = true ∨ s.dev.flt.freezeLatch = false →
      exec .tapResume s = .next (Claims.after s fun d => (Claims.scanned 0x09 [false] { d with flt := f }).drainTlps)) ∧
    (s.dev.flt.freezePinLow = false → s.dev.flt.clockLatch = false → s.dev.flt.freezeLatch = true →
      s.dev.flt.resetAtResume = [] →
      exec .tapResume s = .next (Claims.after s fun d =>
        (Dev.resumeLinks (Claims.scanned 0x09 [false] { d with flt := f })).drainTlps))) ∧
  (∀ s : State,
    let addr := fun (a : Option (BitVec 7)) (d : Dev) => { d with mgt := { d.mgt with da := a } }
    let ibi := fun (b : Bool) => Claims.after s fun d => { d with mgt := { d.mgt with ibi := b } }
    let slot := s.dev.fbn.slot
    let pid : List Byte :=
      [0x05, 0x8E, 0x7A, 0x18, (0 : BitVec 4) ++ bits slot 4 4, bits slot 0 4 ++ (0 : BitVec 4)]
    let gets : List (Instr × List Byte) := [(.getpid, pid), (.getbcr, [0x06]), (.getdcr, [0x00]), (.getstatus, [0, 0]),
      (.getmrl, [bits s.dev.mgt.mrl 8 8, bits s.dev.mgt.mrl 0 8, 1])]
    (s.dev.mgt.da = none →
      (∀ a, exec (.entdaa a) s = .next (Claims.after s fun d => Claims.i3cTells (pid ++ [0x06, 0x00]) (addr (some a) d)) ∧
        exec (.setdasa a) s = .next (Claims.after s (addr (some a))) ∧ exec (.setnewda a) s = .next s) ∧
      ∀ g ∈ gets, exec g.1 s = .next s) ∧
    (∀ b, s.dev.mgt.da = some b →
      (∀ a, exec (.entdaa a) s = .next s ∧ exec (.setdasa a) s = .next s ∧
        exec (.setnewda a) s = .next (Claims.after s (addr (some a)))) ∧
      ∀ g ∈ gets, exec g.1 s = .next (Claims.after s (Claims.i3cTells g.2))) ∧
    exec .rstdaa s = .next (Claims.after s (addr none)) ∧ exec .enec s = .next (ibi true) ∧ exec .disec s = .next (ibi false) ∧
    (∀ n, exec (.setmrl n) s = .next (Claims.after s fun d => { d with mgt := { d.mgt with mrl := n } })) ∧
    (∀ p l, exec (.i3cPointerWrite (p :: l)) s = .next (Claims.after s fun d => { d with mgt := { d.mgt with ptr := p } })) ∧
    exec (.i3cPointerWrite []) s = .next s ∧
    ∀ n, ∃ l, exec (.i3cTelemetryRead n) s = .next (Claims.after s (Claims.i3cTells l)) ∧ l.length = n ∧
      ∀ i, i < n →
        let a := (s.dev.mgt.ptr.toNat + i) % 256
        (a < 4 → l[i]? = some (BitVec.ofNat 8 (0x1D9C7A18 / 256 ^ a))) ∧
        (4 ≤ a → a < 8 → l[i]? = some (BitVec.ofNat 8 (s.dev.glbStatus.toNat / 256 ^ (a - 4)))) ∧
        (0x30 ≤ a → l[i]? = some 0))
end

