-- ==== Sys2Proof/Laws/Map.lean ====
section
/-! SUPPORT. Sparse tables: a read after a write, and the canonical form that every write keeps. -/

-- Proofs are elaborated one after another: side by side they take more memory and more time.
set_option Elab.async false

namespace Sys2Proof.Machine

/-- A bound may be lowered. -/
theorem mwf_mono {α : Type} [DecidableEq α] (d : α) :
    ∀ (m : Map α) (lo lo' : Nat), mwf d lo m = true → lo' ≤ lo → mwf d lo' m = true
  | [], _, _, _, _ => rfl
  | (k, v) :: m, lo, lo', h, hl => by
    simp only [mwf, Bool.and_eq_true, decide_eq_true_eq] at h ⊢
    exact ⟨⟨by omega, h.1.2⟩, h.2⟩

/-- Above its bound a table in canonical form has nothing to drop. -/
theorem mdrop_of_mwf {α : Type} [DecidableEq α] (d : α) (i : Nat) :
    ∀ (m : Map α), mwf d (i + 1) m = true → mdrop i m = m
  | [], _ => rfl
  | (k, v) :: m, h => by
    simp only [mwf, Bool.and_eq_true, decide_eq_true_eq] at h
    simp only [mdrop]
    rw [if_neg (by omega)]

/-- A write keeps the canonical form. -/
theorem mset_mwf {α : Type} [DecidableEq α] (d : α) :
    ∀ (m : Map α) (lo i : Nat) (v : α), mwf d lo m = true → lo ≤ i → mwf d lo (mset d m i v) = true
  | [], lo, i, v, _, hi => by
    simp only [mset]
    split
    · rfl
    · simp [mwf, *]
  | (k, w) :: m, lo, i, v, h, hi => by
    have h' := h
    simp only [mwf, Bool.and_eq_true, decide_eq_true_eq] at h'
    simp only [mset]
    split
    · split
      · exact h
      · simp only [mwf, Bool.and_eq_true, decide_eq_true_eq]
        exact ⟨⟨hi, ‹_›⟩, ⟨by omega, h'.1.2⟩, h'.2⟩
    · split
      · subst i
        split
        · rw [mdrop_of_mwf d k m h'.2]
          exact mwf_mono d m _ _ h'.2 (by omega)
        · simp only [mwf, Bool.and_eq_true, decide_eq_true_eq]
          exact ⟨⟨hi, ‹_›⟩, h'.2⟩
      · simp only [mwf, Bool.and_eq_true, decide_eq_true_eq]
        exact ⟨h'.1, mset_mwf d m _ _ _ h'.2 (by omega)⟩

theorem mget_mdrop_self {α : Type} (d : α) (i : Nat) : ∀ m : Map α, mget d (mdrop i m) i = d
  | [] => rfl
  | (k, v) :: m => by
    simp only [mdrop]
    split
    · exact mget_mdrop_self d i m
    · simp only [mget]
      rw [if_neg (by omega), if_pos (by omega)]

theorem mget_mdrop_above {α : Type} (d : α) (i j : Nat) (h : i < j) : ∀ m : Map α, mget d (mdrop i m) j = mget d m j
  | [] => rfl
  | (k, v) :: m => by
    simp only [mdrop]
    split
    · simp only [mget]
      rw [if_neg (by omega), if_neg (by omega)]
      exact mget_mdrop_above d i j h m
    · rfl

theorem mget_mdrop_below {α : Type} (d : α) (i j : Nat) (h : j < i) : ∀ m : Map α, mget d (mdrop i m) j = d
  | [] => rfl
  | (k, v) :: m => by
    simp only [mdrop]
    split
    · exact mget_mdrop_below d i j h m
    · simp only [mget]
      rw [if_neg (by omega), if_pos (by omega)]

/-- The key written reads as the value written, and every other key as before, whatever the table. -/
theorem mget_mset {α : Type} [DecidableEq α] (d : α) :
    ∀ (m : Map α) (i j : Nat) (v : α), mget d (mset d m i v) j = if j = i then v else mget d m j
  | [], i, j, v => by
    simp only [mset]
    split
    · simp [mget, *]
    · by_cases hj : j = i
      · simp [mget, hj]
      · simp only [mget]
        rw [if_neg (by omega)]
        simp [hj]
  | (k, w) :: m, i, j, v => by
    simp only [mset]
    split
    · split
      · by_cases hj : j = i
        · subst hj
          simp only [mget]
          rw [if_neg (by omega), if_pos (by omega)]
          simp [*]
        · simp [hj]
      · by_cases hj : j = i
        · simp [mget, hj]
        · simp only [mget, if_neg hj]
          rw [if_neg (by omega)]
          split
          · rw [if_neg (by omega), if_pos (by omega)]
          · rfl
    · split
      · subst i
        split
        · by_cases hj : j = k
          · subst hj
            rw [mget_mdrop_self]
            simp [*]
          · have hk : ¬ k = j := by omega
            simp only [mget, if_neg hj, if_neg hk]
            split
            · exact mget_mdrop_below d k j ‹_› m
            · exact mget_mdrop_above d k j (by omega) m
        · by_cases hj : j = k
          · simp [mget, hj]
          · have hk : ¬ k = j := by omega
            simp [mget, hj, hk]
      · have ih := mget_mset d m i j v
        simp only [mget]
        by_cases hj : j = i
        · subst hj
          rw [if_neg (by omega), if_neg (by omega), ih]
          simp
        · rw [ih]
          simp [hj]

/-- A write is read back. -/
@[simp] theorem mget_mset_self {α : Type} [DecidableEq α] (d : α) (m : Map α) (i : Nat) (v : α) :
    mget d (mset d m i v) i = v := by simp [mget_mset]

/-- Every other key reads as before. -/
theorem mget_mset_ne {α : Type} [DecidableEq α] (d : α) (m : Map α) {i j : Nat} (v : α) (h : j ≠ i) :
    mget d (mset d m i v) j = mget d m j := by simp [mget_mset, h]

/-- A table in canonical form with the entries that fail a test removed keeps the form. -/
theorem filter_mwf {α : Type} [DecidableEq α] (d : α) (p : Nat × α → Bool) :
    ∀ (m : Map α) (lo : Nat), mwf d lo m = true → mwf d lo (m.filter p) = true
  | [], _, _ => rfl
  | (k, v) :: m, lo, h => by
    have h' := h
    simp only [mwf, Bool.and_eq_true, decide_eq_true_eq] at h'
    simp only [List.filter_cons]
    split
    · simp only [mwf, Bool.and_eq_true, decide_eq_true_eq]
      exact ⟨h'.1, filter_mwf d p m _ h'.2⟩
    · exact mwf_mono d _ _ _ (filter_mwf d p m _ h'.2) (by omega)

/-! ### Tables of options -/

/-- The entry just listed is the one found. -/
@[simp] theorem mfind_minsert_self {α : Type} :
    ∀ (m : Map α) (i : Nat) (v : α), mfind (minsert m i v) i = some v
  | [], i, v => by simp [minsert, mfind]
  | (k, w) :: m, i, v => by
    simp only [minsert]
    split
    · simp [mfind]
    · split
      · simp [mfind]
      · simp only [mfind]
        rw [if_neg (by omega), if_neg (by omega)]
        exact mfind_minsert_self m i v

/-- Every other entry is found as before. -/
theorem mfind_minsert_ne {α : Type} :
    ∀ (m : Map α) (i j : Nat) (v : α), j ≠ i → mfind (minsert m i v) j = mfind m j
  | [], i, j, v, hj => by
    simp only [minsert, mfind]
    rw [if_neg (by omega)]
    simp
  | (k, w) :: m, i, j, v, hj => by
    simp only [minsert]
    split
    · simp only [mfind]
      rw [if_neg (by omega)]
      split
      · split
        · omega
        · split
          · rfl
          · omega
      · rfl
    · split
      · subst i
        simp only [mfind]
        rw [if_neg (by omega), if_neg (by omega : ¬ k = j)]
      · simp only [mfind]
        rw [mfind_minsert_ne m i j v hj]

theorem mfind_mdrop_self {α : Type} (i : Nat) : ∀ m : Map α, mfind (mdrop i m) i = none
  | [] => rfl
  | (k, v) :: m => by
    simp only [mdrop]
    split
    · exact mfind_mdrop_self i m
    · simp only [mfind]
      rw [if_neg (by omega), if_pos (by omega)]

/-- An entry removed is not found. -/
@[simp] theorem mfind_merase_self {α : Type} : ∀ (m : Map α) (i : Nat), mfind (merase m i) i = none
  | [], _ => rfl
  | (k, v) :: m, i => by
    simp only [merase]
    split
    · simp only [mfind]
      rw [if_neg (by omega), if_pos (by omega)]
    · split
      · exact mfind_mdrop_self i m
      · simp only [mfind]
        rw [if_neg (by omega), if_neg (by omega)]
        exact mfind_merase_self m i

/-- A read is what is found, or the default. -/
theorem mget_eq_mfind {α : Type} (d : α) : ∀ (m : Map α) (i : Nat), mget d m i = (mfind m i).getD d
  | [], _ => rfl
  | (k, v) :: m, i => by
    simp only [mget, mfind]
    split
    · rfl
    · split
      · rfl
      · exact mget_eq_mfind d m i

theorem mfind_mdrop_above {α : Type} (i j : Nat) (h : i < j) : ∀ m : Map α, mfind (mdrop i m) j = mfind m j
  | [] => rfl
  | (k, v) :: m => by
    simp only [mdrop]
    split
    · simp only [mfind]
      rw [if_neg (by omega), if_neg (by omega)]
      exact mfind_mdrop_above i j h m
    · rfl

theorem mfind_mdrop_below {α : Type} (i j : Nat) (h : j < i) : ∀ m : Map α, mfind (mdrop i m) j = none
  | [] => rfl
  | (k, v) :: m => by
    simp only [mdrop]
    split
    · exact mfind_mdrop_below i j h m
    · simp only [mfind]
      rw [if_neg (by omega), if_pos (by omega)]

/-- A write leaves every other key as it is found. -/
theorem mfind_mset_ne {α : Type} [DecidableEq α] (d : α) :
    ∀ (m : Map α) (i j : Nat) (v : α), j ≠ i → mfind (mset d m i v) j = mfind m j
  | [], i, j, v, hj => by
    simp only [mset]
    split
    · rfl
    · simp only [mfind]
      rw [if_neg (by omega)]
      simp
  | (k, w) :: m, i, j, v, hj => by
    simp only [mset]
    split
    · split
      · rfl
      · simp only [mfind]
        rw [if_neg (by omega)]
        split
        · rw [if_neg (by omega), if_pos (by omega)]
        · rfl
    · split
      · subst i
        have hk : ¬ k = j := by omega
        split
        · simp only [mfind, if_neg hk]
          split
          · exact mfind_mdrop_below k j ‹_› m
          · exact mfind_mdrop_above k j (by omega) m
        · simp only [mfind, if_neg hk]
      · simp only [mfind]
        rw [mfind_mset_ne d m i j v hj]

/-- A write leaves every other key as it reads, whatever each key reads by default. -/
theorem mget_mset_other {α : Type} [DecidableEq α] (d e : α) (m : Map α) {i j : Nat} (v : α) (h : j ≠ i) :
    mget e (mset d m i v) j = mget e m j := by
  rw [mget_eq_mfind, mget_eq_mfind, mfind_mset_ne d m i j v h]

end Sys2Proof.Machine
end

