-- ==== Sys2Proof/Laws/State.lean ====
section
/-! SUPPORT. What each update of the device leaves as it was, field by field, so that no later proof unfolds a record
update. -/

-- Proofs are elaborated one after another: side by side they take more memory and more time.
set_option Elab.async false

namespace Sys2Proof.Machine

/-! ### emit changes `out` alone -/

@[simp] theorem Dev.emit_clock (d : Dev) (o : Out) : (d.emit o).clock = d.clock := rfl
@[simp] theorem Dev.emit_regs (d : Dev) (o : Out) : (d.emit o).regs = d.regs := rfl
@[simp] theorem Dev.emit_cells (d : Dev) (o : Out) : (d.emit o).cells = d.cells := rfl
@[simp] theorem Dev.emit_stks (d : Dev) (o : Out) : (d.emit o).stks = d.stks := rfl
@[simp] theorem Dev.emit_yoyos (d : Dev) (o : Out) : (d.emit o).yoyos = d.yoyos := rfl
@[simp] theorem Dev.emit_fab (d : Dev) (o : Out) : (d.emit o).fab = d.fab := rfl
@[simp] theorem Dev.emit_links (d : Dev) (o : Out) : (d.emit o).links = d.links := rfl
@[simp] theorem Dev.emit_lsym (d : Dev) (o : Out) : (d.emit o).lsym = d.lsym := rfl
@[simp] theorem Dev.emit_symTimes (d : Dev) (o : Out) : (d.emit o).symTimes = d.symTimes := rfl
@[simp] theorem Dev.emit_fbn (d : Dev) (o : Out) : (d.emit o).fbn = d.fbn := rfl
@[simp] theorem Dev.emit_hif (d : Dev) (o : Out) : (d.emit o).hif = d.hif := rfl
@[simp] theorem Dev.emit_graphs (d : Dev) (o : Out) : (d.emit o).graphs = d.graphs := rfl
@[simp] theorem Dev.emit_flt (d : Dev) (o : Out) : (d.emit o).flt = d.flt := rfl
@[simp] theorem Dev.emit_pwr (d : Dev) (o : Out) : (d.emit o).pwr = d.pwr := rfl
@[simp] theorem Dev.emit_mgt (d : Dev) (o : Out) : (d.emit o).mgt = d.mgt := rfl
@[simp] theorem Dev.emit_tap (d : Dev) (o : Out) : (d.emit o).tap = d.tap := rfl
@[simp] theorem Dev.emit_kal (d : Dev) (o : Out) : (d.emit o).kal = d.kal := rfl
@[simp] theorem Dev.emit_uct (d : Dev) (o : Out) : (d.emit o).uct = d.uct := rfl
@[simp] theorem Dev.emit_rgnInit (d : Dev) (o : Out) : (d.emit o).rgnInit = d.rgnInit := rfl
@[simp] theorem Dev.emit_freeCtr (d : Dev) (o : Out) : (d.emit o).freeCtr = d.freeCtr := rfl

/-! ### setReg changes `regs` alone -/

@[simp] theorem Dev.setReg_out (d : Dev) (k : Nat) (v : Word) : (d.setReg k v).out = d.out := rfl
@[simp] theorem Dev.setReg_clock (d : Dev) (k : Nat) (v : Word) : (d.setReg k v).clock = d.clock := rfl
@[simp] theorem Dev.setReg_cells (d : Dev) (k : Nat) (v : Word) : (d.setReg k v).cells = d.cells := rfl
@[simp] theorem Dev.setReg_stks (d : Dev) (k : Nat) (v : Word) : (d.setReg k v).stks = d.stks := rfl
@[simp] theorem Dev.setReg_yoyos (d : Dev) (k : Nat) (v : Word) : (d.setReg k v).yoyos = d.yoyos := rfl
@[simp] theorem Dev.setReg_fab (d : Dev) (k : Nat) (v : Word) : (d.setReg k v).fab = d.fab := rfl
@[simp] theorem Dev.setReg_links (d : Dev) (k : Nat) (v : Word) : (d.setReg k v).links = d.links := rfl
@[simp] theorem Dev.setReg_lsym (d : Dev) (k : Nat) (v : Word) : (d.setReg k v).lsym = d.lsym := rfl
@[simp] theorem Dev.setReg_symTimes (d : Dev) (k : Nat) (v : Word) : (d.setReg k v).symTimes = d.symTimes := rfl
@[simp] theorem Dev.setReg_fbn (d : Dev) (k : Nat) (v : Word) : (d.setReg k v).fbn = d.fbn := rfl
@[simp] theorem Dev.setReg_hif (d : Dev) (k : Nat) (v : Word) : (d.setReg k v).hif = d.hif := rfl
@[simp] theorem Dev.setReg_graphs (d : Dev) (k : Nat) (v : Word) : (d.setReg k v).graphs = d.graphs := rfl
@[simp] theorem Dev.setReg_flt (d : Dev) (k : Nat) (v : Word) : (d.setReg k v).flt = d.flt := rfl
@[simp] theorem Dev.setReg_pwr (d : Dev) (k : Nat) (v : Word) : (d.setReg k v).pwr = d.pwr := rfl
@[simp] theorem Dev.setReg_mgt (d : Dev) (k : Nat) (v : Word) : (d.setReg k v).mgt = d.mgt := rfl
@[simp] theorem Dev.setReg_tap (d : Dev) (k : Nat) (v : Word) : (d.setReg k v).tap = d.tap := rfl
@[simp] theorem Dev.setReg_kal (d : Dev) (k : Nat) (v : Word) : (d.setReg k v).kal = d.kal := rfl
@[simp] theorem Dev.setReg_uct (d : Dev) (k : Nat) (v : Word) : (d.setReg k v).uct = d.uct := rfl
@[simp] theorem Dev.setReg_rgnInit (d : Dev) (k : Nat) (v : Word) : (d.setReg k v).rgnInit = d.rgnInit := rfl
@[simp] theorem Dev.setReg_freeCtr (d : Dev) (k : Nat) (v : Word) : (d.setReg k v).freeCtr = d.freeCtr := rfl

/-! ### setCell changes `cells` alone -/

@[simp] theorem Dev.setCell_out (d : Dev) (c : CellId) (x : Cell) : (d.setCell c x).out = d.out := rfl
@[simp] theorem Dev.setCell_clock (d : Dev) (c : CellId) (x : Cell) : (d.setCell c x).clock = d.clock := rfl
@[simp] theorem Dev.setCell_regs (d : Dev) (c : CellId) (x : Cell) : (d.setCell c x).regs = d.regs := rfl
@[simp] theorem Dev.setCell_stks (d : Dev) (c : CellId) (x : Cell) : (d.setCell c x).stks = d.stks := rfl
@[simp] theorem Dev.setCell_yoyos (d : Dev) (c : CellId) (x : Cell) : (d.setCell c x).yoyos = d.yoyos := rfl
@[simp] theorem Dev.setCell_fab (d : Dev) (c : CellId) (x : Cell) : (d.setCell c x).fab = d.fab := rfl
@[simp] theorem Dev.setCell_links (d : Dev) (c : CellId) (x : Cell) : (d.setCell c x).links = d.links := rfl
@[simp] theorem Dev.setCell_lsym (d : Dev) (c : CellId) (x : Cell) : (d.setCell c x).lsym = d.lsym := rfl
@[simp] theorem Dev.setCell_symTimes (d : Dev) (c : CellId) (x : Cell) : (d.setCell c x).symTimes = d.symTimes := rfl
@[simp] theorem Dev.setCell_fbn (d : Dev) (c : CellId) (x : Cell) : (d.setCell c x).fbn = d.fbn := rfl
@[simp] theorem Dev.setCell_hif (d : Dev) (c : CellId) (x : Cell) : (d.setCell c x).hif = d.hif := rfl
@[simp] theorem Dev.setCell_graphs (d : Dev) (c : CellId) (x : Cell) : (d.setCell c x).graphs = d.graphs := rfl
@[simp] theorem Dev.setCell_flt (d : Dev) (c : CellId) (x : Cell) : (d.setCell c x).flt = d.flt := rfl
@[simp] theorem Dev.setCell_pwr (d : Dev) (c : CellId) (x : Cell) : (d.setCell c x).pwr = d.pwr := rfl
@[simp] theorem Dev.setCell_mgt (d : Dev) (c : CellId) (x : Cell) : (d.setCell c x).mgt = d.mgt := rfl
@[simp] theorem Dev.setCell_tap (d : Dev) (c : CellId) (x : Cell) : (d.setCell c x).tap = d.tap := rfl
@[simp] theorem Dev.setCell_kal (d : Dev) (c : CellId) (x : Cell) : (d.setCell c x).kal = d.kal := rfl
@[simp] theorem Dev.setCell_uct (d : Dev) (c : CellId) (x : Cell) : (d.setCell c x).uct = d.uct := rfl
@[simp] theorem Dev.setCell_rgnInit (d : Dev) (c : CellId) (x : Cell) : (d.setCell c x).rgnInit = d.rgnInit := rfl
@[simp] theorem Dev.setCell_freeCtr (d : Dev) (c : CellId) (x : Cell) : (d.setCell c x).freeCtr = d.freeCtr := rfl

/-! ### modCell changes `cells` alone -/

@[simp] theorem Dev.modCell_out (d : Dev) (c : CellId) (f : Cell → Cell) : (d.modCell c f).out = d.out := rfl
@[simp] theorem Dev.modCell_clock (d : Dev) (c : CellId) (f : Cell → Cell) : (d.modCell c f).clock = d.clock := rfl
@[simp] theorem Dev.modCell_regs (d : Dev) (c : CellId) (f : Cell → Cell) : (d.modCell c f).regs = d.regs := rfl
@[simp] theorem Dev.modCell_stks (d : Dev) (c : CellId) (f : Cell → Cell) : (d.modCell c f).stks = d.stks := rfl
@[simp] theorem Dev.modCell_yoyos (d : Dev) (c : CellId) (f : Cell → Cell) : (d.modCell c f).yoyos = d.yoyos := rfl
@[simp] theorem Dev.modCell_fab (d : Dev) (c : CellId) (f : Cell → Cell) : (d.modCell c f).fab = d.fab := rfl
@[simp] theorem Dev.modCell_links (d : Dev) (c : CellId) (f : Cell → Cell) : (d.modCell c f).links = d.links := rfl
@[simp] theorem Dev.modCell_lsym (d : Dev) (c : CellId) (f : Cell → Cell) : (d.modCell c f).lsym = d.lsym := rfl
@[simp] theorem Dev.modCell_symTimes (d : Dev) (c : CellId) (f : Cell → Cell) : (d.modCell c f).symTimes = d.symTimes := rfl
@[simp] theorem Dev.modCell_fbn (d : Dev) (c : CellId) (f : Cell → Cell) : (d.modCell c f).fbn = d.fbn := rfl
@[simp] theorem Dev.modCell_hif (d : Dev) (c : CellId) (f : Cell → Cell) : (d.modCell c f).hif = d.hif := rfl
@[simp] theorem Dev.modCell_graphs (d : Dev) (c : CellId) (f : Cell → Cell) : (d.modCell c f).graphs = d.graphs := rfl
@[simp] theorem Dev.modCell_flt (d : Dev) (c : CellId) (f : Cell → Cell) : (d.modCell c f).flt = d.flt := rfl
@[simp] theorem Dev.modCell_pwr (d : Dev) (c : CellId) (f : Cell → Cell) : (d.modCell c f).pwr = d.pwr := rfl
@[simp] theorem Dev.modCell_mgt (d : Dev) (c : CellId) (f : Cell → Cell) : (d.modCell c f).mgt = d.mgt := rfl
@[simp] theorem Dev.modCell_tap (d : Dev) (c : CellId) (f : Cell → Cell) : (d.modCell c f).tap = d.tap := rfl
@[simp] theorem Dev.modCell_kal (d : Dev) (c : CellId) (f : Cell → Cell) : (d.modCell c f).kal = d.kal := rfl
@[simp] theorem Dev.modCell_uct (d : Dev) (c : CellId) (f : Cell → Cell) : (d.modCell c f).uct = d.uct := rfl
@[simp] theorem Dev.modCell_rgnInit (d : Dev) (c : CellId) (f : Cell → Cell) : (d.modCell c f).rgnInit = d.rgnInit := rfl
@[simp] theorem Dev.modCell_freeCtr (d : Dev) (c : CellId) (f : Cell → Cell) : (d.modCell c f).freeCtr = d.freeCtr := rfl

/-! ### modStore changes `cells` alone -/

@[simp] theorem Dev.modStore_out (d : Dev) (c : CellId) (f : CellStore → CellStore) : (d.modStore c f).out = d.out := rfl
@[simp] theorem Dev.modStore_clock (d : Dev) (c : CellId) (f : CellStore → CellStore) : (d.modStore c f).clock = d.clock := rfl
@[simp] theorem Dev.modStore_regs (d : Dev) (c : CellId) (f : CellStore → CellStore) : (d.modStore c f).regs = d.regs := rfl
@[simp] theorem Dev.modStore_stks (d : Dev) (c : CellId) (f : CellStore → CellStore) : (d.modStore c f).stks = d.stks := rfl
@[simp] theorem Dev.modStore_yoyos (d : Dev) (c : CellId) (f : CellStore → CellStore) : (d.modStore c f).yoyos = d.yoyos := rfl
@[simp] theorem Dev.modStore_fab (d : Dev) (c : CellId) (f : CellStore → CellStore) : (d.modStore c f).fab = d.fab := rfl
@[simp] theorem Dev.modStore_links (d : Dev) (c : CellId) (f : CellStore → CellStore) : (d.modStore c f).links = d.links := rfl
@[simp] theorem Dev.modStore_lsym (d : Dev) (c : CellId) (f : CellStore → CellStore) : (d.modStore c f).lsym = d.lsym := rfl
@[simp] theorem Dev.modStore_symTimes (d : Dev) (c : CellId) (f : CellStore → CellStore) : (d.modStore c f).symTimes = d.symTimes := rfl
@[simp] theorem Dev.modStore_fbn (d : Dev) (c : CellId) (f : CellStore → CellStore) : (d.modStore c f).fbn = d.fbn := rfl
@[simp] theorem Dev.modStore_hif (d : Dev) (c : CellId) (f : CellStore → CellStore) : (d.modStore c f).hif = d.hif := rfl
@[simp] theorem Dev.modStore_graphs (d : Dev) (c : CellId) (f : CellStore → CellStore) : (d.modStore c f).graphs = d.graphs := rfl
@[simp] theorem Dev.modStore_flt (d : Dev) (c : CellId) (f : CellStore → CellStore) : (d.modStore c f).flt = d.flt := rfl
@[simp] theorem Dev.modStore_pwr (d : Dev) (c : CellId) (f : CellStore → CellStore) : (d.modStore c f).pwr = d.pwr := rfl
@[simp] theorem Dev.modStore_mgt (d : Dev) (c : CellId) (f : CellStore → CellStore) : (d.modStore c f).mgt = d.mgt := rfl
@[simp] theorem Dev.modStore_tap (d : Dev) (c : CellId) (f : CellStore → CellStore) : (d.modStore c f).tap = d.tap := rfl
@[simp] theorem Dev.modStore_kal (d : Dev) (c : CellId) (f : CellStore → CellStore) : (d.modStore c f).kal = d.kal := rfl
@[simp] theorem Dev.modStore_uct (d : Dev) (c : CellId) (f : CellStore → CellStore) : (d.modStore c f).uct = d.uct := rfl
@[simp] theorem Dev.modStore_rgnInit (d : Dev) (c : CellId) (f : CellStore → CellStore) : (d.modStore c f).rgnInit = d.rgnInit := rfl
@[simp] theorem Dev.modStore_freeCtr (d : Dev) (c : CellId) (f : CellStore → CellStore) : (d.modStore c f).freeCtr = d.freeCtr := rfl

/-! ### modPipe changes `cells` alone -/

@[simp] theorem Dev.modPipe_out (d : Dev) (c : CellId) (f : CellPipe → CellPipe) : (d.modPipe c f).out = d.out := rfl
@[simp] theorem Dev.modPipe_clock (d : Dev) (c : CellId) (f : CellPipe → CellPipe) : (d.modPipe c f).clock = d.clock := rfl
@[simp] theorem Dev.modPipe_regs (d : Dev) (c : CellId) (f : CellPipe → CellPipe) : (d.modPipe c f).regs = d.regs := rfl
@[simp] theorem Dev.modPipe_stks (d : Dev) (c : CellId) (f : CellPipe → CellPipe) : (d.modPipe c f).stks = d.stks := rfl
@[simp] theorem Dev.modPipe_yoyos (d : Dev) (c : CellId) (f : CellPipe → CellPipe) : (d.modPipe c f).yoyos = d.yoyos := rfl
@[simp] theorem Dev.modPipe_fab (d : Dev) (c : CellId) (f : CellPipe → CellPipe) : (d.modPipe c f).fab = d.fab := rfl
@[simp] theorem Dev.modPipe_links (d : Dev) (c : CellId) (f : CellPipe → CellPipe) : (d.modPipe c f).links = d.links := rfl
@[simp] theorem Dev.modPipe_lsym (d : Dev) (c : CellId) (f : CellPipe → CellPipe) : (d.modPipe c f).lsym = d.lsym := rfl
@[simp] theorem Dev.modPipe_symTimes (d : Dev) (c : CellId) (f : CellPipe → CellPipe) : (d.modPipe c f).symTimes = d.symTimes := rfl
@[simp] theorem Dev.modPipe_fbn (d : Dev) (c : CellId) (f : CellPipe → CellPipe) : (d.modPipe c f).fbn = d.fbn := rfl
@[simp] theorem Dev.modPipe_hif (d : Dev) (c : CellId) (f : CellPipe → CellPipe) : (d.modPipe c f).hif = d.hif := rfl
@[simp] theorem Dev.modPipe_graphs (d : Dev) (c : CellId) (f : CellPipe → CellPipe) : (d.modPipe c f).graphs = d.graphs := rfl
@[simp] theorem Dev.modPipe_flt (d : Dev) (c : CellId) (f : CellPipe → CellPipe) : (d.modPipe c f).flt = d.flt := rfl
@[simp] theorem Dev.modPipe_pwr (d : Dev) (c : CellId) (f : CellPipe → CellPipe) : (d.modPipe c f).pwr = d.pwr := rfl
@[simp] theorem Dev.modPipe_mgt (d : Dev) (c : CellId) (f : CellPipe → CellPipe) : (d.modPipe c f).mgt = d.mgt := rfl
@[simp] theorem Dev.modPipe_tap (d : Dev) (c : CellId) (f : CellPipe → CellPipe) : (d.modPipe c f).tap = d.tap := rfl
@[simp] theorem Dev.modPipe_kal (d : Dev) (c : CellId) (f : CellPipe → CellPipe) : (d.modPipe c f).kal = d.kal := rfl
@[simp] theorem Dev.modPipe_uct (d : Dev) (c : CellId) (f : CellPipe → CellPipe) : (d.modPipe c f).uct = d.uct := rfl
@[simp] theorem Dev.modPipe_rgnInit (d : Dev) (c : CellId) (f : CellPipe → CellPipe) : (d.modPipe c f).rgnInit = d.rgnInit := rfl
@[simp] theorem Dev.modPipe_freeCtr (d : Dev) (c : CellId) (f : CellPipe → CellPipe) : (d.modPipe c f).freeCtr = d.freeCtr := rfl

/-! ### modEv changes `cells` alone -/

@[simp] theorem Dev.modEv_out (d : Dev) (c : CellId) (f : CellEvents → CellEvents) : (d.modEv c f).out = d.out := rfl
@[simp] theorem Dev.modEv_clock (d : Dev) (c : CellId) (f : CellEvents → CellEvents) : (d.modEv c f).clock = d.clock := rfl
@[simp] theorem Dev.modEv_regs (d : Dev) (c : CellId) (f : CellEvents → CellEvents) : (d.modEv c f).regs = d.regs := rfl
@[simp] theorem Dev.modEv_stks (d : Dev) (c : CellId) (f : CellEvents → CellEvents) : (d.modEv c f).stks = d.stks := rfl
@[simp] theorem Dev.modEv_yoyos (d : Dev) (c : CellId) (f : CellEvents → CellEvents) : (d.modEv c f).yoyos = d.yoyos := rfl
@[simp] theorem Dev.modEv_fab (d : Dev) (c : CellId) (f : CellEvents → CellEvents) : (d.modEv c f).fab = d.fab := rfl
@[simp] theorem Dev.modEv_links (d : Dev) (c : CellId) (f : CellEvents → CellEvents) : (d.modEv c f).links = d.links := rfl
@[simp] theorem Dev.modEv_lsym (d : Dev) (c : CellId) (f : CellEvents → CellEvents) : (d.modEv c f).lsym = d.lsym := rfl
@[simp] theorem Dev.modEv_symTimes (d : Dev) (c : CellId) (f : CellEvents → CellEvents) : (d.modEv c f).symTimes = d.symTimes := rfl
@[simp] theorem Dev.modEv_fbn (d : Dev) (c : CellId) (f : CellEvents → CellEvents) : (d.modEv c f).fbn = d.fbn := rfl
@[simp] theorem Dev.modEv_hif (d : Dev) (c : CellId) (f : CellEvents → CellEvents) : (d.modEv c f).hif = d.hif := rfl
@[simp] theorem Dev.modEv_graphs (d : Dev) (c : CellId) (f : CellEvents → CellEvents) : (d.modEv c f).graphs = d.graphs := rfl
@[simp] theorem Dev.modEv_flt (d : Dev) (c : CellId) (f : CellEvents → CellEvents) : (d.modEv c f).flt = d.flt := rfl
@[simp] theorem Dev.modEv_pwr (d : Dev) (c : CellId) (f : CellEvents → CellEvents) : (d.modEv c f).pwr = d.pwr := rfl
@[simp] theorem Dev.modEv_mgt (d : Dev) (c : CellId) (f : CellEvents → CellEvents) : (d.modEv c f).mgt = d.mgt := rfl
@[simp] theorem Dev.modEv_tap (d : Dev) (c : CellId) (f : CellEvents → CellEvents) : (d.modEv c f).tap = d.tap := rfl
@[simp] theorem Dev.modEv_kal (d : Dev) (c : CellId) (f : CellEvents → CellEvents) : (d.modEv c f).kal = d.kal := rfl
@[simp] theorem Dev.modEv_uct (d : Dev) (c : CellId) (f : CellEvents → CellEvents) : (d.modEv c f).uct = d.uct := rfl
@[simp] theorem Dev.modEv_rgnInit (d : Dev) (c : CellId) (f : CellEvents → CellEvents) : (d.modEv c f).rgnInit = d.rgnInit := rfl
@[simp] theorem Dev.modEv_freeCtr (d : Dev) (c : CellId) (f : CellEvents → CellEvents) : (d.modEv c f).freeCtr = d.freeCtr := rfl

/-! ### modLane changes `cells` alone -/

@[simp] theorem Dev.modLane_out (d : Dev) (c : CellId) (l : BitVec 3) (f : Lane → Lane) : (d.modLane c l f).out = d.out := rfl
@[simp] theorem Dev.modLane_clock (d : Dev) (c : CellId) (l : BitVec 3) (f : Lane → Lane) : (d.modLane c l f).clock = d.clock := rfl
@[simp] theorem Dev.modLane_regs (d : Dev) (c : CellId) (l : BitVec 3) (f : Lane → Lane) : (d.modLane c l f).regs = d.regs := rfl
@[simp] theorem Dev.modLane_stks (d : Dev) (c : CellId) (l : BitVec 3) (f : Lane → Lane) : (d.modLane c l f).stks = d.stks := rfl
@[simp] theorem Dev.modLane_yoyos (d : Dev) (c : CellId) (l : BitVec 3) (f : Lane → Lane) : (d.modLane c l f).yoyos = d.yoyos := rfl
@[simp] theorem Dev.modLane_fab (d : Dev) (c : CellId) (l : BitVec 3) (f : Lane → Lane) : (d.modLane c l f).fab = d.fab := rfl
@[simp] theorem Dev.modLane_links (d : Dev) (c : CellId) (l : BitVec 3) (f : Lane → Lane) : (d.modLane c l f).links = d.links := rfl
@[simp] theorem Dev.modLane_lsym (d : Dev) (c : CellId) (l : BitVec 3) (f : Lane → Lane) : (d.modLane c l f).lsym = d.lsym := rfl
@[simp] theorem Dev.modLane_symTimes (d : Dev) (c : CellId) (l : BitVec 3) (f : Lane → Lane) : (d.modLane c l f).symTimes = d.symTimes := rfl
@[simp] theorem Dev.modLane_fbn (d : Dev) (c : CellId) (l : BitVec 3) (f : Lane → Lane) : (d.modLane c l f).fbn = d.fbn := rfl
@[simp] theorem Dev.modLane_hif (d : Dev) (c : CellId) (l : BitVec 3) (f : Lane → Lane) : (d.modLane c l f).hif = d.hif := rfl
@[simp] theorem Dev.modLane_graphs (d : Dev) (c : CellId) (l : BitVec 3) (f : Lane → Lane) : (d.modLane c l f).graphs = d.graphs := rfl
@[simp] theorem Dev.modLane_flt (d : Dev) (c : CellId) (l : BitVec 3) (f : Lane → Lane) : (d.modLane c l f).flt = d.flt := rfl
@[simp] theorem Dev.modLane_pwr (d : Dev) (c : CellId) (l : BitVec 3) (f : Lane → Lane) : (d.modLane c l f).pwr = d.pwr := rfl
@[simp] theorem Dev.modLane_mgt (d : Dev) (c : CellId) (l : BitVec 3) (f : Lane → Lane) : (d.modLane c l f).mgt = d.mgt := rfl
@[simp] theorem Dev.modLane_tap (d : Dev) (c : CellId) (l : BitVec 3) (f : Lane → Lane) : (d.modLane c l f).tap = d.tap := rfl
@[simp] theorem Dev.modLane_kal (d : Dev) (c : CellId) (l : BitVec 3) (f : Lane → Lane) : (d.modLane c l f).kal = d.kal := rfl
@[simp] theorem Dev.modLane_uct (d : Dev) (c : CellId) (l : BitVec 3) (f : Lane → Lane) : (d.modLane c l f).uct = d.uct := rfl
@[simp] theorem Dev.modLane_rgnInit (d : Dev) (c : CellId) (l : BitVec 3) (f : Lane → Lane) : (d.modLane c l f).rgnInit = d.rgnInit := rfl
@[simp] theorem Dev.modLane_freeCtr (d : Dev) (c : CellId) (l : BitVec 3) (f : Lane → Lane) : (d.modLane c l f).freeCtr = d.freeCtr := rfl

/-! ### setStack changes `stks` alone -/

@[simp] theorem Dev.setStack_out (d : Dev) (s : DieId) (x : Stack) : (d.setStack s x).out = d.out := rfl
@[simp] theorem Dev.setStack_clock (d : Dev) (s : DieId) (x : Stack) : (d.setStack s x).clock = d.clock := rfl
@[simp] theorem Dev.setStack_regs (d : Dev) (s : DieId) (x : Stack) : (d.setStack s x).regs = d.regs := rfl
@[simp] theorem Dev.setStack_cells (d : Dev) (s : DieId) (x : Stack) : (d.setStack s x).cells = d.cells := rfl
@[simp] theorem Dev.setStack_yoyos (d : Dev) (s : DieId) (x : Stack) : (d.setStack s x).yoyos = d.yoyos := rfl
@[simp] theorem Dev.setStack_fab (d : Dev) (s : DieId) (x : Stack) : (d.setStack s x).fab = d.fab := rfl
@[simp] theorem Dev.setStack_links (d : Dev) (s : DieId) (x : Stack) : (d.setStack s x).links = d.links := rfl
@[simp] theorem Dev.setStack_lsym (d : Dev) (s : DieId) (x : Stack) : (d.setStack s x).lsym = d.lsym := rfl
@[simp] theorem Dev.setStack_symTimes (d : Dev) (s : DieId) (x : Stack) : (d.setStack s x).symTimes = d.symTimes := rfl
@[simp] theorem Dev.setStack_fbn (d : Dev) (s : DieId) (x : Stack) : (d.setStack s x).fbn = d.fbn := rfl
@[simp] theorem Dev.setStack_hif (d : Dev) (s : DieId) (x : Stack) : (d.setStack s x).hif = d.hif := rfl
@[simp] theorem Dev.setStack_graphs (d : Dev) (s : DieId) (x : Stack) : (d.setStack s x).graphs = d.graphs := rfl
@[simp] theorem Dev.setStack_flt (d : Dev) (s : DieId) (x : Stack) : (d.setStack s x).flt = d.flt := rfl
@[simp] theorem Dev.setStack_pwr (d : Dev) (s : DieId) (x : Stack) : (d.setStack s x).pwr = d.pwr := rfl
@[simp] theorem Dev.setStack_mgt (d : Dev) (s : DieId) (x : Stack) : (d.setStack s x).mgt = d.mgt := rfl
@[simp] theorem Dev.setStack_tap (d : Dev) (s : DieId) (x : Stack) : (d.setStack s x).tap = d.tap := rfl
@[simp] theorem Dev.setStack_kal (d : Dev) (s : DieId) (x : Stack) : (d.setStack s x).kal = d.kal := rfl
@[simp] theorem Dev.setStack_uct (d : Dev) (s : DieId) (x : Stack) : (d.setStack s x).uct = d.uct := rfl
@[simp] theorem Dev.setStack_rgnInit (d : Dev) (s : DieId) (x : Stack) : (d.setStack s x).rgnInit = d.rgnInit := rfl
@[simp] theorem Dev.setStack_freeCtr (d : Dev) (s : DieId) (x : Stack) : (d.setStack s x).freeCtr = d.freeCtr := rfl

/-! ### modStack changes `stks` alone -/

@[simp] theorem Dev.modStack_out (d : Dev) (s : DieId) (f : Stack → Stack) : (d.modStack s f).out = d.out := rfl
@[simp] theorem Dev.modStack_clock (d : Dev) (s : DieId) (f : Stack → Stack) : (d.modStack s f).clock = d.clock := rfl
@[simp] theorem Dev.modStack_regs (d : Dev) (s : DieId) (f : Stack → Stack) : (d.modStack s f).regs = d.regs := rfl
@[simp] theorem Dev.modStack_cells (d : Dev) (s : DieId) (f : Stack → Stack) : (d.modStack s f).cells = d.cells := rfl
@[simp] theorem Dev.modStack_yoyos (d : Dev) (s : DieId) (f : Stack → Stack) : (d.modStack s f).yoyos = d.yoyos := rfl
@[simp] theorem Dev.modStack_fab (d : Dev) (s : DieId) (f : Stack → Stack) : (d.modStack s f).fab = d.fab := rfl
@[simp] theorem Dev.modStack_links (d : Dev) (s : DieId) (f : Stack → Stack) : (d.modStack s f).links = d.links := rfl
@[simp] theorem Dev.modStack_lsym (d : Dev) (s : DieId) (f : Stack → Stack) : (d.modStack s f).lsym = d.lsym := rfl
@[simp] theorem Dev.modStack_symTimes (d : Dev) (s : DieId) (f : Stack → Stack) : (d.modStack s f).symTimes = d.symTimes := rfl
@[simp] theorem Dev.modStack_fbn (d : Dev) (s : DieId) (f : Stack → Stack) : (d.modStack s f).fbn = d.fbn := rfl
@[simp] theorem Dev.modStack_hif (d : Dev) (s : DieId) (f : Stack → Stack) : (d.modStack s f).hif = d.hif := rfl
@[simp] theorem Dev.modStack_graphs (d : Dev) (s : DieId) (f : Stack → Stack) : (d.modStack s f).graphs = d.graphs := rfl
@[simp] theorem Dev.modStack_flt (d : Dev) (s : DieId) (f : Stack → Stack) : (d.modStack s f).flt = d.flt := rfl
@[simp] theorem Dev.modStack_pwr (d : Dev) (s : DieId) (f : Stack → Stack) : (d.modStack s f).pwr = d.pwr := rfl
@[simp] theorem Dev.modStack_mgt (d : Dev) (s : DieId) (f : Stack → Stack) : (d.modStack s f).mgt = d.mgt := rfl
@[simp] theorem Dev.modStack_tap (d : Dev) (s : DieId) (f : Stack → Stack) : (d.modStack s f).tap = d.tap := rfl
@[simp] theorem Dev.modStack_kal (d : Dev) (s : DieId) (f : Stack → Stack) : (d.modStack s f).kal = d.kal := rfl
@[simp] theorem Dev.modStack_uct (d : Dev) (s : DieId) (f : Stack → Stack) : (d.modStack s f).uct = d.uct := rfl
@[simp] theorem Dev.modStack_rgnInit (d : Dev) (s : DieId) (f : Stack → Stack) : (d.modStack s f).rgnInit = d.rgnInit := rfl
@[simp] theorem Dev.modStack_freeCtr (d : Dev) (s : DieId) (f : Stack → Stack) : (d.modStack s f).freeCtr = d.freeCtr := rfl

/-! ### setYoyo changes `yoyos` alone -/

@[simp] theorem Dev.setYoyo_out (d : Dev) (k : DieId) (x : Yoyo) : (d.setYoyo k x).out = d.out := rfl
@[simp] theorem Dev.setYoyo_clock (d : Dev) (k : DieId) (x : Yoyo) : (d.setYoyo k x).clock = d.clock := rfl
@[simp] theorem Dev.setYoyo_regs (d : Dev) (k : DieId) (x : Yoyo) : (d.setYoyo k x).regs = d.regs := rfl
@[simp] theorem Dev.setYoyo_cells (d : Dev) (k : DieId) (x : Yoyo) : (d.setYoyo k x).cells = d.cells := rfl
@[simp] theorem Dev.setYoyo_stks (d : Dev) (k : DieId) (x : Yoyo) : (d.setYoyo k x).stks = d.stks := rfl
@[simp] theorem Dev.setYoyo_fab (d : Dev) (k : DieId) (x : Yoyo) : (d.setYoyo k x).fab = d.fab := rfl
@[simp] theorem Dev.setYoyo_links (d : Dev) (k : DieId) (x : Yoyo) : (d.setYoyo k x).links = d.links := rfl
@[simp] theorem Dev.setYoyo_lsym (d : Dev) (k : DieId) (x : Yoyo) : (d.setYoyo k x).lsym = d.lsym := rfl
@[simp] theorem Dev.setYoyo_symTimes (d : Dev) (k : DieId) (x : Yoyo) : (d.setYoyo k x).symTimes = d.symTimes := rfl
@[simp] theorem Dev.setYoyo_fbn (d : Dev) (k : DieId) (x : Yoyo) : (d.setYoyo k x).fbn = d.fbn := rfl
@[simp] theorem Dev.setYoyo_hif (d : Dev) (k : DieId) (x : Yoyo) : (d.setYoyo k x).hif = d.hif := rfl
@[simp] theorem Dev.setYoyo_graphs (d : Dev) (k : DieId) (x : Yoyo) : (d.setYoyo k x).graphs = d.graphs := rfl
@[simp] theorem Dev.setYoyo_flt (d : Dev) (k : DieId) (x : Yoyo) : (d.setYoyo k x).flt = d.flt := rfl
@[simp] theorem Dev.setYoyo_pwr (d : Dev) (k : DieId) (x : Yoyo) : (d.setYoyo k x).pwr = d.pwr := rfl
@[simp] theorem Dev.setYoyo_mgt (d : Dev) (k : DieId) (x : Yoyo) : (d.setYoyo k x).mgt = d.mgt := rfl
@[simp] theorem Dev.setYoyo_tap (d : Dev) (k : DieId) (x : Yoyo) : (d.setYoyo k x).tap = d.tap := rfl
@[simp] theorem Dev.setYoyo_kal (d : Dev) (k : DieId) (x : Yoyo) : (d.setYoyo k x).kal = d.kal := rfl
@[simp] theorem Dev.setYoyo_uct (d : Dev) (k : DieId) (x : Yoyo) : (d.setYoyo k x).uct = d.uct := rfl
@[simp] theorem Dev.setYoyo_rgnInit (d : Dev) (k : DieId) (x : Yoyo) : (d.setYoyo k x).rgnInit = d.rgnInit := rfl
@[simp] theorem Dev.setYoyo_freeCtr (d : Dev) (k : DieId) (x : Yoyo) : (d.setYoyo k x).freeCtr = d.freeCtr := rfl

/-! ### setGraph changes `graphs` alone -/

@[simp] theorem Dev.setGraph_out (d : Dev) (g : GraphId) (x : Graph) : (d.setGraph g x).out = d.out := rfl
@[simp] theorem Dev.setGraph_clock (d : Dev) (g : GraphId) (x : Graph) : (d.setGraph g x).clock = d.clock := rfl
@[simp] theorem Dev.setGraph_regs (d : Dev) (g : GraphId) (x : Graph) : (d.setGraph g x).regs = d.regs := rfl
@[simp] theorem Dev.setGraph_cells (d : Dev) (g : GraphId) (x : Graph) : (d.setGraph g x).cells = d.cells := rfl
@[simp] theorem Dev.setGraph_stks (d : Dev) (g : GraphId) (x : Graph) : (d.setGraph g x).stks = d.stks := rfl
@[simp] theorem Dev.setGraph_yoyos (d : Dev) (g : GraphId) (x : Graph) : (d.setGraph g x).yoyos = d.yoyos := rfl
@[simp] theorem Dev.setGraph_fab (d : Dev) (g : GraphId) (x : Graph) : (d.setGraph g x).fab = d.fab := rfl
@[simp] theorem Dev.setGraph_links (d : Dev) (g : GraphId) (x : Graph) : (d.setGraph g x).links = d.links := rfl
@[simp] theorem Dev.setGraph_lsym (d : Dev) (g : GraphId) (x : Graph) : (d.setGraph g x).lsym = d.lsym := rfl
@[simp] theorem Dev.setGraph_symTimes (d : Dev) (g : GraphId) (x : Graph) : (d.setGraph g x).symTimes = d.symTimes := rfl
@[simp] theorem Dev.setGraph_fbn (d : Dev) (g : GraphId) (x : Graph) : (d.setGraph g x).fbn = d.fbn := rfl
@[simp] theorem Dev.setGraph_hif (d : Dev) (g : GraphId) (x : Graph) : (d.setGraph g x).hif = d.hif := rfl
@[simp] theorem Dev.setGraph_flt (d : Dev) (g : GraphId) (x : Graph) : (d.setGraph g x).flt = d.flt := rfl
@[simp] theorem Dev.setGraph_pwr (d : Dev) (g : GraphId) (x : Graph) : (d.setGraph g x).pwr = d.pwr := rfl
@[simp] theorem Dev.setGraph_mgt (d : Dev) (g : GraphId) (x : Graph) : (d.setGraph g x).mgt = d.mgt := rfl
@[simp] theorem Dev.setGraph_tap (d : Dev) (g : GraphId) (x : Graph) : (d.setGraph g x).tap = d.tap := rfl
@[simp] theorem Dev.setGraph_kal (d : Dev) (g : GraphId) (x : Graph) : (d.setGraph g x).kal = d.kal := rfl
@[simp] theorem Dev.setGraph_uct (d : Dev) (g : GraphId) (x : Graph) : (d.setGraph g x).uct = d.uct := rfl
@[simp] theorem Dev.setGraph_rgnInit (d : Dev) (g : GraphId) (x : Graph) : (d.setGraph g x).rgnInit = d.rgnInit := rfl
@[simp] theorem Dev.setGraph_freeCtr (d : Dev) (g : GraphId) (x : Graph) : (d.setGraph g x).freeCtr = d.freeCtr := rfl

/-! ### setVector changes `hif` alone -/

@[simp] theorem Dev.setVector_out (d : Dev) (fn : GraphId) (v : BitVec 5) (x : Vector) : (d.setVector fn v x).out = d.out := rfl
@[simp] theorem Dev.setVector_clock (d : Dev) (fn : GraphId) (v : BitVec 5) (x : Vector) : (d.setVector fn v x).clock = d.clock := rfl
@[simp] theorem Dev.setVector_regs (d : Dev) (fn : GraphId) (v : BitVec 5) (x : Vector) : (d.setVector fn v x).regs = d.regs := rfl
@[simp] theorem Dev.setVector_cells (d : Dev) (fn : GraphId) (v : BitVec 5) (x : Vector) : (d.setVector fn v x).cells = d.cells := rfl
@[simp] theorem Dev.setVector_stks (d : Dev) (fn : GraphId) (v : BitVec 5) (x : Vector) : (d.setVector fn v x).stks = d.stks := rfl
@[simp] theorem Dev.setVector_yoyos (d : Dev) (fn : GraphId) (v : BitVec 5) (x : Vector) : (d.setVector fn v x).yoyos = d.yoyos := rfl
@[simp] theorem Dev.setVector_fab (d : Dev) (fn : GraphId) (v : BitVec 5) (x : Vector) : (d.setVector fn v x).fab = d.fab := rfl
@[simp] theorem Dev.setVector_links (d : Dev) (fn : GraphId) (v : BitVec 5) (x : Vector) : (d.setVector fn v x).links = d.links := rfl
@[simp] theorem Dev.setVector_lsym (d : Dev) (fn : GraphId) (v : BitVec 5) (x : Vector) : (d.setVector fn v x).lsym = d.lsym := rfl
@[simp] theorem Dev.setVector_symTimes (d : Dev) (fn : GraphId) (v : BitVec 5) (x : Vector) : (d.setVector fn v x).symTimes = d.symTimes := rfl
@[simp] theorem Dev.setVector_fbn (d : Dev) (fn : GraphId) (v : BitVec 5) (x : Vector) : (d.setVector fn v x).fbn = d.fbn := rfl
@[simp] theorem Dev.setVector_graphs (d : Dev) (fn : GraphId) (v : BitVec 5) (x : Vector) : (d.setVector fn v x).graphs = d.graphs := rfl
@[simp] theorem Dev.setVector_flt (d : Dev) (fn : GraphId) (v : BitVec 5) (x : Vector) : (d.setVector fn v x).flt = d.flt := rfl
@[simp] theorem Dev.setVector_pwr (d : Dev) (fn : GraphId) (v : BitVec 5) (x : Vector) : (d.setVector fn v x).pwr = d.pwr := rfl
@[simp] theorem Dev.setVector_mgt (d : Dev) (fn : GraphId) (v : BitVec 5) (x : Vector) : (d.setVector fn v x).mgt = d.mgt := rfl
@[simp] theorem Dev.setVector_tap (d : Dev) (fn : GraphId) (v : BitVec 5) (x : Vector) : (d.setVector fn v x).tap = d.tap := rfl
@[simp] theorem Dev.setVector_kal (d : Dev) (fn : GraphId) (v : BitVec 5) (x : Vector) : (d.setVector fn v x).kal = d.kal := rfl
@[simp] theorem Dev.setVector_uct (d : Dev) (fn : GraphId) (v : BitVec 5) (x : Vector) : (d.setVector fn v x).uct = d.uct := rfl
@[simp] theorem Dev.setVector_rgnInit (d : Dev) (fn : GraphId) (v : BitVec 5) (x : Vector) : (d.setVector fn v x).rgnInit = d.rgnInit := rfl
@[simp] theorem Dev.setVector_freeCtr (d : Dev) (fn : GraphId) (v : BitVec 5) (x : Vector) : (d.setVector fn v x).freeCtr = d.freeCtr := rfl

/-! ### lockCreate changes `stks` alone -/

@[simp] theorem Dev.lockCreate_out (d : Dev) (s : DieId) (g : GraphId) : (d.lockCreate s g).out = d.out := rfl
@[simp] theorem Dev.lockCreate_clock (d : Dev) (s : DieId) (g : GraphId) : (d.lockCreate s g).clock = d.clock := rfl
@[simp] theorem Dev.lockCreate_regs (d : Dev) (s : DieId) (g : GraphId) : (d.lockCreate s g).regs = d.regs := rfl
@[simp] theorem Dev.lockCreate_cells (d : Dev) (s : DieId) (g : GraphId) : (d.lockCreate s g).cells = d.cells := rfl
@[simp] theorem Dev.lockCreate_yoyos (d : Dev) (s : DieId) (g : GraphId) : (d.lockCreate s g).yoyos = d.yoyos := rfl
@[simp] theorem Dev.lockCreate_fab (d : Dev) (s : DieId) (g : GraphId) : (d.lockCreate s g).fab = d.fab := rfl
@[simp] theorem Dev.lockCreate_links (d : Dev) (s : DieId) (g : GraphId) : (d.lockCreate s g).links = d.links := rfl
@[simp] theorem Dev.lockCreate_lsym (d : Dev) (s : DieId) (g : GraphId) : (d.lockCreate s g).lsym = d.lsym := rfl
@[simp] theorem Dev.lockCreate_symTimes (d : Dev) (s : DieId) (g : GraphId) : (d.lockCreate s g).symTimes = d.symTimes := rfl
@[simp] theorem Dev.lockCreate_fbn (d : Dev) (s : DieId) (g : GraphId) : (d.lockCreate s g).fbn = d.fbn := rfl
@[simp] theorem Dev.lockCreate_hif (d : Dev) (s : DieId) (g : GraphId) : (d.lockCreate s g).hif = d.hif := rfl
@[simp] theorem Dev.lockCreate_graphs (d : Dev) (s : DieId) (g : GraphId) : (d.lockCreate s g).graphs = d.graphs := rfl
@[simp] theorem Dev.lockCreate_flt (d : Dev) (s : DieId) (g : GraphId) : (d.lockCreate s g).flt = d.flt := rfl
@[simp] theorem Dev.lockCreate_pwr (d : Dev) (s : DieId) (g : GraphId) : (d.lockCreate s g).pwr = d.pwr := rfl
@[simp] theorem Dev.lockCreate_mgt (d : Dev) (s : DieId) (g : GraphId) : (d.lockCreate s g).mgt = d.mgt := rfl
@[simp] theorem Dev.lockCreate_tap (d : Dev) (s : DieId) (g : GraphId) : (d.lockCreate s g).tap = d.tap := rfl
@[simp] theorem Dev.lockCreate_kal (d : Dev) (s : DieId) (g : GraphId) : (d.lockCreate s g).kal = d.kal := rfl
@[simp] theorem Dev.lockCreate_uct (d : Dev) (s : DieId) (g : GraphId) : (d.lockCreate s g).uct = d.uct := rfl
@[simp] theorem Dev.lockCreate_rgnInit (d : Dev) (s : DieId) (g : GraphId) : (d.lockCreate s g).rgnInit = d.rgnInit := rfl
@[simp] theorem Dev.lockCreate_freeCtr (d : Dev) (s : DieId) (g : GraphId) : (d.lockCreate s g).freeCtr = d.freeCtr := rfl

/-! ### cellCreate changes `cells` alone -/

@[simp] theorem Dev.cellCreate_out (d : Dev) (c : CellId) (g : GraphId) (b : Bool) : (d.cellCreate c g b).out = d.out := rfl
@[simp] theorem Dev.cellCreate_clock (d : Dev) (c : CellId) (g : GraphId) (b : Bool) : (d.cellCreate c g b).clock = d.clock := rfl
@[simp] theorem Dev.cellCreate_regs (d : Dev) (c : CellId) (g : GraphId) (b : Bool) : (d.cellCreate c g b).regs = d.regs := rfl
@[simp] theorem Dev.cellCreate_stks (d : Dev) (c : CellId) (g : GraphId) (b : Bool) : (d.cellCreate c g b).stks = d.stks := rfl
@[simp] theorem Dev.cellCreate_yoyos (d : Dev) (c : CellId) (g : GraphId) (b : Bool) : (d.cellCreate c g b).yoyos = d.yoyos := rfl
@[simp] theorem Dev.cellCreate_fab (d : Dev) (c : CellId) (g : GraphId) (b : Bool) : (d.cellCreate c g b).fab = d.fab := rfl
@[simp] theorem Dev.cellCreate_links (d : Dev) (c : CellId) (g : GraphId) (b : Bool) : (d.cellCreate c g b).links = d.links := rfl
@[simp] theorem Dev.cellCreate_lsym (d : Dev) (c : CellId) (g : GraphId) (b : Bool) : (d.cellCreate c g b).lsym = d.lsym := rfl
@[simp] theorem Dev.cellCreate_symTimes (d : Dev) (c : CellId) (g : GraphId) (b : Bool) : (d.cellCreate c g b).symTimes = d.symTimes := rfl
@[simp] theorem Dev.cellCreate_fbn (d : Dev) (c : CellId) (g : GraphId) (b : Bool) : (d.cellCreate c g b).fbn = d.fbn := rfl
@[simp] theorem Dev.cellCreate_hif (d : Dev) (c : CellId) (g : GraphId) (b : Bool) : (d.cellCreate c g b).hif = d.hif := rfl
@[simp] theorem Dev.cellCreate_graphs (d : Dev) (c : CellId) (g : GraphId) (b : Bool) : (d.cellCreate c g b).graphs = d.graphs := rfl
@[simp] theorem Dev.cellCreate_flt (d : Dev) (c : CellId) (g : GraphId) (b : Bool) : (d.cellCreate c g b).flt = d.flt := rfl
@[simp] theorem Dev.cellCreate_pwr (d : Dev) (c : CellId) (g : GraphId) (b : Bool) : (d.cellCreate c g b).pwr = d.pwr := rfl
@[simp] theorem Dev.cellCreate_mgt (d : Dev) (c : CellId) (g : GraphId) (b : Bool) : (d.cellCreate c g b).mgt = d.mgt := rfl
@[simp] theorem Dev.cellCreate_tap (d : Dev) (c : CellId) (g : GraphId) (b : Bool) : (d.cellCreate c g b).tap = d.tap := rfl
@[simp] theorem Dev.cellCreate_kal (d : Dev) (c : CellId) (g : GraphId) (b : Bool) : (d.cellCreate c g b).kal = d.kal := rfl
@[simp] theorem Dev.cellCreate_uct (d : Dev) (c : CellId) (g : GraphId) (b : Bool) : (d.cellCreate c g b).uct = d.uct := rfl
@[simp] theorem Dev.cellCreate_rgnInit (d : Dev) (c : CellId) (g : GraphId) (b : Bool) : (d.cellCreate c g b).rgnInit = d.rgnInit := rfl
@[simp] theorem Dev.cellCreate_freeCtr (d : Dev) (c : CellId) (g : GraphId) (b : Bool) : (d.cellCreate c g b).freeCtr = d.freeCtr := rfl

/-! ### clearSticky changes `regs` alone -/

@[simp] theorem Dev.clearSticky_out (d : Dev) (k : Nat) (m : Reg) : (d.clearSticky k m).out = d.out := rfl
@[simp] theorem Dev.clearSticky_clock (d : Dev) (k : Nat) (m : Reg) : (d.clearSticky k m).clock = d.clock := rfl
@[simp] theorem Dev.clearSticky_cells (d : Dev) (k : Nat) (m : Reg) : (d.clearSticky k m).cells = d.cells := rfl
@[simp] theorem Dev.clearSticky_stks (d : Dev) (k : Nat) (m : Reg) : (d.clearSticky k m).stks = d.stks := rfl
@[simp] theorem Dev.clearSticky_yoyos (d : Dev) (k : Nat) (m : Reg) : (d.clearSticky k m).yoyos = d.yoyos := rfl
@[simp] theorem Dev.clearSticky_fab (d : Dev) (k : Nat) (m : Reg) : (d.clearSticky k m).fab = d.fab := rfl
@[simp] theorem Dev.clearSticky_links (d : Dev) (k : Nat) (m : Reg) : (d.clearSticky k m).links = d.links := rfl
@[simp] theorem Dev.clearSticky_lsym (d : Dev) (k : Nat) (m : Reg) : (d.clearSticky k m).lsym = d.lsym := rfl
@[simp] theorem Dev.clearSticky_symTimes (d : Dev) (k : Nat) (m : Reg) : (d.clearSticky k m).symTimes = d.symTimes := rfl
@[simp] theorem Dev.clearSticky_fbn (d : Dev) (k : Nat) (m : Reg) : (d.clearSticky k m).fbn = d.fbn := rfl
@[simp] theorem Dev.clearSticky_hif (d : Dev) (k : Nat) (m : Reg) : (d.clearSticky k m).hif = d.hif := rfl
@[simp] theorem Dev.clearSticky_graphs (d : Dev) (k : Nat) (m : Reg) : (d.clearSticky k m).graphs = d.graphs := rfl
@[simp] theorem Dev.clearSticky_flt (d : Dev) (k : Nat) (m : Reg) : (d.clearSticky k m).flt = d.flt := rfl
@[simp] theorem Dev.clearSticky_pwr (d : Dev) (k : Nat) (m : Reg) : (d.clearSticky k m).pwr = d.pwr := rfl
@[simp] theorem Dev.clearSticky_mgt (d : Dev) (k : Nat) (m : Reg) : (d.clearSticky k m).mgt = d.mgt := rfl
@[simp] theorem Dev.clearSticky_tap (d : Dev) (k : Nat) (m : Reg) : (d.clearSticky k m).tap = d.tap := rfl
@[simp] theorem Dev.clearSticky_kal (d : Dev) (k : Nat) (m : Reg) : (d.clearSticky k m).kal = d.kal := rfl
@[simp] theorem Dev.clearSticky_uct (d : Dev) (k : Nat) (m : Reg) : (d.clearSticky k m).uct = d.uct := rfl
@[simp] theorem Dev.clearSticky_rgnInit (d : Dev) (k : Nat) (m : Reg) : (d.clearSticky k m).rgnInit = d.rgnInit := rfl
@[simp] theorem Dev.clearSticky_freeCtr (d : Dev) (k : Nat) (m : Reg) : (d.clearSticky k m).freeCtr = d.freeCtr := rfl

/-! ### setSticky changes `regs` alone -/

@[simp] theorem Dev.setSticky_out (d : Dev) (k : Nat) (m : Reg) : (d.setSticky k m).out = d.out := by
  unfold Dev.setSticky; dsimp only; split <;> rfl
@[simp] theorem Dev.setSticky_clock (d : Dev) (k : Nat) (m : Reg) : (d.setSticky k m).clock = d.clock := by
  unfold Dev.setSticky; dsimp only; split <;> rfl
@[simp] theorem Dev.setSticky_cells (d : Dev) (k : Nat) (m : Reg) : (d.setSticky k m).cells = d.cells := by
  unfold Dev.setSticky; dsimp only; split <;> rfl
@[simp] theorem Dev.setSticky_stks (d : Dev) (k : Nat) (m : Reg) : (d.setSticky k m).stks = d.stks := by
  unfold Dev.setSticky; dsimp only; split <;> rfl
@[simp] theorem Dev.setSticky_yoyos (d : Dev) (k : Nat) (m : Reg) : (d.setSticky k m).yoyos = d.yoyos := by
  unfold Dev.setSticky; dsimp only; split <;> rfl
@[simp] theorem Dev.setSticky_fab (d : Dev) (k : Nat) (m : Reg) : (d.setSticky k m).fab = d.fab := by
  unfold Dev.setSticky; dsimp only; split <;> rfl
@[simp] theorem Dev.setSticky_links (d : Dev) (k : Nat) (m : Reg) : (d.setSticky k m).links = d.links := by
  unfold Dev.setSticky; dsimp only; split <;> rfl
@[simp] theorem Dev.setSticky_lsym (d : Dev) (k : Nat) (m : Reg) : (d.setSticky k m).lsym = d.lsym := by
  unfold Dev.setSticky; dsimp only; split <;> rfl
@[simp] theorem Dev.setSticky_symTimes (d : Dev) (k : Nat) (m : Reg) : (d.setSticky k m).symTimes = d.symTimes := by
  unfold Dev.setSticky; dsimp only; split <;> rfl
@[simp] theorem Dev.setSticky_fbn (d : Dev) (k : Nat) (m : Reg) : (d.setSticky k m).fbn = d.fbn := by
  unfold Dev.setSticky; dsimp only; split <;> rfl
@[simp] theorem Dev.setSticky_hif (d : Dev) (k : Nat) (m : Reg) : (d.setSticky k m).hif = d.hif := by
  unfold Dev.setSticky; dsimp only; split <;> rfl
@[simp] theorem Dev.setSticky_graphs (d : Dev) (k : Nat) (m : Reg) : (d.setSticky k m).graphs = d.graphs := by
  unfold Dev.setSticky; dsimp only; split <;> rfl
@[simp] theorem Dev.setSticky_flt (d : Dev) (k : Nat) (m : Reg) : (d.setSticky k m).flt = d.flt := by
  unfold Dev.setSticky; dsimp only; split <;> rfl
@[simp] theorem Dev.setSticky_pwr (d : Dev) (k : Nat) (m : Reg) : (d.setSticky k m).pwr = d.pwr := by
  unfold Dev.setSticky; dsimp only; split <;> rfl
@[simp] theorem Dev.setSticky_mgt (d : Dev) (k : Nat) (m : Reg) : (d.setSticky k m).mgt = d.mgt := by
  unfold Dev.setSticky; dsimp only; split <;> rfl
@[simp] theorem Dev.setSticky_tap (d : Dev) (k : Nat) (m : Reg) : (d.setSticky k m).tap = d.tap := by
  unfold Dev.setSticky; dsimp only; split <;> rfl
@[simp] theorem Dev.setSticky_kal (d : Dev) (k : Nat) (m : Reg) : (d.setSticky k m).kal = d.kal := by
  unfold Dev.setSticky; dsimp only; split <;> rfl
@[simp] theorem Dev.setSticky_uct (d : Dev) (k : Nat) (m : Reg) : (d.setSticky k m).uct = d.uct := by
  unfold Dev.setSticky; dsimp only; split <;> rfl
@[simp] theorem Dev.setSticky_rgnInit (d : Dev) (k : Nat) (m : Reg) : (d.setSticky k m).rgnInit = d.rgnInit := by
  unfold Dev.setSticky; dsimp only; split <;> rfl
@[simp] theorem Dev.setSticky_freeCtr (d : Dev) (k : Nat) (m : Reg) : (d.setSticky k m).freeCtr = d.freeCtr := by
  unfold Dev.setSticky; dsimp only; split <;> rfl

/-! ### modGraph changes `graphs` alone -/

@[simp] theorem Dev.modGraph_out (d : Dev) (g : GraphId) (h : Graph → Graph) : (d.modGraph g h).out = d.out := by
  unfold Dev.modGraph; split <;> rfl
@[simp] theorem Dev.modGraph_clock (d : Dev) (g : GraphId) (h : Graph → Graph) : (d.modGraph g h).clock = d.clock := by
  unfold Dev.modGraph; split <;> rfl
@[simp] theorem Dev.modGraph_regs (d : Dev) (g : GraphId) (h : Graph → Graph) : (d.modGraph g h).regs = d.regs := by
  unfold Dev.modGraph; split <;> rfl
@[simp] theorem Dev.modGraph_cells (d : Dev) (g : GraphId) (h : Graph → Graph) : (d.modGraph g h).cells = d.cells := by
  unfold Dev.modGraph; split <;> rfl
@[simp] theorem Dev.modGraph_stks (d : Dev) (g : GraphId) (h : Graph → Graph) : (d.modGraph g h).stks = d.stks := by
  unfold Dev.modGraph; split <;> rfl
@[simp] theorem Dev.modGraph_yoyos (d : Dev) (g : GraphId) (h : Graph → Graph) : (d.modGraph g h).yoyos = d.yoyos := by
  unfold Dev.modGraph; split <;> rfl
@[simp] theorem Dev.modGraph_fab (d : Dev) (g : GraphId) (h : Graph → Graph) : (d.modGraph g h).fab = d.fab := by
  unfold Dev.modGraph; split <;> rfl
@[simp] theorem Dev.modGraph_links (d : Dev) (g : GraphId) (h : Graph → Graph) : (d.modGraph g h).links = d.links := by
  unfold Dev.modGraph; split <;> rfl
@[simp] theorem Dev.modGraph_lsym (d : Dev) (g : GraphId) (h : Graph → Graph) : (d.modGraph g h).lsym = d.lsym := by
  unfold Dev.modGraph; split <;> rfl
@[simp] theorem Dev.modGraph_symTimes (d : Dev) (g : GraphId) (h : Graph → Graph) : (d.modGraph g h).symTimes = d.symTimes := by
  unfold Dev.modGraph; split <;> rfl
@[simp] theorem Dev.modGraph_fbn (d : Dev) (g : GraphId) (h : Graph → Graph) : (d.modGraph g h).fbn = d.fbn := by
  unfold Dev.modGraph; split <;> rfl
@[simp] theorem Dev.modGraph_hif (d : Dev) (g : GraphId) (h : Graph → Graph) : (d.modGraph g h).hif = d.hif := by
  unfold Dev.modGraph; split <;> rfl
@[simp] theorem Dev.modGraph_flt (d : Dev) (g : GraphId) (h : Graph → Graph) : (d.modGraph g h).flt = d.flt := by
  unfold Dev.modGraph; split <;> rfl
@[simp] theorem Dev.modGraph_pwr (d : Dev) (g : GraphId) (h : Graph → Graph) : (d.modGraph g h).pwr = d.pwr := by
  unfold Dev.modGraph; split <;> rfl
@[simp] theorem Dev.modGraph_mgt (d : Dev) (g : GraphId) (h : Graph → Graph) : (d.modGraph g h).mgt = d.mgt := by
  unfold Dev.modGraph; split <;> rfl
@[simp] theorem Dev.modGraph_tap (d : Dev) (g : GraphId) (h : Graph → Graph) : (d.modGraph g h).tap = d.tap := by
  unfold Dev.modGraph; split <;> rfl
@[simp] theorem Dev.modGraph_kal (d : Dev) (g : GraphId) (h : Graph → Graph) : (d.modGraph g h).kal = d.kal := by
  unfold Dev.modGraph; split <;> rfl
@[simp] theorem Dev.modGraph_uct (d : Dev) (g : GraphId) (h : Graph → Graph) : (d.modGraph g h).uct = d.uct := by
  unfold Dev.modGraph; split <;> rfl
@[simp] theorem Dev.modGraph_rgnInit (d : Dev) (g : GraphId) (h : Graph → Graph) : (d.modGraph g h).rgnInit = d.rgnInit := by
  unfold Dev.modGraph; split <;> rfl
@[simp] theorem Dev.modGraph_freeCtr (d : Dev) (g : GraphId) (h : Graph → Graph) : (d.modGraph g h).freeCtr = d.freeCtr := by
  unfold Dev.modGraph; split <;> rfl

end Sys2Proof.Machine
end

