-- ==== Sys2Proof/Laws/Cell.lean ====
section
/-! SUPPORT. Units read back as written, and what the shared operations of a cell leave unchanged. -/

-- Proofs are elaborated one after another: side by side they take more memory and more time.
set_option Elab.async false

namespace Sys2Proof.Machine

/-! ### A unit read after a write -/

theorem Dev.cell_setCell (d : Dev) (c k : CellId) (x : Cell) :
    (d.setCell c x).cell k = if k = c then x else d.cell k := by
  simp only [Dev.cell, Dev.setCell, mget_mset, ← BitVec.toNat_inj]

@[simp] theorem Dev.cell_setCell_self (d : Dev) (c : CellId) (x : Cell) : (d.setCell c x).cell c = x := by
  simp [Dev.cell_setCell]

@[simp] theorem Dev.cell_modCell_self (d : Dev) (c : CellId) (f : Cell → Cell) : (d.modCell c f).cell c = f (d.cell c) := by
  simp [Dev.modCell]

theorem Dev.cell_modCell (d : Dev) (c k : CellId) (f : Cell → Cell) :
    (d.modCell c f).cell k = if k = c then f (d.cell c) else d.cell k := by simp [Dev.modCell, Dev.cell_setCell]

theorem Dev.cell_modCell_ne (d : Dev) {c k : CellId} (f : Cell → Cell) (h : k ≠ c) : (d.modCell c f).cell k = d.cell k := by
  simp [Dev.cell_modCell, h]

@[simp] theorem Dev.cell_modStore_self (d : Dev) (c : CellId) (f : CellStore → CellStore) :
    (d.modStore c f).cell c = { d.cell c with store := f (d.cell c).store } := by simp [Dev.modStore]

@[simp] theorem Dev.cell_modPipe_self (d : Dev) (c : CellId) (f : CellPipe → CellPipe) :
    (d.modPipe c f).cell c = { d.cell c with pipe := f (d.cell c).pipe } := by simp [Dev.modPipe]

@[simp] theorem Dev.cell_modEv_self (d : Dev) (c : CellId) (f : CellEvents → CellEvents) :
    (d.modEv c f).cell c = { d.cell c with ev := f (d.cell c).ev } := by simp [Dev.modEv]

@[simp] theorem Dev.stack_setStack_self (d : Dev) (s : DieId) (x : Stack) : (d.setStack s x).stack s = x := by
  simp [Dev.stack, Dev.setStack]

@[simp] theorem Dev.stack_modStack_self (d : Dev) (s : DieId) (f : Stack → Stack) : (d.modStack s f).stack s = f (d.stack s) := by
  simp [Dev.modStack]

@[simp] theorem Dev.graph_setGraph_self (d : Dev) (g : GraphId) (x : Graph) : (d.setGraph g x).graph g = some x := by
  simp [Dev.graph, Dev.setGraph]

@[simp] theorem Dev.reg_setReg_self (d : Dev) (k : Nat) (v : Word) : (d.setReg k v).reg k = v := by
  simp [Dev.reg, Dev.setReg]

theorem Dev.reg_setReg_ne (d : Dev) {k j : Nat} (v : Word) (h : j ≠ k) : (d.setReg k v).reg j = d.reg j :=
  mget_mset_other _ _ _ _ h

/-- A cell is what its number reads, so an update of anything but the cells leaves every cell. -/
theorem Dev.cell_congr {d e : Dev} (h : e.cells = d.cells) (c : CellId) : e.cell c = d.cell c := by simp [Dev.cell, h]

@[simp] theorem Dev.cell_modGraph (d : Dev) (g : GraphId) (f : Graph → Graph) (c : CellId) :
    (d.modGraph g f).cell c = d.cell c := Dev.cell_congr (by simp) c

@[simp] theorem Dev.cell_unstall (d : Dev) (g : GraphId) (c : CellId) : (d.unstall g).cell c = d.cell c :=
  Dev.cell_modGraph ..

/-! ### What counting leaves: everything in a cell but its census -/

/-- The cell with the census of a graph set aside. -/
@[simp] theorem Cell.modCensus_store (x : Cell) (g : GraphId) (f : Census → Census) : (x.modCensus g f).store = x.store := rfl
@[simp] theorem Cell.modCensus_pipe (x : Cell) (g : GraphId) (f : Census → Census) : (x.modCensus g f).pipe = x.pipe := rfl
@[simp] theorem Cell.modCensus_ev (x : Cell) (g : GraphId) (f : Census → Census) : (x.modCensus g f).ev = x.ev := rfl

/-- A relation between devices: a cell keeps its stores, pipeline and event controller. -/
structure SameCell (c : CellId) (d e : Dev) : Prop where
  store : (e.cell c).store = (d.cell c).store
  pipe : (e.cell c).pipe = (d.cell c).pipe
  ev : (e.cell c).ev = (d.cell c).ev

theorem SameCell.refl (c : CellId) (d : Dev) : SameCell c d d := ⟨rfl, rfl, rfl⟩

theorem SameCell.trans {c : CellId} {d e f : Dev} (h : SameCell c d e) (k : SameCell c e f) : SameCell c d f :=
  ⟨k.store.trans h.store, k.pipe.trans h.pipe, k.ev.trans h.ev⟩

theorem SameCell.of_cells {c : CellId} {d e : Dev} (h : e.cells = d.cells) : SameCell c d e :=
  have e := Dev.cell_congr h c
  ⟨by rw [e], by rw [e], by rw [e]⟩

end Sys2Proof.Machine
end

