-- ==== Sys2Proof/Laws/Fault.lean ====
section
/-! SUPPORT. What an occurrence of a fault can touch: output, status registers, the episode and freeze latch, and the vectors
of MSI-X; nothing else. -/

-- Proofs are elaborated one after another: side by side they take more memory and more time.
set_option Elab.async false

namespace Sys2Proof.Machine

/-- Everything a fault leaves as it was. -/
structure FaultFrame (d e : Dev) : Prop where
  clock : e.clock = d.clock
  cfg : e.regs.cfg = d.regs.cfg
  staged : e.regs.staged = d.regs.staged
  logs : e.regs.logs = d.regs.logs
  cells : e.cells = d.cells
  stks : e.stks = d.stks
  yoyos : e.yoyos = d.yoyos
  fab : e.fab = d.fab
  links : e.links = d.links
  lsym : e.lsym = d.lsym
  fbn : e.fbn = d.fbn
  graphs : e.graphs = d.graphs
  pwr : e.pwr = d.pwr
  mgt : e.mgt = d.mgt
  tap : e.tap = d.tap
  kal : e.kal = d.kal
  uct : e.uct = d.uct
  rgnInit : e.rgnInit = d.rgnInit
  freeCtr : e.freeCtr = d.freeCtr

theorem FaultFrame.refl (d : Dev) : FaultFrame d d := by constructor <;> rfl

theorem FaultFrame.trans {d e f : Dev} (h : FaultFrame d e) (k : FaultFrame e f) : FaultFrame d f := by
  constructor
  · exact k.clock.trans h.clock
  · exact k.cfg.trans h.cfg
  · exact k.staged.trans h.staged
  · exact k.logs.trans h.logs
  · exact k.cells.trans h.cells
  · exact k.stks.trans h.stks
  · exact k.yoyos.trans h.yoyos
  · exact k.fab.trans h.fab
  · exact k.links.trans h.links
  · exact k.lsym.trans h.lsym
  · exact k.fbn.trans h.fbn
  · exact k.graphs.trans h.graphs
  · exact k.pwr.trans h.pwr
  · exact k.mgt.trans h.mgt
  · exact k.tap.trans h.tap
  · exact k.kal.trans h.kal
  · exact k.uct.trans h.uct
  · exact k.rgnInit.trans h.rgnInit
  · exact k.freeCtr.trans h.freeCtr

theorem emit_frame (d : Dev) (o : Out) : FaultFrame d (d.emit o) := by constructor <;> rfl

theorem setVector_frame (d : Dev) (fn : GraphId) (v : BitVec 5) (x : Vector) : FaultFrame d (d.setVector fn v x) := by
  constructor <;> rfl

theorem msix_frame (d : Dev) (fn : GraphId) (v : BitVec 5) : FaultFrame d (d.msix fn v) := by
  unfold Dev.msix
  dsimp only
  split
  · exact (setVector_frame ..).trans (emit_frame ..)
  · exact setVector_frame ..

theorem setSticky_frame (d : Dev) (k : Nat) (m : Reg) : FaultFrame d (d.setSticky k m) := by
  unfold Dev.setSticky
  dsimp only
  split
  · exact .refl d
  · constructor <;> rfl

theorem ibiSend_frame (d : Dev) (b : Byte) : FaultFrame d (d.ibiSend b) := by
  unfold Dev.ibiSend
  split
  · exact emit_frame ..
  · exact .refl d

theorem flt_frame (d : Dev) (f : Flt) : FaultFrame d { d with flt := f } := by constructor <;> rfl

theorem onSeverity_frame (d : Dev) (o n : Nat) : FaultFrame d (d.onSeverity o n) := by
  unfold Dev.onSeverity
  dsimp only
  split
  · exact flt_frame ..
  · exact .refl d

theorem episodeNotice_frame (d : Dev) (n : Nat) : FaultFrame d (d.episodeNotice n) := (msix_frame ..).trans (emit_frame ..)

theorem occur_frame (d : Dev) (sev : Nat) (u : List DevUnit) (c : List AbortCause) : FaultFrame d (d.occur sev u c) := by
  unfold Dev.occur
  split
  · exact (((flt_frame ..).trans (episodeNotice_frame ..)).trans (ibiSend_frame ..)).trans (onSeverity_frame ..)
  · dsimp only
    split
    · exact ((flt_frame ..).trans (episodeNotice_frame ..)).trans (onSeverity_frame ..)
    · exact flt_frame ..

theorem faultOnly_frame (d : Dev) (s : Nat) (u : List DevUnit) (c : List AbortCause) : FaultFrame d (d.faultOnly s u c) := by
  unfold Dev.faultOnly
  split
  · exact .refl d
  · dsimp only
    split
    · exact (setSticky_frame ..).trans (occur_frame ..)
    · exact setSticky_frame ..

/-- A fault touches output, status registers, episode, freeze latch and vectors alone. -/
theorem fault_frame (d : Dev) (k b s : Nat) (u : List DevUnit) (c : List AbortCause) : FaultFrame d (d.fault k b s u c) := by
  unfold Dev.fault
  split
  · exact .refl d
  · exact (setSticky_frame ..).trans (faultOnly_frame ..)

theorem upsetFault_frame (d : Dev) (c : CellId) (u : Upset) (b : Nat) : FaultFrame d (d.upsetFault c u b) := by
  cases u
  · exact .refl d
  · exact fault_frame ..
  · exact fault_frame ..

end Sys2Proof.Machine
end

