-- ==== Sys2Proof/Laws/Hbm.lean ====
section
/-! SUPPORT. HBM: a byte written is read back and no other byte changes, and every operation keeps the canonical form. -/

-- Proofs are elaborated one after another: side by side they take more memory and more time.
set_option Elab.async false

namespace Sys2Proof.Machine

/-! ### The canonical form of the three tables -/

theorem Hbm.wf_iff (h : Hbm) :
    h.wf = true ↔ mwf 0 0 h.bytes = true ∧ mwf false 0 h.poison = true ∧ mwf false 0 h.full = true := by
  simp [Hbm.wf, and_assoc]

/-- A byte written is read back; every other byte reads as before. -/
theorem Hbm.byte_setByte (h : Hbm) (a b : Nat) (v : Byte) :
    (h.setByte a v).byte b = if b = a then v else h.byte b :=
  mget_mset 0 h.bytes a b v

theorem Hbm.poisoned_setPoison (h : Hbm) (a b : Nat) (v : Bool) :
    (h.setPoison a v).poisoned b = if b = a then v else h.poisoned b :=
  mget_mset false h.poison a b v

theorem Hbm.isFull_setFull (h : Hbm) (a b : Nat) (v : Bool) :
    (h.setFull a v).isFull b = if b = a then v else h.isFull b :=
  mget_mset false h.full a b v

@[simp] theorem Hbm.byte_setPoison (h : Hbm) (a b : Nat) (v : Bool) : (h.setPoison a v).byte b = h.byte b := rfl
@[simp] theorem Hbm.byte_setFull (h : Hbm) (a b : Nat) (v : Bool) : (h.setFull a v).byte b = h.byte b := rfl
@[simp] theorem Hbm.poisoned_setByte (h : Hbm) (a b : Nat) (v : Byte) : (h.setByte a v).poisoned b = h.poisoned b := rfl
@[simp] theorem Hbm.poisoned_setFull (h : Hbm) (a b : Nat) (v : Bool) : (h.setFull a v).poisoned b = h.poisoned b := rfl
@[simp] theorem Hbm.isFull_setByte (h : Hbm) (a b : Nat) (v : Byte) : (h.setByte a v).isFull b = h.isFull b := rfl
@[simp] theorem Hbm.isFull_setPoison (h : Hbm) (a b : Nat) (v : Bool) : (h.setPoison a v).isFull b = h.isFull b := rfl

theorem Hbm.setByte_wf (h : Hbm) (a : Nat) (v : Byte) (w : h.wf = true) : (h.setByte a v).wf = true := by
  obtain ⟨x, y, z⟩ := h.wf_iff.1 w
  exact (Hbm.wf_iff _).2 ⟨mset_mwf _ _ _ _ _ x (Nat.zero_le _), y, z⟩

theorem Hbm.setPoison_wf (h : Hbm) (a : Nat) (v : Bool) (w : h.wf = true) : (h.setPoison a v).wf = true := by
  obtain ⟨x, y, z⟩ := h.wf_iff.1 w
  exact (Hbm.wf_iff _).2 ⟨x, mset_mwf _ _ _ _ _ y (Nat.zero_le _), z⟩

theorem Hbm.setFull_wf (h : Hbm) (a : Nat) (v : Bool) (w : h.wf = true) : (h.setFull a v).wf = true := by
  obtain ⟨x, y, z⟩ := h.wf_iff.1 w
  exact (Hbm.wf_iff _).2 ⟨x, y, mset_mwf _ _ _ _ _ z (Nat.zero_le _)⟩

theorem Hbm.setEmpty_wf (h : Hbm) (lo hi : Nat) (w : h.wf = true) : (h.setEmpty lo hi).wf = true := by
  obtain ⟨x, y, z⟩ := h.wf_iff.1 w
  exact (Hbm.wf_iff _).2 ⟨x, y, filter_mwf _ _ _ _ z⟩

theorem Hbm.write_wf (n : Nat) : ∀ (h : Hbm) (a : Nat) (v : Word), h.wf = true → (h.write a v n).wf = true := by
  induction n with
  | zero => exact fun h _ _ w => w
  | succ n ih => exact fun h a v w => ih _ _ _ (h.setByte_wf a _ w)

/-- A store of n bytes leaves every byte outside them as it was. -/
theorem Hbm.byte_write_outside (n : Nat) : ∀ (h : Hbm) (a b : Nat) (v : Word),
    (b < a ∨ a + n ≤ b) → (h.write a v n).byte b = h.byte b := by
  induction n with
  | zero => exact fun h _ _ _ _ => rfl
  | succ n ih =>
    intro h a b v hb
    simp only [Hbm.write]
    rw [ih _ _ _ _ (by omega), h.byte_setByte a b _, if_neg (by omega)]

/-- A store of n bytes puts byte i of the value at address a + i. -/
theorem Hbm.byte_write_inside (n : Nat) : ∀ (h : Hbm) (a i : Nat) (v : Word), i < n →
    (h.write a v n).byte (a + i) = (v >>> (8 * i)).setWidth 8 := by
  induction n with
  | zero => intro h a i v hi; omega
  | succ n ih =>
    intro h a i v hi
    simp only [Hbm.write]
    cases i with
    | zero =>
      rw [Hbm.byte_write_outside n _ _ _ _ (by omega), h.byte_setByte a _ _]
      simp
    | succ i =>
      have e : a + (i + 1) = a + 1 + i := by omega
      rw [e, ih _ _ _ _ (by omega), ← BitVec.shiftRight_add]
      congr 2
      omega

theorem Hbm.putWord_wf (h : Hbm) (w : Nat) (v : Word) (p : Bool) (x : h.wf = true) : (h.putWord w v p).wf = true :=
  Hbm.setPoison_wf _ _ _ (Hbm.write_wf 8 h _ v x)

theorem storeBytes_wf (h : Hbm) (a n : Nat) (x : Word) (p : Bool) (u : Upset) (d : Dev) (w : h.wf = true) :
    (storeBytes h a n x p u d).1.wf = true := by
  unfold storeBytes
  split
  · exact h.putWord_wf _ _ _ w
  · dsimp only
    split
    · exact h.putWord_wf _ _ _ w
    · exact Hbm.setPoison_wf _ _ _ (Hbm.write_wf _ _ _ _ w)

theorem performAtomic_wf (r : MemReq) (u : Upset) (h : Hbm) (d : Dev) (w : h.wf = true) :
    (performAtomic r u h d).2.1.wf = true := by
  unfold performAtomic
  dsimp only
  split
  · exact w
  · split
    · exact w
    · exact storeBytes_wf _ _ _ _ _ _ _ w

theorem losePresence_wf (s : DieId) (first : Nat) (h : Hbm) (d : Dev) (w : h.wf = true) :
    (losePresence s first h d).1.wf = true := by
  unfold losePresence
  dsimp only
  generalize List.range 32 = l
  have key : ∀ (l : List Nat) (x : Hbm × Dev), x.1.wf = true →
      (l.foldl (fun (x : Hbm × Dev) i =>
        ((x.1.setFull (first + i) true).setPoison (first + i) true,
          x.2.releaseAll s (first + i) (x.1.word (first + i)) true)) x).1.wf = true := by
    intro l
    induction l with
    | nil => exact fun _ hx => hx
    | cons i l ih => exact fun x hx => ih _ (Hbm.setPoison_wf _ _ _ (Hbm.setFull_wf _ _ _ hx))
  exact key l (h, d) w

theorem readPresence_wf (s : DieId) (r : Region) (k : Nat) (pres : Upset) (h : Hbm) (d : Dev) (w : h.wf = true) :
    (readPresence s r k pres h d).1.wf = true := by
  cases pres
  · exact w
  · exact w
  · exact losePresence_wf _ _ _ _ w

/-! ### The meanings that store to HBM keep its form -/

theorem controllerRead_wf (s : DieId) (i : Nat) (u : Upset) (h : Hbm) (d : Dev) (w : h.wf = true) :
    (controllerRead s i u h d).1.wf = true := by
  unfold controllerRead
  split
  · exact w
  · dsimp only
    split <;> exact w

theorem controllerWrite_wf (s : DieId) (i : Nat) (u : Upset) (h : Hbm) (d : Dev) (w : h.wf = true) :
    (controllerWrite s i u h d).1.wf = true := by
  unfold controllerWrite
  split
  · exact w
  · dsimp only
    split
    · exact w
    · exact storeBytes_wf _ _ _ _ _ _ _ w

theorem controllerAtomic_wf (s : DieId) (i : Nat) (u : Upset) (h : Hbm) (d : Dev) (w : h.wf = true) :
    (controllerAtomic s i u h d).1.wf = true := by
  unfold controllerAtomic
  split
  · exact w
  · dsimp only
    split
    · exact w
    · exact performAtomic_wf _ _ _ _ w

theorem controllerLds_wf (s : DieId) (i : Nat) (pres u : Upset) (h : Hbm) (d : Dev) (w : h.wf = true) :
    (controllerLds s i pres u h d).1.wf = true := by
  unfold controllerLds
  split
  · exact w
  · dsimp only
    split
    · exact w
    · split <;> exact readPresence_wf _ _ _ _ _ _ w

theorem controllerSts_wf (s : DieId) (i : Nat) (pres : Upset) (h : Hbm) (d : Dev) (w : h.wf = true) :
    (controllerSts s i pres h d).1.wf = true := by
  unfold controllerSts
  split
  · exact w
  · dsimp only
    split
    · exact w
    · split
      · exact readPresence_wf _ _ _ _ _ _ w
      · exact Hbm.setFull_wf _ _ _ (Hbm.putWord_wf _ _ _ _ (readPresence_wf _ _ _ _ _ _ w))

theorem regionInitDone_wf (h : Hbm) (d : Dev) (w : h.wf = true) : (regionInitDone h d).1.wf = true := by
  unfold regionInitDone
  split
  · exact w
  · dsimp only
    split
    · exact w
    · exact Hbm.setEmpty_wf _ _ _ w

theorem hbmScrub_wf (s : DieId) (u : Upset) (h : Hbm) (d : Dev) (w : h.wf = true) : (hbmScrub s u h d).1.wf = true := by
  unfold hbmScrub
  split
  · exact w
  · dsimp only
    split
    · exact w
    · exact w
    · split
      · split
        · exact losePresence_wf _ _ _ _ w
        · exact w
      · exact w

theorem onFobMem_wf (p : FPacket) (want : FPacket → Bool) (f : Hbm → Dev → Hbm × Dev) (h : Hbm) (d : Dev)
    (hf : ∀ d, (f h d).1.wf = true) (w : h.wf = true) : (onFobMem p want f h d).1.wf = true := by
  unfold onFobMem
  split
  · exact w
  · split
    · exact w
    · exact hf _

theorem memRd_wf (p : FPacket) (us : List Upset) (h : Hbm) (d : Dev) (w : h.wf = true) : (memRd p us h d).1.wf = true :=
  onFobMem_wf _ _ _ _ _ (fun _ => w) w

theorem fobWrite_wf (p : FPacket) (n : Nat) :
    ∀ (k i : Nat) (h : Hbm), h.wf = true → (fobWrite p k i n h).wf = true := by
  induction n with
  | zero => exact fun _ _ _ w => w
  | succ n ih => exact fun k i h w => ih _ _ _ (h.putWord_wf _ _ _ w)

theorem memWr_wf (p : FPacket) (u : Upset) (h : Hbm) (d : Dev) (w : h.wf = true) : (memWr p u h d).1.wf = true := by
  refine onFobMem_wf _ _ _ _ _ (fun d => ?_) w
  dsimp only
  split
  · exact fobWrite_wf _ _ _ _ _ w
  · exact storeBytes_wf _ _ _ _ _ _ _ w

theorem fobAtomic_wf (sub : Nat) (op : MemOp) (p : FPacket) (u : Upset) (h : Hbm) (d : Dev) (w : h.wf = true) :
    (fobAtomic sub op p u h d).1.wf = true :=
  onFobMem_wf _ _ _ _ _ (fun d => performAtomic_wf (atomicReq op p) u h d w) w

theorem storeWords_wf (ps : List Nat) (b : Bool) (data : List Word) (n : Nat) :
    ∀ (k i : Nat) (h : Hbm), h.wf = true → (storeWords ps b data k i n h).wf = true := by
  induction n with
  | zero => exact fun _ _ _ w => w
  | succ n ih => exact fun k i h w => ih _ _ _ (h.putWord_wf _ _ _ w)

theorem hbmwr_wf (r : BitVec 12) (k : Nat) (data : HostData) (h : Hbm) (d : Dev) (w : h.wf = true) :
    (hbmwr r k data h d).1.wf = true := by
  unfold hbmwr
  split
  · exact w
  · split
    · exact w
    · exact storeWords_wf _ _ _ _ _ _ _ w

theorem sclear_wf (r : BitVec 12) (k : Nat) (h : Hbm) (d : Dev) (w : h.wf = true) : (sclear r k h d).1.wf = true := by
  unfold sclear
  split
  · exact w
  · split
    · exact w
    · exact Hbm.setEmpty_wf _ _ _ w

theorem hbmEmpty_wf : hbmEmpty.wf = true := rfl

theorem mrst_wf (st : Startup) (h : Hbm) (d : Dev) (w : h.wf = true) : (mrst st h d).1.wf = true := by
  unfold mrst
  split
  · exact w
  · split <;> exact hbmEmpty_wf

theorem ovloFall_wf (st : Startup) (h : Hbm) (d : Dev) (w : h.wf = true) : (ovloFall st h d).1.wf = true := by
  unfold ovloFall
  split
  · exact w
  · dsimp only
    split
    · exact w
    · exact hbmEmpty_wf

theorem stage3_wf (st : Startup) (h : Hbm) (d : Dev) (w : h.wf = true) : (stage3 st h d).1.wf = true := by
  unfold stage3
  split
  · exact w
  · split
    · exact hbmEmpty_wf
    · exact w

theorem powerOn_wf (st : Startup) (h : Hbm) (d : Dev) (w : h.wf = true) : (powerOn st h d).1.wf = true := by
  unfold powerOn
  split
  · exact hbmEmpty_wf
  · exact w

end Sys2Proof.Machine
end

