-- ==== Sys2Proof/Laws/Lane.lean ====
section
/-! SUPPORT. Dispatch: what a lane does with an activation that fires, and what a firing leaves of its cell's event records. -/

-- Proofs are elaborated one after another: side by side they take more memory and more time.
set_option Elab.async false

namespace Sys2Proof.Machine

/-! ### Consumption leaves the stores, the pipeline and the events of the cell -/

/-- Everything the checks of a word read is the same in two devices. -/
structure SameWords (c : CellId) (d e : Dev) : Prop where
  cell : SameCell c d e
  uct : e.uct = d.uct
  cfg : ∀ g, (e.graph g).map Graph.cfg = (d.graph g).map Graph.cfg
  quota : ∀ g, (e.graph g).map Graph.quota = (d.graph g).map Graph.quota

theorem SameWords.refl (c : CellId) (d : Dev) : SameWords c d d := ⟨.refl c d, rfl, fun _ => rfl, fun _ => rfl⟩

theorem SameWords.trans {c : CellId} {d e f : Dev} (h : SameWords c d e) (k : SameWords c e f) : SameWords c d f :=
  ⟨h.cell.trans k.cell, k.uct.trans h.uct, fun g => (k.cfg g).trans (h.cfg g),
    fun g => (k.quota g).trans (h.quota g)⟩

theorem FaultFrame.sameWords {d e : Dev} (h : FaultFrame d e) (c : CellId) : SameWords c d e :=
  ⟨.of_cells h.cells, h.uct, fun g => by simp [Dev.graph, h.graphs], fun g => by simp [Dev.graph, h.graphs]⟩

theorem graph_modGraph (d : Dev) (g k : GraphId) (f : Graph → Graph) :
    (d.modGraph g f).graph k = if k = g then (d.graph g).map f else d.graph k := by
  unfold Dev.modGraph
  split
  · split
    · subst k; simp [*]
    · rfl
  · by_cases h : k = g
    · subst h; simp [*]
    · have : k.toNat ≠ g.toNat := fun e => h (BitVec.eq_of_toNat_eq e)
      simp [Dev.graph, Dev.setGraph, mfind_minsert_ne _ _ _ _ this, h]

theorem unstall_sameWords (d : Dev) (g : GraphId) (c : CellId) : SameWords c d (d.unstall g) := by
  refine ⟨⟨by simp, by simp, by simp⟩, by simp [Dev.unstall], fun k => ?_, fun k => ?_⟩ <;>
  · unfold Dev.unstall
    rw [graph_modGraph]
    split
    · subst k; cases d.graph g <;> rfl
    · rfl

theorem modCell_sameWords {d : Dev} {k : CellId} {f : Cell → Cell} (c : CellId)
    (hs : (f (d.cell k)).store = (d.cell k).store) (hp : (f (d.cell k)).pipe = (d.cell k).pipe)
    (he : (f (d.cell k)).ev = (d.cell k).ev) : SameWords c d (d.modCell k f) := by
  refine ⟨?_, rfl, fun _ => rfl, fun _ => rfl⟩
  by_cases h : c = k
  · subst h; exact ⟨by simp [hs], by simp [hp], by simp [he]⟩
  · have e := Dev.cell_modCell_ne d f h
    exact ⟨by rw [e], by rw [e], by rw [e]⟩

theorem cellCreate_sameWords (d : Dev) (k : CellId) (g : GraphId) (b : Bool) (c : CellId) : SameWords c d (d.cellCreate k g b) :=
  modCell_sameWords c rfl rfl rfl

theorem cellConsume_sameWords (d : Dev) (k : CellId) (g : GraphId) (b : Bool) (c : CellId) :
    SameWords c d (d.cellConsume k g b) :=
  (modCell_sameWords c rfl rfl rfl).trans (unstall_sameWords ..)

theorem consumeTokens_sameWords (d : Dev) (k : CellId) (ts : List Token) (c : CellId) : SameWords c d (d.consumeTokens k ts) := by
  unfold Dev.consumeTokens
  induction ts generalizing d with
  | nil => exact .refl c d
  | cons t ts ih => exact (cellConsume_sameWords ..).trans (ih _)

/-! ### The checks of a slot's word -/

theorem wordFault_congr {c : CellId} {d e : Dev} (h : SameWords c d e) (g : GraphId) (w : Word) :
    e.wordFault c g w = d.wordFault c g w := by
  have k := h.cfg g
  unfold Dev.wordFault Dev.fanoutBad
  rw [h.uct, h.cell.store]
  cases hd : d.graph g <;> cases he : e.graph g <;> simp [hd, he] at k
  · rfl
  · simp [Graph.at, k]

theorem slot_congr {x y : Cell} (h : y.store = x.store) (a : Act) (i : Nat) : y.slot a i = x.slot a i := by
  simp [Cell.slot, Cell.actFrame, Cell.frame, h]

theorem slotFault_congr {c : CellId} {d e : Dev} (h : SameWords c d e) (s : Slot) : e.slotFault c s = d.slotFault c s := by
  have k := h.cfg s.act.graph
  unfold Dev.slotFault
  split
  · unfold Dev.repFault
    rw [wordFault_congr h, h.uct]
    have : repCount (e.cell c) s.act s.word = repCount (d.cell c) s.act s.word := by
      simp [repCount, slot_congr h.cell.store]
    rw [this]
    cases hd : d.graph s.act.graph <;> cases he : e.graph s.act.graph <;> simp [hd, he] at k
    · rfl
    · simp [Graph.inRange, Graph.at, k]
  · exact wordFault_congr h _ _

/-- A graph's quotas are the same. -/
theorem quota_congr {c : CellId} {d e : Dev} (h : SameWords c d e) (g : GraphId) : e.quota g = d.quota g := by
  have k := h.quota g
  unfold Dev.quota
  cases hd : d.graph g <;> cases he : e.graph g <;> simp [hd, he] at k
  · rfl
  · exact k

/-- The number that NEWF binds is the same. -/
theorem newfNumber_congr {c : CellId} {d e : Dev} (h : SameWords c d e) (g : GraphId) : e.newfNumber c g = d.newfNumber c g := by
  have k := h.cfg g
  unfold Dev.newfNumber
  rw [h.cell.store, quota_congr h]
  cases hd : d.graph g <;> cases he : e.graph g <;> simp [hd, he] at k
  · rfl
  · simp only [Graph.at, k]; rfl

/-! ### Event records -/

/-- Room for n more events in the shared records of a cell, and no record standing in for a lane's. -/
def RoomFor (d : Dev) (c : CellId) (ln : BitVec 3) (n : Nat) : Prop :=
  (d.cell c).sharedUsed + n ≤ sharedRecords ∧ ∀ r ∈ (d.cell c).ev.recs, r.place ≠ .spare ln

theorem RoomFor.mono {d : Dev} {c : CellId} {ln : BitVec 3} {n m : Nat} (h : RoomFor d c ln n) (k : m ≤ n) : RoomFor d c ln m :=
  ⟨by have := h.1; omega, h.2⟩

theorem RoomFor.congr {d e : Dev} {c : CellId} {ln : BitVec 3} {n : Nat} (h : RoomFor d c ln n)
    (k : (e.cell c).ev = (d.cell c).ev) : RoomFor e c ln n := by
  unfold RoomFor Cell.sharedUsed at *
  rw [k]; exact h

theorem RoomFor.one {d : Dev} {c : CellId} {ln : BitVec 3} {n : Nat} (h : RoomFor d c ln n) :
    count (fun r => r.place = .spare ln) (d.cell c).ev.recs ≤ 1 := by
  have : (d.cell c).ev.recs.filter (fun r => decide (r.place = .spare ln)) = [] := by
    rw [List.filter_eq_nil_iff]
    intro r hr
    simpa using h.2 r hr
  simp [count, this]

/-- A firing raises at most one event at a time, into a shared record while one is free. -/
theorem raise_room {d : Dev} {c : CellId} {ln : BitVec 3} {n : Nat} (g : GraphId) (src : Nat) (k : Carried)
    (h : RoomFor d c ln (n + 1)) : RoomFor (d.raise c (some ln) g src k) c ln n := by
  have hs : (d.cell c).sharedUsed < sharedRecords := by have := h.1; omega
  unfold Dev.raise
  dsimp only
  split
  · have key : RoomFor (d.addRecord c g src k none .shared) c ln n := by
      have h1 := h.1
      unfold RoomFor
      unfold Cell.sharedUsed count at *
      simp only [Dev.addRecord, Dev.cell_modEv_self, List.filter_append, List.length_append, List.mem_append]
      refine ⟨by simp; omega, ?_⟩
      rintro r (hr | hr)
      · exact h.2 r hr
      · simp at hr; subst hr; simp
    exact key.congr (cellCreate_sameWords ..).cell.ev
  · exact h.mono (by omega)

theorem modPipe_ev (d : Dev) (c k : CellId) (f : CellPipe → CellPipe) : ((d.modPipe k f).cell c).ev = (d.cell c).ev := by
  unfold Dev.modPipe
  rw [Dev.cell_modCell]
  split
  · subst c; rfl
  · rfl

theorem sendToken_ev (d : Dev) (k : CellId) (l : Option (BitVec 3)) (t : Token) (c : CellId) :
    ((d.sendToken k l t).cell c).ev = (d.cell c).ev := by
  unfold Dev.sendToken
  rw [(cellCreate_sameWords _ _ _ _ c).cell.ev, modPipe_ev]

theorem toParent_room {d : Dev} {m : Maker} {ln : BitVec 3} {n : Nat} (r : Result) (hl : m.lane = some ln)
    (h : RoomFor d m.cell ln (n + 1)) : RoomFor (m.toParent r d) m.cell ln n := by
  unfold Maker.toParent
  dsimp only
  split
  · rw [hl]; exact raise_room _ _ _ h
  · split
    · exact (h.mono (by omega)).congr (sendToken_ev ..)
    · rw [hl]; exact raise_room _ _ _ h

theorem free_room {d : Dev} {c : CellId} {ln : BitVec 3} {n : Nat} (h : RoomFor d c ln n) : RoomFor d.free.2 c ln n :=
  h.congr rfl

theorem destIter_room {d : Dev} {c : CellId} {ln : BitVec 3} {n : Nat} (m : Maker) (top : Nat) (h : RoomFor d c ln n) :
    RoomFor (m.destIter top d).2 c ln n := by
  unfold Maker.destIter
  split
  · exact h
  · exact free_room h

theorem toDest_room {d : Dev} {m : Maker} {ln : BitVec 3} {n : Nat} (x : Dest) (r : Result) (hl : m.lane = some ln)
    (h : RoomFor d m.cell ln (n + 1)) : RoomFor (m.toDest x r d) m.cell ln n := by
  have h' := h.mono (Nat.le_succ n)
  cases x with
  | local_ f =>
    simp only [Maker.toDest]
    split
    · exact h'
    · split
      · exact toParent_room r hl h
      · exact (destIter_room m _ h').congr (sendToken_ev ..)
  | entry e =>
    simp only [Maker.toDest]
    split
    · exact h'
    · split
      · exact toParent_room r hl h
      · exact (destIter_room m _ h').congr (sendToken_ev ..)

/-- Each destination raises at most one event. -/
theorem results_room {m : Maker} {ln : BitVec 3} {n : Nat} (s0 s1 : Option Result) (hl : m.lane = some ln) :
    ∀ (plan : List (Bool × Dest)) (d : Dev), RoomFor d m.cell ln (plan.length + n) →
      RoomFor (m.results plan s0 s1 d) m.cell ln n := by
  intro plan
  unfold Maker.results
  induction plan with
  | nil => intro d h; exact h.mono (by simp)
  | cons p plan ih =>
    intro d h
    rw [List.foldl_cons]
    refine ih _ ?_
    have h1 : RoomFor d m.cell ln ((plan.length + n) + 1) := h.mono (by simp only [List.length_cons]; omega)
    split
    · exact h1.mono (by omega)
    · exact toDest_room _ _ hl h1

theorem fanoutList_length (fo : Map Word) (w : Word) : (fanoutList fo w).length ≤ 16 := by
  unfold fanoutList wCnt nbits
  split
  · simp; omega
  · simp

/-- A word sends to at most 17 destinations (R67). -/
theorem resultPlan_length (kind : ResultKind) (w : Word) (fo : List Word) (h : fo.length ≤ 16) :
    (resultPlan kind w fo).length ≤ 17 := by
  unfold resultPlan
  split
  · simp
  · dsimp only
    split
    · simp
    · simp
    · split <;> simp <;> omega

/-- The results of a firing leave room for events when there is room for 17 more. -/
theorem firing_results_room {d : Dev} {f : Firing} {n : Nat} (kind : ResultKind) (s0 s1 : Option Result)
    (h : RoomFor d f.cell f.lane (n + 17)) :
    RoomFor (f.maker.results (d.plan f.cell kind f.word) s0 s1 d) f.cell f.lane n := by
  have hp := resultPlan_length kind f.word _ (fanoutList_length (d.cell f.cell).store.fo f.word)
  refine results_room (m := f.maker) s0 s1 rfl _ d (h.mono ?_)
  have e : (d.plan f.cell kind f.word).length ≤ 17 := hp
  omega

/-! ### A dispatch that fires -/

theorem sweepFreeing_ev (d : Dev) (c : CellId) : ((d.sweepFreeing c).cell c).ev = (d.cell c).ev := by
  simp [Dev.sweepFreeing]

/-- The device when the activation has left its slot, was consumed, and its fan-out words have been read. -/
def leftSlot (d : Dev) (x : Disp) (s : Slot) (rest : List Slot) : Dev :=
  let d := (d.modLane x.cell x.lane fun l => { l with slots := rest }).consumeAct x.cell s.act
  if wDfmt (s.firing x.cell x.lane).word = 2 then d.upsetFault x.cell x.fanout 2 else d

/-- Leaving a slot changes nothing that the checks of a word read, once the slot is empty. -/
theorem leftSlot_sameWords (d : Dev) (x : Disp) (s : Slot) (rest : List Slot) :
    SameWords x.cell (d.modLane x.cell x.lane fun l => { l with slots := rest }) (leftSlot d x s rest) := by
  have h := consumeTokens_sameWords (d.modLane x.cell x.lane fun l => { l with slots := rest }) x.cell
    ((s.act.tokens.filter fun o => !o.sticky).map (·.tok)) x.cell
  unfold leftSlot Dev.consumeAct
  dsimp only
  split
  · exact h.trans ((upsetFault_frame ..).sameWords _)
  · exact h

theorem leftSlot_store_ev (d : Dev) (x : Disp) (s : Slot) (rest : List Slot) :
    ((leftSlot d x s rest).cell x.cell).store = (d.cell x.cell).store ∧
      ((leftSlot d x s rest).cell x.cell).ev = (d.cell x.cell).ev := by
  have h1 := (consumeTokens_sameWords (d.modLane x.cell x.lane fun l => { l with slots := rest }) x.cell
    ((s.act.tokens.filter fun o => !o.sticky).map (·.tok)) x.cell).cell
  have h0 : ((d.modLane x.cell x.lane fun l => { l with slots := rest }).cell x.cell).store = (d.cell x.cell).store ∧
      ((d.modLane x.cell x.lane fun l => { l with slots := rest }).cell x.cell).ev = (d.cell x.cell).ev := by
    simp [Dev.modLane]
  unfold leftSlot Dev.consumeAct
  dsimp only
  split
  · have h2 := ((upsetFault_frame ((d.modLane x.cell x.lane fun l => { l with slots := rest }).consumeTokens x.cell
      ((s.act.tokens.filter fun o => !o.sticky).map (·.tok))) x.cell x.fanout 2).sameWords x.cell).cell
    exact ⟨h2.store.trans (h1.store.trans h0.1), h2.ev.trans (h1.ev.trans h0.2)⟩
  · exact ⟨h1.store.trans h0.1, h1.ev.trans h0.2⟩

/-- The lane may dispatch its older slot, whose word is good, legal and with its predicate met; any entry it needs is there. -/
structure CanFire (d : Dev) (x : Disp) (isOp : Nat → Bool) (s : Slot) (rest : List Slot) : Prop where
  runs : (d.cell x.cell).runs = true
  awake : (d.cell x.cell).asleep = false
  lane : (d.cell x.cell).pipe.lane x.lane.toNat = { slots := s :: rest, rep := none, spareUsed := false }
  older : x.younger = false
  opcode : isOp (wOpc s.word) = true
  room : (d.cell x.cell).pipe.roomFor x.lane (s.firing x.cell x.lane).word = true
  word : s.bad ≠ .uncorrectable
  fanout : x.fanout ≠ .uncorrectable
  legal : d.slotFault x.cell s = none
  met : predMet s.act (s.firing x.cell x.lane).word = true
  entry : d.slotNeeds x.cell x.lane s = true →
    (d.cell x.cell).pipe.entryOpen s = true ∧ d.belowCap x.cell s.act.graph (opSpec (wOpc s.word)).wait = true

/-- Leaving a slot touches no decode table. -/
theorem leftSlot_uct (d : Dev) (x : Disp) (s : Slot) (rest : List Slot) : (leftSlot d x s rest).uct = d.uct := by
  unfold leftSlot Dev.consumeAct
  dsimp only
  split
  · rw [(upsetFault_frame _ _ _ _).uct, (consumeTokens_sameWords _ _ _ x.cell).uct]; rfl
  · rw [(consumeTokens_sameWords _ _ _ x.cell).uct]; rfl

theorem upsetBad_iff (u : Upset) : upsetBad u = true ↔ u = .uncorrectable := by cases u <;> simp [upsetBad]

/-- A slot whose words are good and legal and whose predicate is met fires. -/
theorem fireSlot_fires (d : Dev) (x : Disp) (s : Slot) (rest : List Slot) (fire : Slot → Firing → Dev → Dev)
    (hw : s.bad ≠ .uncorrectable) (hf : x.fanout ≠ .uncorrectable) (hl : d.slotFault x.cell s = none)
    (hm : predMet s.act (s.firing x.cell x.lane).word = true) :
    ((d.modLane x.cell x.lane fun l => { l with slots := rest }).consumeAct x.cell s.act).fireSlot x.cell x.lane s x.fanout fire =
      fire s (s.firing x.cell x.lane) (leftSlot d x s rest) := by
  have hb : upsetBad s.bad = false := by cases h : s.bad <;> simp_all [upsetBad]
  have hfb : upsetBad x.fanout = false := by cases h : x.fanout <;> simp_all [upsetBad]
  have hc : ((d.modLane x.cell x.lane fun l => { l with slots := rest }).consumeAct x.cell s.act).slotFault x.cell s = none := by
    unfold Dev.consumeAct
    rw [slotFault_congr (consumeTokens_sameWords _ _ _ _)]
    rw [← hl]
    unfold Dev.slotFault Dev.repFault Dev.wordFault Dev.fanoutBad
    simp [Dev.modLane, Dev.graph, repCount, Cell.slot, Cell.actFrame, Cell.frame]
  unfold Dev.fireSlot leftSlot
  dsimp only
  rw [hb]
  simp only [hfb, Bool.and_false, Bool.false_eq_true, if_false, hc, hm, if_true, decide_eq_true_eq]

/-- What a dispatch does with an activation that fires: it leaves its slot and is consumed, its operation acts, and FREEING
frames without activations are swept. -/
theorem dispatchWith_fires {d : Dev} {x : Disp} {isOp : Nat → Bool} {s : Slot} {rest : List Slot}
    (fire : Slot → Firing → Dev → Dev) (h : CanFire d x isOp s rest)
    (room : count (fun r => r.place = .spare x.lane)
      ((fire s (s.firing x.cell x.lane) (leftSlot d x s rest)).cell x.cell).ev.recs ≤ 1) :
    dispatchWith isOp fire x d = (fire s (s.firing x.cell x.lane) (leftSlot d x s rest)).sweepFreeing x.cell := by
  have hone : count (fun r => r.place = .spare x.lane)
      (((fire s (s.firing x.cell x.lane) (leftSlot d x s rest)).sweepFreeing x.cell).cell x.cell).ev.recs ≤ 1 := by
    rw [sweepFreeing_ev]; exact room
  have hslot : d.pickSlot x = some (s, rest) := by simp [Dev.pickSlot, h.lane, h.older]
  unfold dispatchWith
  dsimp only
  rw [hslot, h.lane]
  dsimp only
  rw [fireSlot_fires d x s rest fire h.word h.fanout h.legal h.met]
  simp only [h.runs, h.awake, h.opcode, h.room, Option.isSome_none, Bool.not_true, Bool.or_self, Bool.false_eq_true, if_false]
  unfold Dev.oneSpare
  rw [if_pos hone]
  cases hn : d.slotNeeds x.cell x.lane s
  · simp
  · obtain ⟨he, hb⟩ := h.entry hn
    simp [he, hb]

end Sys2Proof.Machine
end

