-- ==== Sys2Proof/Laws/PerInstr.lean ====
section
/-! SUPPORT. Operands: a well-formed command names a requester that exists (R411), for each constructor. -/

-- Proofs are elaborated one after another: side by side they take more memory and more time.
set_option Elab.async false

namespace Sys2Proof.Laws.Operands

/-- A well-formed command that names a requester names one of 0 to 64. -/
def Statement (i : Instr) : Prop := i.wf = true → ∀ r, i.requester = some r → r.toNat ≤ 64

theorem add (d : Disp) : Statement (.add d) := by
  intro _ r h
  cases h
theorem sub (d : Disp) : Statement (.sub d) := by
  intro _ r h
  cases h
theorem mul (d : Disp) : Statement (.mul d) := by
  intro _ r h
  cases h
theorem mulh (d : Disp) : Statement (.mulh d) := by
  intro _ r h
  cases h
theorem div (d : Disp) : Statement (.div d) := by
  intro _ r h
  cases h
theorem rem (d : Disp) : Statement (.rem d) := by
  intro _ r h
  cases h
theorem and (d : Disp) : Statement (.and d) := by
  intro _ r h
  cases h
theorem or (d : Disp) : Statement (.or d) := by
  intro _ r h
  cases h
theorem xor (d : Disp) : Statement (.xor d) := by
  intro _ r h
  cases h
theorem andn (d : Disp) : Statement (.andn d) := by
  intro _ r h
  cases h
theorem not (d : Disp) : Statement (.not d) := by
  intro _ r h
  cases h
theorem neg (d : Disp) : Statement (.neg d) := by
  intro _ r h
  cases h
theorem abs (d : Disp) : Statement (.abs d) := by
  intro _ r h
  cases h
theorem min (d : Disp) : Statement (.min d) := by
  intro _ r h
  cases h
theorem max (d : Disp) : Statement (.max d) := by
  intro _ r h
  cases h
theorem addc (d : Disp) : Statement (.addc d) := by
  intro _ r h
  cases h
theorem subb (d : Disp) : Statement (.subb d) := by
  intro _ r h
  cases h
theorem mov (d : Disp) : Statement (.mov d) := by
  intro _ r h
  cases h
theorem ldi (d : Disp) : Statement (.ldi d) := by
  intro _ r h
  cases h
theorem shl (d : Disp) : Statement (.shl d) := by
  intro _ r h
  cases h
theorem shr (d : Disp) : Statement (.shr d) := by
  intro _ r h
  cases h
theorem sar (d : Disp) : Statement (.sar d) := by
  intro _ r h
  cases h
theorem rol (d : Disp) : Statement (.rol d) := by
  intro _ r h
  cases h
theorem ror (d : Disp) : Statement (.ror d) := by
  intro _ r h
  cases h
theorem popc (d : Disp) : Statement (.popc d) := by
  intro _ r h
  cases h
theorem clz (d : Disp) : Statement (.clz d) := by
  intro _ r h
  cases h
theorem ctz (d : Disp) : Statement (.ctz d) := by
  intro _ r h
  cases h
theorem brev (d : Disp) : Statement (.brev d) := by
  intro _ r h
  cases h
theorem bswap (d : Disp) : Statement (.bswap d) := by
  intro _ r h
  cases h
theorem splat (d : Disp) : Statement (.splat d) := by
  intro _ r h
  cases h
theorem extr (d : Disp) : Statement (.extr d) := by
  intro _ r h
  cases h
theorem fadd (d : Disp) : Statement (.fadd d) := by
  intro _ r h
  cases h
theorem fsub (d : Disp) : Statement (.fsub d) := by
  intro _ r h
  cases h
theorem fmul (d : Disp) : Statement (.fmul d) := by
  intro _ r h
  cases h
theorem fdiv (d : Disp) : Statement (.fdiv d) := by
  intro _ r h
  cases h
theorem fsqrt (d : Disp) : Statement (.fsqrt d) := by
  intro _ r h
  cases h
theorem fmin (d : Disp) : Statement (.fmin d) := by
  intro _ r h
  cases h
theorem fmax (d : Disp) : Statement (.fmax d) := by
  intro _ r h
  cases h
theorem fneg (d : Disp) : Statement (.fneg d) := by
  intro _ r h
  cases h
theorem fabs (d : Disp) : Statement (.fabs d) := by
  intro _ r h
  cases h
theorem fcvtd (d : Disp) : Statement (.fcvtd d) := by
  intro _ r h
  cases h
theorem fcvts (d : Disp) : Statement (.fcvts d) := by
  intro _ r h
  cases h
theorem fcvth (d : Disp) : Statement (.fcvth d) := by
  intro _ r h
  cases h
theorem ftoi (d : Disp) : Statement (.ftoi d) := by
  intro _ r h
  cases h
theorem itof (d : Disp) : Statement (.itof d) := by
  intro _ r h
  cases h
theorem frnd (d : Disp) : Statement (.frnd d) := by
  intro _ r h
  cases h
theorem dadd (d : Disp) : Statement (.dadd d) := by
  intro _ r h
  cases h
theorem dsub (d : Disp) : Statement (.dsub d) := by
  intro _ r h
  cases h
theorem dadj (d : Disp) : Statement (.dadj d) := by
  intro _ r h
  cases h
theorem dmul1 (d : Disp) : Statement (.dmul1 d) := by
  intro _ r h
  cases h
theorem dshl (d : Disp) : Statement (.dshl d) := by
  intro _ r h
  cases h
theorem dshr (d : Disp) : Statement (.dshr d) := by
  intro _ r h
  cases h
theorem dval (d : Disp) : Statement (.dval d) := by
  intro _ r h
  cases h
theorem dtob (d : Disp) : Statement (.dtob d) := by
  intro _ r h
  cases h
theorem btod (d : Disp) : Statement (.btod d) := by
  intro _ r h
  cases h
theorem dneg (d : Disp) : Statement (.dneg d) := by
  intro _ r h
  cases h
theorem dseq (d : Disp) : Statement (.dseq d) := by
  intro _ r h
  cases h
theorem dslt (d : Disp) : Statement (.dslt d) := by
  intro _ r h
  cases h
theorem dsle (d : Disp) : Statement (.dsle d) := by
  intro _ r h
  cases h
theorem seq (d : Disp) : Statement (.seq d) := by
  intro _ r h
  cases h
theorem slt (d : Disp) : Statement (.slt d) := by
  intro _ r h
  cases h
theorem sle (d : Disp) : Statement (.sle d) := by
  intro _ r h
  cases h
theorem fseq (d : Disp) : Statement (.fseq d) := by
  intro _ r h
  cases h
theorem fslt (d : Disp) : Statement (.fslt d) := by
  intro _ r h
  cases h
theorem fsle (d : Disp) : Statement (.fsle d) := by
  intro _ r h
  cases h
theorem fsun (d : Disp) : Statement (.fsun d) := by
  intro _ r h
  cases h
theorem stest (d : Disp) : Statement (.stest d) := by
  intro _ r h
  cases h
theorem steer (d : Disp) : Statement (.steer d) := by
  intro _ r h
  cases h
theorem gate (d : Disp) : Statement (.gate d) := by
  intro _ r h
  cases h
theorem merge (d : Disp) : Statement (.merge d) := by
  intro _ r h
  cases h
theorem newf (d : Disp) : Statement (.newf d) := by
  intro _ r h
  cases h
theorem freef (d : Disp) : Statement (.freef d) := by
  intro _ r h
  cases h
theorem loopw (d : Disp) : Statement (.loopw d) := by
  intro _ r h
  cases h
theorem advw (d : Disp) : Statement (.advw d) := by
  intro _ r h
  cases h
theorem sets (d : Disp) : Statement (.sets d) := by
  intro _ r h
  cases h
theorem gets (d : Disp) : Statement (.gets d) := by
  intro _ r h
  cases h
theorem getit (d : Disp) : Statement (.getit d) := by
  intro _ r h
  cases h
theorem setit (d : Disp) : Statement (.setit d) := by
  intro _ r h
  cases h
theorem getf (d : Disp) : Statement (.getf d) := by
  intro _ r h
  cases h
theorem setf (d : Disp) : Statement (.setf d) := by
  intro _ r h
  cases h
theorem setcl (d : Disp) : Statement (.setcl d) := by
  intro _ r h
  cases h
theorem send (d : Disp) : Statement (.send d) := by
  intro _ r h
  cases h
theorem sendo (d : Disp) : Statement (.sendo d) := by
  intro _ r h
  cases h
theorem ld (d : Disp) : Statement (.ld d) := by
  intro _ r h
  cases h
theorem st (d : Disp) : Statement (.st d) := by
  intro _ r h
  cases h
theorem lds (d : Disp) : Statement (.lds d) := by
  intro _ r h
  cases h
theorem sts (d : Disp) : Statement (.sts d) := by
  intro _ r h
  cases h
theorem aadd (d : Disp) : Statement (.aadd d) := by
  intro _ r h
  cases h
theorem axchg (d : Disp) : Statement (.axchg d) := by
  intro _ r h
  cases h
theorem acas (d : Disp) : Statement (.acas d) := by
  intro _ r h
  cases h
theorem amin (d : Disp) : Statement (.amin d) := by
  intro _ r h
  cases h
theorem amax (d : Disp) : Statement (.amax d) := by
  intro _ r h
  cases h
theorem aand (d : Disp) : Statement (.aand d) := by
  intro _ r h
  cases h
theorem aor (d : Disp) : Statement (.aor d) := by
  intro _ r h
  cases h
theorem lock (d : Disp) : Statement (.lock d) := by
  intro _ r h
  cases h
theorem trylock (d : Disp) : Statement (.trylock d) := by
  intro _ r h
  cases h
theorem unlock (d : Disp) : Statement (.unlock d) := by
  intro _ r h
  cases h
theorem fence (d : Disp) : Statement (.fence d) := by
  intro _ r h
  cases h
theorem rep (d : Disp) : Statement (.rep d) := by
  intro _ r h
  cases h
theorem repFiring (c : CellId) (ln : BitVec 3) (u : FiringReads) : Statement (.repFiring c ln u) := by
  intro _ r h
  cases h
theorem out (d : Disp) : Statement (.out d) := by
  intro _ r h
  cases h
theorem raise (d : Disp) : Statement (.raise d) := by
  intro _ r h
  cases h
theorem rete (d : Disp) : Statement (.rete d) := by
  intro _ r h
  cases h
theorem nop (d : Disp) : Statement (.nop d) := by
  intro _ r h
  cases h
theorem timer (d : Disp) : Statement (.timer d) := by
  intro _ r h
  cases h
theorem udef (d : Disp) (uc : Upset) : Statement (.udef d uc) := by
  intro _ r h
  cases h
theorem tokenArrival (c : CellId) (src : ArrivalSource) (i : Nat) : Statement (.tokenArrival c src i) := by
  intro _ r h
  cases h
theorem orderGapTimeout (c : CellId) (g : GraphId) (st : BitVec 4) : Statement (.orderGapTimeout c g st) := by
  intro _ r h
  cases h
theorem tokenSelect (c : CellId) (qb : Upset) (u : MatchReads) : Statement (.tokenSelect c qb u) := by
  intro _ r h
  cases h
theorem prefetchFill (c : CellId) (ln : BitVec 3) (im : Upset) : Statement (.prefetchFill c ln im) := by
  intro _ r h
  cases h
theorem replyReceive (c : CellId) (r : ReplyRead) : Statement (.replyReceive c r) := by
  intro _ r h
  cases h
theorem requestAck (c : CellId) (i : Nat) : Statement (.requestAck c i) := by
  intro _ r h
  cases h
theorem initiatorTimeout (w : Initiator) : Statement (.initiatorTimeout w) := by
  intro _ r h
  cases h
theorem newfRecordFreed (c : CellId) (e : EntryFreed) : Statement (.newfRecordFreed c e) := by
  intro _ r h
  cases h
theorem frameExhausted (c : CellId) (e : BitVec 10) : Statement (.frameExhausted c e) := by
  intro _ r h
  cases h
theorem outAccept (c : CellId) (e : BitVec 10) : Statement (.outAccept c e) := by
  intro _ r h
  cases h
theorem outputEntryWrite (o : BitVec 10) : Statement (.outputEntryWrite o) := by
  intro _ r h
  cases h
theorem cellTimer (c : CellId) (e : BitVec 10) : Statement (.cellTimer c e) := by
  intro _ r h
  cases h
theorem cellSleep (c : CellId) : Statement (.cellSleep c) := by
  intro _ r h
  cases h
theorem msScrub (c : CellId) (bank : Bool) (way : BitVec 3) (u : Upset) : Statement (.msScrub c bank way u) := by
  intro _ r h
  cases h
theorem spillTrigger (c : CellId) : Statement (.spillTrigger c) := by
  intro _ r h
  cases h
theorem spillMove (c : CellId) : Statement (.spillMove c) := by
  intro _ r h
  cases h
theorem reelBackStart (c : CellId) : Statement (.reelBackStart c) := by
  intro _ r h
  cases h
theorem reelToken (c : CellId) : Statement (.reelToken c) := by
  intro _ r h
  cases h
theorem parkReel (c : CellId) : Statement (.parkReel c) := by
  intro _ r h
  cases h
theorem tokenRefuse (site : RefuseSite) (i : Nat) : Statement (.tokenRefuse site i) := by
  intro _ r h
  cases h
theorem refuseStore (d : DieId) (i : Nat) : Statement (.refuseStore d i) := by
  intro _ r h
  cases h
theorem retrySend (d : DieId) : Statement (.retrySend d) := by
  intro _ r h
  cases h
theorem waveStart (g : GraphId) : Statement (.waveStart g) := by
  intro _ r h
  cases h
theorem waveReceive (g : GraphId) (p : Participant) : Statement (.waveReceive g p) := by
  intro _ r h
  cases h
theorem sumsAggregate (g : GraphId) (a : Aggregator) : Statement (.sumsAggregate g a) := by
  intro _ r h
  cases h
theorem waveAbandon (g : GraphId) : Statement (.waveAbandon g) := by
  intro _ r h
  cases h
theorem flitHop (r : ClusterId) (o : BitVec 3) (sub : Nat) (u : Upset) : Statement (.flitHop r o sub u) := by
  intro _ r h
  cases h
theorem crossbarFlitSend (x : CrossbarSend) : Statement (.crossbarFlitSend x) := by
  intro _ r h
  cases h
theorem hubForward (inp : BitVec 4) : Statement (.hubForward inp) := by
  intro _ r h
  cases h
theorem clusterRetention (n : ClusterId) (permit : Bool) : Statement (.clusterRetention n permit) := by
  intro _ r h
  cases h
theorem clusterWake (n : ClusterId) : Statement (.clusterWake n) := by
  intro _ r h
  cases h
theorem tgtDead (t : Target) : Statement (.tgtDead t) := by
  intro _ r h
  cases h
theorem d2dDown (m : BitVec 4) : Statement (.d2dDown m) := by
  intro _ r h
  cases h
theorem routeBankRetire : Statement (.routeBankRetire) := by
  intro _ r h
  cases h
theorem probeMatch (p : BitVec 4) (sel : Nat) (ns : Nat) (slot : BitVec 2) : Statement (.probeMatch p sel ns slot) := by
  intro _ r h
  cases h
theorem trainingFrameReceive (l : LinkId) (lane : BitVec 3) (f : TrainFrame) : Statement (.trainingFrameReceive l lane f) := by
  intro _ r h
  cases h
theorem detectTimeout (l : LinkId) : Statement (.detectTimeout l) := by
  intro _ r h
  cases h
theorem eqTimeout (l : LinkId) : Statement (.eqTimeout l) := by
  intro _ r h
  cases h
theorem lockTimeout (l : LinkId) : Statement (.lockTimeout l) := by
  intro _ r h
  cases h
theorem codewordLock (a : AlignFound) : Statement (.codewordLock a) := by
  intro _ r h
  cases h
theorem hello (l : LinkId) (m : HelloMsg) : Statement (.hello l m) := by
  intro _ r h
  cases h
theorem retrain (l : LinkId) (m : RetrainMsg) : Statement (.retrain l m) := by
  intro _ r h
  cases h
theorem down (l : LinkId) : Statement (.down l) := by
  intro _ r h
  cases h
theorem flitReceive (l : LinkId) (cw : Option CwOutcome) (f : RawFlit) : Statement (.flitReceive l cw f) := by
  intro _ r h
  cases h
theorem flitTransmit (l : LinkId) : Statement (.flitTransmit l) := by
  intro _ r h
  cases h
theorem replayTimeout (l : LinkId) : Statement (.replayTimeout l) := by
  intro _ r h
  cases h
theorem laneFail (l : LinkId) (x : LaneFailure) : Statement (.laneFail l x) := by
  intro _ r h
  cases h
theorem packetRoute (l : LinkId) (i : Nat) : Statement (.packetRoute l i) := by
  intro _ r h
  cases h
theorem idAssignProbe (l : LinkId) (p : IdPacket) : Statement (.idAssignProbe l p) := by
  intro _ r h
  cases h
theorem idAssignSet (l : LinkId) (p : IdPacket) : Statement (.idAssignSet l p) := by
  intro _ r h
  cases h
theorem idAssignRoute (l : LinkId) (p : IdPacket) : Statement (.idAssignRoute l p) := by
  intro _ r h
  cases h
theorem idAssignReply (l : LinkId) (p : IdPacket) : Statement (.idAssignReply l p) := by
  intro _ r h
  cases h
theorem rollCallAuto : Statement (.rollCallAuto) := by
  intro _ r h
  cases h
theorem rollProbeTimeout : Statement (.rollProbeTimeout) := by
  intro _ r h
  cases h
theorem memRd (p : FPacket) (us : List Upset) : Statement (.memRd p us) := by
  intro _ r h
  cases h
theorem memWr (p : FPacket) (u : Upset) : Statement (.memWr p u) := by
  intro _ r h
  cases h
theorem atomicAadd (p : FPacket) (u : Upset) : Statement (.atomicAadd p u) := by
  intro _ r h
  cases h
theorem atomicAxchg (p : FPacket) (u : Upset) : Statement (.atomicAxchg p u) := by
  intro _ r h
  cases h
theorem atomicAcas (p : FPacket) (u : Upset) : Statement (.atomicAcas p u) := by
  intro _ r h
  cases h
theorem atomicAmin (p : FPacket) (u : Upset) : Statement (.atomicAmin p u) := by
  intro _ r h
  cases h
theorem atomicAmax (p : FPacket) (u : Upset) : Statement (.atomicAmax p u) := by
  intro _ r h
  cases h
theorem atomicAand (p : FPacket) (u : Upset) : Statement (.atomicAand p u) := by
  intro _ r h
  cases h
theorem atomicAor (p : FPacket) (u : Upset) : Statement (.atomicAor p u) := by
  intro _ r h
  cases h
theorem lockReqLock (p : FPacket) : Statement (.lockReqLock p) := by
  intro _ r h
  cases h
theorem lockReqTrylock (p : FPacket) : Statement (.lockReqTrylock p) := by
  intro _ r h
  cases h
theorem lockRelUnlock (p : FPacket) : Statement (.lockRelUnlock p) := by
  intro _ r h
  cases h
theorem lockRelAbandon (p : FPacket) : Statement (.lockRelAbandon p) := by
  intro _ r h
  cases h
theorem event (p : FPacket) : Statement (.event p) := by
  intro _ r h
  cases h
theorem censusWave (p : FPacket) : Statement (.censusWave p) := by
  intro _ r h
  cases h
theorem censusSums (p : FPacket) : Statement (.censusSums p) := by
  intro _ r h
  cases h
theorem censusDone (p : FPacket) : Statement (.censusDone p) := by
  intro _ r h
  cases h
theorem mgmtRd (p : FPacket) : Statement (.mgmtRd p) := by
  intro _ r h
  cases h
theorem mgmtWr (p : FPacket) : Statement (.mgmtWr p) := by
  intro _ r h
  cases h
theorem routeWrite (p : FPacket) : Statement (.routeWrite p) := by
  intro _ r h
  cases h
theorem routeFlip (p : FPacket) : Statement (.routeFlip p) := by
  intro _ r h
  cases h
theorem routeStatus (p : FPacket) : Statement (.routeStatus p) := by
  intro _ r h
  cases h
theorem routeRetire (p : FPacket) : Statement (.routeRetire p) := by
  intro _ r h
  cases h
theorem isolateOrder (p : FPacket) : Statement (.isolateOrder p) := by
  intro _ r h
  cases h
theorem isolateRelease (p : FPacket) : Statement (.isolateRelease p) := by
  intro _ r h
  cases h
theorem isolateNotice (p : FPacket) : Statement (.isolateNotice p) := by
  intro _ r h
  cases h
theorem memResp (p : FPacket) : Statement (.memResp p) := by
  intro _ r h
  cases h
theorem refuseReceive (p : FPacket) (port : BitVec 4) : Statement (.refuseReceive p port) := by
  intro _ r h
  cases h
theorem enumFrame (highs : List Nat) : Statement (.enumFrame highs) := by
  intro _ r h
  cases h
theorem enumSlot0Timeout : Statement (.enumSlot0Timeout) := by
  intro _ r h
  cases h
theorem enumOutFrame : Statement (.enumOutFrame) := by
  intro _ r h
  cases h
theorem controllerRead (k : DieId) (i : Nat) (u : Upset) : Statement (.controllerRead k i u) := by
  intro _ r h
  cases h
theorem controllerWrite (k : DieId) (i : Nat) (u : Upset) : Statement (.controllerWrite k i u) := by
  intro _ r h
  cases h
theorem controllerAtomic (k : DieId) (i : Nat) (u : Upset) : Statement (.controllerAtomic k i u) := by
  intro _ r h
  cases h
theorem controllerLds (k : DieId) (i : Nat) (pres : Upset) (u : Upset) : Statement (.controllerLds k i pres u) := by
  intro _ r h
  cases h
theorem controllerSts (k : DieId) (i : Nat) (pres : Upset) : Statement (.controllerSts k i pres) := by
  intro _ r h
  cases h
theorem ldsReissue (c : CellId) (e : BitVec 10) : Statement (.ldsReissue c e) := by
  intro _ r h
  cases h
theorem lockUnitLock (k : DieId) (i : Nat) : Statement (.lockUnitLock k i) := by
  intro _ r h
  cases h
theorem lockUnitTrylock (k : DieId) (i : Nat) : Statement (.lockUnitTrylock k i) := by
  intro _ r h
  cases h
theorem lockUnitUnlock (k : DieId) (i : Nat) : Statement (.lockUnitUnlock k i) := by
  intro _ r h
  cases h
theorem hostMemRequest (i : Nat) (a : HostData) : Statement (.hostMemRequest i a) := by
  intro _ r h
  cases h
theorem hbmSelfRefresh (k : DieId) (permit : Bool) : Statement (.hbmSelfRefresh k permit) := by
  intro _ r h
  cases h
theorem hbmScrub (k : DieId) (u : Upset) : Statement (.hbmScrub k u) := by
  intro _ r h
  cases h
theorem regionInitDone : Statement (.regionInitDone) := by
  intro _ r h
  cases h
theorem eventPresent (c : CellId) : Statement (.eventPresent c) := by
  intro _ r h
  cases h
theorem eventRecordSend (c : CellId) (i : Nat) : Statement (.eventRecordSend c i) := by
  intro _ r h
  cases h
theorem receiveBufferGrant (c : CellId) : Statement (.receiveBufferGrant c) := by
  intro _ r h
  cases h
theorem eventRecordArrival (c : CellId) (i : Nat) : Statement (.eventRecordArrival c i) := by
  intro _ r h
  cases h
theorem puppeteerPost (c : CellId) (g : GraphId) (v : Word) (vt : BitVec 4) (poison : Bool) : Statement (.puppeteerPost c g v vt poison) := by
  intro _ r h
  cases h
theorem descriptorFetch (reads : List EntryRead) : Statement (.descriptorFetch reads) := by
  intro _ r h
  cases h
theorem load (r : BitVec 12) (k : Nat) (h : HostData) : Statement (.load r k h) := by
  intro _ r h
  cases h
theorem inject (r : BitVec 12) (k : Nat) (h : HostData) : Statement (.inject r k h) := by
  intro _ r h
  cases h
theorem greset (r : BitVec 12) (k : Nat) : Statement (.greset r k) := by
  intro _ r h
  cases h
theorem unload (r : BitVec 12) (k : Nat) : Statement (.unload r k) := by
  intro _ r h
  cases h
theorem hbmrd (r : BitVec 12) (k : Nat) (us : List Upset) : Statement (.hbmrd r k us) := by
  intro _ r h
  cases h
theorem hbmwr (r : BitVec 12) (k : Nat) (h : HostData) : Statement (.hbmwr r k h) := by
  intro _ r h
  cases h
theorem sclear (r : BitVec 12) (k : Nat) : Statement (.sclear r k) := by
  intro _ r h
  cases h
theorem evpost (r : BitVec 12) (k : Nat) : Statement (.evpost r k) := by
  intro _ r h
  cases h
theorem lockDescLock (r : BitVec 12) (k : Nat) : Statement (.lockDescLock r k) := by
  intro _ r h
  cases h
theorem lockDescTrylock (r : BitVec 12) (k : Nat) : Statement (.lockDescTrylock r k) := by
  intro _ r h
  cases h
theorem lockDescUnlock (r : BitVec 12) (k : Nat) : Statement (.lockDescUnlock r k) := by
  intro _ r h
  cases h
theorem assignRingPairs (r : BitVec 12) (k : Nat) : Statement (.assignRingPairs r k) := by
  intro _ r h
  cases h
theorem assignOutputRings (r : BitVec 12) (k : Nat) : Statement (.assignOutputRings r k) := by
  intro _ r h
  cases h
theorem assignCells (r : BitVec 12) (k : Nat) : Statement (.assignCells r k) := by
  intro _ r h
  cases h
theorem assignHbmWindow (r : BitVec 12) (k : Nat) : Statement (.assignHbmWindow r k) := by
  intro _ r h
  cases h
theorem quota (r : BitVec 12) (k : Nat) : Statement (.quota r k) := by
  intro _ r h
  cases h
theorem ucodeLoad (r : BitVec 12) (k : Nat) (h : HostData) : Statement (.ucodeLoad r k h) := by
  intro _ r h
  cases h
theorem ucodeClear (r : BitVec 12) (k : Nat) : Statement (.ucodeClear r k) := by
  intro _ r h
  cases h
theorem fwpatch (r : BitVec 12) (k : Nat) (h : HostData) : Statement (.fwpatch r k h) := by
  intro _ r h
  cases h
theorem nvstoreRead (r : BitVec 12) (k : Nat) (us : List Upset) : Statement (.nvstoreRead r k us) := by
  intro _ r h
  cases h
theorem nvstoreWrite (r : BitVec 12) (k : Nat) (h : HostData) : Statement (.nvstoreWrite r k h) := by
  intro _ r h
  cases h
theorem restoreFactory (r : BitVec 12) (k : Nat) : Statement (.restoreFactory r k) := by
  intro _ r h
  cases h
theorem sqtailDoorbell (req : Requester) (r : BitVec 12) (v : Reg) : Statement (.sqtailDoorbell req r v) := by
  intro w r h
  cases h
  simp [Instr.wf] at w
  omega
theorem cqheadDoorbell (req : Requester) (r : BitVec 12) (v : Reg) : Statement (.cqheadDoorbell req r v) := by
  intro w r h
  cases h
  simp [Instr.wf] at w
  omega
theorem oheadDoorbell (req : Requester) (o : BitVec 10) (v : Reg) : Statement (.oheadDoorbell req o v) := by
  intro w r h
  cases h
  simp [Instr.wf] at w
  omega
theorem doorbellPoll (fn : GraphId) (reads : List HostData) : Statement (.doorbellPoll fn reads) := by
  intro _ r h
  cases h
theorem wakeGo (req : Requester) (v : Reg) : Statement (.wakeGo req v) := by
  intro w r h
  cases h
  simp [Instr.wf] at w
  omega
theorem ringEnable (req : Requester) (ring : RingName) (v : Reg) : Statement (.ringEnable req ring v) := by
  intro w r h
  cases h
  simp [Instr.wf] at w
  omega
theorem ringDisable (req : Requester) (ring : RingName) (v : Reg) : Statement (.ringDisable req ring v) := by
  intro w r h
  cases h
  simp [Instr.wf] at w
  omega
theorem noticeWriteHeld (g : GraphId) : Statement (.noticeWriteHeld g) := by
  intro _ r h
  cases h
theorem msixTime (fn : GraphId) (v : BitVec 5) : Statement (.msixTime fn v) := by
  intro _ r h
  cases h
theorem functionLevelReset (fn : GraphId) : Statement (.functionLevelReset fn) := by
  intro _ r h
  cases h
theorem perstN : Statement (.perstN) := by
  intro _ r h
  cases h
theorem mrstN (st : Startup) : Statement (.mrstN st) := by
  intro _ r h
  cases h
theorem powerOn (st : Startup) : Statement (.powerOn st) := by
  intro _ r h
  cases h
theorem uvloFall : Statement (.uvloFall) := by
  intro _ r h
  cases h
theorem ovloRise : Statement (.ovloRise) := by
  intro _ r h
  cases h
theorem ovloFall (st : Startup) : Statement (.ovloFall st) := by
  intro _ r h
  cases h
theorem governorSample (vin : BitVec 16) (iin : BitVec 16) : Statement (.governorSample vin iin) := by
  intro _ r h
  cases h
theorem governorRelease (est : Nat) : Statement (.governorRelease est) := by
  intro _ r h
  cases h
theorem overcurrentComparator : Statement (.overcurrentComparator) := by
  intro _ r h
  cases h
theorem thermalStep (n : BitVec 5) (temp : BitVec 16) : Statement (.thermalStep n temp) := by
  intro _ r h
  cases h
theorem thermalRelease (d : DieId) (temps : List (BitVec 16)) : Statement (.thermalRelease d temps) := by
  intro _ r h
  cases h
theorem tempHigh (n : BitVec 5) (temp : BitVec 16) : Statement (.tempHigh n temp) := by
  intro _ r h
  cases h
theorem thermalShutdown (n : BitVec 5) (temp : BitVec 16) : Statement (.thermalShutdown n temp) := by
  intro _ r h
  cases h
theorem sensor (n : BitVec 5) (reading : Option (BitVec 16)) : Statement (.sensor n reading) := by
  intro _ r h
  cases h
theorem conv (phase : ConvPhase) : Statement (.conv phase) := by
  intro _ r h
  cases h
theorem pclkLoss : Statement (.pclkLoss) := by
  intro _ r h
  cases h
theorem pclkRestored : Statement (.pclkRestored) := by
  intro _ r h
  cases h
theorem fclkLoss : Statement (.fclkLoss) := by
  intro _ r h
  cases h
theorem fclkRestored : Statement (.fclkRestored) := by
  intro _ r h
  cases h
theorem mgtWdog (core : Bool) : Statement (.mgtWdog core) := by
  intro _ r h
  cases h
theorem escalationStage1 : Statement (.escalationStage1) := by
  intro _ r h
  cases h
theorem escalationStage2 : Statement (.escalationStage2) := by
  intro _ r h
  cases h
theorem escalationStage3 (st : Startup) : Statement (.escalationStage3 st) := by
  intro _ r h
  cases h
theorem episodeClose : Statement (.episodeClose) := by
  intro _ r h
  cases h
theorem reintegrationDone (t : DevUnit) (pass : Bool) : Statement (.reintegrationDone t pass) := by
  intro _ r h
  cases h
theorem fltAck (req : Requester) (v : Reg) : Statement (.fltAck req v) := by
  intro w r h
  cases h
  simp [Instr.wf] at w
  omega
theorem freezeNLow : Statement (.freezeNLow) := by
  intro _ r h
  cases h
theorem freezeNHigh : Statement (.freezeNHigh) := by
  intro _ r h
  cases h
theorem frzctlFreeze (req : Requester) (v : Reg) : Statement (.frzctlFreeze req v) := by
  intro w r h
  cases h
  simp [Instr.wf] at w
  omega
theorem frzctlResume (req : Requester) (v : Reg) : Statement (.frzctlResume req v) := by
  intro w r h
  cases h
  simp [Instr.wf] at w
  omega
theorem cellReset (req : Requester) (v : Reg) : Statement (.cellReset req v) := by
  intro w r h
  cases h
  simp [Instr.wf] at w
  omega
theorem clusterReset (req : Requester) (v : Reg) : Statement (.clusterReset req v) := by
  intro w r h
  cases h
  simp [Instr.wf] at w
  omega
theorem unitResetDone (t : DevUnit) : Statement (.unitResetDone t) := by
  intro _ r h
  cases h
theorem injcmdGo (req : Requester) (c : CellId) (v : Reg) : Statement (.injcmdGo req c v) := by
  intro w r h
  cases h
  simp [Instr.wf] at w
  omega
theorem accdataWrite (req : Requester) (c : CellId) (v : Word) : Statement (.accdataWrite req c v) := by
  intro w r h
  cases h
  simp [Instr.wf] at w
  omega
theorem evtdataWrite (req : Requester) (c : CellId) (v : Word) : Statement (.evtdataWrite req c v) := by
  intro w r h
  cases h
  simp [Instr.wf] at w
  omega
theorem routectlFlip (req : Requester) (v : Reg) : Statement (.routectlFlip req v) := by
  intro w r h
  cases h
  simp [Instr.wf] at w
  omega
theorem rollctlGo (req : Requester) (v : Reg) : Statement (.rollctlGo req v) := by
  intro w r h
  cases h
  simp [Instr.wf] at w
  omega
theorem fflip (req : Requester) (v : Reg) : Statement (.fflip req v) := by
  intro w r h
  cases h
  simp [Instr.wf] at w
  omega
theorem nodeIsolate (req : Requester) (v : Reg) : Statement (.nodeIsolate req v) := by
  intro w r h
  cases h
  simp [Instr.wf] at w
  omega
theorem nodeRelease (req : Requester) (v : Reg) : Statement (.nodeRelease req v) := by
  intro w r h
  cases h
  simp [Instr.wf] at w
  omega
theorem nodeIdWrite (req : Requester) (v : Reg) : Statement (.nodeIdWrite req v) := by
  intro w r h
  cases h
  simp [Instr.wf] at w
  omega
theorem linkEnable (req : Requester) (p : BitVec 4) (v : Reg) : Statement (.linkEnable req p v) := by
  intro w r h
  cases h
  simp [Instr.wf] at w
  omega
theorem linkDisable (req : Requester) (p : BitVec 4) (v : Reg) : Statement (.linkDisable req p v) := by
  intro w r h
  cases h
  simp [Instr.wf] at w
  omega
theorem cmdRetrain (req : Requester) (p : BitVec 4) (v : Reg) : Statement (.cmdRetrain req p v) := by
  intro w r h
  cases h
  simp [Instr.wf] at w
  omega
theorem cmdRestart (req : Requester) (p : BitVec 4) (v : Reg) : Statement (.cmdRestart req p v) := by
  intro w r h
  cases h
  simp [Instr.wf] at w
  omega
theorem traceClear (req : Requester) (v : Reg) : Statement (.traceClear req v) := by
  intro w r h
  cases h
  simp [Instr.wf] at w
  omega
theorem accCountClear (req : Requester) (off : Nat) (v : Reg) : Statement (.accCountClear req off v) := by
  intro w r h
  cases h
  simp [Instr.wf] at w
  omega
theorem statusClear (req : Requester) (off : Nat) (v : Reg) : Statement (.statusClear req off v) := by
  intro w r h
  cases h
  simp [Instr.wf] at w
  omega
theorem statusClearOnRead (req : Requester) (off : Nat) : Statement (.statusClearOnRead req off) := by
  intro w r h
  cases h
  simp [Instr.wf] at w
  omega
theorem regWriteLowHalf (req : Requester) (off : Nat) (v : Reg) : Statement (.regWriteLowHalf req off v) := by
  intro w r h
  cases h
  simp [Instr.wf] at w
  omega
theorem regReadLowHalf (req : Requester) (r : RegRead) : Statement (.regReadLowHalf req r) := by
  intro w r h
  cases h
  simp [Instr.wf] at w
  omega
theorem registerWrite (req : Requester) (a : Access) : Statement (.registerWrite req a) := by
  intro w r h
  cases h
  simp [Instr.wf] at w
  omega
theorem extest : Statement (.extest) := by
  intro _ r h
  cases h
theorem samplePreload (pins : BitVec 96) : Statement (.samplePreload pins) := by
  intro _ r h
  cases h
theorem idcode : Statement (.idcode) := by
  intro _ r h
  cases h
theorem tapFreeze : Statement (.tapFreeze) := by
  intro _ r h
  cases h
theorem tapResume : Statement (.tapResume) := by
  intro _ r h
  cases h
theorem rosel (v : Word) : Statement (.rosel v) := by
  intro _ r h
  cases h
theorem rodata (n : Nat) : Statement (.rodata n) := by
  intro _ r h
  cases h
theorem ijtag (n : Nat) : Statement (.ijtag n) := by
  intro _ r h
  cases h
theorem bypass : Statement (.bypass) := by
  intro _ r h
  cases h
theorem trstN : Statement (.trstN) := by
  intro _ r h
  cases h
theorem entdaa (da : BitVec 7) : Statement (.entdaa da) := by
  intro _ r h
  cases h
theorem rstdaa : Statement (.rstdaa) := by
  intro _ r h
  cases h
theorem setdasa (da : BitVec 7) : Statement (.setdasa da) := by
  intro _ r h
  cases h
theorem setnewda (da : BitVec 7) : Statement (.setnewda da) := by
  intro _ r h
  cases h
theorem enec : Statement (.enec) := by
  intro _ r h
  cases h
theorem disec : Statement (.disec) := by
  intro _ r h
  cases h
theorem getpid : Statement (.getpid) := by
  intro _ r h
  cases h
theorem getbcr : Statement (.getbcr) := by
  intro _ r h
  cases h
theorem getdcr : Statement (.getdcr) := by
  intro _ r h
  cases h
theorem getstatus : Statement (.getstatus) := by
  intro _ r h
  cases h
theorem setmrl (n : BitVec 16) : Statement (.setmrl n) := by
  intro _ r h
  cases h
theorem getmrl : Statement (.getmrl) := by
  intro _ r h
  cases h
theorem i3cPointerWrite (b : List Byte) : Statement (.i3cPointerWrite b) := by
  intro _ r h
  cases h
theorem i3cTelemetryRead (n : Nat) : Statement (.i3cTelemetryRead n) := by
  intro _ r h
  cases h
theorem laneLock (l : LinkId) (lane : BitVec 3) : Statement (.laneLock l lane) := by
  intro _ r h
  cases h
theorem codewordLockLoss (l : LinkId) : Statement (.codewordLockLoss l) := by
  intro _ r h
  cases h
theorem pclkArrival (st : Startup) : Statement (.pclkArrival st) := by
  intro _ r h
  cases h
theorem hotReset : Statement (.hotReset) := by
  intro _ r h
  cases h
theorem vfEnableClear (fns : List GraphId) : Statement (.vfEnableClear fns) := by
  intro _ r h
  cases h
theorem hostWriteFailed : Statement (.hostWriteFailed) := by
  intro _ r h
  cases h
theorem hbmThermalThrottle (n : BitVec 5) (temp : BitVec 16) : Statement (.hbmThermalThrottle n temp) := by
  intro _ r h
  cases h

end Sys2Proof.Laws.Operands
end

