-- ==== Sys2Proof/Laws/Run.lean ====
section
/-! SUPPORT. What the running of a meaning can do: its wrapper decides whether it acts, and nothing but the wrappers of memory and
supply touches HBM; no meaning touches the queue. -/

-- Proofs are elaborated one after another: side by side they take more memory and more time.
set_option Elab.async false

namespace Sys2Proof.Machine

/-! ### A meaning acts -/

theorem onDies_acts {s : State} (f : Dev → Dev) (h : s.dev.diesStop = false) :
    onDies f s = .next { s with dev := f s.dev } := by simp [onDies, h]

theorem onDies_still {s : State} (f : Dev → Dev) (h : s.dev.diesStop = true) : onDies f s = .next s := by
  simp [onDies, h]

theorem onHub_acts {s : State} (f : Dev → Dev) (h : s.dev.hubRuns = true) :
    onHub f s = .next { s with dev := f s.dev } := by simp [onHub, h]

theorem onHub_still {s : State} (f : Dev → Dev) (h : s.dev.hubRuns = false) : onHub f s = .next s := by
  simp [onHub, h]

theorem onMem_acts {s : State} (f : Hbm → Dev → Hbm × Dev) (h : s.dev.diesStop = false) :
    onMem f s = .next { s with hbm := (f s.hbm s.dev).1, dev := (f s.hbm s.dev).2 } := by simp [onMem, h]

theorem onMem_still {s : State} (f : Hbm → Dev → Hbm × Dev) (h : s.dev.diesStop = true) : onMem f s = .next s := by
  simp [onMem, h]

theorem onAccess_acts {s : State} (x : HostTlp) (h : s.dev.hubRuns = true) (r : x.req.toNat < 64) :
    onAccess x s = .next { s with dev := s.dev.performTlp x } := by
  have : ¬x.top < x.req.toNat := by unfold HostTlp.top; split <;> omega
  simp [onAccess, Dev.hostAccess, this, h]

/-- In a full freeze an access changes nothing but the queue of TLPs, and that by one place at most. -/
theorem hostAccess_held {d : Dev} (x : HostTlp) (h : d.hubRuns = false) :
    d.hif.tlps.length < tlpPlaces ∧ x.req.toNat < 64 ∧ d.hostAccess x = { d with hif := { d.hif with tlps := d.hif.tlps ++ [x] } } ∨
      d.hostAccess x = d := by
  unfold Dev.hostAccess
  split
  · simp_all
  · split
    · simp_all
    · exact .inr rfl

/-! ### A meaning of the device alone -/

/-- A meaning that answers next with the queue and HBM as they were. -/
def DevOnly (s : State) (o : Host.Outcome State Fault Refusal) : Prop :=
  (∃ d, o = .next { s with dev := d }) ∨ o = .refused .noSuchRequester

theorem onDies_devOnly (f : Dev → Dev) (s : State) : DevOnly s (onDies f s) := .inl ⟨_, rfl⟩

theorem onHub_devOnly (f : Dev → Dev) (s : State) : DevOnly s (onHub f s) := .inl ⟨_, rfl⟩

theorem onAlways_devOnly (f : Dev → Dev) (s : State) : DevOnly s (onAlways f s) := .inl ⟨_, rfl⟩

theorem onAccess_devOnly (x : HostTlp) (s : State) : DevOnly s (onAccess x s) := by
  unfold onAccess
  split
  · exact .inr rfl
  · exact .inl ⟨_, rfl⟩

/-- What follows a meaning of the device alone keeps the queue and HBM. -/
theorem DevOnly.keeps {s t : State} {o : Host.Outcome State Fault Refusal} (h : DevOnly s o) (e : o = .next t) :
    t.pending = s.pending ∧ t.hbm = s.hbm := by
  rcases h with ⟨d, rfl⟩ | rfl
  · cases e; exact ⟨rfl, rfl⟩
  · cases e

/-! ### A meaning of memory -/

theorem onMem_next (f : Hbm → Dev → Hbm × Dev) (s : State) : ∃ h d, onMem f s = .next { s with hbm := h, dev := d } := by
  unfold onMem
  split
  · exact ⟨_, _, rfl⟩
  · exact ⟨_, _, rfl⟩

theorem onMem_wf {f : Hbm → Dev → Hbm × Dev} {s t : State} (hf : ∀ h d, h.wf = true → (f h d).1.wf = true)
    (w : s.hbm.wf = true) (e : onMem f s = .next t) : t.hbm.wf = true := by
  unfold onMem at e
  split at e
  · cases e; exact w
  · cases e; exact hf _ _ w

theorem onSupply_wf {f : Hbm → Dev → Hbm × Dev} {s t : State} (hf : ∀ h d, h.wf = true → (f h d).1.wf = true)
    (w : s.hbm.wf = true) (e : onSupply f s = .next t) : t.hbm.wf = true := by
  cases e; exact hf _ _ w

/-! ### A step -/

theorem step_cons {s : State} {c : Instr} {rest : List Instr} (h : s.pending = c :: rest) :
    step s = exec c { s with pending := rest } := by simp [step, h]

theorem step_nil {s : State} (h : s.pending = []) : step s = .next { s with dev := s.dev.tick } := by simp [step, h]

end Sys2Proof.Machine
end

