-- ==== Sys2Proof/Laws/Token.lean ====
section
/-! SUPPORT. The fields of a packed token read back as they were packed (R22, R23). -/

-- Proofs are elaborated one after another: side by side they take more memory and more time.
set_option Elab.async false

namespace Sys2Proof.Machine

/-- A field of a concatenation that lies wholly above its lower part. -/
theorem extract_high {n m : Nat} (x : BitVec n) (y : BitVec m) (lo len : Nat) (h : m ≤ lo) :
    (x ++ y).extractLsb' lo len = x.extractLsb' (lo - m) len := by
  ext i hi
  simp only [BitVec.getElem_extractLsb', BitVec.getLsbD_append]
  rw [if_neg (by omega)]
  congr 1
  omega

/-- A field of a concatenation that lies wholly within its lower part. -/
theorem extract_low {n m : Nat} (x : BitVec n) (y : BitVec m) (lo len : Nat) (h : lo + len ≤ m) :
    (x ++ y).extractLsb' lo len = y.extractLsb' lo len := by
  ext i hi
  simp only [BitVec.getElem_extractLsb', BitVec.getLsbD_append]
  rw [if_pos (by omega)]

/-- The lowest field of a concatenation. -/
theorem extract_self {n : Nat} (x : BitVec n) : x.extractLsb' 0 n = x := by simp

@[simp] theorem TokenFields.pack_node (f : TokenFields) : f.pack.node = f.node := by
  simp only [Token.node, TokenFields.pack, bits]
  repeat (first | rw [extract_low _ _ _ _ (by omega)] | rw [extract_high _ _ _ _ (by omega)])
  simp

@[simp] theorem TokenFields.pack_cell (f : TokenFields) : f.pack.cell = f.cell := by
  simp only [Token.cell, TokenFields.pack, bits]
  repeat (first | rw [extract_low _ _ _ _ (by omega)] | rw [extract_high _ _ _ _ (by omega)])
  simp

@[simp] theorem TokenFields.pack_graph (f : TokenFields) : f.pack.graph = f.graph := by
  simp only [Token.graph, TokenFields.pack, bits]
  repeat (first | rw [extract_low _ _ _ _ (by omega)] | rw [extract_high _ _ _ _ (by omega)])
  simp

@[simp] theorem TokenFields.pack_cls (f : TokenFields) : f.pack.cls = f.cls := by
  simp only [Token.cls, TokenFields.pack, bits]
  repeat (first | rw [extract_low _ _ _ _ (by omega)] | rw [extract_high _ _ _ _ (by omega)])
  simp

@[simp] theorem TokenFields.pack_stream (f : TokenFields) : f.pack.stream = f.stream := by
  simp only [Token.stream, TokenFields.pack, bits]
  repeat (first | rw [extract_low _ _ _ _ (by omega)] | rw [extract_high _ _ _ _ (by omega)])
  simp

@[simp] theorem TokenFields.pack_seq (f : TokenFields) : f.pack.seq = f.seq := by
  simp only [Token.seq, TokenFields.pack, bits]
  repeat (first | rw [extract_low _ _ _ _ (by omega)] | rw [extract_high _ _ _ _ (by omega)])
  simp

@[simp] theorem TokenFields.pack_kind (f : TokenFields) : f.pack.kind = f.kind := by
  simp only [Token.kind, TokenFields.pack, bits]
  repeat (first | rw [extract_low _ _ _ _ (by omega)] | rw [extract_high _ _ _ _ (by omega)])
  simp

@[simp] theorem TokenFields.pack_vtype (f : TokenFields) : f.pack.vtype = f.vtype := by
  simp only [Token.vtype, TokenFields.pack, bits]
  repeat (first | rw [extract_low _ _ _ _ (by omega)] | rw [extract_high _ _ _ _ (by omega)])
  simp

@[simp] theorem TokenFields.pack_frame (f : TokenFields) : f.pack.frame = f.frame := by
  simp only [Token.frame, TokenFields.pack, bits]
  repeat (first | rw [extract_low _ _ _ _ (by omega)] | rw [extract_high _ _ _ _ (by omega)])
  simp

@[simp] theorem TokenFields.pack_instr (f : TokenFields) : f.pack.instr = f.instr := by
  simp only [Token.instr, TokenFields.pack, bits]
  repeat (first | rw [extract_low _ _ _ _ (by omega)] | rw [extract_high _ _ _ _ (by omega)])
  simp

@[simp] theorem TokenFields.pack_port (f : TokenFields) : f.pack.port = f.port := by
  simp only [Token.port, TokenFields.pack, bits]
  repeat (first | rw [extract_low _ _ _ _ (by omega)] | rw [extract_high _ _ _ _ (by omega)])
  simp

@[simp] theorem TokenFields.pack_iter (f : TokenFields) : f.pack.iter = f.iter := by
  simp only [Token.iter, TokenFields.pack, bits]
  rw [extract_low _ _ _ _ (by omega)]
  simp

@[simp] theorem TokenFields.pack_poison (f : TokenFields) : f.pack.poison = f.poison := by
  simp only [Token.poison, TokenFields.pack, bit, BitVec.getLsbD_append]
  simp [b2v]
  cases f.poison <;> rfl

@[simp] theorem TokenFields.pack_epoch (f : TokenFields) : f.pack.epoch = f.epoch := by
  simp only [Token.epoch, TokenFields.pack, bit, BitVec.getLsbD_append]
  simp [b2v]
  cases f.epoch <;> rfl

@[simp] theorem TokenFields.pack_colour (f : TokenFields) : f.pack.colour = f.colour := by
  simp only [Token.colour, TokenFields.pack, bit, BitVec.getLsbD_append]
  simp [b2v]
  cases f.colour <;> rfl

@[simp] theorem TokenFields.pack_w2 (f : TokenFields) : f.pack.w2 = f.value := rfl

end Sys2Proof.Machine
end

