-- ==== Sys2Proof/Laws/Updates.lean ====
section
/-! SUPPORT. What the updates of the fabric's queues, of a link, of a ring pair and of a function's configuration leave as it was,
field by field. -/

-- Proofs are elaborated one after another: side by side they take more memory and more time.
set_option Elab.async false

namespace Sys2Proof.Machine

/-! ### setVc changes `fab.vcs` alone -/

@[simp] theorem Dev.setVc_out (d : Dev) (k : Nat) (l : List Flit) : (d.setVc k l).out = d.out := rfl
@[simp] theorem Dev.setVc_clock (d : Dev) (k : Nat) (l : List Flit) : (d.setVc k l).clock = d.clock := rfl
@[simp] theorem Dev.setVc_regs (d : Dev) (k : Nat) (l : List Flit) : (d.setVc k l).regs = d.regs := rfl
@[simp] theorem Dev.setVc_cells (d : Dev) (k : Nat) (l : List Flit) : (d.setVc k l).cells = d.cells := rfl
@[simp] theorem Dev.setVc_stks (d : Dev) (k : Nat) (l : List Flit) : (d.setVc k l).stks = d.stks := rfl
@[simp] theorem Dev.setVc_yoyos (d : Dev) (k : Nat) (l : List Flit) : (d.setVc k l).yoyos = d.yoyos := rfl
@[simp] theorem Dev.setVc_links (d : Dev) (k : Nat) (l : List Flit) : (d.setVc k l).links = d.links := rfl
@[simp] theorem Dev.setVc_lsym (d : Dev) (k : Nat) (l : List Flit) : (d.setVc k l).lsym = d.lsym := rfl
@[simp] theorem Dev.setVc_symTimes (d : Dev) (k : Nat) (l : List Flit) : (d.setVc k l).symTimes = d.symTimes := rfl
@[simp] theorem Dev.setVc_fbn (d : Dev) (k : Nat) (l : List Flit) : (d.setVc k l).fbn = d.fbn := rfl
@[simp] theorem Dev.setVc_hif (d : Dev) (k : Nat) (l : List Flit) : (d.setVc k l).hif = d.hif := rfl
@[simp] theorem Dev.setVc_graphs (d : Dev) (k : Nat) (l : List Flit) : (d.setVc k l).graphs = d.graphs := rfl
@[simp] theorem Dev.setVc_flt (d : Dev) (k : Nat) (l : List Flit) : (d.setVc k l).flt = d.flt := rfl
@[simp] theorem Dev.setVc_pwr (d : Dev) (k : Nat) (l : List Flit) : (d.setVc k l).pwr = d.pwr := rfl
@[simp] theorem Dev.setVc_mgt (d : Dev) (k : Nat) (l : List Flit) : (d.setVc k l).mgt = d.mgt := rfl
@[simp] theorem Dev.setVc_tap (d : Dev) (k : Nat) (l : List Flit) : (d.setVc k l).tap = d.tap := rfl
@[simp] theorem Dev.setVc_kal (d : Dev) (k : Nat) (l : List Flit) : (d.setVc k l).kal = d.kal := rfl
@[simp] theorem Dev.setVc_uct (d : Dev) (k : Nat) (l : List Flit) : (d.setVc k l).uct = d.uct := rfl
@[simp] theorem Dev.setVc_rgnInit (d : Dev) (k : Nat) (l : List Flit) : (d.setVc k l).rgnInit = d.rgnInit := rfl
@[simp] theorem Dev.setVc_freeCtr (d : Dev) (k : Nat) (l : List Flit) : (d.setVc k l).freeCtr = d.freeCtr := rfl
@[simp] theorem Dev.setVc_fab_dry (d : Dev) (k : Nat) (l : List Flit) : (d.setVc k l).fab.dry = d.fab.dry := rfl
@[simp] theorem Dev.setVc_fab_hubq (d : Dev) (k : Nat) (l : List Flit) : (d.setVc k l).fab.hubq = d.fab.hubq := rfl
@[simp] theorem Dev.setVc_fab_cross (d : Dev) (k : Nat) (l : List Flit) : (d.setVc k l).fab.cross = d.fab.cross := rfl
@[simp] theorem Dev.setVc_fab_d2d (d : Dev) (k : Nat) (l : List Flit) : (d.setVc k l).fab.d2d = d.fab.d2d := rfl
@[simp] theorem Dev.setVc_fab_sent (d : Dev) (k : Nat) (l : List Flit) : (d.setVc k l).fab.sent = d.fab.sent := rfl
@[simp] theorem Dev.setVc_fab_waits (d : Dev) (k : Nat) (l : List Flit) : (d.setVc k l).fab.waits = d.fab.waits := rfl
@[simp] theorem Dev.setVc_fab_rt (d : Dev) (k : Nat) (l : List Flit) : (d.setVc k l).fab.rt = d.fab.rt := rfl
@[simp] theorem Dev.setVc_fab_routeTodo (d : Dev) (k : Nat) (l : List Flit) : (d.setVc k l).fab.routeTodo = d.fab.routeTodo := rfl
@[simp] theorem Dev.setVc_fab_cur (d : Dev) (k : Nat) (l : List Flit) : (d.setVc k l).fab.cur = d.fab.cur := rfl
@[simp] theorem Dev.setVc_fab_retiring (d : Dev) (k : Nat) (l : List Flit) : (d.setVc k l).fab.retiring = d.fab.retiring := rfl
@[simp] theorem Dev.setVc_fab_drains (d : Dev) (k : Nat) (l : List Flit) : (d.setVc k l).fab.drains = d.fab.drains := rfl
@[simp] theorem Dev.setVc_fab_slots (d : Dev) (k : Nat) (l : List Flit) : (d.setVc k l).fab.slots = d.fab.slots := rfl
@[simp] theorem Dev.setVc_fab_slotsNew (d : Dev) (k : Nat) (l : List Flit) : (d.setVc k l).fab.slotsNew = d.fab.slotsNew := rfl
@[simp] theorem Dev.setVc_fab_rr (d : Dev) (k : Nat) (l : List Flit) : (d.setVc k l).fab.rr = d.fab.rr := rfl
@[simp] theorem Dev.setVc_fab_urgent (d : Dev) (k : Nat) (l : List Flit) : (d.setVc k l).fab.urgent = d.fab.urgent := rfl
@[simp] theorem Dev.setVc_fab_power (d : Dev) (k : Nat) (l : List Flit) : (d.setVc k l).fab.power = d.fab.power := rfl
@[simp] theorem Dev.setVc_fab_hold (d : Dev) (k : Nat) (l : List Flit) : (d.setVc k l).fab.hold = d.fab.hold := rfl
@[simp] theorem Dev.setVc_fab_idleSince (d : Dev) (k : Nat) (l : List Flit) : (d.setVc k l).fab.idleSince = d.fab.idleSince := rfl
@[simp] theorem Dev.setVc_fab_dead (d : Dev) (k : Nat) (l : List Flit) : (d.setVc k l).fab.dead = d.fab.dead := rfl
@[simp] theorem Dev.setVc_fab_d2dDown (d : Dev) (k : Nat) (l : List Flit) : (d.setVc k l).fab.d2dDown = d.fab.d2dDown := rfl

/-! ### setHubIn changes `fab.hubq` alone -/

@[simp] theorem Dev.setHubIn_out (d : Dev) (k : Nat) (l : List Flit) : (d.setHubIn k l).out = d.out := rfl
@[simp] theorem Dev.setHubIn_clock (d : Dev) (k : Nat) (l : List Flit) : (d.setHubIn k l).clock = d.clock := rfl
@[simp] theorem Dev.setHubIn_regs (d : Dev) (k : Nat) (l : List Flit) : (d.setHubIn k l).regs = d.regs := rfl
@[simp] theorem Dev.setHubIn_cells (d : Dev) (k : Nat) (l : List Flit) : (d.setHubIn k l).cells = d.cells := rfl
@[simp] theorem Dev.setHubIn_stks (d : Dev) (k : Nat) (l : List Flit) : (d.setHubIn k l).stks = d.stks := rfl
@[simp] theorem Dev.setHubIn_yoyos (d : Dev) (k : Nat) (l : List Flit) : (d.setHubIn k l).yoyos = d.yoyos := rfl
@[simp] theorem Dev.setHubIn_links (d : Dev) (k : Nat) (l : List Flit) : (d.setHubIn k l).links = d.links := rfl
@[simp] theorem Dev.setHubIn_lsym (d : Dev) (k : Nat) (l : List Flit) : (d.setHubIn k l).lsym = d.lsym := rfl
@[simp] theorem Dev.setHubIn_symTimes (d : Dev) (k : Nat) (l : List Flit) : (d.setHubIn k l).symTimes = d.symTimes := rfl
@[simp] theorem Dev.setHubIn_fbn (d : Dev) (k : Nat) (l : List Flit) : (d.setHubIn k l).fbn = d.fbn := rfl
@[simp] theorem Dev.setHubIn_hif (d : Dev) (k : Nat) (l : List Flit) : (d.setHubIn k l).hif = d.hif := rfl
@[simp] theorem Dev.setHubIn_graphs (d : Dev) (k : Nat) (l : List Flit) : (d.setHubIn k l).graphs = d.graphs := rfl
@[simp] theorem Dev.setHubIn_flt (d : Dev) (k : Nat) (l : List Flit) : (d.setHubIn k l).flt = d.flt := rfl
@[simp] theorem Dev.setHubIn_pwr (d : Dev) (k : Nat) (l : List Flit) : (d.setHubIn k l).pwr = d.pwr := rfl
@[simp] theorem Dev.setHubIn_mgt (d : Dev) (k : Nat) (l : List Flit) : (d.setHubIn k l).mgt = d.mgt := rfl
@[simp] theorem Dev.setHubIn_tap (d : Dev) (k : Nat) (l : List Flit) : (d.setHubIn k l).tap = d.tap := rfl
@[simp] theorem Dev.setHubIn_kal (d : Dev) (k : Nat) (l : List Flit) : (d.setHubIn k l).kal = d.kal := rfl
@[simp] theorem Dev.setHubIn_uct (d : Dev) (k : Nat) (l : List Flit) : (d.setHubIn k l).uct = d.uct := rfl
@[simp] theorem Dev.setHubIn_rgnInit (d : Dev) (k : Nat) (l : List Flit) : (d.setHubIn k l).rgnInit = d.rgnInit := rfl
@[simp] theorem Dev.setHubIn_freeCtr (d : Dev) (k : Nat) (l : List Flit) : (d.setHubIn k l).freeCtr = d.freeCtr := rfl
@[simp] theorem Dev.setHubIn_fab_vcs (d : Dev) (k : Nat) (l : List Flit) : (d.setHubIn k l).fab.vcs = d.fab.vcs := rfl
@[simp] theorem Dev.setHubIn_fab_dry (d : Dev) (k : Nat) (l : List Flit) : (d.setHubIn k l).fab.dry = d.fab.dry := rfl
@[simp] theorem Dev.setHubIn_fab_cross (d : Dev) (k : Nat) (l : List Flit) : (d.setHubIn k l).fab.cross = d.fab.cross := rfl
@[simp] theorem Dev.setHubIn_fab_d2d (d : Dev) (k : Nat) (l : List Flit) : (d.setHubIn k l).fab.d2d = d.fab.d2d := rfl
@[simp] theorem Dev.setHubIn_fab_sent (d : Dev) (k : Nat) (l : List Flit) : (d.setHubIn k l).fab.sent = d.fab.sent := rfl
@[simp] theorem Dev.setHubIn_fab_waits (d : Dev) (k : Nat) (l : List Flit) : (d.setHubIn k l).fab.waits = d.fab.waits := rfl
@[simp] theorem Dev.setHubIn_fab_rt (d : Dev) (k : Nat) (l : List Flit) : (d.setHubIn k l).fab.rt = d.fab.rt := rfl
@[simp] theorem Dev.setHubIn_fab_routeTodo (d : Dev) (k : Nat) (l : List Flit) : (d.setHubIn k l).fab.routeTodo = d.fab.routeTodo := rfl
@[simp] theorem Dev.setHubIn_fab_cur (d : Dev) (k : Nat) (l : List Flit) : (d.setHubIn k l).fab.cur = d.fab.cur := rfl
@[simp] theorem Dev.setHubIn_fab_retiring (d : Dev) (k : Nat) (l : List Flit) : (d.setHubIn k l).fab.retiring = d.fab.retiring := rfl
@[simp] theorem Dev.setHubIn_fab_drains (d : Dev) (k : Nat) (l : List Flit) : (d.setHubIn k l).fab.drains = d.fab.drains := rfl
@[simp] theorem Dev.setHubIn_fab_slots (d : Dev) (k : Nat) (l : List Flit) : (d.setHubIn k l).fab.slots = d.fab.slots := rfl
@[simp] theorem Dev.setHubIn_fab_slotsNew (d : Dev) (k : Nat) (l : List Flit) : (d.setHubIn k l).fab.slotsNew = d.fab.slotsNew := rfl
@[simp] theorem Dev.setHubIn_fab_rr (d : Dev) (k : Nat) (l : List Flit) : (d.setHubIn k l).fab.rr = d.fab.rr := rfl
@[simp] theorem Dev.setHubIn_fab_urgent (d : Dev) (k : Nat) (l : List Flit) : (d.setHubIn k l).fab.urgent = d.fab.urgent := rfl
@[simp] theorem Dev.setHubIn_fab_power (d : Dev) (k : Nat) (l : List Flit) : (d.setHubIn k l).fab.power = d.fab.power := rfl
@[simp] theorem Dev.setHubIn_fab_hold (d : Dev) (k : Nat) (l : List Flit) : (d.setHubIn k l).fab.hold = d.fab.hold := rfl
@[simp] theorem Dev.setHubIn_fab_idleSince (d : Dev) (k : Nat) (l : List Flit) : (d.setHubIn k l).fab.idleSince = d.fab.idleSince := rfl
@[simp] theorem Dev.setHubIn_fab_dead (d : Dev) (k : Nat) (l : List Flit) : (d.setHubIn k l).fab.dead = d.fab.dead := rfl
@[simp] theorem Dev.setHubIn_fab_d2dDown (d : Dev) (k : Nat) (l : List Flit) : (d.setHubIn k l).fab.d2dDown = d.fab.d2dDown := rfl

/-! ### setCrossing changes `fab.cross` alone -/

@[simp] theorem Dev.setCrossing_out (d : Dev) (k : Nat) (l : List Flit) : (d.setCrossing k l).out = d.out := rfl
@[simp] theorem Dev.setCrossing_clock (d : Dev) (k : Nat) (l : List Flit) : (d.setCrossing k l).clock = d.clock := rfl
@[simp] theorem Dev.setCrossing_regs (d : Dev) (k : Nat) (l : List Flit) : (d.setCrossing k l).regs = d.regs := rfl
@[simp] theorem Dev.setCrossing_cells (d : Dev) (k : Nat) (l : List Flit) : (d.setCrossing k l).cells = d.cells := rfl
@[simp] theorem Dev.setCrossing_stks (d : Dev) (k : Nat) (l : List Flit) : (d.setCrossing k l).stks = d.stks := rfl
@[simp] theorem Dev.setCrossing_yoyos (d : Dev) (k : Nat) (l : List Flit) : (d.setCrossing k l).yoyos = d.yoyos := rfl
@[simp] theorem Dev.setCrossing_links (d : Dev) (k : Nat) (l : List Flit) : (d.setCrossing k l).links = d.links := rfl
@[simp] theorem Dev.setCrossing_lsym (d : Dev) (k : Nat) (l : List Flit) : (d.setCrossing k l).lsym = d.lsym := rfl
@[simp] theorem Dev.setCrossing_symTimes (d : Dev) (k : Nat) (l : List Flit) : (d.setCrossing k l).symTimes = d.symTimes := rfl
@[simp] theorem Dev.setCrossing_fbn (d : Dev) (k : Nat) (l : List Flit) : (d.setCrossing k l).fbn = d.fbn := rfl
@[simp] theorem Dev.setCrossing_hif (d : Dev) (k : Nat) (l : List Flit) : (d.setCrossing k l).hif = d.hif := rfl
@[simp] theorem Dev.setCrossing_graphs (d : Dev) (k : Nat) (l : List Flit) : (d.setCrossing k l).graphs = d.graphs := rfl
@[simp] theorem Dev.setCrossing_flt (d : Dev) (k : Nat) (l : List Flit) : (d.setCrossing k l).flt = d.flt := rfl
@[simp] theorem Dev.setCrossing_pwr (d : Dev) (k : Nat) (l : List Flit) : (d.setCrossing k l).pwr = d.pwr := rfl
@[simp] theorem Dev.setCrossing_mgt (d : Dev) (k : Nat) (l : List Flit) : (d.setCrossing k l).mgt = d.mgt := rfl
@[simp] theorem Dev.setCrossing_tap (d : Dev) (k : Nat) (l : List Flit) : (d.setCrossing k l).tap = d.tap := rfl
@[simp] theorem Dev.setCrossing_kal (d : Dev) (k : Nat) (l : List Flit) : (d.setCrossing k l).kal = d.kal := rfl
@[simp] theorem Dev.setCrossing_uct (d : Dev) (k : Nat) (l : List Flit) : (d.setCrossing k l).uct = d.uct := rfl
@[simp] theorem Dev.setCrossing_rgnInit (d : Dev) (k : Nat) (l : List Flit) : (d.setCrossing k l).rgnInit = d.rgnInit := rfl
@[simp] theorem Dev.setCrossing_freeCtr (d : Dev) (k : Nat) (l : List Flit) : (d.setCrossing k l).freeCtr = d.freeCtr := rfl
@[simp] theorem Dev.setCrossing_fab_vcs (d : Dev) (k : Nat) (l : List Flit) : (d.setCrossing k l).fab.vcs = d.fab.vcs := rfl
@[simp] theorem Dev.setCrossing_fab_dry (d : Dev) (k : Nat) (l : List Flit) : (d.setCrossing k l).fab.dry = d.fab.dry := rfl
@[simp] theorem Dev.setCrossing_fab_hubq (d : Dev) (k : Nat) (l : List Flit) : (d.setCrossing k l).fab.hubq = d.fab.hubq := rfl
@[simp] theorem Dev.setCrossing_fab_d2d (d : Dev) (k : Nat) (l : List Flit) : (d.setCrossing k l).fab.d2d = d.fab.d2d := rfl
@[simp] theorem Dev.setCrossing_fab_sent (d : Dev) (k : Nat) (l : List Flit) : (d.setCrossing k l).fab.sent = d.fab.sent := rfl
@[simp] theorem Dev.setCrossing_fab_waits (d : Dev) (k : Nat) (l : List Flit) : (d.setCrossing k l).fab.waits = d.fab.waits := rfl
@[simp] theorem Dev.setCrossing_fab_rt (d : Dev) (k : Nat) (l : List Flit) : (d.setCrossing k l).fab.rt = d.fab.rt := rfl
@[simp] theorem Dev.setCrossing_fab_routeTodo (d : Dev) (k : Nat) (l : List Flit) : (d.setCrossing k l).fab.routeTodo = d.fab.routeTodo := rfl
@[simp] theorem Dev.setCrossing_fab_cur (d : Dev) (k : Nat) (l : List Flit) : (d.setCrossing k l).fab.cur = d.fab.cur := rfl
@[simp] theorem Dev.setCrossing_fab_retiring (d : Dev) (k : Nat) (l : List Flit) : (d.setCrossing k l).fab.retiring = d.fab.retiring := rfl
@[simp] theorem Dev.setCrossing_fab_drains (d : Dev) (k : Nat) (l : List Flit) : (d.setCrossing k l).fab.drains = d.fab.drains := rfl
@[simp] theorem Dev.setCrossing_fab_slots (d : Dev) (k : Nat) (l : List Flit) : (d.setCrossing k l).fab.slots = d.fab.slots := rfl
@[simp] theorem Dev.setCrossing_fab_slotsNew (d : Dev) (k : Nat) (l : List Flit) : (d.setCrossing k l).fab.slotsNew = d.fab.slotsNew := rfl
@[simp] theorem Dev.setCrossing_fab_rr (d : Dev) (k : Nat) (l : List Flit) : (d.setCrossing k l).fab.rr = d.fab.rr := rfl
@[simp] theorem Dev.setCrossing_fab_urgent (d : Dev) (k : Nat) (l : List Flit) : (d.setCrossing k l).fab.urgent = d.fab.urgent := rfl
@[simp] theorem Dev.setCrossing_fab_power (d : Dev) (k : Nat) (l : List Flit) : (d.setCrossing k l).fab.power = d.fab.power := rfl
@[simp] theorem Dev.setCrossing_fab_hold (d : Dev) (k : Nat) (l : List Flit) : (d.setCrossing k l).fab.hold = d.fab.hold := rfl
@[simp] theorem Dev.setCrossing_fab_idleSince (d : Dev) (k : Nat) (l : List Flit) : (d.setCrossing k l).fab.idleSince = d.fab.idleSince := rfl
@[simp] theorem Dev.setCrossing_fab_dead (d : Dev) (k : Nat) (l : List Flit) : (d.setCrossing k l).fab.dead = d.fab.dead := rfl
@[simp] theorem Dev.setCrossing_fab_d2dDown (d : Dev) (k : Nat) (l : List Flit) : (d.setCrossing k l).fab.d2dDown = d.fab.d2dDown := rfl

/-! ### setEnd changes `fab.d2d` alone -/

@[simp] theorem Dev.setEnd_out (d : Dev) (e : Nat) (x : D2dEnd) : (d.setEnd e x).out = d.out := rfl
@[simp] theorem Dev.setEnd_clock (d : Dev) (e : Nat) (x : D2dEnd) : (d.setEnd e x).clock = d.clock := rfl
@[simp] theorem Dev.setEnd_regs (d : Dev) (e : Nat) (x : D2dEnd) : (d.setEnd e x).regs = d.regs := rfl
@[simp] theorem Dev.setEnd_cells (d : Dev) (e : Nat) (x : D2dEnd) : (d.setEnd e x).cells = d.cells := rfl
@[simp] theorem Dev.setEnd_stks (d : Dev) (e : Nat) (x : D2dEnd) : (d.setEnd e x).stks = d.stks := rfl
@[simp] theorem Dev.setEnd_yoyos (d : Dev) (e : Nat) (x : D2dEnd) : (d.setEnd e x).yoyos = d.yoyos := rfl
@[simp] theorem Dev.setEnd_links (d : Dev) (e : Nat) (x : D2dEnd) : (d.setEnd e x).links = d.links := rfl
@[simp] theorem Dev.setEnd_lsym (d : Dev) (e : Nat) (x : D2dEnd) : (d.setEnd e x).lsym = d.lsym := rfl
@[simp] theorem Dev.setEnd_symTimes (d : Dev) (e : Nat) (x : D2dEnd) : (d.setEnd e x).symTimes = d.symTimes := rfl
@[simp] theorem Dev.setEnd_fbn (d : Dev) (e : Nat) (x : D2dEnd) : (d.setEnd e x).fbn = d.fbn := rfl
@[simp] theorem Dev.setEnd_hif (d : Dev) (e : Nat) (x : D2dEnd) : (d.setEnd e x).hif = d.hif := rfl
@[simp] theorem Dev.setEnd_graphs (d : Dev) (e : Nat) (x : D2dEnd) : (d.setEnd e x).graphs = d.graphs := rfl
@[simp] theorem Dev.setEnd_flt (d : Dev) (e : Nat) (x : D2dEnd) : (d.setEnd e x).flt = d.flt := rfl
@[simp] theorem Dev.setEnd_pwr (d : Dev) (e : Nat) (x : D2dEnd) : (d.setEnd e x).pwr = d.pwr := rfl
@[simp] theorem Dev.setEnd_mgt (d : Dev) (e : Nat) (x : D2dEnd) : (d.setEnd e x).mgt = d.mgt := rfl
@[simp] theorem Dev.setEnd_tap (d : Dev) (e : Nat) (x : D2dEnd) : (d.setEnd e x).tap = d.tap := rfl
@[simp] theorem Dev.setEnd_kal (d : Dev) (e : Nat) (x : D2dEnd) : (d.setEnd e x).kal = d.kal := rfl
@[simp] theorem Dev.setEnd_uct (d : Dev) (e : Nat) (x : D2dEnd) : (d.setEnd e x).uct = d.uct := rfl
@[simp] theorem Dev.setEnd_rgnInit (d : Dev) (e : Nat) (x : D2dEnd) : (d.setEnd e x).rgnInit = d.rgnInit := rfl
@[simp] theorem Dev.setEnd_freeCtr (d : Dev) (e : Nat) (x : D2dEnd) : (d.setEnd e x).freeCtr = d.freeCtr := rfl
@[simp] theorem Dev.setEnd_fab_vcs (d : Dev) (e : Nat) (x : D2dEnd) : (d.setEnd e x).fab.vcs = d.fab.vcs := rfl
@[simp] theorem Dev.setEnd_fab_dry (d : Dev) (e : Nat) (x : D2dEnd) : (d.setEnd e x).fab.dry = d.fab.dry := rfl
@[simp] theorem Dev.setEnd_fab_hubq (d : Dev) (e : Nat) (x : D2dEnd) : (d.setEnd e x).fab.hubq = d.fab.hubq := rfl
@[simp] theorem Dev.setEnd_fab_cross (d : Dev) (e : Nat) (x : D2dEnd) : (d.setEnd e x).fab.cross = d.fab.cross := rfl
@[simp] theorem Dev.setEnd_fab_sent (d : Dev) (e : Nat) (x : D2dEnd) : (d.setEnd e x).fab.sent = d.fab.sent := rfl
@[simp] theorem Dev.setEnd_fab_waits (d : Dev) (e : Nat) (x : D2dEnd) : (d.setEnd e x).fab.waits = d.fab.waits := rfl
@[simp] theorem Dev.setEnd_fab_rt (d : Dev) (e : Nat) (x : D2dEnd) : (d.setEnd e x).fab.rt = d.fab.rt := rfl
@[simp] theorem Dev.setEnd_fab_routeTodo (d : Dev) (e : Nat) (x : D2dEnd) : (d.setEnd e x).fab.routeTodo = d.fab.routeTodo := rfl
@[simp] theorem Dev.setEnd_fab_cur (d : Dev) (e : Nat) (x : D2dEnd) : (d.setEnd e x).fab.cur = d.fab.cur := rfl
@[simp] theorem Dev.setEnd_fab_retiring (d : Dev) (e : Nat) (x : D2dEnd) : (d.setEnd e x).fab.retiring = d.fab.retiring := rfl
@[simp] theorem Dev.setEnd_fab_drains (d : Dev) (e : Nat) (x : D2dEnd) : (d.setEnd e x).fab.drains = d.fab.drains := rfl
@[simp] theorem Dev.setEnd_fab_slots (d : Dev) (e : Nat) (x : D2dEnd) : (d.setEnd e x).fab.slots = d.fab.slots := rfl
@[simp] theorem Dev.setEnd_fab_slotsNew (d : Dev) (e : Nat) (x : D2dEnd) : (d.setEnd e x).fab.slotsNew = d.fab.slotsNew := rfl
@[simp] theorem Dev.setEnd_fab_rr (d : Dev) (e : Nat) (x : D2dEnd) : (d.setEnd e x).fab.rr = d.fab.rr := rfl
@[simp] theorem Dev.setEnd_fab_urgent (d : Dev) (e : Nat) (x : D2dEnd) : (d.setEnd e x).fab.urgent = d.fab.urgent := rfl
@[simp] theorem Dev.setEnd_fab_power (d : Dev) (e : Nat) (x : D2dEnd) : (d.setEnd e x).fab.power = d.fab.power := rfl
@[simp] theorem Dev.setEnd_fab_hold (d : Dev) (e : Nat) (x : D2dEnd) : (d.setEnd e x).fab.hold = d.fab.hold := rfl
@[simp] theorem Dev.setEnd_fab_idleSince (d : Dev) (e : Nat) (x : D2dEnd) : (d.setEnd e x).fab.idleSince = d.fab.idleSince := rfl
@[simp] theorem Dev.setEnd_fab_dead (d : Dev) (e : Nat) (x : D2dEnd) : (d.setEnd e x).fab.dead = d.fab.dead := rfl
@[simp] theorem Dev.setEnd_fab_d2dDown (d : Dev) (e : Nat) (x : D2dEnd) : (d.setEnd e x).fab.d2dDown = d.fab.d2dDown := rfl

/-! ### setLink changes `links` alone -/

@[simp] theorem Dev.setLink_out (d : Dev) (l : LinkId) (x : Link) : (d.setLink l x).out = d.out := rfl
@[simp] theorem Dev.setLink_clock (d : Dev) (l : LinkId) (x : Link) : (d.setLink l x).clock = d.clock := rfl
@[simp] theorem Dev.setLink_regs (d : Dev) (l : LinkId) (x : Link) : (d.setLink l x).regs = d.regs := rfl
@[simp] theorem Dev.setLink_cells (d : Dev) (l : LinkId) (x : Link) : (d.setLink l x).cells = d.cells := rfl
@[simp] theorem Dev.setLink_stks (d : Dev) (l : LinkId) (x : Link) : (d.setLink l x).stks = d.stks := rfl
@[simp] theorem Dev.setLink_yoyos (d : Dev) (l : LinkId) (x : Link) : (d.setLink l x).yoyos = d.yoyos := rfl
@[simp] theorem Dev.setLink_fab (d : Dev) (l : LinkId) (x : Link) : (d.setLink l x).fab = d.fab := rfl
@[simp] theorem Dev.setLink_lsym (d : Dev) (l : LinkId) (x : Link) : (d.setLink l x).lsym = d.lsym := rfl
@[simp] theorem Dev.setLink_symTimes (d : Dev) (l : LinkId) (x : Link) : (d.setLink l x).symTimes = d.symTimes := rfl
@[simp] theorem Dev.setLink_fbn (d : Dev) (l : LinkId) (x : Link) : (d.setLink l x).fbn = d.fbn := rfl
@[simp] theorem Dev.setLink_hif (d : Dev) (l : LinkId) (x : Link) : (d.setLink l x).hif = d.hif := rfl
@[simp] theorem Dev.setLink_graphs (d : Dev) (l : LinkId) (x : Link) : (d.setLink l x).graphs = d.graphs := rfl
@[simp] theorem Dev.setLink_flt (d : Dev) (l : LinkId) (x : Link) : (d.setLink l x).flt = d.flt := rfl
@[simp] theorem Dev.setLink_pwr (d : Dev) (l : LinkId) (x : Link) : (d.setLink l x).pwr = d.pwr := rfl
@[simp] theorem Dev.setLink_mgt (d : Dev) (l : LinkId) (x : Link) : (d.setLink l x).mgt = d.mgt := rfl
@[simp] theorem Dev.setLink_tap (d : Dev) (l : LinkId) (x : Link) : (d.setLink l x).tap = d.tap := rfl
@[simp] theorem Dev.setLink_kal (d : Dev) (l : LinkId) (x : Link) : (d.setLink l x).kal = d.kal := rfl
@[simp] theorem Dev.setLink_uct (d : Dev) (l : LinkId) (x : Link) : (d.setLink l x).uct = d.uct := rfl
@[simp] theorem Dev.setLink_rgnInit (d : Dev) (l : LinkId) (x : Link) : (d.setLink l x).rgnInit = d.rgnInit := rfl
@[simp] theorem Dev.setLink_freeCtr (d : Dev) (l : LinkId) (x : Link) : (d.setLink l x).freeCtr = d.freeCtr := rfl

/-! ### modLink changes `links` alone -/

@[simp] theorem Dev.modLink_out (d : Dev) (l : LinkId) (f : Link → Link) : (d.modLink l f).out = d.out := rfl
@[simp] theorem Dev.modLink_clock (d : Dev) (l : LinkId) (f : Link → Link) : (d.modLink l f).clock = d.clock := rfl
@[simp] theorem Dev.modLink_regs (d : Dev) (l : LinkId) (f : Link → Link) : (d.modLink l f).regs = d.regs := rfl
@[simp] theorem Dev.modLink_cells (d : Dev) (l : LinkId) (f : Link → Link) : (d.modLink l f).cells = d.cells := rfl
@[simp] theorem Dev.modLink_stks (d : Dev) (l : LinkId) (f : Link → Link) : (d.modLink l f).stks = d.stks := rfl
@[simp] theorem Dev.modLink_yoyos (d : Dev) (l : LinkId) (f : Link → Link) : (d.modLink l f).yoyos = d.yoyos := rfl
@[simp] theorem Dev.modLink_fab (d : Dev) (l : LinkId) (f : Link → Link) : (d.modLink l f).fab = d.fab := rfl
@[simp] theorem Dev.modLink_lsym (d : Dev) (l : LinkId) (f : Link → Link) : (d.modLink l f).lsym = d.lsym := rfl
@[simp] theorem Dev.modLink_symTimes (d : Dev) (l : LinkId) (f : Link → Link) : (d.modLink l f).symTimes = d.symTimes := rfl
@[simp] theorem Dev.modLink_fbn (d : Dev) (l : LinkId) (f : Link → Link) : (d.modLink l f).fbn = d.fbn := rfl
@[simp] theorem Dev.modLink_hif (d : Dev) (l : LinkId) (f : Link → Link) : (d.modLink l f).hif = d.hif := rfl
@[simp] theorem Dev.modLink_graphs (d : Dev) (l : LinkId) (f : Link → Link) : (d.modLink l f).graphs = d.graphs := rfl
@[simp] theorem Dev.modLink_flt (d : Dev) (l : LinkId) (f : Link → Link) : (d.modLink l f).flt = d.flt := rfl
@[simp] theorem Dev.modLink_pwr (d : Dev) (l : LinkId) (f : Link → Link) : (d.modLink l f).pwr = d.pwr := rfl
@[simp] theorem Dev.modLink_mgt (d : Dev) (l : LinkId) (f : Link → Link) : (d.modLink l f).mgt = d.mgt := rfl
@[simp] theorem Dev.modLink_tap (d : Dev) (l : LinkId) (f : Link → Link) : (d.modLink l f).tap = d.tap := rfl
@[simp] theorem Dev.modLink_kal (d : Dev) (l : LinkId) (f : Link → Link) : (d.modLink l f).kal = d.kal := rfl
@[simp] theorem Dev.modLink_uct (d : Dev) (l : LinkId) (f : Link → Link) : (d.modLink l f).uct = d.uct := rfl
@[simp] theorem Dev.modLink_rgnInit (d : Dev) (l : LinkId) (f : Link → Link) : (d.modLink l f).rgnInit = d.rgnInit := rfl
@[simp] theorem Dev.modLink_freeCtr (d : Dev) (l : LinkId) (f : Link → Link) : (d.modLink l f).freeCtr = d.freeCtr := rfl

/-! ### modPair changes `hif.pairs` alone -/

@[simp] theorem Dev.modPair_out (d : Dev) (r : BitVec 12) (f : Pair → Pair) : (d.modPair r f).out = d.out := rfl
@[simp] theorem Dev.modPair_clock (d : Dev) (r : BitVec 12) (f : Pair → Pair) : (d.modPair r f).clock = d.clock := rfl
@[simp] theorem Dev.modPair_regs (d : Dev) (r : BitVec 12) (f : Pair → Pair) : (d.modPair r f).regs = d.regs := rfl
@[simp] theorem Dev.modPair_cells (d : Dev) (r : BitVec 12) (f : Pair → Pair) : (d.modPair r f).cells = d.cells := rfl
@[simp] theorem Dev.modPair_stks (d : Dev) (r : BitVec 12) (f : Pair → Pair) : (d.modPair r f).stks = d.stks := rfl
@[simp] theorem Dev.modPair_yoyos (d : Dev) (r : BitVec 12) (f : Pair → Pair) : (d.modPair r f).yoyos = d.yoyos := rfl
@[simp] theorem Dev.modPair_fab (d : Dev) (r : BitVec 12) (f : Pair → Pair) : (d.modPair r f).fab = d.fab := rfl
@[simp] theorem Dev.modPair_links (d : Dev) (r : BitVec 12) (f : Pair → Pair) : (d.modPair r f).links = d.links := rfl
@[simp] theorem Dev.modPair_lsym (d : Dev) (r : BitVec 12) (f : Pair → Pair) : (d.modPair r f).lsym = d.lsym := rfl
@[simp] theorem Dev.modPair_symTimes (d : Dev) (r : BitVec 12) (f : Pair → Pair) : (d.modPair r f).symTimes = d.symTimes := rfl
@[simp] theorem Dev.modPair_fbn (d : Dev) (r : BitVec 12) (f : Pair → Pair) : (d.modPair r f).fbn = d.fbn := rfl
@[simp] theorem Dev.modPair_graphs (d : Dev) (r : BitVec 12) (f : Pair → Pair) : (d.modPair r f).graphs = d.graphs := rfl
@[simp] theorem Dev.modPair_flt (d : Dev) (r : BitVec 12) (f : Pair → Pair) : (d.modPair r f).flt = d.flt := rfl
@[simp] theorem Dev.modPair_pwr (d : Dev) (r : BitVec 12) (f : Pair → Pair) : (d.modPair r f).pwr = d.pwr := rfl
@[simp] theorem Dev.modPair_mgt (d : Dev) (r : BitVec 12) (f : Pair → Pair) : (d.modPair r f).mgt = d.mgt := rfl
@[simp] theorem Dev.modPair_tap (d : Dev) (r : BitVec 12) (f : Pair → Pair) : (d.modPair r f).tap = d.tap := rfl
@[simp] theorem Dev.modPair_kal (d : Dev) (r : BitVec 12) (f : Pair → Pair) : (d.modPair r f).kal = d.kal := rfl
@[simp] theorem Dev.modPair_uct (d : Dev) (r : BitVec 12) (f : Pair → Pair) : (d.modPair r f).uct = d.uct := rfl
@[simp] theorem Dev.modPair_rgnInit (d : Dev) (r : BitVec 12) (f : Pair → Pair) : (d.modPair r f).rgnInit = d.rgnInit := rfl
@[simp] theorem Dev.modPair_freeCtr (d : Dev) (r : BitVec 12) (f : Pair → Pair) : (d.modPair r f).freeCtr = d.freeCtr := rfl
@[simp] theorem Dev.modPair_hif_orings (d : Dev) (r : BitVec 12) (f : Pair → Pair) : (d.modPair r f).hif.orings = d.hif.orings := rfl
@[simp] theorem Dev.modPair_hif_vectors (d : Dev) (r : BitVec 12) (f : Pair → Pair) : (d.modPair r f).hif.vectors = d.hif.vectors := rfl
@[simp] theorem Dev.modPair_hif_pairFn (d : Dev) (r : BitVec 12) (f : Pair → Pair) : (d.modPair r f).hif.pairFn = d.hif.pairFn := rfl
@[simp] theorem Dev.modPair_hif_oringFn (d : Dev) (r : BitVec 12) (f : Pair → Pair) : (d.modPair r f).hif.oringFn = d.hif.oringFn := rfl
@[simp] theorem Dev.modPair_hif_cellFn (d : Dev) (r : BitVec 12) (f : Pair → Pair) : (d.modPair r f).hif.cellFn = d.hif.cellFn := rfl
@[simp] theorem Dev.modPair_hif_window (d : Dev) (r : BitVec 12) (f : Pair → Pair) : (d.modPair r f).hif.window = d.hif.window := rfl
@[simp] theorem Dev.modPair_hif_rr (d : Dev) (r : BitVec 12) (f : Pair → Pair) : (d.modPair r f).hif.rr = d.hif.rr := rfl
@[simp] theorem Dev.modPair_hif_wake (d : Dev) (r : BitVec 12) (f : Pair → Pair) : (d.modPair r f).hif.wake = d.hif.wake := rfl
@[simp] theorem Dev.modPair_hif_polled (d : Dev) (r : BitVec 12) (f : Pair → Pair) : (d.modPair r f).hif.polled = d.hif.polled := rfl
@[simp] theorem Dev.modPair_hif_hostReqs (d : Dev) (r : BitVec 12) (f : Pair → Pair) : (d.modPair r f).hif.hostReqs = d.hif.hostReqs := rfl
@[simp] theorem Dev.modPair_hif_pci (d : Dev) (r : BitVec 12) (f : Pair → Pair) : (d.modPair r f).hif.pci = d.hif.pci := rfl
@[simp] theorem Dev.modPair_hif_vfEn (d : Dev) (r : BitVec 12) (f : Pair → Pair) : (d.modPair r f).hif.vfEn = d.hif.vfEn := rfl
@[simp] theorem Dev.modPair_hif_numVfs (d : Dev) (r : BitVec 12) (f : Pair → Pair) : (d.modPair r f).hif.numVfs = d.hif.numVfs := rfl
@[simp] theorem Dev.modPair_hif_tlps (d : Dev) (r : BitVec 12) (f : Pair → Pair) : (d.modPair r f).hif.tlps = d.hif.tlps := rfl

/-! ### modPci changes `hif.pci` alone -/

@[simp] theorem Dev.modPci_out (d : Dev) (fn : GraphId) (f : PciFn → PciFn) : (d.modPci fn f).out = d.out := rfl
@[simp] theorem Dev.modPci_clock (d : Dev) (fn : GraphId) (f : PciFn → PciFn) : (d.modPci fn f).clock = d.clock := rfl
@[simp] theorem Dev.modPci_regs (d : Dev) (fn : GraphId) (f : PciFn → PciFn) : (d.modPci fn f).regs = d.regs := rfl
@[simp] theorem Dev.modPci_cells (d : Dev) (fn : GraphId) (f : PciFn → PciFn) : (d.modPci fn f).cells = d.cells := rfl
@[simp] theorem Dev.modPci_stks (d : Dev) (fn : GraphId) (f : PciFn → PciFn) : (d.modPci fn f).stks = d.stks := rfl
@[simp] theorem Dev.modPci_yoyos (d : Dev) (fn : GraphId) (f : PciFn → PciFn) : (d.modPci fn f).yoyos = d.yoyos := rfl
@[simp] theorem Dev.modPci_fab (d : Dev) (fn : GraphId) (f : PciFn → PciFn) : (d.modPci fn f).fab = d.fab := rfl
@[simp] theorem Dev.modPci_links (d : Dev) (fn : GraphId) (f : PciFn → PciFn) : (d.modPci fn f).links = d.links := rfl
@[simp] theorem Dev.modPci_lsym (d : Dev) (fn : GraphId) (f : PciFn → PciFn) : (d.modPci fn f).lsym = d.lsym := rfl
@[simp] theorem Dev.modPci_symTimes (d : Dev) (fn : GraphId) (f : PciFn → PciFn) : (d.modPci fn f).symTimes = d.symTimes := rfl
@[simp] theorem Dev.modPci_fbn (d : Dev) (fn : GraphId) (f : PciFn → PciFn) : (d.modPci fn f).fbn = d.fbn := rfl
@[simp] theorem Dev.modPci_graphs (d : Dev) (fn : GraphId) (f : PciFn → PciFn) : (d.modPci fn f).graphs = d.graphs := rfl
@[simp] theorem Dev.modPci_flt (d : Dev) (fn : GraphId) (f : PciFn → PciFn) : (d.modPci fn f).flt = d.flt := rfl
@[simp] theorem Dev.modPci_pwr (d : Dev) (fn : GraphId) (f : PciFn → PciFn) : (d.modPci fn f).pwr = d.pwr := rfl
@[simp] theorem Dev.modPci_mgt (d : Dev) (fn : GraphId) (f : PciFn → PciFn) : (d.modPci fn f).mgt = d.mgt := rfl
@[simp] theorem Dev.modPci_tap (d : Dev) (fn : GraphId) (f : PciFn → PciFn) : (d.modPci fn f).tap = d.tap := rfl
@[simp] theorem Dev.modPci_kal (d : Dev) (fn : GraphId) (f : PciFn → PciFn) : (d.modPci fn f).kal = d.kal := rfl
@[simp] theorem Dev.modPci_uct (d : Dev) (fn : GraphId) (f : PciFn → PciFn) : (d.modPci fn f).uct = d.uct := rfl
@[simp] theorem Dev.modPci_rgnInit (d : Dev) (fn : GraphId) (f : PciFn → PciFn) : (d.modPci fn f).rgnInit = d.rgnInit := rfl
@[simp] theorem Dev.modPci_freeCtr (d : Dev) (fn : GraphId) (f : PciFn → PciFn) : (d.modPci fn f).freeCtr = d.freeCtr := rfl
@[simp] theorem Dev.modPci_hif_pairs (d : Dev) (fn : GraphId) (f : PciFn → PciFn) : (d.modPci fn f).hif.pairs = d.hif.pairs := rfl
@[simp] theorem Dev.modPci_hif_orings (d : Dev) (fn : GraphId) (f : PciFn → PciFn) : (d.modPci fn f).hif.orings = d.hif.orings := rfl
@[simp] theorem Dev.modPci_hif_vectors (d : Dev) (fn : GraphId) (f : PciFn → PciFn) : (d.modPci fn f).hif.vectors = d.hif.vectors := rfl
@[simp] theorem Dev.modPci_hif_pairFn (d : Dev) (fn : GraphId) (f : PciFn → PciFn) : (d.modPci fn f).hif.pairFn = d.hif.pairFn := rfl
@[simp] theorem Dev.modPci_hif_oringFn (d : Dev) (fn : GraphId) (f : PciFn → PciFn) : (d.modPci fn f).hif.oringFn = d.hif.oringFn := rfl
@[simp] theorem Dev.modPci_hif_cellFn (d : Dev) (fn : GraphId) (f : PciFn → PciFn) : (d.modPci fn f).hif.cellFn = d.hif.cellFn := rfl
@[simp] theorem Dev.modPci_hif_window (d : Dev) (fn : GraphId) (f : PciFn → PciFn) : (d.modPci fn f).hif.window = d.hif.window := rfl
@[simp] theorem Dev.modPci_hif_rr (d : Dev) (fn : GraphId) (f : PciFn → PciFn) : (d.modPci fn f).hif.rr = d.hif.rr := rfl
@[simp] theorem Dev.modPci_hif_wake (d : Dev) (fn : GraphId) (f : PciFn → PciFn) : (d.modPci fn f).hif.wake = d.hif.wake := rfl
@[simp] theorem Dev.modPci_hif_polled (d : Dev) (fn : GraphId) (f : PciFn → PciFn) : (d.modPci fn f).hif.polled = d.hif.polled := rfl
@[simp] theorem Dev.modPci_hif_hostReqs (d : Dev) (fn : GraphId) (f : PciFn → PciFn) : (d.modPci fn f).hif.hostReqs = d.hif.hostReqs := rfl
@[simp] theorem Dev.modPci_hif_vfEn (d : Dev) (fn : GraphId) (f : PciFn → PciFn) : (d.modPci fn f).hif.vfEn = d.hif.vfEn := rfl
@[simp] theorem Dev.modPci_hif_numVfs (d : Dev) (fn : GraphId) (f : PciFn → PciFn) : (d.modPci fn f).hif.numVfs = d.hif.numVfs := rfl
@[simp] theorem Dev.modPci_hif_tlps (d : Dev) (fn : GraphId) (f : PciFn → PciFn) : (d.modPci fn f).hif.tlps = d.hif.tlps := rfl

end Sys2Proof.Machine
end

