-- ==== Sys2Proof/Tests/Slice0.lean ====
section
/-! SUPPORT. Tests of the model: states to test on, results of the spec's examples, and a witness for the hypotheses of every statement. -/

namespace Sys2Proof.Tests

open Sys2Proof Sys2Proof.Machine

set_option Elab.async false

/-! ### States to test on -/

/-- A device at reset with its rails on and READY set, its physical function enabled as a bus master. -/
def on : Dev :=
  { State.reset.dev with
    pwr := { State.reset.dev.pwr with off := false }
    hif := { State.reset.dev.hif with pci := [(0, { bme := true, memSpace := true, d3hot := false, aer := 0 })] }
    mgt := { State.reset.dev.mgt with ready := true, phase := 10, pclk := true, fclk := true } }

def run (d : Dev) : State := { State.reset with dev := d }

/-- A cell of compute die 0, and graph 1, whose mask it is, owned by function 0. -/
def c5 : CellId := 5
def g1 : Graph :=
  { owner := 0, ring := 0, mask := [5], cfg := [(5, { ibase := 0, icount := 16, fbase := 0, fcount := 16, nfbase := 0 })]
    entryFrame := 0, home := 5, croot := 0, tree := [], quota := { msmin := 64, mscap := 256, frcap := 4096, ctcap := 512, waitcap := 256 }
    launched := true, run := 1, running := true, complete := false, stalled := false, drained := false, drains := 0
    unloading := none, held := false, wave := 0, waveNow := none, waveEnd := 0, last := none, lastWave := 0, abandons := 0
    consumed := 0, consumedAt := 0, notices := [], fresh := false, stallHeld := none, cen := { cr0 := 1, cr1 := 0, cn0 := 0, cn1 := 0, colour := false } }

def loaded : Dev := { on with graphs := [(1, g1)] }

/-- A token of graph 1 to instruction 3 of cell 5. -/
def tokenOf (v : Word) (port : BitVec 2) : Token :=
  TokenFields.pack
    { node := 0, cell := c5, graph := 1, cls := 0, stream := 0, seq := 0, kind := 0, vtype := 0, poison := false, epoch := false
      colour := false, frame := 2, instr := 3, port := port, iter := 7, value := v }

def actOf (a b : Word) : Act :=
  { graph := 1, frame := 2, iter := 7, instr := 3, left := some { tok := tokenOf a 0, sticky := false }
    right := some { tok := tokenOf b 1, sticky := false }, pred := none, handler := false, freeing := false }

/-- Opcodes without a result (their D0 discards too). -/
def noResult (opc : Nat) : Bool := [0x141, 0x143, 0x18B, 0x1C0, 0x1C1, 0x1C2, 0x1C3, 0x1C4, 0x1C5].contains opc

/-- An instruction word of an opcode and MOD to instruction 0, port 0; D1 discards; LDI has IMM20 5 instead. -/
def wordOf (opc md : Nat) : Word := BitVec.ofNat 64 (opc * 2 ^ 54 + md * 2 ^ 48 + if opc = 0x12 then 2 ^ 52 + 5 * 2 ^ 22 else 0x180000 * 2 ^ 21 + if noResult opc then 0x180000 else 0)

/-- A slot with such a word, operands a and b. -/
def slotOf (opc md : Nat) (a b : Word) : Slot :=
  { act := actOf a b, word := wordOf opc md, target := 0, bad := .none, since := 0, waits := none }

/-- Lane 0 of cell 5 with one activation to dispatch. -/
def laneWith (d : Dev) (sl : Slot) : Dev := d.modLane c5 0 fun l => { l with slots := [sl] }

def disp : Disp := { cell := c5, lane := 0, younger := false, fanout := .none }

/-- What a next state's device shows. -/
def shows {α : Type} (o : Host.Outcome State Fault Refusal) (f : Dev → α) : Option α :=
  match o with
  | .next t => some (f t.dev)
  | _ => none

/-- The values that left cell 5 by its bypass or egress. -/
def sentValues (d : Dev) : List Word := (d.cell c5).pipe.bypass.map fun r => r.tok.w2

/-- The fields of Claims.Ready as one Bool. -/
def readyB (d : Dev) (x : Disp) (opc : Nat) (sl : Slot) (rest : List Slot) : Bool :=
  !d.diesStop && (d.cell x.cell).runs && !(d.cell x.cell).asleep &&
  (d.cell x.cell).pipe.lane x.lane.toNat = { slots := sl :: rest, rep := none, spareUsed := false } && !x.younger &&
  wOpc sl.word = opc && (d.cell x.cell).pipe.roomFor x.lane (sl.firing x.cell x.lane).word && sl.bad ≠ .uncorrectable &&
  x.fanout ≠ .uncorrectable && d.slotFault x.cell sl = none && predMet sl.act (sl.firing x.cell x.lane).word &&
  (d.cell x.cell).sharedUsed + 20 ≤ sharedRecords && (d.cell x.cell).ev.recs.all fun r => r.place ≠ .spare x.lane

theorem test_ready_of {d : Dev} {x : Disp} {opc : Nat} {sl : Slot} {rest : List Slot} (h : readyB d x opc sl rest = true) :
    Claims.Ready d x opc sl rest := by
  simp only [readyB, Bool.and_eq_true, Bool.not_eq_true', decide_eq_true_eq] at h
  obtain ⟨⟨⟨⟨⟨⟨⟨⟨⟨⟨⟨⟨h1, h2⟩, h3⟩, h4⟩, h5⟩, h6⟩, h7⟩, h8⟩, h9⟩, ha⟩, hb⟩, hc⟩, hd⟩ := h
  exact ⟨h1, h2, h3, h4, h5, h6, h7, h8, h9, ha, hb, hc, hd⟩

/-- The fields of Claims.EntryFree as one Bool. -/
def entryB (d : Dev) (sl : Slot) (wait : Bool) : Bool :=
  (d.cell c5).pipe.entryOpen sl && d.belowCap c5 sl.act.graph wait

theorem test_entry_of {d : Dev} {sl : Slot} {wait : Bool} (h : entryB d sl wait = true) : Claims.EntryFree d disp sl wait := by
  simp only [entryB, Bool.and_eq_true] at h
  exact ⟨h.1, h.2⟩

/-- The opcodes of a family, each with a MOD that it takes. -/
def computeOpcs : List (Nat × Nat) := Claims.computeRows.map fun r => (r.opc, if r.opc = 0x89 then 4 else 0)
def tagOpcs : List (Nat × Nat) := ((List.range 12).map fun i => (0x140 + i, 0)) ++ [(0x14C, 1)]
def memOpcs : List (Nat × Nat) := (List.range 15).map fun i => (0x180 + i, 0)
def controlOpcs : List (Nat × Nat) := [(0x1C1, 0), (0x1C2, 0), (0x1C3, 0), (0x1C4, 0), (0x1C5, 0)]

/-- Lane 0 is ready for an activation of the opcode with operands 1 and 2. -/
def fires (p : Nat × Nat) : Bool :=
  let sl := slotOf p.1 p.2 1 2
  readyB (laneWith loaded sl) disp p.1 sl []

/-- Witness of Ready for every opcode of a dispatch statement but REP (TagDispatchDelivers, MemoryDispatchIssues,
LockDispatchIssues, ControlDispatchActs and their fellows). -/
theorem test_ready_compute : ∀ p ∈ computeOpcs, Claims.Ready (laneWith loaded (slotOf p.1 p.2 1 2)) disp p.1 (slotOf p.1 p.2 1 2) [] :=
  fun p h => test_ready_of (List.all_eq_true.mp (by decide +kernel : computeOpcs.all fires = true) p h)
theorem test_ready_tag : ∀ p ∈ tagOpcs, Claims.Ready (laneWith loaded (slotOf p.1 p.2 1 2)) disp p.1 (slotOf p.1 p.2 1 2) [] :=
  fun p h => test_ready_of (List.all_eq_true.mp (by decide +kernel : tagOpcs.all fires = true) p h)
theorem test_ready_memory : ∀ p ∈ memOpcs, Claims.Ready (laneWith loaded (slotOf p.1 p.2 1 2)) disp p.1 (slotOf p.1 p.2 1 2) [] :=
  fun p h => test_ready_of (List.all_eq_true.mp (by decide +kernel : memOpcs.all fires = true) p h)
theorem test_ready_control : ∀ p ∈ controlOpcs, Claims.Ready (laneWith loaded (slotOf p.1 p.2 1 2)) disp p.1 (slotOf p.1 p.2 1 2) [] :=
  fun p h => test_ready_of (List.all_eq_true.mp (by decide +kernel : controlOpcs.all fires = true) p h)

/-- What one activation of a command sends: the instruction addressed and the value, for a word whose D0 and D1 are given. -/
def sends (cmd : Disp → Instr) (w a b : Word) : Option (List (Nat × Word)) :=
  shows (exec (cmd disp) (run (laneWith loaded { slotOf 0 0 a b with word := w }))) fun d =>
    (d.cell c5).pipe.bypass.map fun r => (r.tok.instr.toNat, r.tok.w2)

/-- One result: D0 to instruction 0. -/
def gives (cmd : Disp → Instr) (opc md : Nat) (a b r : Word) : Bool := sends cmd (wordOf opc md) a b = some [(0, r)]

/-- Two destinations: D0 to instruction 1, D1 to instruction 2. -/
def gives2 (cmd : Disp → Instr) (opc md : Nat) (a b : Word) (l : List (Nat × Word)) : Bool :=
  sends cmd (BitVec.ofNat 64 (opc * 2 ^ 54 + md * 2 ^ 48 + 2 * 2 ^ 21 + 1)) a b = some l

/-! ### Compute opcodes: values of the spec's examples, and by hand -/

theorem test_integer_results :
    (gives .add 0x000 3 0x7F01 0x0102 0x8003 && gives .sub 0x001 0 1 2 0xFFFFFFFFFFFFFFFF &&
      gives .mul 0x002 2 0x80000003 0x00020005 0xF && gives .mulh 0x003 7 0xFF 0xFF 0xFE &&
      gives .div 0x004 0 0xFFFFFFFFFFFFFFF9 2 0xFFFFFFFFFFFFFFFD && gives .rem 0x005 0 0xFFFFFFFFFFFFFFF9 2 0xFFFFFFFFFFFFFFFF &&
      gives .and 0x006 0 12 10 8 && gives .or 0x007 0 12 10 14 && gives .xor 0x008 0 12 10 6 && gives .andn 0x009 0 12 10 4) =
      true := by decide +kernel
theorem test_integer_one_operand :
    (gives .not 0x00A 0 0 0 0xFFFFFFFFFFFFFFFF && gives .neg 0x00B 8 0x8000000000000000 0 0x7FFFFFFFFFFFFFFF &&
      gives .abs 0x00C 3 0x80FF 0 0x8001 && gives .min 0x00D 0 0xFFFFFFFFFFFFFFFF 1 0xFFFFFFFFFFFFFFFF &&
      gives .max 0x00E 4 0xFFFFFFFFFFFFFFFF 1 0xFFFFFFFFFFFFFFFF && gives .mov 0x011 0 9 0 9 && gives .ldi 0x012 0 9 0 5 &&
      gives2 .addc 0x00F 4 0xFFFFFFFFFFFFFFFF 1 [(1, 0), (2, 1)] && gives2 .subb 0x010 4 0 1 [(1, 0xFFFFFFFFFFFFFFFF), (2, 1)]) =
      true := by decide +kernel
/-- Division by zero gives 0 where its event is disabled (R102); saturating unsigned 16-bit counters (the example of R121). -/
theorem test_integer_corners :
    (gives .div 0x004 0 5 0 0 && gives .rem 0x005 0 5 0 5 && gives .add 0x000 14 0xFFFF 1 0xFFFF &&
      gives .div 0x004 8 0x8000000000000000 0xFFFFFFFFFFFFFFFF 0x7FFFFFFFFFFFFFFF) = true := by decide +kernel
theorem test_shift_results :
    (gives .shl 0x040 2 0x0001000100010001 3 0x0008000800080008 && gives .shr 0x041 0 0x8000000000000000 63 1 &&
      gives .sar 0x042 3 0x80 7 0xFF && gives .rol 0x043 1 0x80000000 1 1 && gives .ror 0x044 0 1 1 0x8000000000000000 &&
      gives .popc 0x045 0 0xFF 0 8 && gives .clz 0x046 1 1 0 0x000000200000001F && gives .ctz 0x047 0 8 0 3 &&
      gives .brev 0x048 0 1 0 0x8000000000000000 && gives .bswap 0x049 0 1 0 0x0100000000000000 &&
      gives .splat 0x04A 3 5 0 0x0505050505050505 && gives .extr 0x04B 3 0x80FF 1 0xFFFFFFFFFFFFFF80) = true := by decide +kernel
/-- FADD is the example of R112: a tie to even, and rounding up. -/
theorem test_float_results :
    (gives .fadd 0x080 8 0x3C003C003C003C00 0x1000100010001000 0x3C003C003C003C00 &&
      gives .fadd 0x080 10 0x3C003C003C003C00 0x1000100010001000 0x3C013C013C013C01 &&
      gives .fsub 0x081 0 0x3FF0000000000000 0x3FF0000000000000 0 && gives .fmul 0x082 4 0x40000000 0x40400000 0x40C00000 &&
      gives .fmin 0x085 8 0x3C00 0x4000 0x3C00 && gives .fmax 0x086 8 0x3C00 0x4000 0x4000 &&
      gives .fneg 0x087 8 0 0 0x8000800080008000 && gives .fabs 0x088 0 0x8000000000000000 0 0) = true := by decide +kernel
theorem test_float_divide :
    (gives .fdiv 0x083 0 0x3FF0000000000000 0x4000000000000000 0x3FE0000000000000 &&
      gives .fsqrt 0x084 0 0x4010000000000000 0 0x4000000000000000) = true := by decide +kernel
theorem test_float_conversions :
    (gives .fcvtd 0x089 4 0x3F800000 0 0x3FF0000000000000 && gives .fcvts 0x08A 0 0x3FF0000000000000 0 0x3F800000 &&
      gives .fcvth 0x08B 0 0x3FF0000000000000 0 0x3C00 && gives .ftoi 0x08C 0 0x4004000000000000 0 2 &&
      gives .itof 0x08D 0 3 0 0x4008000000000000 && gives .frnd 0x08E 0 0x4004000000000000 0 0x4000000000000000) =
      true := by decide +kernel
/-- DSUB, DTOB, DADJ, DADD and BTOD are the settlement example of R120. -/
theorem test_decimal_results :
    (gives2 .dsub 0x0C1 0 0x12345A 0x50000A [(1, 0x37655B)] && gives .dadj 0x0C2 0 0x1234AA 0 0x12350A &&
      gives2 .dadd 0x0C0 0 0x999999999999999A 0x2A [(1, 0x1A), (2, 0x1A)]) = true := by decide +kernel
theorem test_decimal_to_binary : gives .dtob 0x0C7 0 0x37655B 0 0xFFFFFFFFFFFF6CE9 = true := by decide +kernel
theorem test_binary_to_decimal :
    gives2 .btod 0x0C8 0 0x8000000000000000 0 [(1, 0x372036854775808B), (2, 0x9223B)] = true := by decide +kernel
theorem test_decimal_shifts :
    (gives2 .dmul1 0x0C3 0 0x5A 3 [(1, 0x15A)] && gives .dshl 0x0C4 0 0x12A 1 0x120A && gives .dshr 0x0C5 1 0x15A 1 0x2A &&
      gives .dneg 0x0C9 0 0x12A 0 0x12B) = true := by decide +kernel
theorem test_decimal_steers :
    (gives2 .dslt 0x0D1 0 0x37655B 0xA [(1, 0x37655B)] && gives2 .dseq 0x0D0 0 0xA 0xB [(1, 0xA)] &&
      gives2 .dsle 0x0D2 0 0x2A 0x1A [(2, 0x2A)] && gives2 .dval 0x0C6 0 0xC 0 [(2, 0xC)]) = true := by decide +kernel
theorem test_steers :
    (gives2 .seq 0x100 0 1 2 [(2, 1)] && gives2 .slt 0x101 0 0xFFFFFFFFFFFFFFFF 0 [(1, 0xFFFFFFFFFFFFFFFF)] &&
      gives2 .sle 0x102 4 0xFFFFFFFFFFFFFFFF 0 [(2, 0xFFFFFFFFFFFFFFFF)] && gives2 .fseq 0x103 0 0 0x8000000000000000 [(1, 0)] &&
      gives2 .fslt 0x104 0 0 0x3FF0000000000000 [(1, 0)] && gives2 .fsle 0x105 0 0x3FF0000000000000 0 [(2, 0x3FF0000000000000)] &&
      gives2 .fsun 0x106 0 0x7FF8000000000000 0 [(1, 0x7FF8000000000000)] && gives2 .stest 0x107 0 0 0 [(2, 0)] &&
      gives2 .steer 0x108 0 7 1 [(1, 7)] && gives .gate 0x109 0 7 8 7 && gives .merge 0x10A 0 7 0 7) = true := by decide +kernel
/-- GETIT, SETIT, GETF, SETF and SETCL (R126): ITER 7, frame 2 of cell 5. -/
theorem test_tags :
    (gives .getit 0x146 0 1 0 7 && gives .setit 0x147 0 1 9 1 && gives .getf 0x148 0 1 0 0x0000014002000000 &&
      gives .setf 0x149 0 1 3 1 && gives .setcl 0x14A 0 1 3 1) = true := by decide +kernel

/-! ### Witnesses: dispatch statements. Ready itself: test_ready_compute and its fellows -/

/-- ComputeDispatchDeliversOrRaises, first part: no exception is enabled; or an input is poisoned. -/
theorem test_witness_compute_delivers :
    (Claims.computeRows.all fun row =>
      let sl := slotOf row.opc (if row.opc = 0x89 then 4 else 0) 1 2
      let d := laneWith loaded sl
      (opInfo d.uct.entries row.opc).isSome && !sl.act.poisoned &&
        Claims.enabledExceptions d disp sl (row.op ((sl.firing c5 0).opn d.uct.entries)) = []) = true := by decide +kernel

def poisonAct : Act :=
  { actOf 1 2 with left := some { tok := { tokenOf 1 0 with w0 := (tokenOf 1 0).w0 ||| 0x80 }, sticky := false } }
def poisonSlot (opc md : Nat) : Slot := { slotOf opc md 1 2 with act := poisonAct }

theorem test_witness_poisoned :
    Claims.Ready (laneWith loaded (poisonSlot 0 0)) disp 0 (poisonSlot 0 0) [] ∧ (poisonSlot 0 0).act.poisoned = true :=
  ⟨test_ready_of (by decide +kernel), by decide +kernel⟩

/-- Cell 5 enables INT_DIV_ZERO of graph 1. -/
def divEnabled : Dev := loaded.modEv c5 fun e => { e with evt := [(1 * 64 + srcIntDivZero, 0x8000000000000000)] }

theorem test_witness_compute_raises :
    Claims.Ready (laneWith divEnabled (slotOf 4 0 5 0)) disp 4 (slotOf 4 0 5 0) [] ∧ (slotOf 4 0 5 0).act.poisoned = false ∧
      Claims.enabledExceptions (laneWith divEnabled (slotOf 4 0 5 0)) disp (slotOf 4 0 5 0)
        (opDiv (((slotOf 4 0 5 0).firing c5 0).opn [])) = [srcIntDivZero] :=
  ⟨test_ready_of (by decide +kernel), by decide +kernel, by decide +kernel⟩

/-- The frame of the activation, bound in cell 5. -/
def frameRec (entry : Bool) (w : BitVec 11) : FrameRec :=
  { st := .live, pv := false, parent := contZero, wbase := 0, w := w, s0 := 3, s1 := 0, s2 := 0, s3 := 0, entry := entry, stamp := 0 }
def framed (entry : Bool) (w : BitVec 11) : Dev :=
  loaded.modStore c5 fun s => { s with frames := [(1 * 4096 + 2, frameRec entry w)], inUse := [1 * 4096 + 2] }

/-- FrameWindowDispatch: with and without a record, LOOPW by 1024 and by 1025. -/
theorem test_witness_frame_window :
    Claims.Ready (laneWith (framed false 0) (slotOf 0x142 0 1 1024)) disp 0x142 (slotOf 0x142 0 1 1024) [] ∧
      Claims.ownFrame (laneWith (framed false 0) (slotOf 0x142 0 1 1024)) disp (slotOf 0x142 0 1 1024) = some (frameRec false 0) ∧
      Claims.ownFrame (laneWith loaded (slotOf 0x142 0 1 1025)) disp (slotOf 0x142 0 1 1025) = none :=
  ⟨test_ready_of (by decide +kernel), by decide +kernel, by decide +kernel⟩
theorem test_loopw_limit :
    (sends .loopw (wordOf 0x142 0) 1 1024 = some [(0, 1)] ∧ sends .loopw (wordOf 0x142 0) 1 1025 = some []) := by decide +kernel

/-- NewfBindsAndFreefFrees: a number; none below FRCAP 0; a bad word; an entry free. -/
def noFrames : Dev := { loaded with graphs := [(1, { g1 with quota := { g1.quota with frcap := 0 } })] }
theorem test_witness_newf :
    (laneWith loaded (slotOf 0x140 0 1 2)).newfNumber c5 1 = some 0 ∧
      (laneWith noFrames (slotOf 0x140 0 1 2)).newfNumber c5 1 = none ∧
      Claims.Ready (laneWith noFrames (slotOf 0x140 0 1 2)) disp 0x140 (slotOf 0x140 0 1 2) [] ∧
      Claims.EntryFree (laneWith noFrames (slotOf 0x140 0 1 2)) disp (slotOf 0x140 0 1 2) true ∧
      Claims.Ready (laneWith loaded (slotOf 0x140 2 0x3000000000 2)) disp 0x140 (slotOf 0x140 2 0x3000000000 2) [] ∧
      cwPort (((slotOf 0x140 2 0x3000000000 2).firing c5 0).a.bits) = 3 :=
  ⟨by decide +kernel, by decide +kernel, test_ready_of (by decide +kernel), test_entry_of (by decide +kernel),
    test_ready_of (by decide +kernel), by decide +kernel⟩
theorem test_witness_freef :
    Claims.Ready (laneWith (framed true 0) (slotOf 0x141 0 1 2)) disp 0x141 (slotOf 0x141 0 1 2) [] ∧
      Claims.Ready (laneWith (framed false 0) (slotOf 0x141 0 1 2)) disp 0x141 (slotOf 0x141 0 1 2) [] ∧
      ((laneWith (framed true 0) (slotOf 0x141 0 1 2)).cell c5).frame 1 2 = some (frameRec true 0) :=
  ⟨test_ready_of (by decide +kernel), test_ready_of (by decide +kernel), by decide +kernel⟩

/-- SendDispatch: a good word, PORT 3, and a reserved bit set. -/
theorem test_witness_send :
    Claims.Ready (laneWith loaded (slotOf 0x14B 0 1 0x0000014002000000)) disp 0x14B (slotOf 0x14B 0 1 0x0000014002000000) [] ∧
      cwPort 0x0000014002000000 = 0 ∧ nbits (0x0000014002000000 : Word) 14 10 = 0 ∧ cwPort 0x0000003000000000 = 3 ∧
      nbits (0x0000000000004000 : Word) 14 10 = 1 ∧
      Claims.Ready (laneWith loaded (slotOf 0x14C 1 1 0x4000)) disp 0x14C (slotOf 0x14C 1 1 0x4000) [] :=
  ⟨test_ready_of (by decide +kernel), by decide +kernel, by decide +kernel, by decide +kernel, by decide +kernel,
    test_ready_of (by decide +kernel)⟩

/-- MemoryDispatchIssues: the last HBM word, host memory for LD, a misaligned address, an address in the hole, a poisoned a. -/
theorem test_witness_memory :
    (Claims.memoryRows.all fun row => row.opc ≠ 0x18F) = true ∧
      Claims.Ready (laneWith loaded (slotOf 0x180 3 0x17FFFFFFF8 2)) disp 0x180 (slotOf 0x180 3 0x17FFFFFFF8 2) [] ∧
      Claims.EntryFree (laneWith loaded (slotOf 0x180 3 0x17FFFFFFF8 2)) disp (slotOf 0x180 3 0x17FFFFFFF8 2) false ∧
      Claims.EntryFree (laneWith loaded (slotOf 0x182 0 8 2)) disp (slotOf 0x182 0 8 2) true ∧
      Claims.addressGood (slotOf 0x180 3 0x17FFFFFFF8 2) .ld 0x17FFFFFFF8 ∧
      Claims.addressGood (slotOf 0x180 3 0x800000000000 2) .ld 0x800000000000 ∧
      ¬Claims.addressGood (slotOf 0x180 3 0x1800000000 2) .ld 0x1800000000 ∧ (poisonSlot 0x180 0).act.poisoned = true :=
  ⟨by decide +kernel, test_ready_of (by decide +kernel), test_entry_of (by decide +kernel), test_entry_of (by decide +kernel),
    by unfold Claims.addressGood; decide +kernel, by unfold Claims.addressGood; decide +kernel,
    by unfold Claims.addressGood; decide +kernel, by decide +kernel⟩

/-- LockDispatchIssues: aligned in HBM, misaligned, bits 63:62 set, outside HBM. -/
theorem test_witness_lock :
    Claims.Ready (laneWith loaded (slotOf 0x18B 0 8 2)) disp 0x18B (slotOf 0x18B 0 8 2) [] ∧
      Claims.EntryFree (laneWith loaded (slotOf 0x18B 0 8 2)) disp (slotOf 0x18B 0 8 2) true ∧
      nbits (8 : Word) 0 3 = 0 ∧ nbits (9 : Word) 0 3 ≠ 0 ∧ nbits (0x4000000000000008 : Word) 62 2 ≠ 0 ∧
      0x1800000000 ≤ nbits (0x1800000000 : Word) 0 48 :=
  ⟨test_ready_of (by decide +kernel), test_entry_of (by decide +kernel), by decide, by decide, by decide, by decide⟩

/-- ControlDispatchActs: OUT to a ring of the owner and to another's; RETE with and without its level on the stack. -/
def levelled : Dev := loaded.modEv c5 fun e => { e with stack := [{ pri := 1, graph := 1 }] }
theorem test_witness_control :
    mget 0 (laneWith loaded (slotOf 0x1C1 0 1 2)).hif.oringFn 2 = g1.owner ∧
      mget 0 { on.hif with oringFn := [(2, 3)] }.oringFn 2 ≠ g1.owner ∧
      Claims.EntryFree (laneWith loaded (slotOf 0x1C1 0 1 2)) disp (slotOf 0x1C1 0 1 2) true ∧
      Claims.Ready (laneWith levelled (slotOf 0x1C3 0 1 2)) disp 0x1C3 (slotOf 0x1C3 0 1 2) [] ∧
      ((laneWith levelled (slotOf 0x1C3 0 1 2)).cell c5).ev.stack.getLast? = some { pri := 1, graph := 1 } ∧
      ((laneWith loaded (slotOf 0x1C3 0 1 2)).cell c5).ev.stack.getLast? = none :=
  ⟨by decide +kernel, by decide +kernel, test_entry_of (by decide +kernel), test_ready_of (by decide +kernel),
    by decide +kernel, by decide +kernel⟩
theorem test_rete_pops :
    shows (exec (.rete disp) (run (laneWith levelled (slotOf 0x1C3 0 1 2)))) (fun d => (d.cell c5).ev.stack) = some [] := by
  decide +kernel

/-- RaiseDispatchActs: source 31 and 32; posted here; to cell 6 of the node, enabled and not; to another node. -/
def raiseWord (target node : Nat) (src : Nat) : Word := BitVec.ofNat 64 (node * 2 ^ 16 + target * 2 ^ 6 + src)
def enabled6 : Dev := loaded.modEv 6 fun e => { e with evt := [(1 * 64 + 32, 0x8000000000000000)] }
theorem test_witness_raise :
    (raiseWord 6 0 31).toNat % 64 = 31 ∧ (raiseWord 6 0 32).toNat % 64 = 32 ∧ bits (raiseWord 5 0 32) 6 10 = c5 ∧
      bits (raiseWord 6 9 32) 16 16 = (9 : BitVec 16) ∧
      Claims.Ready (laneWith loaded (slotOf 0x1C2 1 1 (raiseWord 6 0 32))) disp 0x1C2 (slotOf 0x1C2 1 1 (raiseWord 6 0 32)) [] ∧
      Claims.Ready (laneWith loaded (slotOf 0x1C2 2 1 (raiseWord 6 9 32))) disp 0x1C2 (slotOf 0x1C2 2 1 (raiseWord 6 9 32)) [] ∧
      (enabled6.cell 6).enabled 1 32 = true ∧ (loaded.cell 6).enabled 1 32 = false :=
  ⟨by decide +kernel, by decide +kernel, by decide +kernel, by decide +kernel, test_ready_of (by decide +kernel),
    test_ready_of (by decide +kernel), by decide +kernel, by decide +kernel⟩

/-- RepDispatchAndFirings: a REP of three ADDs and one of count 0; its last firing; a user opcode of one word. -/
def repSlot (n : Nat) : Slot := { slotOf 0x1C0 0 1 2 with word := BitVec.ofNat 64 (0x1C0 * 2 ^ 54 + n), target := wordOf 0 0 }
def repRun : RepSeq := { act := actOf 1 2, word := (repSlot 3).word, target := wordOf 0 0, next := 2, count := 3 }
def repDev : Dev := loaded.modLane c5 0 fun l => { l with rep := some repRun }
theorem test_witness_rep :
    Claims.Ready (laneWith loaded (repSlot 3)) disp 0x1C0 (repSlot 3) [] ∧
      repDev.diesStop = false ∧ (repDev.cell c5).runs = true ∧ ((repDev.cell c5).pipe.lane 0).rep = some repRun ∧
      ((repDev.cell c5).pipe.lane 0).spareUsed = false ∧ repRun.paused (repDev.cell c5).pipe = false ∧
      (repDev.cell c5).pipe.roomFor 0 repRun.target = true ∧ (repDev.cell c5).sharedUsed + 20 ≤ sharedRecords ∧
      (opSpec (wOpc repRun.target)).need { cell := c5, lane := 0, act := repRun.act, word := repRun.target } repDev = false :=
  ⟨test_ready_of (by decide +kernel), by decide +kernel, by decide +kernel, by decide +kernel, by decide +kernel,
    by decide +kernel, by decide +kernel, by decide +kernel, by decide +kernel⟩
theorem test_rep_last_firing :
    shows (exec (.repFiring c5 0 ⟨.none, .none⟩) (run repDev)) (fun d => (((d.cell c5).pipe.lane 0).rep.isNone, sentValues d)) =
      some (true, [3]) := by decide +kernel

/-- A user opcode: entry 0 valid, one result, one microcode word. -/
def udefDev : Dev := { loaded with uct := { entries := [(0, 0x80000000)], uwords := [] } }
theorem test_witness_udef :
    Claims.Ready (laneWith udefDev (slotOf 0x3F0 0 1 2)) disp 0x3F0 (slotOf 0x3F0 0 1 2) [] := test_ready_of (by decide +kernel)

/-! ### Witnesses: cells -/

/-- A token of stream st and SEQ n with CLASS 0, to instruction 3 of cell 5. -/
def streamTok (st : BitVec 4) (n : BitVec 9) : Token :=
  TokenFields.pack
    { node := 0, cell := c5, graph := 1, cls := 0, stream := st, seq := n, kind := 0, vtype := 0, poison := false, epoch := false
      colour := false, frame := 2, instr := 3, port := 0, iter := 7, value := 9 }
def resOf (t : Token) : Res := { tok := t, lane := none, src := .hub, count := 0, since := 0 }
def arriving (t : Token) : Dev := loaded.modPipe c5 fun p => { p with ingress := [resOf t] }

theorem test_witness_running (d : Dev) (h : d.diesStop = false ∧ (d.cell c5).runs = true) : Claims.Running d c5 := h

theorem test_witness_passes (st : BitVec 4) (n : BitVec 9) (h : (streamTok st n).wellFormed = true)
    (h1 : (arriving (streamTok st n)).graph (streamTok st n).graph = some g1)
    (h2 : (g1.at c5).ibase ≤ (streamTok st n).instr.toNat ∧ (streamTok st n).instr.toNat < (g1.at c5).ibase + (g1.at c5).icount) :
    Claims.Passes (arriving (streamTok st n)) c5 (streamTok st n) g1 :=
  { good := h, graph := h1, mask := by decide, alive := ⟨rfl, rfl⟩, range := h2 }

/-- ArrivalFillsQueue: room; a full queue; a graph not loaded. OrderedArrivalAndGap: the SEQ expected, and one after it. -/
theorem test_witness_arrival :
    Claims.Running (arriving (streamTok 0 0)) c5 ∧ Claims.Passes (arriving (streamTok 0 0)) c5 (streamTok 0 0) g1 ∧
      Claims.Heads (arriving (streamTok 0 0)) c5 false 0 (resOf (streamTok 0 0)) ∧ (streamTok 0 0).kind ≠ 3 ∧
      (arriving (streamTok 0 0)).qFull c5 ((arriving (streamTok 0 0)).queueOf c5 (streamTok 0 0)) = false ∧
      
      { arriving (streamTok 0 0) with graphs := [] }.graph 1 = none :=
  ⟨by unfold Claims.Running; decide +kernel, test_witness_passes 0 0 (by decide +kernel) (by decide +kernel) (by decide +kernel),
    ⟨by decide +kernel, fun _ => by decide +kernel⟩, by decide +kernel, by decide +kernel, by decide +kernel⟩
/-- CAP 2 in queue 1, of graph 1 at reset, which holds 32 tokens: it is full. -/
def fullDev : Dev :=
  ((arriving (streamTok 0 0)).setReg (rQcfg 5 1) 0x202).modPipe c5 fun p =>
    { p with qs := [(1, List.replicate 32 (plainQTok (streamTok 0 0)))] }
theorem test_full_queue_holds :
    fullDev.queueOf c5 (streamTok 0 0) = 1 ∧ fullDev.qFull c5 1 = true ∧
      shows (exec (.tokenArrival c5 .ingress 0) (run fullDev)) (fun d => (d.cell c5).pipe.ingress.length) = some 1 := by
  decide +kernel
theorem test_arrival_queues :
    shows (exec (.tokenArrival c5 .ingress 0) (run (arriving (streamTok 0 0)))) (fun d =>
      ((d.cell c5).pipe.ingress.length, ((d.cell c5).pipe.queue 1).length)) = some (0, 1) := by decide +kernel
theorem test_witness_ordered :
    Claims.Passes (arriving (streamTok 1 0)) c5 (streamTok 1 0) g1 ∧ (streamTok 1 0).stream ≠ 0 ∧
      (streamTok 1 0).seq = mget 0 ((arriving (streamTok 1 0)).cell c5).pipe.expSeq 17 ∧
      Claims.Passes (arriving (streamTok 1 511)) c5 (streamTok 1 511) g1 ∧ (streamTok 1 511).seq = 511 ∧
      17 * 512 + 511 ∉ ((arriving (streamTok 1 511)).cell c5).pipe.skips ∧
      ((arriving (streamTok 1 511)).cell c5).pipe.held.length < (arriving (streamTok 1 511)).ordMax c5 ∧
      (arriving (streamTok 1 511)).qPoolUsed c5 < (arriving (streamTok 1 511)).qPool c5 :=
  ⟨test_witness_passes 1 0 (by decide +kernel) (by decide +kernel) (by decide +kernel), by decide +kernel, by decide +kernel,
    test_witness_passes 1 511 (by decide +kernel) (by decide +kernel) (by decide +kernel), by decide +kernel, by decide +kernel,
    by decide +kernel, by decide +kernel⟩
theorem test_ordered_waits :
    shows (exec (.tokenArrival c5 .ingress 0) (run (arriving (streamTok 1 1)))) (fun d =>
      ((d.cell c5).pipe.held.length, (d.cell c5).pipe.qs.length)) = some (1, 0) := by decide +kernel

/-- A gap of one in stream 1, held for the 100 µs of ORDCFG. -/
def gapDev : Dev :=
  { loaded with clock := { loaded.clock with run := 100000 } }.modPipe c5 fun p =>
    { p with held := [{ tok := streamTok 1 1, asks := false, since := 0 }] }
theorem test_witness_order_gap :
    Claims.Running gapDev c5 ∧ gapDev.fld (rOrdcfg 5) 16 16 = 100 ∧
      ((gapDev.cell c5).pipe.held.filter fun h => h.tok.graph.toNat * 16 + h.tok.stream.toNat = 17).map (fun h => h.tok.seq) = [1] ∧
      mget 0 (gapDev.cell c5).pipe.expSeq 17 = 0 ∧ (gapDev.cell c5).sharedUsed < sharedRecords :=
  ⟨by unfold Claims.Running; decide +kernel, by decide +kernel, by decide +kernel, by decide +kernel, by decide +kernel⟩
theorem test_order_gap_skips :
    shows (exec (.orderGapTimeout c5 1 1) (run gapDev)) (fun d =>
      ((d.cell c5).pipe.held.length, mget 0 (d.cell c5).pipe.expSeq 17, ((d.cell c5).pipe.queue 1).length)) =
      some (0, 2, 1) := by decide +kernel

/-- SelectedTokenMatches: a queued token of an instruction of one operand (NOT), of two (ADD) without and with its partner. -/
def queued (w : Word) (ms : List MsEntry) : Dev :=
  (loaded.modPipe c5 fun p => { p with qs := [(0, [plainQTok (tokenOf 1 0)])] }).modStore c5 fun s =>
    { s with im := mset 0 s.im 3 w, ms := ms }
def partner : MsEntry :=
  { tok := tokenOf 2 1, bank := false, set := 0, way := none, const := false, sticky := false, stamp := 0, lru := 0 }
def choosesB (d : Dev) (ports : Nat) : Bool :=
  match d.select c5 with
  | none => false
  | some (d, q) =>
    let w := (d.cell c5).matchWord q.tok.instr
    (portUse d.uct.entries w).number = ports && (portUse d.uct.entries w).uses q.tok.port &&
      !(d.cell c5).store.spilled.contains (frameKey q.tok.graph q.tok.frame) && !(d.cell c5).beyondWindow q.tok && !q.resv &&
      !q.installed && stickyPort d.uct.entries w ≠ some q.tok.port && d.admits c5 q.tok.graph
def completesB (d : Dev) : Bool :=
  match d.select c5 with
  | none => false
  | some (d, q) => ((d.cell c5).store.complete d.uct.entries ((d.cell c5).matchWord q.tok.instr) q.tok true).isSome
theorem test_witness_selecting : Claims.Selecting (queued (wordOf 0 0) []) c5 :=
  { running := by unfold Claims.Running; decide +kernel, awake := by decide +kernel, room := by decide +kernel
    fires := by decide +kernel, open0 := by decide +kernel, open1 := by decide +kernel }
theorem test_witness_select :
    (choosesB (queued (wordOf 0x00A 0) []) 1 && choosesB (queued (wordOf 0 0) []) 2 && !completesB (queued (wordOf 0 0) []) &&
      choosesB (queued (wordOf 0 0) [partner]) 2 && completesB (queued (wordOf 0 0) [partner])) = true := by decide +kernel
theorem test_match_forms :
    shows (exec (.tokenSelect c5 .none ⟨.none, .none⟩) (run (queued (wordOf 0 0) [partner]))) (fun d =>
      ((d.cell c5).store.ms.length, (d.cell c5).pipe.rdy.map fun a => (a.left.isSome, a.right.isSome))) =
      some (0, [(true, true)]) := by decide +kernel
theorem test_match_waits :
    shows (exec (.tokenSelect c5 .none ⟨.none, .none⟩) (run (queued (wordOf 0 0) []))) (fun d =>
      ((d.cell c5).store.ms.length, (d.cell c5).pipe.rdy.length)) = some (1, 0) := by decide +kernel

/-- AnswersCompleteEntries and EntriesEndInTime: entries of each kind and every answer. -/
def memReqOf (op : MemOp) : MemReq :=
  { op := op, sz := 3, sx := false, addr := 8, data := 0, cmp := 0, dpoison := false, graph := 1, frame := 2, src := .cell c5 0 7 }
def entryOf (k : CtKind) : CtEntry :=
  { act := actOf 8 2, word := wordOf 0x180 0, kind := k, acked := false, again := false, uid := 7, issued := 0, colour := false }
def rspOf (a : Answer) : MemRsp := { dst := c5, entry := 0, uid := 7, graph := 1, ans := a }
def waiting (k : CtKind) (a : Answer) : Dev :=
  { loaded with clock := { loaded.clock with run := 10000000 } }.modPipe c5 fun p =>
    { p with ct := [(0, entryOf k)], inbox := [.rsp (rspOf a)] }
theorem test_witness_answered (k : CtKind) (a : Answer) (h : (waiting k a).diesStop = false ∧ ((waiting k a).cell c5).runs = true)
    (h1 : ((waiting k a).cell c5).pipe.inbox[0]? = some (.rsp (rspOf a)))
    (h2 : mfind ((waiting k a).cell c5).pipe.ct (rspOf a).entry.toNat = some (entryOf k))
    (h3 : Claims.RecordsFor (waiting k a) c5 1) : Claims.Answered (waiting k a) c5 0 (rspOf a) (entryOf k) :=
  ⟨h, h1, h2, rfl, h3⟩
theorem test_witness_answers :
    (∀ a ∈ [Answer.value 5 false, .memError, .writeTwice, .notOwner 0, .ack, .notRecorded],
      Claims.Answered (waiting (.mem (memReqOf .ld)) a) c5 0 (rspOf a) (entryOf (.mem (memReqOf .ld)))) ∧
    Claims.Answered (waiting (.lockReq (memReqOf .lock)) (.value 5 false)) c5 0 (rspOf (.value 5 false))
      (entryOf (.lockReq (memReqOf .lock))) := by
  refine ⟨fun a h => ?_, test_witness_answered _ _ (by decide +kernel) (by decide +kernel) (by decide +kernel)
    (by unfold Claims.RecordsFor; decide +kernel)⟩
  simp only [List.mem_cons, List.not_mem_nil, or_false] at h
  rcases h with rfl | rfl | rfl | rfl | rfl | rfl <;>
    exact test_witness_answered _ _ (by decide +kernel) (by decide +kernel) (by decide +kernel)
      (by unfold Claims.RecordsFor; decide +kernel)
theorem test_load_reply :
    shows (exec (.replyReceive c5 ⟨0, .none⟩) (run (waiting (.mem (memReqOf .ld)) (.value 5 false)))) (fun d =>
      ((d.cell c5).pipe.ct.length, (d.cell c5).pipe.inbox.length, (d.cell c5).pipe.bypass.map fun r => (r.tok.instr.toNat, r.tok.w2))) =
      some (0, 0, [(0, 5)]) := by decide +kernel
/-- A stale use number, and an entry to reissue. -/
theorem test_witness_stale_and_again :
    (entryOf (.mem (memReqOf .lds))).uid ≠ { rspOf .ack with uid := 6 }.uid ∧
      mfind ((loaded.modPipe c5 fun p => { p with ct := [(0, { entryOf (.mem (memReqOf .lds)) with again := true })] }).cell c5).pipe.ct 0 =
        some { entryOf (.mem (memReqOf .lds)) with again := true } := by decide +kernel
/-- The 10 ms of TMOCFG.INIT have passed; a NEWF entry with a record free and FRWAIT over; a timer due. -/
theorem test_witness_entries_end :
    let d := waiting (.newf false) .ack
    Claims.RecordsFor d c5 1 ∧ Claims.Running d c5 ∧ d.hubRuns = true ∧ 0 + 100000 * d.fld rTmocfg 16 16 ≤ d.clock.run ∧
      (d.cell c5).store.recordsWanted < (d.cell c5).store.freeRecords ∧ d.newfNumber c5 1 = some 0 ∧
      0 + 1000 * d.fld rFrwait 0 16 ≤ d.clock.run ∧
      ((d.modEv c5 fun e => { e with evt := [(64 + srcFrameExhausted, 0x8000000000000000)] }).cell c5).enabled 1 srcFrameExhausted = true ∧
      (10000000 : Nat) ≤ d.clock.run :=
  ⟨by unfold Claims.RecordsFor; decide +kernel, by unfold Claims.Running; decide +kernel, by decide +kernel, by decide +kernel, by decide +kernel, by decide +kernel,
    by decide +kernel, by decide +kernel, by decide +kernel⟩
theorem test_cell_timer :
    shows (exec (.cellTimer c5 0) (run (waiting (.timer 10000000) .ack))) (fun d => ((d.cell c5).pipe.ct.length)) = some 0 := by
  decide +kernel

/-- PrefetchSleepAndScrub: a handler first; an ordinary activation; an idle cell; an entry met by the scrub. -/
theorem test_witness_prefetch :
    let d := loaded.modPipe c5 fun p => { p with rdyH := [actOf 1 2], rdy := [actOf 3 4] }
    Claims.Running d c5 ∧ ((d.cell c5).pipe.lane 7).slots.length < 2 ∧ (d.cell c5).pipe.rdyH = [actOf 1 2] ∧
      ((loaded.modPipe c5 fun p => { p with rdy := [actOf 3 4] }).cell c5).pipe.rdyH = [] :=
  ⟨by unfold Claims.Running; decide +kernel, by decide +kernel, by decide +kernel, by decide +kernel⟩
theorem test_prefetch_handler_first :
    shows (exec (.prefetchFill c5 7 .none) (run (loaded.modPipe c5 fun p => { p with rdyH := [actOf 1 2], rdy := [actOf 3 4] })))
      (fun d => ((d.cell c5).pipe.rdyH.length, (d.cell c5).pipe.rdy.length, ((d.cell c5).pipe.lane 7).slots.length)) =
      some (0, 1, 1) := by decide +kernel
theorem test_sleep :
    shows (exec (.cellSleep c5) (run { loaded with clock := { loaded.clock with core := [(0, 4096)] } })) (fun d =>
      (d.cell c5).asleep) = some true := by decide +kernel
def scrubbed : Dev := loaded.modStore c5 fun s => { s with ms := [{ partner with way := some 0 }] }
theorem test_scrub_discards :
    shows (exec (.msScrub c5 false 0 .uncorrectable) (run scrubbed)) (fun d =>
      ((d.cell c5).store.ms.length, mget 0 (d.cell c5).store.scrub 0)) = some (0, 1) := by
  decide +kernel

/-! ### Witnesses: spill/fill, refused tokens, census -/

/-- A frame key of graph 1, a cell whose pool is short (SPILL_LO 40,000), and a record of the frame in the ring. -/
def key3 : Nat := 4096 + 3
def tok3 : Token :=
  TokenFields.pack
    { node := 0, cell := c5, graph := 1, cls := 0, stream := 0, seq := 0, kind := 0, vtype := 0, poison := false, epoch := false
      colour := false, frame := 3, instr := 3, port := 1, iter := 7, value := 2 }
def frame3 : MsEntry := { partner with tok := tok3 }
def short (f : CellStore → CellStore) : Dev := (loaded.setReg rMswm 40000).modStore c5 f
def spillDev (f : CellStore → CellStore) : Dev := loaded.modStore c5 f
def rec3 : SpillRec := { key := key3, body := .spilled frame3.tok false, nums := [0] }

/-- SpillEngineMovesFrames: the pool trigger in force (low, and held on below SPILL_HI) and not; a sweep going on, done and full. -/
theorem test_witness_spill_trigger :
    Claims.Running (short id) c5 ∧ (short id).poolFree c5 < (short id).fld rMswm 0 16 ∧
      ¬(spillDev id).poolFree c5 < (spillDev id).fld rMswm 0 16 ∧ ((spillDev id).cell c5).store.spilling = false ∧
      ((spillDev id).cell c5).store.demand.head? = none ∧ (spillDev fun m => { m with demand := [key3] }).fits c5 key3 = true :=
  ⟨by unfold Claims.Running; decide +kernel, by decide +kernel, by decide +kernel, by decide +kernel, by decide +kernel,
    by decide +kernel⟩
theorem test_witness_victim :
    ({ (short fun m => { m with
        ms := [{ frame3 with way := some 0 }], frames := [(key3, frameRec false 0)], inUse := [key3] }) with
      graphs := [(1, { g1 with quota := { g1.quota with msmin := 0 } })] } : Dev).victim c5 = some key3 := by
  decide +kernel
theorem test_witness_sweep :
    let d := spillDev fun m => { m with sweep := [key3], ms := [frame3] }
    Claims.Running d c5 ∧ (d.cell c5).store.sweep = [key3] ∧
      minBy MsEntry.sweepOrder ((d.cell c5).store.ms.filter fun e => e.const = false ∧ frameKey e.tok.graph e.tok.frame = key3) =
        some frame3 ∧ (d.cell c5).store.recordsUsed < d.ringSize ∧
      (((spillDev fun m => { m with sweep := [key3] }).cell c5).store.ms.filter fun e =>
        e.const = false ∧ frameKey e.tok.graph e.tok.frame = key3) = [] :=
  ⟨by unfold Claims.Running; decide +kernel, by decide +kernel, by decide +kernel, by decide +kernel, by decide +kernel⟩
/-- The ring of 15,360 records holds 5,120 saved frames. -/
theorem test_witness_ring_full (r : SpillRec) (n : Nat) : ∀ k, (List.replicate k r).foldl (fun n r => n + r.body.records) n =
    n + k * r.body.records
  | 0 => by simp
  | k + 1 => by simp [List.replicate_succ, test_witness_ring_full r _ k, Nat.succ_mul]; omega
theorem test_witness_ring_is_full :
    let d := (spillDev fun m => { m with
      sweep := [key3], ms := [frame3], ring := List.replicate 5120 { key := key3, body := .saved (frameRec false 0), nums := [0, 1, 2] } }).setReg
        rSpillcfg 0
    d.ringSize ≤ 5120 * SpillBody.records (.saved (frameRec false 0)) ∧ (d.cell c5).store.sweep = [key3] :=
  ⟨by decide +kernel, by decide +kernel⟩
theorem test_sweep_moves :
    shows (exec (.spillMove c5) (run (spillDev fun m => { m with sweep := [key3], ms := [frame3] }))) (fun d =>
      ((d.cell c5).store.ring.map SpillRec.key, (d.cell c5).store.ms.length, (d.cell c5).store.sweep)) = some ([key3], 0, []) := by
  decide +kernel
/-- A demanded frame with one record, with none, and with its frame record saved too. -/
theorem test_witness_reel_back :
    let d := spillDev fun m => { m with demand := [key3], ring := [rec3] }
    let e := spillDev fun m => { m with demand := [key3], ring := [{ key := key3, body := .saved (frameRec false 0), nums := [0, 1, 2] }] }
    d.fits c5 key3 = true ∧ ((d.cell c5).store.chain key3).length = 1 ∧ (d.cell c5).store.evicted key3 = none ∧
      e.fits c5 key3 = true ∧ (e.cell c5).store.chain key3 = [] ∧ (e.cell c5).store.evicted key3 = some (frameRec false 0) ∧
      (e.cell c5).store.frames.length < 4096 := by decide +kernel
theorem test_reel_back_starts :
    shows (exec (.reelBackStart c5) (run (spillDev fun m => { m with demand := [key3], ring := [rec3] }))) (fun d =>
      ((d.cell c5).store.reel, (d.cell c5).store.reelLeft)) = some (some key3, 1) := by decide +kernel
/-- A reel-back in progress, and a token parked for a frame that is now bound. -/
theorem test_witness_reel :
    let d := spillDev fun m => { m with reel := some key3, reelLeft := 1, ring := [rec3], spilled := [key3] }
    let e := spillDev fun m => { m with frames := [(key3, frameRec false 0)], ring := [{ key := key3, body := .parked frame3.tok, nums := [0] }] }
    (d.cell c5).store.chain key3 = [rec3] ∧ frame3.tok.wellFormed = true ∧ d.graph frame3.tok.graph = some g1 ∧
      frame3.tok.kind ≠ 3 ∧ d.qFull c5 (d.queueOf c5 frame3.tok) = false ∧
      ((e.cell c5).store.ring.filter fun y => (e.cell c5).admissible y) = [{ key := key3, body := .parked frame3.tok, nums := [0] }] := by
  decide +kernel
theorem test_park_reels :
    shows (exec (.parkReel c5) (run (spillDev fun m => { m with
      frames := [(key3, frameRec false 0)], ring := [{ key := key3, body := .parked frame3.tok, nums := [0] }] }))) (fun d =>
      ((d.cell c5).store.ring.length, ((d.cell c5).pipe.queue 1).length)) = some (0, 1) := by decide +kernel

/-- RefusedTokensReturnAndRetry: BPLIMIT's 50 µs over; a REFUSE stored with room and without; a record due and not due. -/
def rtsOf (due : BitVec 16) : RtsRec := { tok := tokenOf 1 0, due := due, count := 1, hub := false, src := c5 }
def late (d : Dev) : Dev := { d with clock := { d.clock with aon := 50000 } }
def yoyoDev (f : Yoyo → Yoyo) : Dev := (late loaded).setYoyo 0 (f ((late loaded).yoyo 0))
theorem test_witness_refuse :
    let d := late (arriving (streamTok 0 0))
    d.diesStop = false ∧ (Claims.waitingAt d c5 false)[0]? = some (resOf (streamTok 0 0)) ∧ (d.cell c5).isolated = false ∧
      0 + 1000 * d.fld rBplimit 0 14 ≤ d.clock.aon ∧ (d.yoyo 0).refused = [] := by decide +kernel
theorem test_refuse_sends :
    shows (exec (.tokenRefuse (.ingress c5) 0) (run (late (arriving (streamTok 0 0))))) (fun d =>
      ((d.cell c5).pipe.ingress.length, (d.cell c5).pipe.egress.length)) = some (0, 1) := by decide +kernel
theorem test_witness_refuse_store :
    let d := yoyoDev fun y => { y with refused := [rtsOf 0] }
    (d.yoyo 0).refused[0]? = some (rtsOf 0) ∧ (d.yoyo 0).rts.length < d.rtsPlaces ∧ loaded.rtsPlaces = d.rtsPlaces := by
  decide +kernel
theorem test_witness_retry :
    (BitVec.ofNat 16 ((late loaded).clock.aon / 1000) - (rtsOf 50).due).toNat < 32768 ∧
      ¬(BitVec.ofNat 16 ((late loaded).clock.aon / 1000) - (rtsOf 51).due).toNat < 32768 ∧
      ((yoyoDev fun y => { y with rts := [rtsOf 50] }).yoyo 0).rts = [rtsOf 50] := by decide +kernel
theorem test_retry_not_due :
    shows (exec (.retrySend 0) (run (yoyoDev fun y => { y with rts := [rtsOf 51, rtsOf 50] }))) (fun d =>
      (d.yoyo 0).rts.map fun r => r.due) = some [50, 51] := by decide +kernel

/-- CensusWavesCollectAndDeclare. The wave of graph 1 with some answers. -/
def waveOf (parts : List (Participant × Sums)) (aggs : List (Aggregator × Sums)) : Wave :=
  { began := 0, tmo := 100000000, asker := none, parts := parts, aggs := aggs, childs := [], abandonedBelow := false }
def zeroSums : Sums := { cr0 := 0, cr1 := 0, cn0 := 0, cn1 := 0 }
def waved (w : Option Wave) (f : Graph → Graph) : Dev :=
  { loaded with
    graphs := [(1, f { g1 with waveNow := w, wave := 1 })], clock := { aon := 100000000, run := 100000000, core := [] } }
theorem test_witness_wave_start :
    let d := waved none id
    d.hubRuns = true ∧ d.graph 1 = some { g1 with waveNow := none, wave := 1 } ∧ g1.croot = d.fbn.nodeId ∧ g1.launched = true ∧
      g1.complete = false ∧ 0 + 100 * d.fld rCencfg 0 16 ≤ d.clock.run := by decide +kernel
theorem test_witness_wave_receive :
    let d := waved (some (waveOf [] [])) id
    d.diesStop = false ∧ c5.toNat ∈ g1.mask ∧ ({ d with regs := { d.regs with cfg := [(rProxylo, 1)] } }.isProxy 0) = true ∧
      d.aggregate { g1 with wave := 1 } (waveOf [(.cell c5, zeroSums)] []) (.cluster 0) = some zeroSums ∧
      (waveOf [] []).began + (waveOf [] []).tmo ≤ d.clock.aon := by decide +kernel
theorem test_wave_colours :
    shows (exec (.waveReceive 1 (.cell c5)) (run (waved (some (waveOf [] [])) id))) (fun d =>
      ((d.cell c5).census 1).colour) = some true := by decide +kernel
/-- All four dies have answered; counters equal twice, or not. -/
def allAggs : List (Aggregator × Sums) := allDies.map fun k => (.die k, zeroSums)
theorem test_witness_wave_end :
    let d := waved (some (waveOf [] allAggs)) fun x => { x with cen := { cr0 := 1, cr1 := 0, cn0 := 1, cn1 := 0, colour := false } }
    d.aggregate g1 (waveOf [] allAggs) .hub = some zeroSums ∧ (∀ b ∈ (waveOf [] allAggs).aggs, b.1 ≠ .hub) := by decide +kernel
theorem test_second_equal_wave_completes :
    shows (exec (.sumsAggregate 1 .hub) (run (waved (some (waveOf [] allAggs)) fun x =>
      { x with
        cen := { cr0 := 1, cr1 := 0, cn0 := 1, cn1 := 0, colour := false }
        last := some { cr0 := 1, cr1 := 0, cn0 := 1, cn1 := 0 } }))) (fun d => (d.graph 1).map Graph.complete) =
      some (some true) := by decide +kernel
theorem test_first_equal_wave_does_not :
    shows (exec (.sumsAggregate 1 .hub) (run (waved (some (waveOf [] allAggs)) fun x =>
      { x with cen := { cr0 := 1, cr1 := 0, cn0 := 1, cn1 := 0, colour := false } }))) (fun d => (d.graph 1).map Graph.complete) =
      some (some false) := by decide +kernel

/-! ### Witnesses: mesh, rings, events -/

def tokPkt : Pkt := .tok (tokenOf 1 0) (.cell 20) 0
def flitTo (tgt : BitVec 7) : Flit := flitOf tgt 20 0 false [tokPkt] tokPkt.mc 1
/-- A flit for a cluster at the local input of a router. -/
def meshDev (r : ClusterId) (tgt : BitVec 7) : Dev := loaded.setVc (vcKey r 4 tokPkt.mc false) [flitTo tgt]

/-- MeshForwardsFlits: west from router 1 to router 0; into its cluster, powered and not; the hub's input. -/
theorem test_witness_hop :
    let d := meshDev 1 0
    let e := meshDev 0 0
    d.diesStop = false ∧ (Claims.candidatesAt d 1 3 0).length = 1 ∧ beyond 1 3 = .router 0 1 ∧
      (d.choose 1 3 0 (Claims.candidatesAt d 1 3 0)).isSome = true ∧ Claims.candidatesAt d 1 0 0 = [] ∧
      (Claims.candidatesAt e 0 4 0).length = 1 ∧ beyond 0 4 = .cluster 0 ∧ mfind e.fab.power 0 = none ∧
      (Claims.candidatesAt { e with fab := { e.fab with power := [(0, .retained)] } } 0 4 0).length = 1 := by decide +kernel
theorem test_flit_moves_west :
    shows (exec (.flitHop 1 3 0 .none) (run (meshDev 1 0))) (fun d =>
      ((d.vc (vcKey 1 4 2 false)).length, (d.vc (vcKey 0 1 2 false)).length)) = some (0, 1) := by decide +kernel
/-- The next router's adaptive buffers full: the head goes dry at the first look and may escape 8 mesh cycles later (R294). -/
def dryDev : Dev := (meshDev 1 0).setVc (vcKey 0 1 2 false) (List.replicate 4 (flitTo 0))
theorem test_witness_dry :
    let d := dryDev.lookCredits 1 5
    d.fab.dry = [(vcKey 1 4 2 false, 5)] ∧ Claims.drySince dryDev 1 5 (vcKey 1 4 2 false) = some 5 ∧
      d.candOf 1 3 12 4 (vcKey 1 4 2 false) = none ∧
      (d.candOf 1 3 13 4 (vcKey 1 4 2 false)).map Cand.esc = some true ∧ Claims.candidatesAt d 1 3 12 = [] := by decide +kernel
def xbarDev : Dev := loaded.modPipe 20 fun p => { p with egress := [{ pkt := tokPkt, epoch := false, lane := none, since := 0 }] }
theorem test_witness_crossbar :
    xbarDev.way tokPkt = .target 0 ∧ (xbarDev.leaving 1).length = 1 ∧
      (minBy (fun y => y.2.2.since) (xbarDev.leaving 1)).isSome = true ∧ (xbarDev.vc (vcKey 1 4 2 false)).length < 4 := by
  decide +kernel
theorem test_witness_hub :
    let d := loaded.setHubIn (stageKey 8) [flitTo 5]
    let seen := (d.pullHub 8).lookHub 8
    d.hubRuns = true ∧ (seen.hubNext 8).map (·.1) = some (hubKey 8 2 false) ∧
      seen.hubGo 8 (hubKey 8 2 false) (flitTo 5) = .module 17 false ∧
      (((loaded.pullHub 8).lookHub 8).hubNext 8) = none := by
  decide +kernel

/-- FabricPowerAndBanks: an idle cluster whose time is over, a waking one, a bank retiring with and without old graphs. -/
def idleCluster : Dev :=
  { loaded with
    cells := (List.range 16).map fun i => (i, { cellReset with asleep := true })
    clock := { aon := 100000, run := 100000, core := [] } }
theorem test_witness_retention :
    (idleCluster.setReg rPwrcfg (100 * 65536 + 1)).fld rPwrcfg 0 1 = 1 ∧ mfind idleCluster.fab.power 0 = none ∧
      ((clusterCells 0).all fun c => (idleCluster.cell c).asleep && (idleCluster.cell c).pipe.egress.isEmpty &&
        (idleCluster.cell c).pipe.ingress.isEmpty) = true ∧
      mget 0 idleCluster.fab.idleSince 0 + 1000 * idleCluster.fld rPwrcfg 16 16 ≤ idleCluster.clock.run ∧
      mfind { idleCluster.fab with power := [(0, .waking)] }.power 0 = some .waking := by decide +kernel
theorem test_retention :
    shows (exec (.clusterRetention 0 true) (run idleCluster)) (fun d => mfind d.fab.power 0) = some (some .retained) := by
  decide +kernel
theorem test_bank_retires :
    let d := { loaded with fab := { loaded.fab with retiring := true, cur := true } }
    d.hubRuns = true ∧ d.oldFlits (!d.fab.cur) = false ∧
      shows (exec .routeBankRetire (run d)) (fun d => d.fab.retiring) = some false ∧
      shows (exec .routeBankRetire (run { d with fab := { d.fab with drains := [(1, 2)] } })) (fun d => d.fab.retiring) =
        some true := by decide +kernel

/-- OutputReachesHost: an OUT for an enabled ring of 16 entries with 15 free; an accepted entry; a held notice; a moderated vector. -/
def outDev : Dev := (waiting (.out 2 3 false 0) .ack).setReg (rOcfg 2) 0x80000004
theorem test_witness_out :
    Claims.Running outDev c5 ∧ outDev.fld (rOcfg 2) 31 1 = 1 ∧ 2 ^ outDev.fld (rOcfg 2) 0 5 = 16 ∧
      mfind (outDev.cell c5).pipe.ct 0 = some (entryOf (.out 2 3 false 0)) :=
  ⟨by unfold Claims.Running; decide +kernel, by decide +kernel, by decide +kernel, by decide +kernel⟩
theorem test_out_accepted :
    shows (exec (.outAccept c5 0) (run outDev)) (fun d => ((d.oring 2).accepted.map OutEnt.w0, (d.cell c5).pipe.ct.length)) =
      some ([8], 0) := by decide +kernel
def noticeDev (r : Reg) : Dev :=
  { (loaded.setReg (rRcfg 0) r.toNat) with graphs := [(1, { g1 with notices := [{ type_ := 1, status := 0, result := 0 }] })] }
theorem test_witness_notice :
    (noticeDev 0x80000004).pairEn 0 = true ∧ (noticeDev 0x80000004).cqFree 0 = 15 ∧ (noticeDev 0x80000000).cqFree 0 = 0 := by
  decide +kernel
def pendDev (open_ : Bool) : Dev :=
  ({ on with clock := { aon := 10000, run := 10000, core := [] } }.setReg (rMsimod 0 1) 10).setVector 0 1
    { pend := 1, oldest := 0, unmasked := open_, pba := false, addr := 0, data := 0 }
theorem test_witness_msix :
    ((pendDev true).vector 0 1).pend ≠ 0 ∧ (pendDev true).fld (rMsimod 0 1) 0 10 = 10 ∧
      ((pendDev true).vector 0 1).oldest + 1000 * 10 ≤ (pendDev true).clock.run := by decide +kernel
theorem test_msix_time :
    shows (exec (.msixTime 0 1) (run (pendDev true))) (fun d => d.out) = some [.msix 0 1] ∧
      shows (exec (.msixTime 0 1) (run (pendDev false))) (fun d => ((d.vector 0 1).pba, d.out)) = some (true, []) := by
  decide +kernel

/-- DoorbellsMoveIndexes: the last index of a ring of 16; a foreign page; host-memory mode without rings. -/
def ringDev : Dev := (on.setReg (rRcfg 1) 0x80000004).setReg (rOcfg 2) 0x80000004
theorem test_witness_doorbell :
    Claims.Doorbell ringDev 0 (ringDev.pairFn 1) (ringDev.pairEn 1) (ringDev.pairSize 1) 15 ∧
      Claims.Doorbell ringDev 0 (ringDev.oringFn 2) (ringDev.oringEn 2) (ringDev.oringSize 2) 15 ∧
      (ringDev.pairFn 1).toNat ≠ (63 : Requester).toNat ∧ (on.setReg (rFncfg 0) 1).fld (rFncfg 0) 0 1 = 1 ∧
      ringDev.fld (rFncfg 0) 0 1 = 0 :=
  ⟨{ hub := by decide +kernel, ready := by decide +kernel, function := by decide, mine := by decide +kernel
     mmio := by decide +kernel, on := by decide +kernel, index := by decide +kernel },
    { hub := by decide +kernel, ready := by decide +kernel, function := by decide, mine := by decide +kernel
      mmio := by decide +kernel, on := by decide +kernel, index := by decide +kernel },
    by decide +kernel, by decide +kernel, by decide +kernel⟩
theorem test_sqtail :
    shows (exec (.sqtailDoorbell 0 1 15) (run ringDev)) (fun d => (d.pair 1).sqTail) = some 15 := by decide +kernel
theorem test_doorbell_foreign :
    shows (exec (.sqtailDoorbell 63 1 15) (run ringDev)) (fun d => ((d.pair 1).sqTail, (d.log 63).count)) = some (0, 1) := by
  decide +kernel

/-- EventPresentationRunsHandler: an event of source 32, enabled without LVL and with it. -/
def evRec (src : BitVec 6) : EvRec :=
  { graph := 1, source := src, left := { bits := 4, vtype := 0, poison := false }, right := none, oframe := some 2, oiter := 7
    post := c5, grant := none, place := .shared, since := 0, born := 0, asked := none, granted := none, returns := false, colour := false }
def eventDev (w : Word) : Dev := loaded.modEv c5 fun e => { e with evt := [(64 + 32, w)], recs := [evRec 32] }
theorem test_witness_event :
    (eventDev 0x8000000000000003).chooseRecord c5 = some (evRec 32) ∧ (eventDev 0xC000000000000003).chooseRecord c5 = some (evRec 32) ∧
      (eventDev 0x8000000000000003).presentable c5 (evRec 32) = true ∧
      Claims.Running (eventDev 0x8000000000000003) c5 ∧ ((eventDev 0x8000000000000003).cell c5).pipe.rdyH.length < 8 :=
  ⟨by decide +kernel, by decide +kernel, by decide +kernel, by unfold Claims.Running; decide +kernel, by decide +kernel⟩
theorem test_event_presented :
    shows (exec (.eventPresent c5) (run (eventDev 0xC000000000000003))) (fun d =>
      ((d.cell c5).pipe.rdyH.map fun a => (a.instr.toNat, a.handler), (d.cell c5).ev.recs.length, (d.cell c5).ev.stack.length)) =
      some ([(3, true)], 0, 1) := by decide +kernel

/-- EventRecordsReachTheirCell: cell 5 sends its event to cell 6, granted and not; cell 6 grants; the record arrives. -/
def awayWord : Word := 0x9000000000000000 ||| (6#64 <<< 50)
def awayDev (granted : Option CellId) : Dev :=
  loaded.modEv c5 fun e => { e with evt := [(64 + 32, awayWord)], recs := [{ evRec 32 with granted := granted }] }
theorem test_witness_record_send :
    evTgtv awayWord = true ∧ evTgt awayWord = 6 ∧ ((awayDev none).cell 6).runs = true ∧
      ((awayDev (some 6)).cell c5).ev.recs[0]? = some { evRec 32 with granted := some 6 } := by decide +kernel
theorem test_record_asks :
    shows (exec (.eventRecordSend c5 0) (run (awayDev none))) (fun d => (d.cell 6).pipe.inbox) = some [.evAsk 6 c5 1 0] := by
  decide +kernel
def grantDev : Dev := (awayDev none).modEv 6 fun e => { e with rbReq := [(c5, 1, 0), (c5, 1, 9)] }
theorem test_witness_grant :
    (grantDev.cell 6).ev.rbReq = [(c5, 1, 0), (c5, 1, 9)] ∧
      ((grantDev.cell 6).ev.recs.filter fun r => r.place = .receive).length + (grantDev.cell 6).ev.rbGrant < 8 ∧
      ((grantDev.cell c5).ev.recs.map EvRec.born) = [0] := by decide +kernel
theorem test_grant :
    shows (exec (.receiveBufferGrant 6) (run grantDev)) (fun d =>
      ((d.cell 6).ev.rbGrant, (d.cell c5).pipe.inbox)) = some (1, [.evGrant c5 6 1 0]) := by decide +kernel
def recordDev : Dev := loaded.modPipe 6 fun p => { p with inbox := [.ev 6 { evRec 32 with granted := some 6 }] }
theorem test_record_arrives :
    shows (exec (.eventRecordArrival 6 0) (run recordDev)) (fun d =>
      ((d.cell 6).ev.recs.map EvRec.place, (d.cell 6).pipe.inbox.length)) = some ([.receive], 0) := by decide +kernel
theorem test_puppeteer_post :
    shows (exec (.puppeteerPost c5 1 9 0 false) (run (loaded.modEv c5 fun e =>
      { e with evt := [(64 + srcPuppeteerPost, 0x8000000000000000)] }))) (fun d => (d.hubIn (stageKey hubMgt)).length) = some 1 ∧
      shows (exec (.puppeteerPost c5 1 9 0 false) (run loaded)) (fun d => (d.hubIn (stageKey hubMgt)).length) = some 0 := by
  decide +kernel

/-! ### Witnesses: HBM, structures, locks -/

def reqOf (op : MemOp) (sz : BitVec 2) (addr : BitVec 48) (data : Word) : MemReq :=
  { op := op, sz := sz, sx := false, addr := addr, data := data, cmp := 0, dpoison := false, graph := 1, frame := 2
    src := .cell c5 0 7 }
def stackDev (r : MemReq) : Dev := loaded.modStack 0 fun x => { x with reqs := [r] }
/-- Region 0: 64 MiB of STRUCT from 0; region 1: of SPILL from 64 MiB. -/
def structDev (r : MemReq) : Dev := ((stackDev r).setReg (rRgn 0) 0x90010000).setReg (rRgn 1) 0xA0010001
def atHbm (h : Hbm) (d : Dev) : State := { State.reset with hbm := h, dev := d }
def emptyHbm : Hbm := { bytes := [], poison := [], full := [] }

/-- What a next state's HBM shows. -/
def showsHbm {α : Type} (o : Host.Outcome State Fault Refusal) (f : Hbm → α) : Option α :=
  match o with
  | .next t => some (f t.hbm)
  | _ => none

/-- LoadsAndStoresOfHbm and AtomicsOfHbm: bytes and words, the last byte of the stack, each kind of region, a poisoned word. -/
theorem test_witness_hbm :
    (∀ r ∈ [reqOf .ld 3 0x5FFFFFFFF 0, reqOf .st 0 0 1, reqOf .aadd 0 8 1], (stackDev r).diesStop = false ∧
      ((stackDev r).stack 0).reqs[0]? = some r ∧ (stackDev r).stackIso 0 = false ∧ (stackDev r).memKind r.addr.toNat = .plain ∧
      r.addr.toNat % szBytes r.sz = 0) ∧
    (structDev (reqOf .ld 0 0 0)).memKind 0 ≠ .plain ∧ (structDev (reqOf .ld 0 0 0)).memKind 0x3E00000 ≠ .plain ∧
    (structDev (reqOf .ld 0 0 0)).memKind 0x4000000 ≠ .plain ∧
    ({ emptyHbm with poison := [(1, true)] } : Hbm).poisoned 1 = true := by decide +kernel
theorem test_store_then_byte :
    showsHbm (exec (.controllerWrite 0 0 .none) (atHbm emptyHbm (stackDev (reqOf .st 2 6 0xA1B2)))) (fun h =>
      (h.byte 5, h.byte 6, h.byte 7, h.byte 8)) = some (0, 0xB2, 0xA1, 0) := by decide +kernel
theorem test_atomic_add :
    showsHbm (exec (.controllerAtomic 0 0 .none) (atHbm { emptyHbm with bytes := [(8, 0xFF)] } (stackDev (reqOf .aadd 0 8 1))))
      (fun h => (h.byte 8, h.byte 9)) = some (0, 1) := by decide +kernel
/-- ACAS stores when the word equals its expected value, here 0, and not when it differs. -/
theorem test_compare_and_swap :
    showsHbm (exec (.controllerAtomic 0 0 .none) (atHbm emptyHbm (stackDev (reqOf .acas 0 8 5)))) (fun h => h.byte 8) = some 5 ∧
      showsHbm (exec (.controllerAtomic 0 0 .none) (atHbm { emptyHbm with bytes := [(8, 1)] } (stackDev (reqOf .acas 0 8 5))))
        (fun h => h.byte 8) = some 1 := by decide +kernel
theorem test_min_max_signed :
    showsHbm (exec (.controllerAtomic 0 0 .none) (atHbm { emptyHbm with bytes := [(8, 1)] }
      (stackDev { reqOf .amin 1 8 0x80000000 with sx := true }))) (fun h => (h.byte 8, h.byte 11)) = some (0, 0x80) := by
  decide +kernel

/-- StructureWordsFillOnce: a data word EMPTY and FULL; room in the deferred table; a region to initialise. -/
theorem test_witness_struct :
    let d := structDev (reqOf .sts 0 8 7)
    (∃ rg, d.memKind 8 = .data rg) ∧ d.stackIso 0 = false ∧ (d.stack 0).reqs[0]? = some (reqOf .sts 0 8 7) ∧
      emptyHbm.isFull 1 = false ∧ ({ emptyHbm with full := [(1, true)] } : Hbm).isFull 1 = true ∧
      ((d.stack 0).deferred.filter fun x => x.overflow = false).length < 16384 ∧ (d.region 0).isSome = true :=
  ⟨⟨{ number := 0, kind := 1, base := 0, size := 0x4000000 }, by decide +kernel⟩, by decide +kernel, by decide +kernel,
    by decide +kernel, by decide +kernel, by decide +kernel, by decide +kernel⟩
theorem test_sts_fills :
    showsHbm (exec (.controllerSts 0 0 .none) (atHbm emptyHbm (structDev (reqOf .sts 0 8 7)))) (fun h => (h.isFull 1, h.byte 8)) =
      some (true, 7) := by decide +kernel
theorem test_lds_defers :
    shows (exec (.controllerLds 0 0 .none .none) (atHbm emptyHbm (structDev (reqOf .lds 0 8 0)))) (fun d =>
      (d.stack 0).deferred.map Deferred.word) = some [1] := by decide +kernel
theorem test_region_init :
    showsHbm (exec .regionInitDone (atHbm { emptyHbm with full := [(1, true)] } { structDev (reqOf .lds 0 8 0) with rgnInit := [0] }))
      (fun h => h.isFull 1) = some false := by decide +kernel

/-- MemoryUpkeepAndHostMemory: RATE of MEM.CFG set and 0; an idle stack for a millisecond; host requests of each outcome. -/
theorem test_witness_upkeep :
    let d := { loaded with clock := { loaded.clock with run := 1000000 } }
    d.fld rMemCfg 0 8 = 24 ∧ (d.setReg rMemCfg 0).fld rMemCfg 0 8 = 0 ∧ d.stackIso 3 = false ∧ (d.stack 3).reqs = [] ∧
      (d.stack 3).lastReq + 1000000 ≤ d.clock.run ∧
      ({ d.hif with hostReqs := [reqOf .st 0 0x800000000000 1] } : Hif).hostReqs[0]? = some (reqOf .st 0 0x800000000000 1) := by
  decide +kernel
theorem test_self_refresh :
    shows (exec (.hbmSelfRefresh 3 true) (run { loaded with clock := { loaded.clock with run := 1000000 } })) (fun d =>
      (d.stack 3).selfRef) = some true := by decide +kernel
theorem test_host_load :
    shows (exec (.hostMemRequest 0 { status := .ok, words := [9], poisoned := [] })
      (run { loaded with hif := { loaded.hif with hostReqs := [reqOf .ld 0 0x800000000000 0] } })) (fun d =>
      (d.hif.hostReqs.length, d.out)) = some (0, [.hostRead 0 0 8]) := by decide +kernel

/-- LockUnitActs: no entry; a free one with the abandoned mark; one held by another, by the requester, with a waiter. -/
def lockDev (op : MemOp) (l : List LockEnt) : Dev :=
  (stackDev (reqOf op 0 8 0)).modStack 0 fun x => { x with locks := l }
def held (o : Option Owner) (w : List Waiter) : LockEnt := { addr := 8, owner := o, abandoned := o.isNone, waiters := w, freed := 0 }
def self : Owner := (reqOf .lock 0 8 0).owner
theorem test_witness_locks :
    (∀ op ∈ [MemOp.lock, .trylock, .unlock], (lockDev op []).diesStop = false ∧
      ((lockDev op []).stack 0).reqs[0]? = some (reqOf op 0 8 0) ∧ (lockDev op []).memKind 8 = .plain) ∧
      self ≠ .fn 0 ∧ ((lockDev .lock [held (some (.fn 0)) []]).stack 0).waiters < 65536 ∧
      ([held none []].find? fun e => e.addr = 8) = some (held none []) ∧
      (held (some self) [{ owner := .fn 0, req := reqOf .lock 0 8 0 }]).waiters.length = 1 := by decide +kernel
theorem test_trylock_taken :
    shows (exec (.lockUnitTrylock 0 0) (run (lockDev .trylock []))) (fun d => (d.stack 0).locks.map LockEnt.owner) =
      some [some self] := by decide +kernel
theorem test_lock_waits :
    shows (exec (.lockUnitLock 0 0) (run (lockDev .lock [held (some (.fn 0)) []]))) (fun d =>
      (d.stack 0).locks.map fun e => (e.owner, e.waiters.length)) = some [(some (.fn 0), 1)] := by decide +kernel
theorem test_unlock_frees :
    shows (exec (.lockUnitUnlock 0 0) (run (lockDev .unlock [held (some self) []]))) (fun d => (d.stack 0).locks.length) =
      some 0 := by decide +kernel

/-! ### Descriptors -/

/-- A descriptor of an opcode with words W1 on, and a device with it started on ring pair 0. -/
def descOf (opc : Nat) (ws : List Word) : Desc :=
  { words := BitVec.ofNat 64 (opc * 2 ^ 56 + 2 ^ 48) :: ws, index := 0, waiting := false, issued := 0 }
def startOn (d : Dev) (x : Desc) : Dev := d.modPair 0 fun p => { p with started := [x] }
def startedB (d : Dev) (x : Desc) (opc : Nat) : Bool := d.desc 0 0 = some x && !x.waiting && x.opc.toNat = opc

theorem test_started_of {d : Dev} {x : Desc} {opc : Nat} (h : startedB d x opc = true) : Claims.Started d 0 0 x opc := by
  simp only [startedB, Bool.and_eq_true, decide_eq_true_eq, Bool.not_eq_true'] at h
  exact ⟨h.1.1, h.1.2, h.2⟩

/-- An image: cell 5 with one instruction, an ADD whose result is discarded. -/
def imageBody (crc : Nat) : List Word :=
  [0x000000011A49474F, BitVec.ofNat 64 (3 * 2 ^ 32 + 296), BitVec.ofNat 64 (crc * 2 ^ 32 + 5), 0, 0, 0, 0, 0] ++
    [0x00000070FFFF0001, 128, 0x000000F000050002, 48, 0x0000012000050003, 8] ++
    [0x20, 0, 0, 0, 0, 0, 0, 0, 0, 0, 0, 0, 0, 0, 0, 0] ++ [0x0000000000010000, 0, 0, 0, 0, 0] ++
    [BitVec.ofNat 64 (0x180000 * 2 ^ 21 + 0x180000)]
def imageWords : List Word := imageBody 4036182591
def image : Image := { ws := imageWords, len := 296 }

/-- The CRC's fold on numbers, each step evaluated before the next. -/
def crcNat : List Byte → Nat → Nat
  | [], c => c
  | b :: bs, c =>
    match (crcBits 8 (BitVec.ofNat 32 c ^^^ b.setWidth 32)).toNat with
    | 0 => crcNat bs 0
    | n + 1 => crcNat bs (n + 1)
theorem test_crc_fold (bs : List Byte) (c : BitVec 32) :
    (bs.foldl (fun c b => crcBits 8 (c ^^^ b.setWidth 32)) c).toNat = crcNat bs c.toNat := by
  induction bs generalizing c with
  | nil => rfl
  | cons b bs ih =>
    simp only [List.foldl_cons, ih, crcNat, BitVec.ofNat_toNat, BitVec.setWidth_eq]
    split <;> simp_all
theorem test_image_crc : crc32c image.crcBytes = 4036182591#32 := by
  have h : image.crcBytes.foldl (fun c b => crcBits 8 (c ^^^ b.setWidth 32)) 0xFFFFFFFF#32 = 258784704#32 :=
    BitVec.eq_of_toNat_eq (by rw [test_crc_fold]; decide +kernel)
  rw [crc32c, h]; decide
theorem test_image_intact : image.intact 296 = true := by
  rw [Image.intact, test_image_crc]; decide +kernel
def answer (ws : List Word) : HostData := { status := .ok, words := ws, poisoned := [] }

/-- A device with a SPILL region of 4 GiB from the start of HBM. -/
def spillOn : Dev := on.setReg (rRgn 0) 0xA0400000

def loadDesc : Desc := descOf 1 [BitVec.ofNat 64 (296 * 2 ^ 32 + 2), 0x10000]
/-- GraphDescriptorsComplete: an image that loads, an INJECT to a graph at rest, and one of each of the others. -/
theorem test_witness_load :
    startedB (startOn spillOn loadDesc) loadDesc 1 = true ∧ firstFailing ((startOn spillOn loadDesc).loadChecks 0 loadDesc) = none ∧
      (startOn spillOn loadDesc).imageStatus image 296 2 0 = none := by
  refine ⟨by decide +kernel, by decide +kernel, ?_⟩
  rw [Dev.imageStatus, test_image_intact]; decide +kernel
theorem test_load :
    let d := spillOn.loadGraph image 2 0 0
    d.graphs.map (fun p => (p.1, p.2.mask, p.2.launched)) = [(2, [5], false)] ∧
      mget 0 (d.cell c5).store.im 0 = BitVec.ofNat 64 (0x180000 * 2 ^ 21 + 0x180000) := by decide +kernel

/-- Graph 1 loaded and not yet launched. -/
def resting : Dev := { on with graphs := [(1, { g1 with launched := false, running := false, run := 0 })] }
def hostTok : Token := { tokenOf 9 2 with w0 := (tokenOf 9 2).w0 }
def injectDesc : Desc := descOf 2 [0, hostTok.w0, hostTok.w1, hostTok.w2]
theorem test_witness_inject :
    startedB (startOn resting injectDesc) injectDesc 2 = true ∧ firstFailing (injectChecks 0 injectDesc) = none ∧
      firstFailing ((startOn resting injectDesc).tokenChecks 0 1 [hostTok]) = none ∧
      (startOn resting injectDesc).runWaits 1 = false := by decide +kernel
theorem test_inject :
    shows (exec (.inject 0 0 (answer [])) (run (startOn resting injectDesc))) (fun d =>
      (d.graph 1).map fun g => (g.running, g.run, g.cen.cr0)) = some (some (true, 1, 2)) := by decide +kernel
theorem test_witness_graph_desc :
    (∀ opc ∈ [3, 4], startedB (startOn resting (descOf opc [1])) (descOf opc [1]) opc = true ∧
      firstFailing ((startOn resting (descOf opc [1])).graphChecks 0 (descOf opc [1])) = none) ∧
      startedB (startOn resting (descOf 8 [0x141, 7, 0])) (descOf 8 [0x141, 7, 0]) 8 = true := by decide +kernel
def postDev (x : Desc) : Dev :=
  startOn (resting.modCell c5 fun x => { x with ev := { x.ev with evt := [(64 + srcHostPost, BitVec.ofNat 64 (2 ^ 63))] } }) x
def postDesc : Desc := descOf 8 [0x141, 7, 0]
def quotaDesc1 : Desc := descOf 0x41 [1, 0x0040010000010001, 0x00640010]
theorem test_witness_post_quota :
    startedB (postDev postDesc) postDesc 8 = true ∧ firstFailing ((postDev postDesc).evpostChecks 0 postDesc) = none ∧
      startedB (startOn resting quotaDesc1) quotaDesc1 0x41 = true ∧
      firstFailing ((startOn resting quotaDesc1).quotaChecks 0 quotaDesc1) = none := by decide +kernel
theorem test_evpost :
    shows (exec (.evpost 0 0) (run (postDev postDesc))) (fun d => ((d.hubIn (stageKey hubHost)).length, (d.pair 0).started)) =
      some (1, []) := by decide +kernel
theorem test_greset :
    shows (exec (.greset 0 0) (run (startOn loaded (descOf 3 [1])))) (fun d => (d.graph 1).map fun g => (g.running, g.run)) =
      some (some (false, 1)) := by decide +kernel
theorem test_unload :
    shows (exec (.unload 0 0) (run (startOn loaded (descOf 4 [1])))) (fun d => (d.pair 0).started.length) = some 1 := by
  decide +kernel
theorem test_quota :
    shows (exec (.quota 0 0) (run (startOn resting quotaDesc1))) (fun d => (d.graph 1).map fun g => g.quota) =
      some (some { msmin := 64, mscap := 64, frcap := 256, ctcap := 64, waitcap := 16 }) := by decide +kernel
theorem test_quota_bad :
    firstFailing ((startOn resting quotaDesc1).quotaChecks 0 (descOf 0x41 [1, 0x0040010000010002, 0x00640010])) =
      some stBadValue := by decide +kernel

/-- MemoryDescriptorsComplete: 16 bytes at the top of HBM; a range of a STRUCT region's data; a lock address. -/
def moveDesc (opc : Nat) : Desc := descOf opc [0x17FFFFFFF0, 0x10000, 16]
theorem test_witness_moves :
    startedB (startOn on (moveDesc 5)) (moveDesc 5) 5 = true ∧
      firstFailing ((startOn on (moveDesc 5)).moveChecks 0 (moveDesc 5) [lowMask 48, allBits, lowMask 32]
        (startOn on (moveDesc 5)).hostMayRead) = none ∧ (∀ j, (startOn on (moveDesc 5)).spillRegion j = none) ∧
      firstFailing ((startOn on (moveDesc 6)).hbmwrChecks 0 (moveDesc 6)) = none := by decide +kernel
theorem test_hbmrd :
    shows (exec (.hbmrd 0 0 []) (run (startOn on (moveDesc 5)))) (fun d => d.out.take 1) =
      some [.hostWrite 0 0x10000 16 [0, 0] []] := by decide +kernel
theorem test_hbmwr :
    showsHbm (exec (.hbmwr 0 0 (answer [0xAB, 0xCD])) (run (startOn on (moveDesc 6)))) (fun h =>
      (h.byte 0x17FFFFFFF0, h.byte 0x17FFFFFFF8)) = some (0xAB, 0xCD) := by decide +kernel
def clearDesc : Desc := descOf 7 [0x4000, 0, 16]
def lockDesc1 (sub : Nat) : Desc := descOf 9 [BitVec.ofNat 64 (sub * 2 ^ 48 + 0x4000)]
theorem test_witness_sclear_lock :
    firstFailing ((startOn (on.setReg (rRgn 0) 0x90010000) clearDesc).sclearChecks 0 clearDesc) = none ∧
      ∀ sub ∈ [0, 1, 2], startedB (startOn on (lockDesc1 sub)) (lockDesc1 sub) 9 = true ∧ (lockDesc1 sub).sub = sub ∧
        firstFailing ((startOn on (lockDesc1 sub)).lockChecks 0 (lockDesc1 sub)) = none := by decide +kernel
theorem test_sclear :
    showsHbm (exec (.sclear 0 0) (atHbm { emptyHbm with full := [(0x7FF, true), (0x800, true), (0x801, true), (0x802, true)] }
      (startOn (on.setReg (rRgn 0) 0x90010000) clearDesc))) (fun h => h.full) = some [(0x7FF, true), (0x802, true)] := by
  decide +kernel

/-- AdminDescriptorsComplete: a range of each kind, a routine of one word, a ring with an entry. -/
def assignDesc (kind first n : Nat) : Desc :=
  descOf 0x40 [BitVec.ofNat 64 (kind * 256 + 3), BitVec.ofNat 64 (n * 2 ^ 32 + first)]
theorem test_witness_assign :
    ∀ k ∈ [0, 1, 2, 3], (startOn on (assignDesc k 4 2)).hubRuns = true ∧
      startedB (startOn on (assignDesc k 4 2)) (assignDesc k 4 2) 0x40 = true ∧ (assignDesc k 4 2).ver = 1 ∧
      (assignDesc k 4 2).formed [0x33F#64, allBits] = true ∧ (assignDesc k 4 2).kind = k ∧ (assignDesc k 4 2).first = 4 ∧
      (assignDesc k 4 2).number = 2 ∧ (startOn on (assignDesc k 4 2)).graphs = [] ∧
      (startOn on (assignDesc k 4 2)).pairEn 4 = false ∧ (startOn on (assignDesc k 4 2)).oringEn 4 = false := by
  decide +kernel
theorem test_assign :
    (shows (exec (.assignCells 0 0) (run (startOn on (assignDesc 2 4 2)))) fun d => d.hif.cellFn) = some [(4, 3), (5, 3)] ∧
      (shows (exec (.assignHbmWindow 0 0) (run (startOn on (assignDesc 3 4 2)))) fun d => d.window 3) =
        some (0x4000000 * 4, 0x4000000 * 2) := by decide +kernel
theorem test_assign_beyond :
    (shows (exec (.assignRingPairs 0 0) (run (startOn on (assignDesc 0 4095 2)))) fun d => d.hif.pairFn) = some [] := by
  decide +kernel

def ucodeDesc : Desc := descOf 0x42 [0, 0x04001000, 0x10000]
def clearUcode : Desc := descOf 0x42 [0x10]
def loadUcode : Desc := descOf 0x42 [0, 0x400, 0x10000]
theorem test_witness_ucode :
    startedB (startOn on clearUcode) clearUcode 0x42 = true ∧ clearUcode.clear = true ∧ clearUcode.formed [0x1F#64] = true ∧
      (startOn on clearUcode).udefUsed clearUcode.ucode = false ∧
      startedB (startOn on loadUcode) loadUcode 0x42 = true ∧ loadUcode.clear = false ∧
      loadUcode.formed [0x1F#64, lowMask 27, allBits] = true ∧ uentryOk loadUcode.uentry = true ∧
      (startOn on loadUcode).udefOverlap loadUcode.ucode loadUcode.uentry = false ∧ microOk false [0] = true := by decide +kernel
theorem test_ucode_load :
    (shows (exec (.ucodeLoad 0 0 (answer [0])) (run (startOn on loadUcode))) fun d => d.uct.entries) = some [(0, 0x80000400)] := by
  decide +kernel

/-- An enabled ring pair 0 of 16 entries with one entry waiting. -/
def ringOn : Dev := (on.setReg (rRcfg 0) 0x80000004).modPair 0 fun p => { p with sqTail := 1 }
def entry1 : EntryRead := { status := .ok, words := (descOf 3 [1]).words }
theorem test_witness_fetch :
    ringOn.hubRuns = true ∧ ringOn.nextRing = some 0 ∧ ringOn.fetchRefusal 0 (descOf 3 [1]) = none ∧
      (descOf 3 [1]).fence = false ∧ on.startable 0 = false := by decide +kernel
theorem test_fetch :
    shows (exec (.descriptorFetch [entry1]) (run ringOn)) (fun d => ((d.pair 0).started.length, (d.pair 0).sqHead)) =
      some (1, 1) := by decide +kernel

/-! ### Fober links -/

/-- A device with link 0 of port 0 in a state. -/
def linkDev (f : Link → Link) : Dev := loaded.setLink 0 (f (loaded.link 0))
def inSt (st : LinkState) (x : Link) : Link := { x with st := st, since := 0 }
def laterOn (d : Dev) : Dev := { d with clock := { d.clock with run := 30000000 } }
def laneOk (w : Word) : LaneTrain :=
  { last := w, seen := 2, word := some w, locked := true, inv := false, rsp := 0, tap := 0, req := 0, rdy := true }
/-- RDY, STATE DONE, no request. -/
def doneWord : Word := 0x0403000000000000
def allLanes (f : Nat → LaneTrain) : Map LaneTrain := (List.range 8).map fun i => (i, f i)
/-- LinksTrainByTheirStates: each state with what its clauses ask. -/
def eqDev : Dev := (linkDev fun x => { inSt .eq x with train := allLanes fun _ => laneOk doneWord, lanes := 0xFF }).setReg (rFbpEqctl 0) 2
theorem test_witness_training :
    (0 : BitVec 3).toNat ∈ (linkDev id).lanesOf 0 ∧ ((linkDev (inSt .detect)).link 0).st = .detect ∧
      (((linkDev (inSt .detect)).link 0).lane 0).word = none ∧ ((linkDev (inSt .detect)).link 0).firstLock = none ∧
      (linkDev (inSt .detect)).diesStop = false ∧
      ((eqDev.link 0).lane 0).locked = true ∧ ((eqDev.link 0).lane 0).last = doneWord ∧ ((eqDev.link 0).lane 0).seen = 2 ∧
      ((eqDev.link 0).lane 0).req = 0 ∧ eqDev.fld (rFbpEqctl 0) 0 2 = 2 ∧ eqDev.eqDone 0 = true ∧
      (linkDev fun x => { inSt .eq x with lanes := 0xFF }).eqDone 0 = false := by decide +kernel
/-- The last lane of RETRAIN; the last lane of DETECT at its third frame, all eight heard; a common rate of 2. -/
def heardDev : Dev :=
  (linkDev fun x => { inSt .detect x with train := allLanes fun _ => laneOk 0x1000000000000000 }).setReg (rFbpEqctl 0) 2
theorem test_witness_heard :
    (heardDev.link 0).st = .detect ∧ ((heardDev.link 0).lane 7).last = 0x1000000000000000 ∧ ((heardDev.link 0).lane 7).seen = 2 ∧
      heardDev.groupOf 0 (Claims.framed (heardDev.link 0) 7 false 0x1000000000000000).heard = some (0, [0, 1, 2, 3, 4, 5, 6, 7]) ∧
      (heardDev.lanesOf 0).length = 8 ∧ (linkDev (inSt .eq)).groupOf 0 ((linkDev (inSt .eq)).link 0).heard = none ∧
      (∀ i ∈ heardDev.lanesOf 0, ((heardDev.link 0).lane i).locked = true) := by decide +kernel
theorem test_witness_timeouts :
    (laterOn eqDev).clock.run = 30000000 ∧ ((laterOn eqDev).link 0).since = 0 ∧ (loaded.link 0).retry = [] ∧
      loaded.rootNode = none ∧ chooseGroup 0 0 (fun i => i ≠ 2) = some (1, [4, 5, 6, 7]) ∧
      chooseGroup 0 0 (fun _ => false) = none ∧ loaded.split 0 = 0 := by decide +kernel
theorem test_third_frame_readies :
    shows (exec (.trainingFrameReceive 0 0 ⟨true, (~~~doneWord), .ready⟩) (run (eqDev.setLink 0 ((eqDev.link 0).setLane 0
      { laneOk doneWord with word := none, rdy := false }))))
      (fun d => (((d.link 0).lane 0).word, ((d.link 0).lane 0).inv, ((d.link 0).lane 0).rdy)) = some (some doneWord, true, true) := by
  decide +kernel
/-- The 64th frame sent after every lane is DONE leads from EQ to LOCK (R340). -/
theorem test_last_frames_lock :
    shows (exec (.flitTransmit 0) (run (eqDev.setLink 0 { eqDev.link 0 with eqFrames := 63 }))) (fun d => (d.link 0).st) =
      some .lock := by decide +kernel
theorem test_detect_to_eq :
    shows (exec (.trainingFrameReceive 0 7 ⟨false, 0x1000000000000000, .hold⟩) (run heardDev)) (fun d =>
      ((d.link 0).st, (d.link 0).rate, (d.link 0).lanes)) = some (.eq, 2, 0xFF) := by decide +kernel
theorem test_detect_timeout :
    shows (exec (.detectTimeout 0) (run (laterOn (linkDev fun x => { inSt .detect x with firstLock := some 0 }))))
      (fun d => (d.link 0).st) = some .isolated := by decide +kernel
/-- Lane 2 is not ready: the upper half of the port goes on; with no lane ready, rate 1 is tried after rate 2. -/
theorem test_eq_timeout :
    let part := linkDev fun x =>
      { inSt .eq x with train := allLanes fun i => if i = 2 then { laneOk 0 with locked := false } else laneOk doneWord, rate := 2, lanes := 0xFF }
    shows (exec (.eqTimeout 0) (run (laterOn part))) (fun d => ((d.link 0).st, (d.link 0).width, (d.link 0).lanes, (d.link 0).failed)) =
      some (.lock, 1, 0xF0, 4) ∧
    shows (exec (.eqTimeout 0) (run (laterOn ((linkDev fun x => { inSt .eq x with rate := 2, lanes := 0xFF }).setReg (rFbpEqctl 0) 2))))
      (fun d => ((d.link 0).st, (d.link 0).rate)) = some (.eq, 1) := by decide +kernel
/-- The alignment symbols of eight lanes; a skew of 21 does not lock (R325). -/
def aligned : List Nat := (List.range 8).map fun i => 0x150 + i
theorem test_skew : shows (exec (.codewordLock ⟨0, aligned, 21⟩) (run (linkDev fun x => { inSt .lock x with lanes := 0xFF }))) (fun d =>
    (d.link 0).st) = some .lock := by decide +kernel
theorem test_lock_states :
    (shows (exec (.codewordLock ⟨0, aligned, 20⟩) (run (linkDev fun x => { inSt .lock x with lanes := 0xFF }))) fun d => (d.link 0).st) = some .hello ∧
      (shows (exec (.codewordLock ⟨0, aligned, 0⟩) (run (linkDev fun x => { inSt .lock x with lanes := 0xFF, fromRetrain := true }))) fun d =>
        (d.link 0).st) =
        some .active ∧
      (shows (exec (.codewordLockLoss 0) (run (linkDev (inSt .active)))) fun d => (d.link 0).st) = some .retrain ∧
      (shows (exec (.down 0) (run (linkDev (inSt .active)))) fun d => (d.link 0).st) = some .detect := by decide +kernel
theorem test_lane_fail :
    shows (exec (.laneFail 0 ⟨5, true⟩) (run (linkDev fun x => { inSt .active x with lanes := 0xFF }))) (fun d =>
      ((d.link 0).st, (d.link 0).lanes, (d.link 0).failed)) = some (.retrain, 0x0F, 0x20) := by decide +kernel
theorem test_hello :
    shows (exec (.hello 0 { vermap := 2, ver := 1, seen := true, buf := [256, 256, 1024, 128, 64, 256, 64] })
      (run (linkDev (inSt .hello)))) (fun d => ((d.link 0).ver, (d.link 0).helloSeen, mget 0 (d.link 0).lim 2)) =
      some (1, true, 1024) := by decide +kernel

/-- FlitsAreCheckedAcknowledgedAndReplayed: a token packet, a DATA flit that carries it, and a flit in the retry buffer. -/
def tokFob : FPacket := { ptype := 1, mc := 2, epoch := false, pspec := 0, words := [1, 2, 3] }
def waitingPkt : PortPkt := { pkt := tokFob, since := 0, counted := false }
def heldNode (d : Dev) : Dev := { d with fbn := { d.fbn with nodeHeld := true } }
def txDev : Dev := heldNode (linkDev fun x => { inSt .active x with tx := [waitingPkt], lim := [(2, 10)] })
def dataFlit : RawFlit :=
  let f : RawFlit :=
    { hdr := 0x1000100000000000, s0 := (packetSlots tokFob).getD 0 slotZero, s1 := slotZero, s2 := slotZero, s3 := slotZero
      link := 0x00070000, crc := 0 }
  { f with crc := flitCrc f }
def rxDev : Dev := linkDev fun x => { inSt .active x with adv := [(2, 10)] }
theorem test_witness_flits :
    txDev.diesStop = false ∧ (txDev.link 0).tx = [waitingPkt] ∧ txDev.fbn.nodeHeld = true ∧ slotsOf tokFob ≤ 4 ∧
      slotsOf tokFob ≤ (txDev.link 0).credit 2 ∧ (txDev.link 0).retry.length < txDev.retryRoom 0 ∧
      flitCheck dataFlit = some [tokFob] ∧ nbits dataFlit.hdr 60 4 = 1 ∧ nbits dataFlit.link 16 3 = 7 ∧
      bit dataFlit.link 19 = false ∧ bits dataFlit.hdr 48 12 = (rxDev.link 0).exp ∧ rxDev.isProxy 0 = false ∧
      (∀ v < 7, slotsIn v [tokFob] ≤ (mget 0 (rxDev.link 0).adv v - mget 0 (rxDev.link 0).got v).toNat) ∧
      (rxDev.link 0).rxBad = false ∧ (rxDev.link 0).retry = [] := by decide +kernel
theorem test_crc_covers (f : RawFlit) (x : Reg) : flitCrc { f with crc := x } = flitCrc f := rfl
theorem test_witness_flit_crc : dataFlit.crc = flitCrc dataFlit := (test_crc_covers _ _).symm
def sentFlit : Sent := { seq := 0, slots := packetSlots tokFob, at_ := 0 }
def retryDev (n : Nat) : Dev := laterOn (linkDev fun x => { inSt .active x with retry := [sentFlit], replays := n })
theorem test_witness_replay :
    ((retryDev 0).link 0).replay = [] ∧ sentFlit.at_ + 100 * (retryDev 0).fld (rFbpRetry 0) 0 16 ≤ (retryDev 0).clock.run ∧
      (0 < (retryDev 0).fld (rFbpRetry 0) 16 8) := by decide +kernel
theorem test_flit_sent :
    shows (exec (.flitTransmit 0) (run txDev)) (fun d =>
      ((d.link 0).tx.length, (d.link 0).txSeq, (d.link 0).retry.map Sent.seq, mget 0 (d.link 0).sentCr 2)) =
      some (0, 1, [0], 1) := by decide +kernel
theorem test_bad_flit :
    shows (exec (.flitReceive 0 (some .uncorrectable) dataFlit) (run rxDev)) (fun d => ((d.link 0).nak, (d.link 0).fecu)) =
      some (true, 1) := by decide +kernel
theorem test_replay :
    (shows (exec (.replayTimeout 0) (run (retryDev 0))) fun d => (d.link 0).replay) = some [0] ∧
      (shows (exec (.replayTimeout 0) (run (retryDev 255))) fun d => (d.link 0).st) = some .retrain := by decide +kernel

/-! ### The Fober network -/

def netDev : Dev := { heldNode loaded with fbn := { loaded.fbn with nodeId := 7, nodeHeld := true } }
/-- A packet of a type and class to node n, its first words given, with a SUB or OP in W0. -/
def fob (pt : BitVec 5) (mc : BitVec 3) (node : BitVec 16) (ws : List Word) : FPacket :=
  { ptype := pt, mc := mc, epoch := false, pspec := node, words := ws }
def rxOf (d : Dev) (p : FPacket) : Dev :=
  d.setLink 3 { d.link 3 with st := .active, rx := [{ pkt := p, since := 0, counted := true }] }
def rdPkt (node : BitVec 16) : FPacket := fob ptMemRd 0 node [0x0009000500000000, 0x40, 0]
def badPkt : FPacket := fob ptMemRd 0 7 [0x0009000500000001, 0x40, 0]
/-- PacketsAreRoutedByTheirNode: a packet for this node, one that R360 rejects, one for node 8 with a route, one from an
isolated node, one for an isolated node. -/
def routed : Dev := { netDev with fbn := { netDev.fbn with rt := [(8, 0x8004)] } }.setLink 4 { netDev.link 4 with st := .active }
theorem test_witness_route :
    (rxOf netDev (rdPkt 7)).diesStop = false ∧ (((rxOf netDev (rdPkt 7)).link 3).rx[0]?.map PortPkt.pkt) = some (rdPkt 7) ∧
      (rdPkt 7).ptype ≠ ptIdAssign ∧ loaded.fbn.nodeHeld = false ∧ netDev.fromIsolated (rdPkt 7) = false ∧
      { netDev with fbn := { netDev.fbn with isolated := [9] } }.fromIsolated (rdPkt 7) = true ∧
      (rdPkt 7).node = netDev.fbn.nodeId ∧ fobOk (rdPkt 7) = true ∧ fobOk badPkt = false ∧ badPkt.isRequest = true ∧
      (rdPkt 8).node ≠ netDev.fbn.nodeId ∧ (routed.link 4).up = true ∧
      (routed.crossing (portCross 0)).length < 64 := by decide +kernel
theorem test_packet_delivered :
    shows (exec (.packetRoute 3 0) (run (rxOf netDev (rdPkt 7)))) (fun d =>
      (d.fbn.delivered, (d.link 3).rx.length, mget 0 (d.link 3).freed 0)) = some ([rdPkt 7], 0, 1) := by decide +kernel
theorem test_packet_forwarded :
    shows (exec (.packetRoute 3 0) (run (rxOf routed (rdPkt 8)))) (fun d =>
      (d.fbn.delivered, (d.crossing (portCross 0)).map Flit.tgt)) = some ([], [tgtPort 1]) := by decide +kernel
theorem test_packet_bad :
    shows (exec (.packetRoute 3 0) (run (rxOf netDev badPkt))) (fun d => d.fbn.delivered) = some [] := by decide +kernel

/-- IdAssignPacketsFollowTheirHops: a SET at its target, and a PROBE with hops left. -/
def idOf (sub hops ptr new : Nat) : List Word :=
  [BitVec.ofNat 64 (1 * 2 ^ 48 + 9 * 2 ^ 32 + sub * 2 ^ 28 + hops * 2 ^ 22 + ptr * 2 ^ 16 + new), 0x102, 0, 0, 0, 0, 0, 0, 0, 0, 0, 0]
def idPkt (ws : List Word) : FPacket := fob ptIdAssign 6 0 ws
def bare : Dev := { on with fbn := { on.fbn with nodeHeld := false, nodeId := 0 } }
theorem test_witness_id :
    ((rxOf bare (idPkt (idOf 1 1 1 5))).link 3).rx.length = 1 ∧ idFormed (idPkt (idOf 1 1 1 5)) = true ∧
      iwPtr (Claims.arrivedOn 3 (idOf 1 1 1 5)) = iwHops (Claims.arrivedOn 3 (idOf 1 1 1 5)) ∧
      iwSub (idOf 1 1 1 5) = 1 ∧ bare.fbn.nodeHeld = false ∧ bare.graphs = [] ∧
      iwPtr (Claims.arrivedOn 3 (idOf 0 2 1 0)) ≠ iwHops (Claims.arrivedOn 3 (idOf 0 2 1 0)) ∧ iwPtr (idOf 2 2 1 0) ≠ 0 := by
  decide +kernel
theorem test_id_set :
    shows (exec (.idAssignSet 3 { words := idOf 1 1 1 5 }) (run (rxOf bare (idPkt (idOf 1 1 1 5))))) (fun d =>
      (d.fbn.nodeHeld, d.fbn.nodeId, (d.link 3).tx.length)) = some (true, 5, 1) := by decide +kernel
theorem test_enum :
    (shows (exec (.enumFrame [700, 300, 800, 500]) (run { bare with fbn := { bare.fbn with slotKnown := false, enumLast := some 3 } })) fun d =>
      (d.fbn.slot, d.fbn.slotKnown)) = some (3, true) := by decide +kernel

/-- RollCallProbesAndAssigns: a root whose link 3 is in ACTIVE, 100 ms after READY; then a probe and a SET in progress. -/
def rootDev : Dev :=
  let d : Dev := { bare with fbn := { bare.fbn with root := true }, clock := { bare.clock with run := 200000000, aon := 200000000 } }
  (rxOf d (idPkt [])).setReg rFbn 0x10
def nodeR : RollNode :=
  { path := [], up := none, id := 1, fwd := true, tk8 := true, cls := 7, links := 0x18, bank := false, wrote := false }
def rootRoll : Roll :=
  { stage := .probe, byRoll := true, queue := [], link := 4, set_ := none, tag := 9, sentAt := 0, nodes := [], ends := [], cmds := []
    cur := some nodeR }
def nodeZ : RollNode := { path := [3], up := some 1, id := 2, fwd := true, tk8 := true, cls := 7, links := 2, bank := false, wrote := false }
def rolling (r : Roll) : Dev :=
  let d := rxOf { rootDev with fbn := { rootDev.fbn with roll := some r, nodeHeld := true, nodeId := 1 } } (idPkt (idOf 2 1 0 0))
  d.setLink 4 { d.link 4 with st := .active }
theorem test_witness_roll :
    rootDev.hubRuns = true ∧ rootDev.fld rFbn 4 1 = 1 ∧ rootDev.mgt.ready = true ∧
      rootDev.mgt.readyAt + 100000000 ≤ rootDev.clock.aon ∧ rootDev.fbn.nodes = 0 ∧ rootDev.fbn.root = true ∧
      rootDev.fbn.roll = none ∧ nextLink rootDev.activeLinks 0 = some 3 ∧ rootRoll.tag = iwTag (idOf 2 1 0 0) ∧
      idFormed (idPkt (idOf 2 1 0 0)) = true ∧ bit ((idOf 2 1 0 0).getD 7 0) 47 = false ∧
      bits ((idOf 2 1 0 0).getD 7 0) 0 8 = stOk ∧ (rolling rootRoll).fbn.tk8s < 16384 ∧
      (rolling rootRoll).fld rRollcfg 0 16 = 0 ∧ (rolling rootRoll).fbn.handed = [] := by
  decide +kernel
theorem test_witness_probe :
    Claims.NextProbe rootRoll nodeR 4 := by
  unfold Claims.NextProbe; decide +kernel
theorem test_roll_starts :
    shows (exec .rollCallAuto (run rootDev)) (fun d => (d.fbn.nodes, d.fbn.nodeHeld, (d.link 3).tx.length)) = some (1, true, 1) := by
  decide +kernel
theorem test_roll_set :
    (shows (exec (.idAssignReply 3 { words := idOf 2 1 0 0 }) (run (rolling rootRoll))) fun d =>
      (d.fbn.roll.bind Roll.set_).isSome) = some true ∧
    (shows (exec (.idAssignReply 3 { words := idOf 2 1 0 0 }) (run (rolling { rootRoll with set_ := some nodeZ }))) fun d =>
      (d.fbn.nodes, d.fbn.handed, d.fbn.roll.map Roll.link)) = some (1, [2], some 5) := by decide +kernel
theorem test_roll_timeout :
    (shows (exec .rollProbeTimeout (run (rolling rootRoll))) fun d => ((d.link 4).tx.length, d.fbn.roll.map Roll.link)) =
      some (1, some 5) := by decide +kernel

/-- RouteAndIsolateRequestsAreAnswered: a delivered packet of each kind. -/
def delivered (d : Dev) (p : FPacket) : Dev := { d with fbn := { d.fbn with delivered := [p] } }
def routePkt (sub : Nat) (w0 w1 w2 : Word) : FPacket :=
  fob ptRoute 6 7 [BitVec.ofNat 64 (9 * 2 ^ 48 + 5 * 2 ^ 32 + sub * 2 ^ 28) ||| w0, w1, w2]
def isoPkt (sub : Nat) : FPacket := fob ptIsolate 6 7 [BitVec.ofNat 64 (9 * 2 ^ 48 + 5 * 2 ^ 32 + sub * 2 ^ 28 + 33), 0, 0]
def respPkt : FPacket := fob ptMemResp 1 7 [0x0009000500000000, 0, 0]
theorem test_witness_delivered :
    ∀ p ∈ [routePkt 0 0x10010 3 0x8004, routePkt 0 0xFFFF 2 0, routePkt 1 0 0 0, routePkt 3 0 0 0, isoPkt 0, respPkt, rdPkt 7],
      Claims.Delivered (delivered netDev p) p ∧ (delivered netDev p).hubRuns = true := by
  unfold Claims.Delivered; decide +kernel
theorem test_witness_routes :
    nbits ((routePkt 0 0x10010 3 0x8004).word 1) 0 17 = 3 ∧ bit ((routePkt 0 0x10010 3 0x8004).word 0) 16 = !netDev.fab.cur ∧
      netDev.fab.retiring = false ∧ mwf 0 0 netDev.fbn.rt = true ∧
      65536 < nbits ((routePkt 0 0xFFFF 2 0).word 0) 0 16 + nbits ((routePkt 0 0xFFFF 2 0).word 1) 0 17 ∧
      pSub (isoPkt 0) = 0 ∧ netDev.fbn.isolated.contains 33 = false ∧ pSrc respPkt = 9 ∧ netDev.fbn.roll = none := by decide +kernel
theorem test_route_write :
    let p := routePkt 0 0x10010 3 0x8004
    shows (exec (.routeWrite p) (run (delivered netDev p))) (fun d => (d.fbn.rt, d.fbn.delivered)) =
      some ([(0x10010, 0x8004), (0x10011, 0x8004), (0x10012, 0x8004)], []) := by decide +kernel
theorem test_route_flip :
    shows (exec (.routeFlip (routePkt 1 0 0 0)) (run (delivered netDev (routePkt 1 0 0 0)))) (fun d => (d.fab.cur, d.fab.retiring)) =
      some (true, true) := by decide +kernel
theorem test_isolate :
    shows (exec (.isolateOrder (isoPkt 0)) (run (delivered netDev (isoPkt 0)))) (fun d => d.fbn.isolated) = some [33] := by
  decide +kernel
theorem test_mem_resp :
    let d := { delivered netDev respPkt with fbn :=
      { (delivered netDev respPkt).fbn with reqs := [{ node := 9, tag := 5, issued := 0 }, { node := 9, tag := 6, issued := 0 }] } }
    shows (exec (.memResp respPkt) (run d)) (fun d => d.fbn.reqs.map FobReq.tag) = some [6] := by decide +kernel

/-! ### Requests from other nodes -/

/-- A request of node 9: its type, class, SUB, the rest of W0, and two words. -/
def req9 (pt : BitVec 5) (sub : Nat) (w0 w1 w2 : Word) : FPacket :=
  fob pt 0 7 [BitVec.ofNat 64 (9 * 2 ^ 48 + 5 * 2 ^ 32 + sub * 2 ^ 28) ||| w0, w1, w2]
def memDev (p : FPacket) : Dev := (delivered netDev p).setReg rFbn 4
def writePkt : FPacket := req9 ptMemWr 0 0 0x17FFFFFFF8 0xAB
def halfRd : FPacket := req9 ptMemRd 0 (BitVec.ofNat 64 (2 * 2 ^ 26)) 0x46 0
theorem test_reaches_of (p : FPacket)
    (h : ((memDev p).fld rFbn 2 1 = 1 ∧ (memDev p).diesStop = false ∧ mAddr p < 2 ^ 47 ∧ (memDev p).isPlain (mAddr p) = true) ∧
      mAddr p % szBytes (mSz p) = 0 ∧ mAddr p < 0x1800000000 ∧ mAddr p / 64 = (mAddr p + szBytes (mSz p) * mWords p - 1) / 64 ∧
      (memDev p).stackIso (addrStack (bits (p.word 1) 0 48)) = false ∧ (memDev p).fbn.delivered.contains p = true) :
    Claims.Reaches (memDev p) p :=
  ⟨⟨h.1.2.1, h.2.2.2.2.2⟩, h.1.1, h.1.2.2.1, h.1.2.2.2, h.2.1, h.2.2.1, h.2.2.2.1, h.2.2.2.2.1⟩
/-- RemoteMemoryRequestsAreServed: the top word of HBM, part of a word, each ATOMIC. -/
theorem test_witness_reaches :
    Claims.Reaches (memDev writePkt) writePkt ∧ Claims.Reaches (memDev halfRd) halfRd ∧ mWords halfRd = 1 ∧
      Claims.Reaches (memDev (req9 ptAtomic 0 0 0x40 1)) (req9 ptAtomic 0 0 0x40 1) :=
  ⟨test_reaches_of _ (by decide +kernel), test_reaches_of _ (by decide +kernel), by decide +kernel,
    test_reaches_of _ (by decide +kernel)⟩
theorem test_mem_wr :
    showsHbm (exec (.memWr writePkt .none) (atHbm emptyHbm (memDev writePkt))) (fun h => h.bytes) =
      some [(0x17FFFFFFF8, 0xAB)] := by decide +kernel
theorem test_remote_aadd :
    showsHbm (exec (.atomicAadd (req9 ptAtomic 0 0 0x40 1) .none)
      (atHbm { emptyHbm with bytes := [(0x40, 0xFF)] } (memDev (req9 ptAtomic 0 0 0x40 1)))) (fun h => h.bytes) =
      some [(0x41, 1)] := by decide +kernel

/-- RemoteLocksEventsAndTokensArrive: locks free, held by another and by node 9, an unaligned one, an event, a token. -/
def lockPkt (pt : BitVec 5) (sub : Nat) (a : Word) : FPacket := req9 pt sub 0 a 0
def lockDev9 (p : FPacket) (l : List LockEnt) : Dev := (memDev p).modStack 0 fun x => { x with locks := l }
theorem test_locks_of (d : Dev) (p : FPacket) (r : MemReq)
    (h : d.diesStop = false ∧ d.fbn.delivered.contains p = true ∧ r.addr.toNat % 8 = 0 ∧ r.addr.toNat < 0x1800000000 ∧
      d.stackIso (addrStack r.addr) = false ∧ d.lockInSpill r.addr = false) : Claims.Locks d p r :=
  ⟨⟨h.1, h.2.1⟩, h.2.2.1, h.2.2.2.1, h.2.2.2.2.1, h.2.2.2.2.2⟩
theorem test_witness_remote_locks :
    (∀ l, l ∈ [[], [held (some (.fn 0)) []]] →
      Claims.Locks (lockDev9 (lockPkt ptLockReq 0 8) l) (lockPkt ptLockReq 0 8) (lockReqOf .lock (lockPkt ptLockReq 0 8))) ∧
      (lockReqOf .lock (lockPkt ptLockReq 1 9)).addr.toNat % 8 ≠ 0 ∧
      ([held (some (lockReqOf .unlock (lockPkt ptLockRel 0 8)).owner) []].find? fun e => e.addr = 8).isSome = true := by
  refine ⟨fun l h => test_locks_of _ _ _ ?_, by decide, by decide⟩
  simp only [List.mem_cons, List.not_mem_nil, or_false] at h
  rcases h with rfl | rfl <;> decide +kernel
theorem test_remote_trylock :
    shows (exec (.lockReqTrylock (lockPkt ptLockReq 1 8)) (run (lockDev9 (lockPkt ptLockReq 1 8) []))) (fun d =>
      (d.stack 0).locks.map LockEnt.owner) = some [some (lockReqOf .trylock (lockPkt ptLockReq 1 8)).owner] := by decide +kernel
theorem test_remote_abandon :
    shows (exec (.lockRelAbandon (lockPkt ptLockRel 1 0)) (run (lockDev9 (lockPkt ptLockRel 1 0)
      [held (some (lockReqOf .lock (lockPkt ptLockRel 1 8)).owner) []]))) (fun d =>
      (d.stack 0).locks.map fun e => (e.owner, e.abandoned)) = some [(none, true)] := by decide +kernel
def refusePkt : FPacket := fob ptRefuse 5 7 [(tokenOf 1 0).w0, (tokenOf 1 0).w1, 1]
theorem test_witness_remote_event :
    let p := fob ptEvent 3 7 [BitVec.ofNat 64 (5 * 2 ^ 38 + 1 * 2 ^ 32 + 33 * 2 ^ 26), 0, 7]
    (memDev p).inMask (ePost p) (eGraph p) = true ∧ ((memDev p).cell (ePost p)).enabled (eGraph p) (eSource p) = false ∧
      (((memDev p).modEv c5 fun e => { e with evt := [(64 + 33, BitVec.ofNat 64 (2 ^ 63))] }).cell (ePost p)).enabled (eGraph p)
        (eSource p) = true ∧ (memDev refusePkt).rtsFull 0 = false := by decide +kernel
theorem test_refuse_receive :
    shows (exec (.refuseReceive refusePkt 0) (run (memDev refusePkt))) (fun d => (d.yoyo 0).rts.map RtsRec.count) = some [1] := by
  decide +kernel

/-- RemoteCensusAndManagementAreAnswered: a WAVE, SUMS of a child, DONE; management of both spaces. -/
def cenPkt (op : Nat) (n : Nat) : FPacket := fob ptCensus 4 7 [BitVec.ofNat 64 (9 * 2 ^ 48 + 1 * 2 ^ 42 + op * 2 ^ 40 + n), 1, 1, 0, 0, 0]
theorem test_witness_census_remote :
    (memDev (cenPkt 0 3)).graph (pGraph (cenPkt 0 3)) = some g1 ∧ pOp (cenPkt 1 3) = 1 ∧
      ({ g1 with tree := [(9, 7, true)] } : Graph).children 7 = [9] ∧ (memDev (cenPkt 2 3)).hubRuns = true ∧
      nbits ((cenPkt 1 0).word 0) 0 32 = g1.wave % 2 ^ 32 := by decide +kernel
theorem test_census_done :
    shows (exec (.censusDone (cenPkt 2 0)) (run (memDev (cenPkt 2 0)))) (fun d =>
      (d.graph 1).map fun x => (x.running, x.complete)) = some (some (false, true)) := by decide +kernel
def mgmtPkt (pt : BitVec 5) (space off : Nat) : FPacket :=
  fob pt 6 7 [BitVec.ofNat 64 (9 * 2 ^ 48 + 5 * 2 ^ 32), BitVec.ofNat 64 (space * 2 ^ 40 + off), 0]
theorem test_witness_mgmt :
    mSpace (mgmtPkt ptMgmtRd 1 0) = 1 ∧ mW64 (mgmtPkt ptMgmtRd 1 0) = false ∧ mOffset (mgmtPkt ptMgmtRd 1 4) = 4 ∧
      1 < mSpace (mgmtPkt ptMgmtRd 2 0) ∧ (memDev (mgmtPkt ptMgmtRd 0 0)).mgmtAllowed (mgmtPkt ptMgmtRd 0 0) = false := by
  decide +kernel
def openMgmt (p : FPacket) : Dev := (delivered netDev p).setReg rFbn 1
theorem test_witness_mgmt_open :
    (openMgmt (mgmtPkt ptMgmtRd 0 0)).mgmtAllowed (mgmtPkt ptMgmtRd 0 0) = true ∧ mOffset (mgmtPkt ptMgmtRd 0 0) < 0x4000000 ∧
      ((openMgmt (mgmtPkt ptMgmtRd 0 0)).read4 64 0).2.2 = stOk := by decide +kernel

/-! ### Units, episodes, probes -/

def epis (stage : Nat) (set_ : List DevUnit) : Episode :=
  { sev := 2, stage := stage, acked := false, quiesced := false, opened := 0, lastAt := 0, set_ := set_, causes := [] }
def faulty (e : Option Episode) (iso tests : List DevUnit) : Dev :=
  let d : Dev := { loaded with clock := { loaded.clock with run := 100000000000 } }
  { d with flt := { d.flt with episode := e, isolated := iso, testing := tests } }.modCell c5 fun x =>
    { x with isolated := iso.contains (.cell c5), resetting := tests.contains (.cell c5) }
theorem test_due_of (d : Dev) (e : Episode) (n : Nat)
    (h : d.flt.episode = some e ∧ e.stage + 1 = n ∧ e.acked = false ∧ e.opened + 1000000 * d.fld (rSpint n) 0 16 ≤ d.clock.run) :
    Claims.Due d e n := ⟨h.1, h.2.1, h.2.2.1, h.2.2.2⟩
/-- FaultyUnitsAreContainedAndReturn: stages 1 and 2 due, an episode to close, a cell under test, a live target. -/
theorem test_witness_due :
    Claims.Due (faulty (some (epis 0 [.cell c5])) [] []) (epis 0 [.cell c5]) 1 ∧
      Claims.Due (faulty (some (epis 1 [])) [] []) (epis 1 []) 2 :=
  ⟨test_due_of _ _ _ (by decide +kernel), test_due_of _ _ _ (by decide +kernel)⟩
theorem test_witness_units :
    let d := faulty (some (epis 0 [.cell c5])) [] []
    d.diesStop = false ∧ d.isoUnit (.cell c5) = false ∧ d.graphs = [(BitVec.toNat (1 : GraphId), g1)] ∧
      c5.toNat ∈ g1.mask ∧ g1.held = false ∧ (∀ k, d.isoUnit (.die k) = false) ∧
      (epis 0 [.cell c5]).lastAt + 1000000 * d.fld rQuiet 0 16 ≤ d.clock.run ∧ (epis 0 [.cell c5]).sev ≠ 3 ∧
      (faulty none [.cell c5] [.cell c5]).flt.testing = [.cell c5] ∧ d.fab.dead.contains (.crossbar 9) = false := by decide +kernel
theorem test_stage_1 :
    shows (exec .escalationStage1 (run (faulty (some (epis 0 [.cell c5])) [] []))) (fun d =>
      ((d.cell c5).isolated, (d.graph 1).map fun x => (x.held, x.running))) = some (true, some (true, false)) := by decide +kernel
theorem test_episode_close :
    shows (exec .episodeClose (run (faulty (some (epis 1 [])) [.cell c5] []))) (fun d =>
      (d.flt.episode.isSome, d.flt.testing, d.flt.recov, (d.cell c5).resetting)) = some (false, [.cell c5], 1, true) := by
  decide +kernel
theorem test_reintegration :
    (shows (exec (.reintegrationDone (.cell c5) true) (run (faulty none [.cell c5] [.cell c5]))) fun d =>
      (d.flt.isolated, (d.cell c5).isolated, (d.cell c5).resetting)) = some ([], false, false) ∧
    (shows (exec (.reintegrationDone (.cell c5) false) (run (faulty none [.cell c5] [.cell c5]))) fun d =>
      (d.flt.isolated, (d.cell c5).isolated, d.flt.failed)) = some ([.cell c5], true, [.cell c5]) := by decide +kernel
/-- Router 9 has held a flit for its crossbar since the module started. -/
def waitingDev : Dev :=
  let d := faulty none [] []
  { d with fab := { d.fab with waits := [(8 * 9 + 4, 0)] } }
theorem test_witness_target_waits :
    mfind waitingDev.fab.waits (8 * (9 : ClusterId).toNat + 4) = some 0 ∧
      0 + 10000 * waitingDev.fld rTmocfg 0 16 + 10000 ≤ waitingDev.clock.run ∧
      waitingDev.fab.dead.contains (.crossbar 9) = false ∧ loaded.targetWaits (.crossbar 9) = false := by decide +kernel
theorem test_tgt_dead :
    shows (exec (.tgtDead (.crossbar 9)) (run waitingDev)) (fun d =>
      (d.isoTarget (.crossbar 9), (d.cell 144).isolated, (d.cell 160).isolated)) = some (true, true, false) := by decide +kernel
theorem test_unit_reset_done :
    shows (exec (.unitResetDone (.cell c5)) (run (loaded.modCell c5 fun x => { x with resetting := true }))) (fun d =>
      (d.cell c5).resetting) = some false := by decide +kernel

/-- ProbesCountTraceAndFreeze: probe 2 at output 3 of router 1, where a flit waits: it counts, traces and freezes, on the header and
on a token word; disarmed, not enabled, and at an empty output. -/
def probeDev (ctl trctl : Word) : Dev :=
  ((((meshDev 1 0).setReg (rPctl 2) ctl).setReg (rPsel 2) 0x100B).setReg rTrctl trctl).setReg (rPmask 2) 0
theorem test_witness_probe_match :
    (probeDev 0xC8 2).fld rTrctl 1 1 = 1 ∧ (probeDev 0xC8 2).fld (rPsel 2) 12 4 = 1 ∧ (probeDev 0xC8 2).diesStop = false ∧
      ((probeDev 0xC8 2).flitAt 1 11 0 0).isSome = true ∧
      ((probeDev 0xC9 2).probeSees 2 0 0 0).map (fun x => (x.words.getD 0 none, x.words.getD 1 none)) =
        some (some ((flitTo 0).header ((probeDev 0xC9 2).meshNow 0)), some (tokenOf 1 0).w0) ∧
      bit ((probeDev 0xC9 2).reg (rPctl 2)) 7 = true ∧ (probeDev 0xC9 2).reg (rPval 2) = 0 ∧
      (probeDev 0xC8 2).kal.trace.length < 8192 ∧ hubCycle (probeDev 0xC8 2).clock.aon = 0 ∧
      ((meshDev 2 0).setReg (rPsel 2) 0x100B).probeSees 2 0 0 0 = none := by decide +kernel
theorem test_probe :
    shows (exec (.probeMatch 2 0 0 0) (run (probeDev 0xC9 2))) (fun d =>
      (d.reg (rPcnt 2), d.kal.trace.map (·.take 1), d.flt.freezeLatch)) = some (1, [[(tokenOf 1 0).w0]], true) := by decide +kernel
theorem test_probe_disarmed :
    shows (exec (.probeMatch 2 0 0 0) (run (probeDev 0xC9 0))) (fun d => (d.reg (rPcnt 2), d.kal.trace.length)) =
      some (1, 0) := by decide +kernel

/-! ### The machine, supply, resets, power -/

/-- StepRunsFrontCommand has no hypothesis. EmptyQueuePassesMicrosecond: an empty queue, stopped and running. HbmFormKept,
ResetHbmFormAndQueue, CommandsStopOnlyForNoRequester, OnlyStoresChangeHbm: a form that is kept, a well-formed command that
stores nothing. -/
theorem test_witness_machine :
    State.reset.pending = [] ∧ State.reset.hbm.wf = true ∧ State.reset.dev.diesStop = true ∧ (run on).dev.diesStop = false ∧
      Instr.wf .bypass = true ∧ Claims.storesHbm .bypass = false := by decide +kernel
theorem test_step :
    ∃ t, step { run on with pending := [.fclkRestored, .bypass] } = .next t ∧ t.pending = [.bypass] := ⟨_, rfl, rfl⟩
theorem test_refused : exec (.fltAck 65 0) (run on) = .refused .noSuchRequester := rfl
/-- FreezeHoldsItsScope: a device frozen by its latch in scope 0. -/
def frozenDev : Dev := { on with flt := { on.flt with freezeLatch := true } }
theorem test_witness_frozen :
    Claims.ofDies (.flitTransmit 0) = true ∧ Claims.ofHub (.tempHigh 0 0) = true ∧ Claims.ofHost (.wakeGo 0 1) = true ∧
      frozenDev.frozen = true ∧ frozenDev.fld rFrzcfg 0 2 ≠ 1 := by decide +kernel

def start : Startup := { pclk := true, fclk := true, rootLow := true, freezeLow := false, perstHigh := true, failedDies := 0, nv := [] }
/-- SupplyEventsStopAndRestart: each phase, an overvoltage, an episode with stage 3 due and enabled. -/
theorem test_witness_smooth : Claims.Smooth start := ⟨rfl, rfl, rfl, rfl⟩
def stage3Dev : Dev := (faulty (some (epis 2 [])) [] []).setReg (rSpint 3) 0x80000001
theorem test_witness_supply :
    State.reset.dev.ucfgOk = false ∧ State.reset.dev.pwr.hotHold = false ∧ State.reset.dev.mgt.phase = 1 ∧ on.mgt.phase ≠ 1 ∧
      on.pwr.ovlo = false ∧ stage3Dev.fld (rSpint 3) 31 1 = 1 ∧ stage3Dev.diesStop = false ∧ stage3Dev.ucfgOk = false := by
  decide +kernel
theorem test_witness_stage_3 : Claims.Due stage3Dev (epis 2 []) 3 := test_due_of _ _ _ (by decide +kernel)
theorem test_power_on :
    shows (exec (.powerOn start) State.reset) (fun d => (d.mgt.ready, d.fbn.root, d.pwr.off)) = some (true, true, false) := by
  decide +kernel
theorem test_mrst :
    shows (exec (.mrstN start) (run loaded)) (fun d => (d.mgt.ready, d.graphs.length)) = some (true, 0) := by decide +kernel
theorem test_ovlo :
    shows (exec .ovloRise (run on)) (fun d => (d.pwr.off, d.mgt.ready)) = some (true, false) := by decide +kernel
/-- 115.0 degrees is 1840 sixteenths. -/
theorem test_thermal_shutdown :
    shows (exec (.thermalShutdown 3 1840) (run on)) (fun d => (d.pwr.off, d.pwr.tshut)) = some (true, true) ∧
      exec (.thermalShutdown 3 1839) (run on) = .next (run on) := ⟨by decide +kernel, rfl⟩

/-- HostResetsFreezePinsAndClocks: function 3 with ring pair 9; frozen with rails on; each latch. -/
def fnDev : Dev :=
  { on with hif := { on.hif with pairFn := [(9, 3)], pairs := [(9, { pairReset with sqHead := 4 })] } }.setReg (rRcfg 9) 0x80000004
theorem test_witness_resets :
    (3 : GraphId) ≠ 0 ∧ fnDev.diesStop = false ∧ fnDev.pairFn 9 = 3 ∧ frozenDev.hubRuns = false ∧ frozenDev.pwr.off = false ∧
      { on with flt := { on.flt with freezePinLow := true } }.flt.resetAtResume = [] ∧ (loaded.link 0).retry = [] := by
  decide +kernel
theorem test_flr :
    shows (exec (.functionLevelReset 3) (run fnDev)) (fun d => (d.pair 9, d.pairEn 9, d.pairFn 9)) = some (pairReset, false, 3) := by
  decide +kernel
theorem test_perst :
    fnDev.resetHost.hif.pairFn = [] ∧
      shows (exec .perstN (run frozenDev)) (fun d => d.flt.resetAtResume) = some [{ fn := none, host := true }] := by decide +kernel
theorem test_fclk_loss :
    shows (exec .fclkLoss (run (linkDev (inSt .active)))) (fun d => ((d.link 0).st, d.mgt.fclk)) = some (.detect, false) := by
  decide +kernel

/-- GovernorAndSensorsAct: a sample above the cap and one below; six cool sensors; die 1 in service. -/
theorem test_witness_governor :
    on.hubRuns = true ∧ on.fld rPwrCfg 16 9 * 100000 < 65535 * 65535 ∧ on.topPoint ≠ 0 ∧ bit on.pwr.fails 0 = false ∧
      on.isoUnit (.die 1) = false ∧ (∀ i < 6, bit on.pwr.fails (6 * 2 + i) = false) := by decide +kernel
theorem test_governor :
    shows (exec (.governorSample 48000 60000) (run on)) (fun d => d.pwr.ceiling + 1 - on.topPoint) = some 0 := by decide +kernel
theorem test_thermal_step :
    shows (exec (.thermalStep 7 1600) (run on)) (fun d => mget 0 d.pwr.thermal 1) = some 1 := by decide +kernel
theorem test_hbm_throttle :
    shows (exec (.hbmThermalThrottle 25 1520) (run on)) (fun d => d.pwr.hbmHot) = some 2 := by decide +kernel
theorem test_sensor_fail :
    shows (exec (.sensor 2 none) (run on)) (fun d => d.pwr.fails) = some 4 := by decide +kernel

/-! ### Registers -/

/-- A write by the physical function that reaches its register and passes the checks. -/
def okW (d : Dev) (off : Nat) (v : Reg) : Bool :=
  d.unreached false 0 off = none &&
    (match regSpec off with
      | none => false
      | some r => !r.wide && (d.wakeFor off).writeRefusal 0 off r (v.setWidth 64) = none)
/-- Ring pair 9 and output ring 3 with base addresses; cell 5 with a token to inject. -/
def ringReady : Dev := (((on.setReg (rSqbase 9) 0x5000).setReg (rCqbase 9) 0x6000).setReg (rObase 3) 0x7000).setReg (rOcfg 3) 5
def injReady : Dev := ((loaded.setReg (rInj 5 0) (tokenOf 1 0).w0).setReg (rInj 5 1) (tokenOf 1 0).w1).setReg (rInj 5 2) 1
theorem test_witness_writes :
    Claims.IsWrite (.fltAck 0 0) 0 rFltAck 0 ∧ Claims.IsWrite (.wakeGo 0 1) 0 rWake 1 ∧
      Claims.IsWrite (.statusClear 0 rMshErr 1) 0 rMshErr 1 := ⟨⟨rfl, rfl, rfl⟩, ⟨rfl, rfl, rfl⟩, ⟨rfl, rfl, rfl⟩⟩
theorem test_witness_asks : Claims.Asks on 0 rFltAck := ⟨by decide, by decide +kernel, by decide⟩
/-- RegisterWritesAct: a value for each register that passes its checks. -/
theorem test_witness_go :
    okW on rTrctl 1 = true ∧ okW on rFrzctl 1 = true ∧ okW { on with flt := { on.flt with freezeLatch := true } } rFrzctl 2 = true ∧
      okW on rUnitrst 0x80000005 = true ∧ okW on rUnitrst 0xC0000003 = true ∧ okW injReady (rInjcmd 5) 1 = true ∧
      okW on rIsodata 0 = true ∧ okW bare rNodeId 5 = true ∧ okW ringReady (rRcfg 9) 0x80000005 = true ∧ okW on rWake 1 = true := by
  decide +kernel
theorem test_witness_go_fabric :
    okW netDev rRoutectl 1 = true ∧ okW rootDev rRollctl 1 = true ∧ okW on (rFbp 2) 0 = true ∧ okW on (rFbpCmd 2) 0x10 = true ∧
      okW ringReady (rOcfg 3) 0x80000005 = true ∧
      okW { on with flt := { on.flt with episode := some (epis 1 []) } } rFltAck (on.flt.eseq.setWidth 32) = true := by decide +kernel
theorem test_trace_clear :
    shows (exec (.traceClear 0 1) (run { on with kal := { trace := [[1]], next := 1, lost := 2, cycle := 0, inCycle := 0 } })) (fun d => d.kal.trace) =
      some [] := by decide +kernel
theorem test_node_id :
    shows (exec (.nodeIdWrite 0 5) (run bare)) (fun d => (d.fbn.nodeId, d.fbn.nodeHeld)) = some (5, true) := by decide +kernel
theorem test_cell_reset :
    shows (exec (.cellReset 0 0x80000005) (run on)) (fun d => (d.cell c5).resetting) = some true := by decide +kernel
theorem test_ring_enable :
    shows (exec (.ringEnable 0 (.pair 9) 0x80000005) (run (ringReady.modPair 9 fun p => { p with sqHead := 3 }))) (fun d =>
      ((d.pair 9).sqHead, d.pairEn 9)) = some (0, true) := by decide +kernel
/-- RegisterWritesAreChecked: a hidden register, a locked one, a status register of each mode, both halves of a wide one. -/
theorem test_witness_checks :
    on.unreached false 3 rTrctl = some stNoAccess ∧ on.unreached false 0 rMshErr = none ∧
      (regSpec rMshErr).map RegSpec.isStatus = some true ∧ (regSpec rMshErr).map RegSpec.wide = some false ∧
      on.unreached false 0 (rSqbase 9) = none ∧ (regSpec (rSqbase 9)).map RegSpec.wide = some true ∧
      regSpec (rSqbase 9 + 4) = none ∧ on.unreached false 0 (rSqbase 9 + 4) = none ∧
      okW on rMshErr 1 = true ∧ (on.writeRefusal 0 rTrctl (r32 []) 0xFFFFFFFF).isSome = true := by decide +kernel
theorem test_halves :
    (shows (exec (.regWriteLowHalf 0 (rSqbase 9) 0x5000) (run on)) fun d => d.regs.stage) = some [(0, (rSqbase 9, 0x5000))] ∧
      (shows (exec (.registerWrite 0 { space := .bar0, off := rSqbase 9 + 4, size := 4, data := [7], fullBe := true })
        (run { on with regs := { on.regs with stage := [(0, (rSqbase 9, 0x5000))] } })) fun d =>
        (d.reg (rSqbase 9), d.regs.stage)) = some (0x700005000, []) := by decide +kernel
theorem test_refused_write :
    shows (exec (.traceClear 3 1) (run on)) (fun d => ((d.log 3).count, (d.log 3).data, (d.log 0).count)) = some (1, 1, 0) := by
  decide +kernel
/-- HalfReadsUseTheLatch and ClearOnReadClears: reads that succeed, are hidden, and fail. -/
theorem test_witness_reads :
    Claims.IsRead (.regReadLowHalf 0 ⟨.bar0, (rSqbase 9), 4⟩) 0 (rSqbase 9) ∧ on.hidden 0 (rSqbase 9) = false ∧
      on.readFails (rSqbase 9) = none ∧ on.mgt.ready = true ∧ isReadout (rSqbase 9) = false ∧ on.hidden 3 rTrctl = true ∧
      on.readFails 0x610000 = some stBusy ∧ on.readFails rMshErr = none := by
  refine ⟨.inl rfl, ?_⟩; decide +kernel
theorem test_low_half_latches :
    shows (exec (.regReadLowHalf 0 ⟨.bar0, (rSqbase 9), 4⟩) (run (on.setReg (rSqbase 9) 0x700005000))) (fun d => (d.regs.latch, d.out)) =
      some ([(0, (rSqbase 9, 7))], [.regData 0 (rSqbase 9) [0x5000]]) := by decide +kernel

/-! ### Firmware, the test access port, I3C -/

def nvDesc (write : Bool) : Desc := descOf 0x44 [BitVec.ofNat 64 (8 * 2 ^ 32 + (if write then 4 else 0) + 1), 0x10, 0x10000]
def patchHead : List Word :=
  [0x000000015441504F, BitVec.ofNat 64 (3 * 2 ^ 32 + 64), 0xFFFF0000FFFFFFFF, 2077276987, 0, 0, 0, 0]
/-- NonVolatileStoreAndPatch: a transfer each way, and an image that fits every stepping to 31. -/
theorem test_witness_nv :
    (∀ w ∈ [false, true], startedB (startOn on (nvDesc w)) (nvDesc w) 0x44 = true ∧ firstFailing (nvChecks 0 (nvDesc w)) = none ∧
      (nvDesc w).isWrite = w ∧ (nvDesc w).nvLen = 8) ∧
      startedB (startOn on (descOf 0x43 [64, 0x10000])) (descOf 0x43 [64, 0x10000]) 0x43 = true ∧
      firstFailing (headChecks 0 (descOf 0x43 [64, 0x10000]) true [lowMask 32, allBits]) = none ∧
      startedB (startOn on (descOf 0x45 [])) (descOf 0x45 []) 0x45 = true ∧ firstFailing (headChecks 0 (descOf 0x45 []) true []) = none := by
  decide +kernel
theorem test_witness_patch (h : Config.stepping.toNat ≤ 31) : patchStatus (bytesOf patchHead 64) 64 = none := by
  have h1 : patchFormed (bytesOf patchHead 64) 64 = true := by decide +kernel
  have h2 : leAt (bytesOf patchHead 64) 4 2 = 1 := by decide +kernel
  have h3 : patchFieldsOk (bytesOf patchHead 64) = true := by decide +kernel
  have h4 : leAt (bytesOf patchHead 64) 0x10 4 = 2 ^ 32 - 1 := by decide +kernel
  have h5 : leAt (bytesOf patchHead 64) 0x14 2 = 0 := by decide +kernel
  have h6 : leAt (bytesOf patchHead 64) 0x16 2 = 65535 := by decide +kernel
  have h7 : patchFits (bytesOf patchHead 64) = true := by
    have hr := Config.romVersion.isLt
    simp only [patchFits, h4, h5, h6, Nat.testBit_two_pow_sub_one]
    simp only [Bool.and_eq_true, decide_eq_true_eq]
    omega
  simp [patchStatus, firstFailing, h1, h2, h3, h7]
theorem test_nv_write :
    shows (exec (.nvstoreWrite 0 0 (answer [0xA1B2])) (run (startOn on (nvDesc true)))) (fun d => d.mgt.nv) =
      some [(0x100010, 0xB2), (0x100011, 0xA1)] := by decide +kernel
theorem test_bad_patch :
    shows (exec (.fwpatch 0 0 (answer [0])) (run (startOn on (descOf 0x43 [64, 0x10000])))) (fun d => (d.mgt.nv, d.mgt.stored)) =
      some ([], 0) := by decide +kernel

/-- TestPortAndI3cTargetAnswer: with and without an address. -/
def addressed : Dev := { on with mgt := { on.mgt with da := some 9 } }
theorem test_witness_i3c : on.mgt.da = none ∧ addressed.mgt.da = some 9 ∧ (1 : Nat) < 2 := by decide +kernel
theorem test_bypass : shows (exec .bypass (run on)) (fun d => (d.tap.ir, d.out)) = some (0xFF, [.tdo [false]]) := by decide +kernel
theorem test_bcr : shows (exec .getbcr (run addressed)) (fun d => d.out) = some [.i3c [0x06]] := by decide +kernel
theorem test_id_byte : shows (exec (.i3cTelemetryRead 2) (run addressed)) (fun d => d.out) = some [.i3c [0x18, 0x7A]] := by
  decide +kernel

/-! ### Well-formed commands: a term that each check refuses -/

theorem test_ill_formed :
    [Instr.initiatorTimeout (.register 65 0 none 0), .probeMatch 0 0 1000 0, .hello 0 { vermap := 2, ver := 1, seen := false, buf := [] },
      .idAssignProbe 0 { words := [] }, .idAssignSet 0 { words := [1] }, .idAssignRoute 0 { words := [] },
      .idAssignReply 0 { words := [] }, .memResp (fob 5 1 7 []), .mgmtRd (fob 12 6 7 []), .refuseReceive (fob 2 5 7 []) 0,
      .hostMemRequest 0 { status := .ok, words := [1], poisoned := [1] }, .descriptorFetch [{ status := .ok, words := [1] }],
      .load 0 0 { status := .ok, words := [], poisoned := [0] }, .sqtailDoorbell 64 0 0, .cqheadDoorbell 64 0 0,
      .oheadDoorbell 64 0 0, .doorbellPoll 0 [{ status := .ok, words := [], poisoned := [0] }], .wakeGo 0 0, .wakeGo 65 1,
      .ringEnable 0 (.pair 0) 0, .ringDisable 0 (.pair 0) 0x80000000, .thermalStep 24 0, .thermalRelease 0 [], .tempHigh 31 0,
      .fltAck 65 0, .frzctlFreeze 0 2, .frzctlResume 0 1, .cellReset 0 0xC0000000, .clusterReset 0 0x80000000, .injcmdGo 0 0 0,
      .accdataWrite 65 0 0, .evtdataWrite 65 0 0, .routectlFlip 0 0, .rollctlGo 0 0, .fflip 0 0].any Instr.wf = false ∧
    [Instr.nodeIsolate 0 0, .nodeRelease 0 1, .nodeIdWrite 65 0, .linkEnable 0 0 0, .linkDisable 0 0 1, .cmdRetrain 0 0 1,
      .cmdRestart 0 0 0x10, .traceClear 0 0, .accCountClear 0 0 1, .statusClear 65 0 0, .statusClearOnRead 65 0,
      .regWriteLowHalf 65 0 0, .regReadLowHalf 65 ⟨.bar0, 0, 4⟩, .regReadLowHalf 64 ⟨.bar2, 0, 4⟩, .registerWrite 65 { space := .bar0, off := 0, size := 4, data := [0], fullBe := true },
      .registerWrite 0 { space := .bar0, off := 0, size := 8, data := [0], fullBe := true },
      .registerWrite 64 { space := .bar2, off := 0, size := 4, data := [0], fullBe := true }, .i3cPointerWrite [],
      .vfEnableClear [0], .hbmThermalThrottle 23 0].any Instr.wf = false := by decide
theorem test_well_formed :
    [Instr.wakeGo 0 1, .fltAck 64 0, .thermalStep 23 0, .vfEnableClear [1], .hbmThermalThrottle 27 0, .cmdRestart 0 0 1,
      .registerWrite 0 { space := .bar0, off := 0, size := 8, data := [0, 1], fullBe := true }, .add disp].all Instr.wf = true := by
  decide

/-! ### Witnesses of further clauses -/

/-- TagDispatchDelivers: ADVW and SETS of a frame that is bound. -/
theorem test_witness_advw_sets :
    Claims.Ready (laneWith (framed false 4) (slotOf 0x143 0 1 2)) disp 0x143 (slotOf 0x143 0 1 2) [] ∧
      Claims.Ready (laneWith (framed false 4) (slotOf 0x144 0 1 2)) disp 0x144 (slotOf 0x144 0 1 2) [] ∧
      Claims.ownFrame (laneWith (framed false 4) (slotOf 0x143 0 1 2)) disp (slotOf 0x143 0 1 2) = some (frameRec false 4) :=
  ⟨test_ready_of (by decide +kernel), test_ready_of (by decide +kernel), by decide +kernel⟩
/-- FabricPowerAndBanks: a module goes down outside and inside a bank's retirement. -/
theorem test_witness_d2d :
    loaded.fab.retiring = false ∧ loaded.fab.rt = [] ∧ { loaded.fab with retiring := true }.retiring = true := by decide +kernel
/-- MeshForwardsFlits: a flit in the crossing of port 0. -/
def crossDev : Dev := loaded.setCrossing 0 [flitTo 0]
theorem test_witness_crossing :
    beyond (portCluster 0) 0 = .port 0 ∧ crossDev.crossing 0 = [flitTo 0] ∧ (flitTo 0).esc = false ∧
      (crossDev.vc (vcKey (portCluster 0) 0 (flitTo 0).mc false)).length < 4 := by decide +kernel
theorem test_crossing_enters :
    shows (exec (.flitHop (portCluster 0) 5 0 .none) (run crossDev)) (fun d =>
      ((d.crossing 0).length, (d.vc (vcKey (portCluster 0) 0 2 false)).length)) = some (0, 1) := by decide +kernel
/-- EventRecordsReachTheirCell: a grant for a record that asked, one for a record that is gone, and a place given back. -/
def grantedDev (asked : Option CellId) (p : Pkt) : Dev :=
  (loaded.modEv c5 fun e => { e with evt := [(64 + 32, awayWord)], recs := [{ evRec 32 with asked := asked }], rbGrant := 1 }).modPipe c5
    fun x => { x with inbox := [p] }
theorem test_witness_places :
    Claims.Running (grantedDev (some 6) (.evGrant c5 6 1 0)) c5 ∧
      ((grantedDev (some 6) (.evGrant c5 6 1 0)).cell c5).pipe.inbox[0]? = some (.evGrant c5 6 1 0) ∧
      ((grantedDev (some 6) (.evGrant c5 6 1 0)).cell c5).ev.recs = [{ evRec 32 with asked := some 6 }] :=
  ⟨by unfold Claims.Running; decide +kernel, by decide +kernel, by decide +kernel⟩
theorem test_places :
    (shows (exec (.eventRecordArrival c5 0) (run (grantedDev (some 6) (.evGrant c5 6 1 0)))) fun d =>
      (d.cell c5).ev.recs.map EvRec.granted) = some [some 6] ∧
    (shows (exec (.eventRecordArrival c5 0) (run (grantedDev none (.evGrant c5 6 1 0)))) fun d => (d.cell 6).pipe.inbox) =
      some [.evGive 6 1] ∧
    (shows (exec (.eventRecordArrival c5 0) (run (grantedDev none (.evGive c5 1)))) fun d => (d.cell c5).ev.rbGrant) = some 0 := by
  decide +kernel
/-- MemoryUpkeepAndHostMemory: Bus Master Enable set and clear; DoorbellsMoveIndexes: a poll due and one not. -/
theorem test_witness_bus_master :
    on.busMaster 0 = true ∧ { on with hif := { on.hif with pci := [] } }.busMaster 0 = false ∧
      mfind on.hif.polled 0 = none ∧ on.hif.wake.contains 0 = false ∧
      mfind { on.hif with polled := [(0, on.clock.run)] }.polled 0 = some on.clock.run := by decide +kernel
/-- LinksTrainByTheirStates: a group that RETRAIN names, one narrowed, a lane whose link has lost it; FlitsAreCheckedAcknowledgedAndReplayed
in LOCK. -/
def activeDev : Dev := linkDev fun x => { inSt .active x with lanes := 0xFF }
theorem test_witness_retrain :
    activeDev.namedGroup 0 { failed := 0x20, width := 1, group := 0 } = some (1, [0, 1, 2, 3]) ∧
      activeDev.groupOf 0 (fun i => bit (activeDev.link 0).lanes i && !bit (0x20 : BitVec 8) i) = some (1, [0, 1, 2, 3]) ∧
      bit (activeDev.link 0).lanes 5 = true ∧ (activeDev.link 0).rate = 0 := by decide +kernel
theorem test_lock_flit :
    shows (exec (.flitReceive 0 (some .uncorrectable) dataFlit) (run (linkDev (inSt .lock)))) (fun d =>
      ((d.link 0).nak, (d.link 0).rxBad)) = some (true, true) := by decide +kernel
theorem test_lock_timeout :
    shows (exec (.lockTimeout 0) (run (laterOn ((linkDev fun x => { inSt .lock x with lanes := 0x0F, width := 1 }).setReg (rFbpEqctl 0) 2)))) (fun d =>
      ((d.link 0).st, (d.link 0).lanes)) = some (.eq, 0x0F) := by decide +kernel
/-- RollCallProbesAndAssigns: ENUM_IN low for 10 ms; IdAssignPacketsFollowTheirHops: enough pulses. -/
def slotless : Dev :=
  { bare with
    fbn := { bare.fbn with enumOut := true, enumHigh := false, enumFrom := 0, slotKnown := false }, clock := { aon := 20000000, run := 0, core := [] } }
theorem test_slot_0 :
    shows (exec .enumSlot0Timeout (run slotless)) (fun d => (d.fbn.slot, d.fbn.slotKnown, d.fbn.enumOut)) = some (0, true, false) := by
  decide +kernel
/-- ClearOnReadClears: a doorbell's read, and words of configuration space. -/
theorem test_reads :
    (shows (exec (.regReadLowHalf 0 ⟨.bar2, 64, 4⟩) (run (ringDev.modPair 1 fun p => { p with sqHead := 7 }))) fun d => d.out) =
      some [.regData 0 64 [7]] ∧
    (shows (exec (.regReadLowHalf 3 ⟨.config, 0, 4⟩) (run on)) fun d => d.out) = some [.regData 3 0 [0x7A191D9C]] := by
  decide +kernel
theorem test_witness_clear_on_read :
    Claims.IsRead (.statusClearOnRead 0 rMshErr) 0 rMshErr ∧ Claims.IsRead (.regReadLowHalf 0 ⟨.bar0, rMshErr, 4⟩) 0 rMshErr := by
  refine ⟨.inr rfl, .inl rfl⟩

end Sys2Proof.Tests
end

section
/-! The arrival of a token that no stream orders (R35, R161, R163, R167, R190): settles ArrivalFillsQueue. -/

namespace Sys2Proof.Machine

open Sys2Proof.Claims

/-! ### Taking from a list -/

/-- `takeAt` and the library's indexing agree. -/
theorem takeAt_eq_of_getElem? {α : Type} {a : α} :
    ∀ {l : List α} {i : Nat}, l[i]? = some a → takeAt l i = some (a, l.eraseIdx i)
  | [], _, h => by simp at h
  | x :: l, 0, h => by simpa [takeAt] using h
  | x :: l, i + 1, h => by
    have ih : takeAt l i = some (a, l.eraseIdx i) := takeAt_eq_of_getElem? (by simpa using h)
    simp [takeAt, ih]

/-! ### What the queue map and the queue buffer look at -/

theorem Dev.fld_congr {d e : Dev} (h : e.regs = d.regs) (k lo len : Nat) : e.fld k lo len = d.fld k lo len := by
  simp [Dev.fld, Dev.reg, h]

theorem Dev.queueOf_congr {d e : Dev} (h : e.regs = d.regs) (c : CellId) (t : Token) : e.queueOf c t = d.queueOf c t :=
  Dev.fld_congr h ..

theorem Dev.qRes_congr {d e : Dev} (h : e.regs = d.regs) (c : CellId) (q : Nat) : e.qRes c q = d.qRes c q := by
  rw [Dev.qRes, Dev.qRes, Dev.fld_congr h]

theorem Dev.qCap_congr {d e : Dev} (h : e.regs = d.regs) (c : CellId) (q : Nat) : e.qCap c q = d.qCap c q := by
  rw [Dev.qCap, Dev.qCap, Dev.fld_congr h]

theorem Dev.qPool_congr {d e : Dev} (h : e.regs = d.regs) (c : CellId) : e.qPool c = d.qPool c := by
  simp only [Dev.qPool, Dev.qRes_congr h]

theorem Dev.qPoolUsed_congr {d e : Dev} {c : CellId} (hr : e.regs = d.regs) (hq : (e.cell c).pipe.qs = (d.cell c).pipe.qs)
    (hh : (e.cell c).pipe.held = (d.cell c).pipe.held) : e.qPoolUsed c = d.qPoolUsed c := by
  simp only [Dev.qPoolUsed, CellPipe.queue, Dev.qRes_congr hr, hq, hh]

/-- Whether a queue is full depends on the registers, the queues and the ordered-stream hold of its cell alone (R163). -/
theorem Dev.qFull_congr {d e : Dev} {c : CellId} (hr : e.regs = d.regs) (hq : (e.cell c).pipe.qs = (d.cell c).pipe.qs)
    (hh : (e.cell c).pipe.held = (d.cell c).pipe.held) (q : Nat) : e.qFull c q = d.qFull c q := by
  rw [Dev.qFull, Dev.qFull, Dev.qCap_congr hr, Dev.qRes_congr hr, Dev.qPool_congr hr, Dev.qPoolUsed_congr hr hq hh,
    CellPipe.queue, CellPipe.queue, hq]

/-- A result that leaves the event controller of its cell alone needs no shared record (R273). -/
theorem Dev.ifRoom_of_sameEv {d e : Dev} {c : CellId} (h : (e.cell c).ev = (d.cell c).ev) : d.ifRoom e c = e := by
  simp [Dev.ifRoom, Cell.sharedUsed, h]

theorem enqueue_ev (d : Dev) (c k : CellId) (q : QTok) : ((d.enqueue k q).cell c).ev = (d.cell c).ev := modPipe_ev ..

/-! ### A token leaves its path, and its cell wakes (R190) -/

section
variable (d : Dev) (c : CellId) (byp : Bool) (i : Nat)

theorem takenOff_bypass :
    takenOff d c true i = (d.modPipe c fun p => { p with bypass := (d.cell c).pipe.bypass.eraseIdx i }).wakeCell c := rfl
theorem takenOff_ingress :
    takenOff d c false i = (d.modPipe c fun p => { p with ingress := (d.cell c).pipe.ingress.eraseIdx i }).wakeCell c := rfl

@[simp] theorem takenOff_regs : (takenOff d c byp i).regs = d.regs := rfl
@[simp] theorem takenOff_graph (g : GraphId) : (takenOff d c byp i).graph g = d.graph g := rfl

@[simp] theorem takenOff_ev : ((takenOff d c byp i).cell c).ev = (d.cell c).ev := by
  simp [takenOff, Dev.wakeCell]

@[simp] theorem takenOff_qs : ((takenOff d c byp i).cell c).pipe.qs = (d.cell c).pipe.qs := by
  cases byp <;> simp [takenOff, Dev.wakeCell]

@[simp] theorem takenOff_held : ((takenOff d c byp i).cell c).pipe.held = (d.cell c).pipe.held := by
  cases byp <;> simp [takenOff, Dev.wakeCell]

@[simp] theorem takenOff_queueOf (t : Token) : (takenOff d c byp i).queueOf c t = d.queueOf c t :=
  Dev.queueOf_congr (by simp) c t

@[simp] theorem takenOff_qFull (q : Nat) : (takenOff d c byp i).qFull c q = d.qFull c q :=
  Dev.qFull_congr (by simp) (by simp) (by simp) q

end

/-- The checks of R35 do not look at the path of the token. -/
theorem passes_takenOff {d : Dev} {c : CellId} {t : Token} {g : Graph} (h : Passes d c t g) (byp : Bool) (i : Nat) :
    Passes (takenOff d c byp i) c t g :=
  { good := h.good, graph := by simpa using h.graph, mask := h.mask, alive := h.alive, range := h.range }

/-! ### The arrival stage -/

/-- What is left of the arrival stage once the checks of R35 are passed. -/
theorem Dev.arrive_of_passes {d : Dev} {c : CellId} {q : QTok} {g : Graph} (h : Passes d c q.tok g) (hk : q.tok.kind ≠ 3)
    (back own : Bool) :
    d.arrive c q back own =
      if q.tok.stream ≠ 0 && !back then d.arriveOrdered c q
      else if d.qFull c (d.queueOf c q.tok) then none
      else some (d.enqueue c q) := by
  obtain ⟨hgood, hgraph, hmask, ⟨hunload, hheld⟩, hlow, hhigh⟩ := h
  have hrange : g.inRange c q.tok.instr = true := by simp [Graph.inRange, hlow, hhigh]
  have hplain : q.tok.kind ≠ 3#4 := hk
  simp [Dev.arrive, hgood, hgraph, hmask, hunload, hheld, hrange, hplain]

/-- A well-formed token of a graph that is not loaded is dropped with fault 11, and no cell counts it (R35 step 2, R36). -/
theorem Dev.arrive_of_unloaded {d : Dev} {c : CellId} {q : QTok} (hgood : q.tok.wellFormed = true)
    (h : d.graph q.tok.graph = none) (back own : Bool) : d.arrive c q back own = some (d.faultOnly 11 [] []) := by
  simp [Dev.arrive, hgood, h]

/-- A token that no stream orders, off its path: it waits for its queue or enters it (R163). -/
theorem arrive_takenOff {d : Dev} {c : CellId} {r : Res} {g : Graph} (h : Passes d c r.tok g) (hk : r.tok.kind ≠ 3)
    (hst : r.tok.stream = 0) (byp : Bool) (i : Nat) :
    (takenOff d c byp i).arrive c r.qtok false byp =
      if d.qFull c (d.queueOf c r.tok) then none else some ((takenOff d c byp i).enqueue c r.qtok) := by
  rw [Dev.arrive_of_passes (q := r.qtok) (passes_takenOff h byp i) hk]
  simp [Res.qtok, plainQTok, hst]

/-! ### The command -/

section
variable {s : State} {c : CellId} {byp : Bool} {i : Nat} {r : Res}

/-- A token that can be handled goes to the arrival stage off its path, whichever of the two paths that is. -/
theorem arrival_of_heads {d : Dev} (hruns : (d.cell c).runs = true) (h : Heads d c byp i r) :
    arrival c (if byp then .bypass else .ingress) i d =
      d.ifRoom (((takenOff d c byp i).arrive c r.qtok false byp).getD d) c := by
  obtain ⟨hat, hfirst⟩ := h
  cases byp with
  | true =>
    have htake := takeAt_eq_of_getElem? (l := (d.cell c).pipe.bypass) hat
    simp [arrival, hruns, arriveBypass, htake, takenOff_bypass]
  | false =>
    have htake := takeAt_eq_of_getElem? (l := (d.cell c).pipe.ingress) hat
    have hfree : ((d.cell c).pipe.ingress.take i).any (fun x => d.queueOf c x.tok = d.queueOf c r.tok) = false := by
      simpa using hfirst rfl
    simp [arrival, hruns, arriveIngress, htake, hfree, takenOff_ingress]

/-- TOKEN_ARRIVAL of a token that can be handled: the arrival stage decides, once the token is off its path. -/
theorem exec_tokenArrival (hrun : Running s.dev c) (h : Heads s.dev c byp i r) :
    exec (.tokenArrival c (if byp then .bypass else .ingress) i) s =
      .next (after s fun d => d.ifRoom (((takenOff d c byp i).arrive c r.qtok false byp).getD d) c) := by
  obtain ⟨hdies, hruns⟩ := hrun
  calc exec (.tokenArrival c (if byp then .bypass else .ingress) i) s
      = onDies (arrival c (if byp then .bypass else .ingress) i) s := rfl
    _ = .next (after s (arrival c (if byp then .bypass else .ingress) i)) := onDies_acts _ hdies
    _ = _ := by simp only [after, arrival_of_heads hruns h]

/-- The arrival stage answers with a device whose event controller here is the same: that device is the next one. -/
theorem exec_tokenArrival_of_some (hrun : Running s.dev c) (h : Heads s.dev c byp i r) {e : Dev}
    (ha : (takenOff s.dev c byp i).arrive c r.qtok false byp = some e) (hev : (e.cell c).ev = (s.dev.cell c).ev) :
    exec (.tokenArrival c (if byp then .bypass else .ingress) i) s = .next { s with dev := e } := by
  rw [exec_tokenArrival hrun h]
  simp [after, ha, Dev.ifRoom_of_sameEv hev]

/-- The arrival stage leaves the token on its path: nothing changes. -/
theorem exec_tokenArrival_of_none (hrun : Running s.dev c) (h : Heads s.dev c byp i r)
    (ha : (takenOff s.dev c byp i).arrive c r.qtok false byp = none) :
    exec (.tokenArrival c (if byp then .bypass else .ingress) i) s = .next s := by
  rw [exec_tokenArrival hrun h]
  simp [after, ha, Dev.ifRoom_of_sameEv]

end

/-- Settles O18: the arrival stage of the device with the token off its path has one answer in each clause, and none of them
touches the event controller. -/
theorem arrivalFillsQueue : Obligations.ArrivalFillsQueue := by
  intro s c byp i r t q cmd hrun hheads
  refine ⟨?room, ?full, ?unloaded⟩
  case room =>
    intro g hpass hk hst hfull
    refine exec_tokenArrival_of_some hrun hheads (e := (takenOff s.dev c byp i).enqueue c r.qtok) ?_ ?_
    · rw [arrive_takenOff hpass hk hst, if_neg (by simpa using hfull)]
    · rw [enqueue_ev, takenOff_ev]
  case full =>
    intro g hpass hk hst hfull
    refine exec_tokenArrival_of_none hrun hheads ?_
    rw [arrive_takenOff hpass hk hst, if_pos hfull]
  case unloaded =>
    intro hgood hnone
    refine exec_tokenArrival_of_some hrun hheads (e := (takenOff s.dev c byp i).faultOnly 11 [] [])
      (Dev.arrive_of_unloaded (q := r.qtok) hgood ?_ false byp) ?_
    · rw [takenOff_graph]
      exact hnone
    · have hframe := faultOnly_frame (takenOff s.dev c byp i) 11 [] []
      rw [Dev.cell_congr hframe.cells, takenOff_ev]

end Sys2Proof.Machine
end

section
/-! REP, its firings, and UDEF (R84, R89, R93, R153, R154): settles RepDispatchAndFirings. What has to be known of every
operation is that it leaves the spare event record of its lane alone while the shared records have room (R273). -/

namespace Sys2Proof.Machine

open Sys2Proof.Claims

/-! ### The spare record of a lane -/

/-- No record stands in the spare of a lane. -/
def SpareFree (d : Dev) (c : CellId) (ln : BitVec 3) : Prop := ∀ r ∈ (d.cell c).ev.recs, r.place ≠ .spare ln

theorem RoomFor.spareFree {d : Dev} {c : CellId} {ln : BitVec 3} {n : Nat} (h : RoomFor d c ln n) : SpareFree d c ln := h.2

theorem SpareFree.congr {d e : Dev} {c : CellId} {ln : BitVec 3} (h : SpareFree d c ln)
    (k : (e.cell c).ev = (d.cell c).ev) : SpareFree e c ln := by
  unfold SpareFree
  rw [k]
  exact h

/-- The bound of R273, under which a lane need not hold a result back. -/
theorem SpareFree.count_le_one {d : Dev} {c : CellId} {ln : BitVec 3} (h : SpareFree d c ln) :
    count (fun r => r.place = .spare ln) (d.cell c).ev.recs ≤ 1 := by
  have hnone : (d.cell c).ev.recs.filter (fun r => decide (r.place = .spare ln)) = [] := by
    simpa [List.filter_eq_nil_iff, SpareFree] using h
  simp [count, hnone]

/-- A result that leaves the spare record of its lane free is not held back. -/
theorem SpareFree.oneSpare_eq {e : Dev} {c : CellId} {ln : BitVec 3} (h : SpareFree e c ln) (d : Dev) :
    d.oneSpare e c ln = e := if_pos h.count_le_one

/-! ### Operations that leave the event controller as it is -/

section
variable (d : Dev) (c k : CellId)

theorem modStore_ev (f : CellStore → CellStore) : ((d.modStore k f).cell c).ev = (d.cell c).ev := by
  rw [Dev.modStore, Dev.cell_modCell]
  split
  · subst c; rfl
  · rfl

theorem modLane_ev (ln : BitVec 3) (f : Lane → Lane) : ((d.modLane k ln f).cell c).ev = (d.cell c).ev := modPipe_ev ..

theorem cellCreate_ev (g : GraphId) (b : Bool) : ((d.cellCreate k g b).cell c).ev = (d.cell c).ev :=
  (cellCreate_sameWords ..).cell.ev

theorem upsetFault_ev (u : Upset) (b : Nat) : ((d.upsetFault k u b).cell c).ev = (d.cell c).ev :=
  ((upsetFault_frame d k u b).sameWords c).cell.ev

theorem faultOnly_ev (src : Nat) (us : List DevUnit) (as : List AbortCause) :
    ((d.faultOnly src us as).cell c).ev = (d.cell c).ev :=
  ((faultOnly_frame d src us as).sameWords c).cell.ev

theorem fault_ev (key b src : Nat) (us : List DevUnit) (as : List AbortCause) :
    ((d.fault key b src us as).cell c).ev = (d.cell c).ev :=
  ((fault_frame d key b src us as).sameWords c).cell.ev

theorem sendPkt_ev (p : Pkt) : ((d.sendPkt k p).cell c).ev = (d.cell c).ev := modPipe_ev ..

theorem writeFrame_ev (a : Act) (f : FrameRec → FrameRec) : ((d.writeFrame k a f).cell c).ev = (d.cell c).ev := by
  unfold Dev.writeFrame
  split
  · rfl
  · split
    · rfl
    · exact modStore_ev ..

theorem bindFrame_ev (g : GraphId) (n : BitVec 12) (p : Option Cont) :
    ((d.bindFrame k g n p).cell c).ev = (d.cell c).ev := modStore_ev ..

theorem takeEntry_ev (f : Firing) (kind : CtKind) : ((d.takeEntry f kind).1.cell c).ev = (d.cell c).ev := by
  unfold Dev.takeEntry
  rw [cellCreate_ev, modPipe_ev]

theorem ringPut_ev {e : Dev} {key : Nat} {b : SpillBody} (h : d.ringPut k key b = some e) :
    (e.cell c).ev = (d.cell c).ev := by
  unfold Dev.ringPut at h
  split at h
  · cases h
    exact modStore_ev ..
  · cases h

theorem spillFull_ev : ((d.spillFull k).cell c).ev = (d.cell c).ev := by
  unfold Dev.spillFull
  split
  · rfl
  · rw [fault_ev, modStore_ev]

theorem evict_ev (g : GraphId) : ((d.evict k g).cell c).ev = (d.cell c).ev := by
  unfold Dev.evict
  dsimp only
  split
  · rfl
  · split
    · exact spillFull_ev ..
    · next hput => rw [modStore_ev, Dev.spillFrame, modStore_ev, ringPut_ev d c k hput]

theorem freeFrame_ev (key : Nat) : ((d.freeFrame c key).cell c).ev = (d.cell c).ev := by
  unfold Dev.freeFrame
  dsimp only
  rw [sweepFreeing_ev, (consumeTokens_sameWords ..).cell.ev, Dev.cell_modCell_self]

theorem releaseEntry_ev (i : Nat) : ((d.releaseEntry c i).cell c).ev = (d.cell c).ev := by
  unfold Dev.releaseEntry
  split
  · rfl
  · rw [sweepFreeing_ev, (cellConsume_sameWords ..).cell.ev, modPipe_ev]

end

/-! ### Results of a lane -/

/-- The results of a maker leave room for events when there is room for 17 more. -/
theorem one_room {d : Dev} {m : Maker} {ln : BitVec 3} {n : Nat} (w : Word) (r : Result) (hl : m.lane = some ln)
    (h : RoomFor d m.cell ln (n + 17)) : RoomFor (m.one w r d) m.cell ln n := by
  have hplan : (d.plan m.cell .one w).length ≤ 17 := resultPlan_length _ _ _ (fanoutList_length ..)
  exact results_room (some r) none hl _ d (h.mono (by omega))

/-! ### Results of a continuation-table entry: no lane, so no spare record -/

theorem raise_spareFree {d : Dev} {c : CellId} {ln : BitVec 3} (g : GraphId) (src : Nat) (k : Carried)
    (h : SpareFree d c ln) : SpareFree (d.raise c none g src k) c ln := by
  unfold Dev.raise
  dsimp only
  split
  · refine SpareFree.congr (d := d.addRecord c g src k none .shared) ?_ (cellCreate_ev ..)
    intro r hr
    simp only [Dev.addRecord, Dev.cell_modEv_self, List.mem_append, List.mem_singleton] at hr
    obtain hr | rfl := hr
    · exact h r hr
    · simp
  · exact h

section
variable {m : Maker} {ln : BitVec 3} (hl : m.lane = none)
include hl

theorem toParent_spareFree {d : Dev} (r : Result) (h : SpareFree d m.cell ln) : SpareFree (m.toParent r d) m.cell ln := by
  unfold Maker.toParent
  dsimp only
  rw [hl]
  split
  · exact raise_spareFree _ _ _ h
  · split
    · exact h.congr (sendToken_ev ..)
    · exact raise_spareFree _ _ _ h

theorem toDest_spareFree {d : Dev} (x : Dest) (r : Result) (h : SpareFree d m.cell ln) :
    SpareFree (m.toDest x r d) m.cell ln := by
  have hiter : ∀ top, SpareFree (m.destIter top d).2 m.cell ln := by
    intro top
    unfold Maker.destIter
    split
    · exact h
    · exact h.congr rfl
  cases x with
  | local_ f =>
    simp only [Maker.toDest]
    split
    · exact h
    · split
      · exact toParent_spareFree hl r h
      · exact (hiter _).congr (sendToken_ev ..)
  | entry e =>
    simp only [Maker.toDest]
    split
    · exact h
    · split
      · exact toParent_spareFree hl r h
      · exact (hiter _).congr (sendToken_ev ..)

theorem results_spareFree (s0 s1 : Option Result) (plan : List (Bool × Dest)) {d : Dev} (h : SpareFree d m.cell ln) :
    SpareFree (m.results plan s0 s1 d) m.cell ln := by
  unfold Maker.results
  induction plan generalizing d with
  | nil => exact h
  | cons p plan ih =>
    rw [List.foldl_cons]
    refine ih ?_
    split
    · exact h
    · exact toDest_spareFree hl _ _ h

end

theorem completeFences_spareFree {d : Dev} {c : CellId} {ln : BitVec 3} (g : GraphId) (h : SpareFree d c ln) :
    SpareFree (d.completeFences c g) c ln := by
  unfold Dev.completeFences
  dsimp only
  generalize (d.cell c).openRequests g = open_
  induction (d.cell c).pipe.ct generalizing d with
  | nil => exact h
  | cons e ct ih =>
    rw [List.foldl_cons]
    refine ih ?_
    split
    · split
      · have hone := results_spareFree (m := e.2.maker c false) rfl
          (some ⟨(opndVal e.2.act.left).bits, (opndVal e.2.act.left).vtype⟩) none (d.plan c .one e.2.word) h
        exact hone.congr (releaseEntry_ev ..)
      · exact h
    · exact h

/-! ### Every operation leaves the spare record of its lane free -/

/-- With room for 20 events in the shared records, what a firing does leaves the spare record of its lane free. -/
def LeavesSpare (fire : Firing → Dev → Dev) : Prop :=
  ∀ (f : Firing) (d : Dev), RoomFor d f.cell f.lane 20 → SpareFree (fire f d) f.cell f.lane

section
variable {f : Firing} {d : Dev} (h : RoomFor d f.cell f.lane 20)
include h

/-- One event of a lane. -/
theorem laneRaise_spareFree (g : GraphId) (src : Nat) (k : Carried) :
    SpareFree (d.raise f.cell (some f.lane) g src k) f.cell f.lane :=
  (raise_room (n := 19) g src k h).spareFree

theorem firingRaise_spareFree (src : Nat) : SpareFree (f.raise src d) f.cell f.lane := laneRaise_spareFree h _ _ _

/-- The results of a firing, from a device with the same event controller. -/
theorem laneOne_spareFree {e : Dev} {m : Maker} (hc : m.cell = f.cell) (hl : m.lane = some f.lane) (w : Word) (r : Result)
    (he : (e.cell f.cell).ev = (d.cell f.cell).ev) : SpareFree (m.one w r e) f.cell f.lane := by
  have hroom : RoomFor e m.cell f.lane (3 + 17) := by
    rw [hc]
    exact h.congr he
  rw [← hc]
  exact (one_room w r hl hroom).spareFree

end

theorem fireCompute_leavesSpare (op : Opn → OpRes) : LeavesSpare (fireCompute op) := by
  intro f d h
  unfold fireCompute
  dsimp only
  split
  · exact firingRaise_spareFree h _
  · exact (firing_results_room (n := 3) _ _ _ h).spareFree

theorem fireUdef_leavesSpare : LeavesSpare fireUdef := by
  intro f d h
  unfold fireUdef
  dsimp only
  refine (firing_results_room (n := 3) _ _ _ ?_).spareFree
  exact h.congr rfl

theorem fireUdefRead_leavesSpare (uc : Upset) : LeavesSpare (fireUdefRead uc) := by
  intro f d h
  cases uc with
  | none => exact fireUdef_leavesSpare f d h
  | corrected => exact fireUdef_leavesSpare f _ (h.congr (faultOnly_ev ..))
  | uncorrectable => exact firingRaise_spareFree (h.congr (faultOnly_ev ..)) _

theorem fireGetit_leavesSpare : LeavesSpare fireGetit := fun _ _ h => laneOne_spareFree h rfl rfl _ _ rfl
theorem fireSetit_leavesSpare : LeavesSpare fireSetit := fun _ _ h => laneOne_spareFree h rfl rfl _ _ rfl
theorem fireGetf_leavesSpare : LeavesSpare fireGetf := fun _ _ h => laneOne_spareFree h rfl rfl _ _ rfl
theorem fireSetf_leavesSpare : LeavesSpare fireSetf := fun _ _ h => laneOne_spareFree h rfl rfl _ _ rfl
theorem fireSetcl_leavesSpare : LeavesSpare fireSetcl := fun _ _ h => laneOne_spareFree h rfl rfl _ _ rfl
theorem fireGets_leavesSpare : LeavesSpare fireGets := fun _ _ h => laneOne_spareFree h rfl rfl _ _ rfl
theorem fireSets_leavesSpare : LeavesSpare fireSets := fun _ _ h => laneOne_spareFree h rfl rfl _ _ (writeFrame_ev ..)
theorem fireAdvw_leavesSpare : LeavesSpare fireAdvw := fun _ _ h => h.spareFree.congr (writeFrame_ev ..)

theorem fireLoopw_leavesSpare : LeavesSpare fireLoopw := by
  intro f d h
  unfold fireLoopw
  dsimp only
  split
  · exact firingRaise_spareFree h _
  · exact laneOne_spareFree h rfl rfl _ _ (writeFrame_ev ..)

theorem fireSend_leavesSpare : LeavesSpare fireSend := by
  intro f d h
  unfold fireSend
  dsimp only
  split
  · exact laneOne_spareFree h rfl rfl _ _ (sendToken_ev ..)
  · exact firingRaise_spareFree h _

theorem fireSendo_leavesSpare : LeavesSpare fireSendo := by
  intro f d h
  unfold fireSendo
  dsimp only
  split
  · exact laneOne_spareFree h rfl rfl _ _ (by rw [modPipe_ev, sendToken_ev])
  · exact firingRaise_spareFree h _

/-- NEWF sends to no more destinations than another operation: with MOD 1 to D0 alone (R128). -/
theorem resultPlan_newf_length (m : Maker) (w : Word) (d : Dev) :
    (if wMod w = 1 then [(false, Dest.local_ (wD0 w))] else d.plan m.cell .one w).length ≤ 17 := by
  split
  · simp
  · exact resultPlan_length _ _ _ (fanoutList_length ..)

theorem fireNewf_leavesSpare : LeavesSpare fireNewf := by
  intro f d h
  unfold fireNewf
  split
  · exact firingRaise_spareFree h _
  · split
    · next n _ =>
      have hbound := h.congr (bindFrame_ev d f.cell f.cell f.act.graph n (newfParent d f.cell f.act f.word))
      have hplan := resultPlan_newf_length f.maker f.word
        (d.bindFrame f.maker.cell f.maker.act.graph n (newfParent d f.maker.cell f.maker.act f.word))
      exact (results_room (m := { f.maker with frame := n }) (n := 3) _ none rfl _ _ (hbound.mono (by omega))).spareFree
    · exact h.spareFree.congr (by rw [evict_ev, takeEntry_ev])

theorem fireFreef_leavesSpare : LeavesSpare fireFreef := by
  intro f d h
  unfold fireFreef
  extract_lets isEntry
  split
  · exact firingRaise_spareFree h _
  · exact h.spareFree.congr (freeFrame_ev ..)

theorem fireMem_leavesSpare (op : MemOp) : LeavesSpare (fireMem op) := by
  intro f d h
  unfold fireMem
  dsimp only
  split
  · exact h.spareFree.congr (by rw [modPipe_ev, takeEntry_ev])
  · exact h.spareFree.congr (by rw [sendPkt_ev, takeEntry_ev])

theorem fireFence_leavesSpare : LeavesSpare fireFence := fun _ _ h =>
  completeFences_spareFree _ (h.spareFree.congr (takeEntry_ev ..))

theorem fireOut_leavesSpare : LeavesSpare fireOut := by
  intro f d h
  unfold fireOut
  dsimp only
  split
  · exact h.spareFree.congr (takeEntry_ev ..)
  · exact firingRaise_spareFree h _

theorem nothing_leavesSpare : LeavesSpare fun _ d => d := fun _ _ h => h.spareFree

theorem fireTimer_leavesSpare : LeavesSpare fireTimer := fun _ _ h => h.spareFree.congr (takeEntry_ev ..)

theorem fireRete_leavesSpare : LeavesSpare fireRete := by
  intro f d h
  unfold fireRete
  split
  · exact h.spareFree.congr (fault_ev ..)
  · split
    · have hkept := h.spareFree
      simpa [SpareFree] using hkept
    · exact h.spareFree.congr (fault_ev ..)

theorem fireRaise_leavesSpare : LeavesSpare fireRaise := by
  intro f d h
  have hshared : (d.cell f.cell).sharedUsed < sharedRecords := by have := h.1; omega
  unfold fireRaise
  dsimp only
  rw [if_pos hshared]
  split
  · exact firingRaise_spareFree h _
  · split
    · exact laneRaise_spareFree h _ _ _
    · split
      · split
        · rw [if_pos rfl]
          intro r hr
          simp only [Dev.cell_modEv_self, List.mem_map] at hr
          obtain ⟨q, hq, rfl⟩ := hr
          rw [cellCreate_ev] at hq
          simp only [Dev.addRecord, Dev.cell_modEv_self, List.mem_append, List.mem_singleton] at hq
          have hplace : q.place ≠ .spare f.lane := by
            obtain hq | rfl := hq
            · exact h.2 q hq
            · simp
          split <;> exact hplace
        · exact h.spareFree
      · exact h.spareFree.congr (by rw [sendPkt_ev, cellCreate_ev])

/-- What holds of the default and of every entry of a table holds of what it reads. -/
theorem mget_of_forall {α : Type} {p : α → Prop} {dflt : α} (hd : p dflt) :
    ∀ {m : Map α}, (∀ e ∈ m, p e.2) → ∀ i, p (mget dflt m i)
  | [], _, _ => hd
  | (k, v) :: m, hm, i => by
    rw [List.forall_mem_cons] at hm
    obtain ⟨hv, hm⟩ := hm
    simp only [mget]
    split
    · exact hv
    · split
      · exact hd
      · exact mget_of_forall hd hm i

/-- The operations of a table leave the spare record free. -/
def TableLeavesSpare (ops : Map OpSpec) : Prop := ∀ e ∈ ops, LeavesSpare e.2.fire

theorem opsInteger_leaveSpare : TableLeavesSpare opsInteger := by
  simp [TableLeavesSpare, opsInteger, OpSpec.compute, OpSpec.plain, fireCompute_leavesSpare]
theorem opsShift_leaveSpare : TableLeavesSpare opsShift := by
  simp [TableLeavesSpare, opsShift, OpSpec.compute, OpSpec.plain, fireCompute_leavesSpare]
theorem opsFloat_leaveSpare : TableLeavesSpare opsFloat := by
  simp [TableLeavesSpare, opsFloat, OpSpec.compute, OpSpec.plain, fireCompute_leavesSpare]
theorem opsDecimal_leaveSpare : TableLeavesSpare opsDecimal := by
  simp [TableLeavesSpare, opsDecimal, OpSpec.compute, OpSpec.plain, fireCompute_leavesSpare]
theorem opsSteer_leaveSpare : TableLeavesSpare opsSteer := by
  simp [TableLeavesSpare, opsSteer, OpSpec.compute, OpSpec.plain, fireCompute_leavesSpare]
theorem opsTag_leaveSpare : TableLeavesSpare opsTag := by
  simp [TableLeavesSpare, opsTag, OpSpec.plain, fireNewf_leavesSpare, fireFreef_leavesSpare, fireLoopw_leavesSpare,
    fireAdvw_leavesSpare, fireSets_leavesSpare, fireGets_leavesSpare, fireGetit_leavesSpare, fireSetit_leavesSpare,
    fireGetf_leavesSpare, fireSetf_leavesSpare, fireSetcl_leavesSpare, fireSend_leavesSpare, fireSendo_leavesSpare]
theorem opsMemory_leaveSpare : TableLeavesSpare opsMemory := by
  simp [TableLeavesSpare, opsMemory, OpSpec.mem, fireMem_leavesSpare, fireFence_leavesSpare]
theorem opsControl_leaveSpare : TableLeavesSpare opsControl := by
  simp [TableLeavesSpare, opsControl, OpSpec.plain, nothing_leavesSpare, fireOut_leavesSpare, fireRaise_leavesSpare,
    fireRete_leavesSpare, fireTimer_leavesSpare]

/-- Whatever its opcode, a firing leaves the spare record of its lane free. -/
theorem opSpec_leavesSpare (opc : Nat) : LeavesSpare (opSpec opc).fire := by
  unfold opSpec
  split
  · exact fireUdef_leavesSpare
  · refine mget_of_forall (p := fun o : OpSpec => LeavesSpare o.fire) nothing_leavesSpare ?_ opc
    split
    · exact opsInteger_leaveSpare
    · exact opsShift_leaveSpare
    · exact opsFloat_leaveSpare
    · exact opsDecimal_leaveSpare
    · exact opsSteer_leaveSpare
    · exact opsTag_leaveSpare
    · exact opsMemory_leaveSpare
    · exact opsControl_leaveSpare
    · simp

/-! ### The dispatch of an activation that is ready -/

theorem opSpec_of_isUdef {opc : Nat} (h : isUdef opc = true) : opSpec opc = .plain fireUdef := by simp [opSpec, h]

section
variable {s : State} {x : Disp} {opc : Nat} {sl : Slot} {rest : List Slot}

@[simp] theorem begun_store (d : Dev) : ((begun d x sl rest).cell x.cell).store = (d.cell x.cell).store :=
  (leftSlot_store_ev d x sl rest).1

@[simp] theorem begun_ev (d : Dev) : ((begun d x sl rest).cell x.cell).ev = (d.cell x.cell).ev :=
  (leftSlot_store_ev d x sl rest).2

@[simp] theorem begun_uct (d : Dev) : (begun d x sl rest).uct = d.uct := leftSlot_uct d x sl rest

/-- The cell of a ready lane has room for 20 events, also when the activation has left its slot. -/
theorem roomFor_begun {d : Dev} (h : Ready d x opc sl rest) : RoomFor (begun d x sl rest) x.cell x.lane 20 :=
  RoomFor.congr (d := d) ⟨h.records, by simpa using h.spares⟩ (begun_ev d)

/-- A ready lane can fire an operation of its opcode once the entry that the operation may need is there. -/
theorem canFire_of_ready {d : Dev} (h : Ready d x opc sl rest) {isOp : Nat → Bool} (hop : isOp opc = true)
    (hentry : d.slotNeeds x.cell x.lane sl = true → EntryFree d x sl (opSpec opc).wait) : CanFire d x isOp sl rest :=
  { runs := h.runs, awake := h.awake, lane := h.lane, older := h.older, opcode := by rw [h.opcode]; exact hop
    room := h.room, word := h.word, fanout := h.fanout, legal := h.legal, met := h.met
    entry := fun hn => ⟨(hentry hn).entry, by rw [h.opcode]; exact (hentry hn).cap⟩ }

/-- The dispatch of a ready activation: its operation acts on the device without it, and nothing else happens. -/
theorem onDies_dispatchWith {isOp : Nat → Bool} {fire : Slot → Firing → Dev → Dev} (h : Ready s.dev x opc sl rest)
    (hop : isOp opc = true) (hentry : s.dev.slotNeeds x.cell x.lane sl = true → EntryFree s.dev x sl (opSpec opc).wait)
    (hspare : LeavesSpare (fire sl)) :
    onDies (dispatchWith isOp fire x) s = .next (fired s x sl rest (fire sl)) := by
  have hfree := hspare (sl.firing x.cell x.lane) _ (roomFor_begun h)
  rw [onDies_acts _ h.powered, dispatchWith_fires fire (canFire_of_ready h hop hentry) hfree.count_le_one]
  rfl

/-- Two effects that do the same to the device without the activation give one next state. -/
theorem fired_congr {e e' : Firing → Dev → Dev}
    (h : e (sl.firing x.cell x.lane) (begun s.dev x sl rest) = e' (sl.firing x.cell x.lane) (begun s.dev x sl rest)) :
    fired s x sl rest e = fired s x sl rest e' := by
  simp only [fired, h]

/-! ### REP latches its count (R84, R153) -/

theorem fireRep_leavesSpare (sl : Slot) : LeavesSpare (fireRep sl) := by
  intro f d h
  unfold fireRep
  dsimp only
  split
  · exact h.spareFree
  · exact h.spareFree.congr (modLane_ev ..)

/-- REP takes its count from its word or from S0 of its frame, which its own consumption leaves as it was. -/
theorem fireRep_begun (d : Dev) :
    fireRep sl (sl.firing x.cell x.lane) (begun d x sl rest) =
      if repCount (d.cell x.cell) sl.act sl.word = 0 then begun d x sl rest
      else (begun d x sl rest).modLane x.cell x.lane fun l =>
        { l with rep := some { act := sl.act, word := sl.word, target := sl.target, next := 0
                               count := repCount (d.cell x.cell) sl.act sl.word } } := by
  have hcount : repCount ((begun d x sl rest).cell x.cell) sl.act sl.word = repCount (d.cell x.cell) sl.act sl.word := by
    simp [repCount, slot_congr (begun_store d)]
  simp only [← hcount]
  rfl

theorem exec_rep (h : Ready s.dev x opcRep sl rest) : exec (.rep x) s = .next (fired s x sl rest (fireRep sl)) := by
  have hneed : s.dev.slotNeeds x.cell x.lane sl = false := by simp [Dev.slotNeeds, h.opcode]
  exact onDies_dispatchWith h (by simp) (by simp [hneed]) (fireRep_leavesSpare sl)

/-! ### UDEF (R89, R93) -/

theorem exec_udef (h : Ready s.dev x opc sl rest) (hu : isUdef opc = true) (uc : Upset) :
    exec (.udef x uc) s = .next (fired s x sl rest (fireUdefRead uc)) := by
  have hneed : s.dev.slotNeeds x.cell x.lane sl = false := by
    simp [Dev.slotNeeds, h.opcode, opSpec_of_isUdef hu, OpSpec.plain]
  exact onDies_dispatchWith h (by simp [isUdefRow, hu]) (by simp [hneed]) (fireUdefRead_leavesSpare uc)

/-- The word of a firing is that of its slot unless the slot holds a REP (R82). -/
theorem firing_word_of_ne_rep (h : wOpc sl.word ≠ opcRep) (c : CellId) (ln : BitVec 3) : (sl.firing c ln).word = sl.word :=
  if_neg h

/-- With a microcode word that cannot be read, the lane records source 16 and raises ILLEGAL_OP with the inputs. -/
theorem fireUdefRead_begun {d : Dev} (h : Ready d x opc sl rest) (hu : isUdef opc = true) :
    fireUdefRead .uncorrectable (sl.firing x.cell x.lane) (begun d x sl rest) =
      ((begun d x sl rest).faultOnly 16 [] [.udef (opc - 0x3F0)]).raise x.cell (some x.lane) sl.act.graph srcIllegalOp
        { left := (sl.firing x.cell x.lane).a, right := (sl.firing x.cell x.lane).right d.uct.entries
          oframe := some sl.act.frame, oiter := sl.act.iter } := by
  have hrep : wOpc sl.word ≠ opcRep := by
    intro e
    rw [← h.opcode, e] at hu
    simp [isUdef, opcRep] at hu
  have hop : wOpc (sl.firing x.cell x.lane).word = opc := by rw [firing_word_of_ne_rep hrep, h.opcode]
  have huct : ((begun d x sl rest).faultOnly 16 [] [.udef (opc - 0x3F0)]).uct = d.uct :=
    (faultOnly_frame ..).uct.trans (begun_uct d)
  simp only [fireUdefRead, Firing.raise, Firing.inputs, hop, huct]
  rfl

end

/-! ### The firings of a REP (R84, R153, R154) -/

/-- Firing `next` of a sequence. -/
def RepSeq.firing (r : RepSeq) (c : CellId) (ln : BitVec 3) : Firing :=
  { cell := c, lane := ln, act := r.actAt r.next, word := r.target }

/-- The sequence of a lane need not wait: the previous firing is done, the result buffer has room, the fan-out word is good,
the events it could raise find records, and any continuation-table entry it needs is there. -/
structure RepReady (d : Dev) (c : CellId) (ln : BitVec 3) (fo : Upset) (r : RepSeq) : Prop where
  runs : (d.cell c).runs = true
  rep : ((d.cell c).pipe.lane ln.toNat).rep = some r
  spare : ((d.cell c).pipe.lane ln.toNat).spareUsed = false
  going : r.paused (d.cell c).pipe = false
  room : (d.cell c).pipe.roomFor ln r.target = true
  fanout : fo ≠ .uncorrectable
  records : RoomFor d c ln 20
  entry : (opSpec (wOpc r.target)).need (r.firing c ln) d = true →
    (d.cell c).freeEntry.isSome = true ∧ d.belowCap c r.act.graph (opSpec (wOpc r.target)).wait = true

/-- The device when a firing has begun: the lane goes on to the next one or drops the sequence, and a corrected fan-out word
is recorded (R89, R153). -/
def repBegun (d : Dev) (c : CellId) (ln : BitVec 3) (fo : Upset) (r : RepSeq) : Dev :=
  let left := d.modLane c ln fun l =>
    { l with rep := if r.next + 1 < r.count then some { r with next := r.next + 1 } else none }
  if wDfmt r.target = 2 then left.upsetFault c fo 2 else left

section
variable {s : State} {d : Dev} {c : CellId} {ln : BitVec 3} {fo uc : Upset} {r : RepSeq}

theorem repBegun_ev : ((repBegun d c ln fo r).cell c).ev = (d.cell c).ev := by
  unfold repBegun
  dsimp only
  split
  · rw [upsetFault_ev, modLane_ev]
  · exact modLane_ev ..

theorem fireRead_leavesSpare (uc : Upset) : LeavesSpare (fireRead uc) := by
  intro f d h
  unfold fireRead
  split
  · exact fireUdefRead_leavesSpare uc f d h
  · exact opSpec_leavesSpare _ f d h

/-- A user opcode whose microcode can be read runs its routine; a corrected word is source 15 (R89, R93). -/
theorem fireRead_of_isUdef {f : Firing} (hu : isUdef (wOpc f.word) = true) (huc : uc ≠ .uncorrectable) (d : Dev) :
    fireRead uc f d = fireUdef f (if uc = .corrected then d.faultOnly 15 [] [] else d) := by
  have hread : fireRead uc f d = fireUdefRead uc f d := if_pos hu
  cases uc with
  | none => exact hread
  | corrected => exact hread
  | uncorrectable => exact absurd rfl huc

/-- A firing that need not wait and whose words can be read performs its target. -/
theorem repNext_fires (h : RepReady d c ln fo r) (huc : isUdef (wOpc r.target) = true → uc ≠ .uncorrectable) :
    repNext c ln fo uc d = (fireRead uc (r.firing c ln) (repBegun d c ln fo r)).sweepFreeing c := by
  have hfo : upsetBad fo = false := by simpa [← upsetBad_iff] using h.fanout
  have hstop : (isUdef (wOpc r.target) && upsetBad uc) = false := by
    simpa [← upsetBad_iff] using huc
  have hwait : ((opSpec (wOpc r.target)).need (r.firing c ln) d &&
      ((d.cell c).freeEntry.isNone || !d.belowCap c r.act.graph (opSpec (wOpc r.target)).wait)) = false := by
    cases hn : (opSpec (wOpc r.target)).need (r.firing c ln) d with
    | false => rfl
    | true =>
      obtain ⟨hfree, hcap⟩ := h.entry hn
      simp [hcap, Option.isNone_eq_false_iff, hfree]
  have hfree : SpareFree ((fireRead uc (r.firing c ln) (repBegun d c ln fo r)).sweepFreeing c) c ln :=
    (fireRead_leavesSpare uc (r.firing c ln) _ (h.records.congr repBegun_ev)).congr (sweepFreeing_ev ..)
  unfold repNext
  dsimp only
  rw [h.rep]
  dsimp only
  rw [← hfree.oneSpare_eq d, h.runs, h.spare, h.going, h.room]
  dsimp only [RepSeq.firing] at hwait ⊢
  rw [hwait, hfo, hstop]
  simp only [Bool.not_true, Bool.or_self, Bool.and_false, Bool.false_eq_true, if_false, Bool.false_or,
    decide_eq_true_eq, ← Nat.not_lt, ite_not]
  rfl

theorem exec_repFiring (hdies : s.dev.diesStop = false) (h : RepReady s.dev c ln fo r)
    (huc : isUdef (wOpc r.target) = true → uc ≠ .uncorrectable) :
    exec (.repFiring c ln ⟨fo, uc⟩) s =
      .next { s with dev := (fireRead uc (r.firing c ln) (repBegun s.dev c ln fo r)).sweepFreeing c } := by
  rw [← repNext_fires h huc]
  exact onDies_acts _ hdies

end

/-- Settles O17: each command answers what its operation does to the device that the activation or the firing has left, since no
operation fills the spare event record that would hold its result back (R273); what REP counts and what ILLEGAL_OP carries is the
same before and after the activation leaves. -/
theorem repDispatchAndFirings : Obligations.RepDispatchAndFirings := by
  refine ⟨?rep, ?firing, ?udef⟩
  case rep =>
    intro s x sl rest h n
    have hn : repCount (s.dev.cell x.cell) sl.act sl.word = n := by
      simp [n, repCount, rCsrc, bit, rCount, nbits]
    calc exec (.rep x) s
        = .next (fired s x sl rest (fireRep sl)) := exec_rep h
      _ = _ := congrArg _ (fired_congr ((fireRep_begun s.dev).trans (by rw [hn])))
  case firing =>
    intro s c ln fo uc r cell lane f op hdies hruns hrep hspare hpaused hroom hfo hrecords hspares hentry left read
    have hready : RepReady s.dev c ln fo r :=
      { runs := hruns, rep := hrep, spare := hspare, going := hpaused, room := hroom, fanout := hfo
        records := ⟨hrecords, by simpa using hspares⟩, entry := hentry }
    refine ⟨fun hu => ?_, fun hu huc => ?_⟩
    · have hfire : fireRead uc f read = op.fire f read := if_neg (by simp [f, hu])
      rw [← hfire]
      exact exec_repFiring hdies hready (by simp [hu])
    · have hfire : fireRead uc f read = fireUdef f (if uc = .corrected then read.faultOnly 15 [] [] else read) :=
        fireRead_of_isUdef (f := f) hu huc read
      rw [← hfire]
      exact exec_repFiring hdies hready fun _ => huc
  case udef =>
    intro s x sl rest opc uc hopc h
    have hu : isUdef opc = true := by simpa [isUdef] using hopc
    calc exec (.udef x uc) s
        = .next (fired s x sl rest (fireUdefRead uc)) := exec_udef h hu uc
      _ = _ := congrArg _ (fired_congr ?_)
    cases uc with
    | none => rfl
    | corrected => rfl
    | uncorrectable => exact fireUdefRead_begun h hu

end Sys2Proof.Machine
end

section
/-! The dispatch of the compute commands (R57, R58, R75, R95 to R97): settles ComputeDispatchDeliversOrRaises. -/

namespace Sys2Proof.Machine

open Sys2Proof.Claims

/-! ### The 70 rows -/

/-- A row agrees with the model: its command dispatches its opcode, and the operation of that opcode computes `op`. -/
structure IsCompute (row : ComputeRow) : Prop where
  exec_eq : ∀ x s, exec (row.cmd x) s = onDies (dispatch row.opc x) s
  opSpec_eq : opSpec row.opc = .compute row.op
  ne_rep : row.opc ≠ opcRep

theorem computeRows_isCompute : ∀ row ∈ computeRows, IsCompute row := by
  intro row h
  fin_cases h <;> exact ⟨fun _ _ => rfl, rfl, by decide⟩

/-! ### The lowest enabled exception (R96) -/

theorem minBy_id_eq_min? : ∀ l : List Nat, minBy id l = l.min?
  | [] => rfl
  | a :: l => by
    rw [minBy, minBy_id_eq_min? l, List.min?_cons]
    cases l.min? with
    | none => rfl
    | some b =>
      simp only [id_eq, Option.elim_some]
      split <;> congr 1 <;> omega

theorem lowestEnabled_eq_none_iff {on : Nat → Bool} {exc : List Nat} :
    lowestEnabled on exc = none ↔ exc.filter on = [] := by
  rw [lowestEnabled, minBy_id_eq_min?, List.min?_eq_none_iff]

theorem lowestEnabled_eq_some_iff {on : Nat → Bool} {exc : List Nat} {src : Nat} :
    lowestEnabled on exc = some src ↔ src ∈ exc.filter on ∧ ∀ e ∈ exc.filter on, src ≤ e := by
  rw [lowestEnabled, minBy_id_eq_min?, List.min?_eq_some_iff]

/-! ### A compute firing delivers or raises -/

/-- What a firing sends of its operation's answer: with a poisoned operand a steer is false (R58). -/
def Firing.sent (f : Firing) (kind : ResultKind) (r : OpRes) : OpRes :=
  if f.act.steerPoisoned && kind = .steer then poisonedSteer (wOpc f.word) r else r

theorem poisonedSteer_exc (opc : Nat) (r : OpRes) : (poisonedSteer opc r).exc = r.exc := by
  unfold poisonedSteer
  split <;> rfl

/-- Poison moves a result to the other slot but leaves the exceptions as they were. -/
@[simp] theorem Firing.sent_exc (f : Firing) (kind : ResultKind) (r : OpRes) : (f.sent kind r).exc = r.exc := by
  unfold Firing.sent
  split
  · exact poisonedSteer_exc ..
  · rfl

/-- What is sent fills the slots of the statement, which names the opcode by the word of the lane's slot: only a REP fires
another word than its own. -/
theorem sentSlots_eq {sl : Slot} (h : wOpc sl.word ≠ opcRep) (c : CellId) (ln : BitVec 3) (kind : ResultKind) (r : OpRes) :
    sentSlots sl kind r = (((sl.firing c ln).sent kind r).s0, ((sl.firing c ln).sent kind r).s1) := by
  have hsent : (sl.firing c ln).sent kind r =
      if sl.act.steerPoisoned && kind = .steer then poisonedSteer (wOpc sl.word) r else r := by
    rw [Firing.sent, firing_word_of_ne_rep h]
    rfl
  rw [hsent, sentSlots, ← Act.steerPoisoned]
  cases sl.act.steerPoisoned && decide (kind = .steer) with
  | false => rfl
  | true => obtain ⟨_ | v, s1, exc⟩ := r <;> rfl

section
variable {op : Opn → OpRes} {f : Firing} {d : Dev}

theorem fireCompute_delivers {info : OpInfo} (hinfo : opInfo d.uct.entries (wOpc f.word) = some info)
    (h : f.act.poisoned = true ∨
      lowestEnabled ((d.cell f.cell).enabled f.act.graph) (op (f.opn d.uct.entries)).exc = none) :
    fireCompute op f d =
      f.maker.results (d.plan f.cell info.kind f.word) (f.sent info.kind (op (f.opn d.uct.entries))).s0
        (f.sent info.kind (op (f.opn d.uct.entries))).s1 d := by
  have hquiet : (if f.act.poisoned then none
      else lowestEnabled ((d.cell f.cell).enabled f.act.graph) (op (f.opn d.uct.entries)).exc) = none := by
    obtain h | h := h
    · exact if_pos h
    · rw [h, ite_self]
  unfold fireCompute
  dsimp only
  rw [hinfo]
  dsimp only
  rw [← Firing.sent, Firing.sent_exc, hquiet]

theorem fireCompute_raises {src : Nat} (hpoison : f.act.poisoned = false)
    (h : lowestEnabled ((d.cell f.cell).enabled f.act.graph) (op (f.opn d.uct.entries)).exc = some src) :
    fireCompute op f d = f.raise src d := by
  unfold fireCompute
  dsimp only
  rw [← Firing.sent, Firing.sent_exc, hpoison, h]
  rfl

end

/-! ### The dispatch of a ready activation -/

section
variable {s : State} {d : Dev} {x : Disp} {sl : Slot} {rest : List Slot} {row : ComputeRow}

@[simp] theorem begun_enabled :
    ((begun d x sl rest).cell x.cell).enabled = (d.cell x.cell).enabled := by
  funext g src
  simp [Cell.enabled, Cell.entry]

@[simp] theorem begun_plan (kind : ResultKind) (w : Word) :
    (begun d x sl rest).plan x.cell kind w = resultPlan kind w (fanoutList (d.cell x.cell).store.fo w) := by
  simp [Dev.plan]

theorem begun_lowestEnabled_eq_none_iff {r : OpRes} :
    lowestEnabled (((begun d x sl rest).cell x.cell).enabled sl.act.graph) r.exc = none ↔ enabledExceptions d x sl r = [] := by
  rw [lowestEnabled_eq_none_iff, begun_enabled, enabledExceptions]

theorem begun_lowestEnabled_eq_some_iff {r : OpRes} {src : Nat} :
    lowestEnabled (((begun d x sl rest).cell x.cell).enabled sl.act.graph) r.exc = some src ↔
      src ∈ enabledExceptions d x sl r ∧ ∀ e ∈ enabledExceptions d x sl r, src ≤ e := by
  rw [lowestEnabled_eq_some_iff, begun_enabled, enabledExceptions]

/-- A compute command performs its operation on the device that the activation has left: it needs no continuation-table entry. -/
theorem exec_compute (hrow : IsCompute row) (h : Ready s.dev x row.opc sl rest) :
    exec (row.cmd x) s = .next (fired s x sl rest (fireCompute row.op)) := by
  have hneed : s.dev.slotNeeds x.cell x.lane sl = false := by
    simp [Dev.slotNeeds, h.opcode, hrow.opSpec_eq, OpSpec.compute, OpSpec.plain]
  have hdispatch : dispatch row.opc x = dispatchWith (fun o => o = row.opc) (fun _ => fireCompute row.op) x := by
    funext d
    simp only [dispatch, hrow.opSpec_eq]
    rfl
  rw [hrow.exec_eq, hdispatch]
  exact onDies_dispatchWith h (by simp) (by simp [hneed]) (fireCompute_leavesSpare row.op)

/-- Without an enabled exception, or with a poisoned input, the results leave the device that the activation has left (R95, R97). -/
theorem fireCompute_begun_delivers {op : Opn → OpRes} {r : OpRes} {info : OpInfo} (hrep : wOpc sl.word ≠ opcRep)
    (hr : op ((sl.firing x.cell x.lane).opn d.uct.entries) = r) (hinfo : opInfo d.uct.entries (wOpc sl.word) = some info)
    (hquiet : sl.act.poisoned = true ∨ enabledExceptions d x sl r = []) :
    fireCompute op (sl.firing x.cell x.lane) (begun d x sl rest) =
      (sl.firing x.cell x.lane).maker.results
        (resultPlan info.kind (sl.firing x.cell x.lane).word
          (fanoutList (d.cell x.cell).store.fo (sl.firing x.cell x.lane).word))
        (sentSlots sl info.kind r).1 (sentSlots sl info.kind r).2 (begun d x sl rest) := by
  subst hr
  rw [← firing_word_of_ne_rep hrep x.cell x.lane, ← begun_uct (x := x) (sl := sl) (rest := rest)] at hinfo
  rw [sentSlots_eq hrep x.cell x.lane, ← begun_plan (x := x) (sl := sl) (rest := rest)]
  rw [← begun_uct (x := x) (sl := sl) (rest := rest)] at hquiet ⊢
  exact fireCompute_delivers hinfo (hquiet.imp_right begun_lowestEnabled_eq_none_iff.mpr)

/-- The lowest enabled exception is raised with the inputs, in place of any result (R96). -/
theorem fireCompute_begun_raises {op : Opn → OpRes} {r : OpRes} {src : Nat}
    (hr : op ((sl.firing x.cell x.lane).opn d.uct.entries) = r) (hclean : sl.act.poisoned = false)
    (hmem : src ∈ enabledExceptions d x sl r) (hleast : ∀ e ∈ enabledExceptions d x sl r, src ≤ e) :
    fireCompute op (sl.firing x.cell x.lane) (begun d x sl rest) =
      (begun d x sl rest).raise x.cell (some x.lane) sl.act.graph src ((sl.firing x.cell x.lane).inputs d.uct.entries) := by
  subst hr
  rw [← begun_uct (x := x) (sl := sl) (rest := rest)] at hmem hleast ⊢
  exact fireCompute_raises hclean (begun_lowestEnabled_eq_some_iff.mpr ⟨hmem, hleast⟩)

end

/-- Settles O8: each compute command performs the operation of its row on the device that the activation has left, which enables
the same events and reads the same fan-out words as before; the operation delivers or raises by the lowest exception enabled. -/
theorem computeDispatchDeliversOrRaises : Obligations.ComputeDispatchDeliversOrRaises := by
  refine ⟨?delivers, ?raises⟩
  case delivers =>
    intro row hrow s x sl rest info h hinfo f r hquiet
    have hrow := computeRows_isCompute row hrow
    calc exec (row.cmd x) s
        = .next (fired s x sl rest (fireCompute row.op)) := exec_compute hrow h
      _ = _ := congrArg _ (fired_congr (fireCompute_begun_delivers (h.opcode ▸ hrow.ne_rep) rfl (h.opcode ▸ hinfo) hquiet))
  case raises =>
    intro row hrow s x sl rest src h hclean f es hmem hleast
    calc exec (row.cmd x) s
        = .next (fired s x sl rest (fireCompute row.op)) := exec_compute (computeRows_isCompute row hrow) h
      _ = _ := congrArg _ (fired_congr (fireCompute_begun_raises rfl hclean hmem hleast))

end Sys2Proof.Machine
end

section
/-! What a dispatched activation leaves as it was when it is consumed, and the dispatch of an opcode (R60, R95, R186). -/

namespace Sys2Proof.Machine

open Sys2Proof.Claims

/-! ### Fields of words -/

/-- A field from bit 0 is a truncation. -/
theorem bits_zero {n : Nat} (w : BitVec n) (len : Nat) : bits w 0 len = w.setWidth len := by
  apply BitVec.eq_of_toNat_eq
  simp [bits]

theorem nbits_zero {n : Nat} (w : BitVec n) (len : Nat) : nbits w 0 len = w.toNat % 2 ^ len := by simp [nbits]

theorem bits_toNat {n : Nat} (w : BitVec n) (lo len : Nat) : (bits w lo len).toNat = nbits w lo len := by simp [bits, nbits]

/-! ### Faults leave the assignment of output rings -/

theorem msix_oringFn (d : Dev) (fn : GraphId) (v : BitVec 5) : (d.msix fn v).hif.oringFn = d.hif.oringFn := by
  unfold Dev.msix
  dsimp only
  split <;> rfl

theorem setSticky_oringFn (d : Dev) (k : Nat) (m : Reg) : (d.setSticky k m).hif.oringFn = d.hif.oringFn := by
  simp

theorem ibiSend_hif (d : Dev) (b : Byte) : (d.ibiSend b).hif = d.hif := by
  unfold Dev.ibiSend
  split <;> rfl

theorem onSeverity_hif (d : Dev) (o n : Nat) : (d.onSeverity o n).hif = d.hif := by
  unfold Dev.onSeverity
  dsimp only
  split <;> rfl

theorem episodeNotice_oringFn (d : Dev) (n : Nat) : (d.episodeNotice n).hif.oringFn = d.hif.oringFn := msix_oringFn ..

theorem occur_oringFn (d : Dev) (sev : Nat) (us : List DevUnit) (as : List AbortCause) :
    (d.occur sev us as).hif.oringFn = d.hif.oringFn := by
  unfold Dev.occur
  split
  · rw [onSeverity_hif, ibiSend_hif, episodeNotice_oringFn]
  · dsimp only
    split
    · rw [onSeverity_hif, episodeNotice_oringFn]
    · rfl

theorem faultOnly_oringFn (d : Dev) (src : Nat) (us : List DevUnit) (as : List AbortCause) :
    (d.faultOnly src us as).hif.oringFn = d.hif.oringFn := by
  unfold Dev.faultOnly
  split
  · rfl
  · dsimp only
    split
    · rw [occur_oringFn, setSticky_oringFn]
    · exact setSticky_oringFn ..

theorem fault_oringFn (d : Dev) (key b src : Nat) (us : List DevUnit) (as : List AbortCause) :
    (d.fault key b src us as).hif.oringFn = d.hif.oringFn := by
  unfold Dev.fault
  split
  · rfl
  · rw [faultOnly_oringFn, setSticky_oringFn]

theorem upsetFault_oringFn (d : Dev) (c : CellId) (u : Upset) (b : Nat) :
    (d.upsetFault c u b).hif.oringFn = d.hif.oringFn := by
  cases u with
  | none => rfl
  | corrected => exact fault_oringFn ..
  | uncorrectable => exact fault_oringFn ..

/-! ### What an activation that leaves its slot does not change -/

/-- What the operations of chapter 5 read of the device beside the cell's stores: the time, the node, the bank in force, the
cell's colour, the owner of a graph and the function of an output ring. -/
structure SameReads (c : CellId) (d e : Dev) : Prop where
  clock : e.clock = d.clock
  fbn : e.fbn = d.fbn
  fab : e.fab = d.fab
  oringFn : e.hif.oringFn = d.hif.oringFn
  owner : ∀ g, e.owner g = d.owner g
  colour : ∀ g, e.colour c g = d.colour c g

theorem SameReads.refl (c : CellId) (d : Dev) : SameReads c d d := ⟨rfl, rfl, rfl, rfl, fun _ => rfl, fun _ => rfl⟩

theorem SameReads.trans {c : CellId} {d e f : Dev} (h : SameReads c d e) (k : SameReads c e f) : SameReads c d f :=
  ⟨k.clock.trans h.clock, k.fbn.trans h.fbn, k.fab.trans h.fab, k.oringFn.trans h.oringFn,
    fun g => (k.owner g).trans (h.owner g), fun g => (k.colour g).trans (h.colour g)⟩

theorem colour_congr {d e : Dev} (h : e.cells = d.cells) (c : CellId) (g : GraphId) : e.colour c g = d.colour c g := by
  rw [Dev.colour, Dev.cell_congr h, Dev.colour]

theorem owner_congr {d e : Dev} (h : e.graphs = d.graphs) (g : GraphId) : e.owner g = d.owner g := by
  simp only [Dev.owner, Dev.graph, h]

theorem upsetFault_sameReads (d : Dev) (k : CellId) (u : Upset) (b : Nat) (c : CellId) : SameReads c d (d.upsetFault k u b) :=
  have h := upsetFault_frame d k u b
  ⟨h.clock, h.fbn, h.fab, upsetFault_oringFn .., owner_congr h.graphs, colour_congr h.cells c⟩

theorem modLane_sameReads (d : Dev) (c : CellId) (ln : BitVec 3) (f : Lane → Lane) : SameReads c d (d.modLane c ln f) :=
  ⟨rfl, rfl, rfl, rfl, fun _ => rfl, fun g => by simp [Dev.colour, Dev.modLane, Cell.census]⟩

theorem unstall_owner (d : Dev) (g k : GraphId) : (d.unstall g).owner k = d.owner k := by
  unfold Dev.owner Dev.unstall
  rw [graph_modGraph]
  by_cases h : k = g
  · subst h
    rw [if_pos rfl]
    cases d.graph k <;> rfl
  · rw [if_neg h]

theorem consume_colour (x : Census) (b : Bool) : (x.consume b).colour = x.colour := by
  unfold Census.consume
  split <;> rfl

theorem modCensus_colour (x : Cell) (g k : GraphId) {f : Census → Census} (hf : ∀ y, (f y).colour = y.colour) :
    ((x.modCensus g f).census k).colour = (x.census k).colour := by
  unfold Cell.modCensus Cell.census
  simp only [mget_mset]
  split
  · rw [hf, ‹k.toNat = g.toNat›]
  · rfl

theorem cellConsume_colour (d : Dev) (c : CellId) (g : GraphId) (b : Bool) (k : GraphId) :
    (d.cellConsume c g b).colour c k = d.colour c k := by
  unfold Dev.colour Dev.cellConsume
  rw [Dev.cell_unstall, Dev.cell_modCell_self, modCensus_colour _ _ _ (consume_colour · b)]

theorem cellConsume_sameReads (d : Dev) (c : CellId) (g : GraphId) (b : Bool) : SameReads c d (d.cellConsume c g b) :=
  ⟨by simp [Dev.cellConsume, Dev.unstall], by simp [Dev.cellConsume, Dev.unstall], by simp [Dev.cellConsume, Dev.unstall],
    by simp [Dev.cellConsume, Dev.unstall], fun k => unstall_owner _ g k, cellConsume_colour d c g b⟩

theorem consumeTokens_sameReads (d : Dev) (c : CellId) (ts : List Token) : SameReads c d (d.consumeTokens c ts) := by
  unfold Dev.consumeTokens
  induction ts generalizing d with
  | nil => exact .refl c d
  | cons t ts ih => exact (cellConsume_sameReads ..).trans (ih _)

section
variable {s : State} {d : Dev} {x : Disp} {opc : Nat} {sl : Slot} {rest : List Slot}

theorem begun_sameReads : SameReads x.cell d (begun d x sl rest) := by
  have h := (modLane_sameReads d x.cell x.lane fun l => { l with slots := rest }).trans
    (consumeTokens_sameReads _ x.cell ((sl.act.tokens.filter fun o => !o.sticky).map (·.tok)))
  unfold begun
  dsimp only
  split
  · exact h.trans (upsetFault_sameReads ..)
  · exact h

@[simp] theorem begun_clock : (begun d x sl rest).clock = d.clock := begun_sameReads.clock
@[simp] theorem begun_fbn : (begun d x sl rest).fbn = d.fbn := begun_sameReads.fbn
@[simp] theorem begun_fab : (begun d x sl rest).fab = d.fab := begun_sameReads.fab
@[simp] theorem begun_oringFn : (begun d x sl rest).hif.oringFn = d.hif.oringFn := begun_sameReads.oringFn
@[simp] theorem begun_owner (g : GraphId) : (begun d x sl rest).owner g = d.owner g := begun_sameReads.owner g
@[simp] theorem begun_colour (g : GraphId) : (begun d x sl rest).colour x.cell g = d.colour x.cell g := begun_sameReads.colour g

/-- Of its cell's pipeline the activation leaves everything but its slot. -/
theorem begun_pipe : ((begun d x sl rest).cell x.cell).pipe =
    { (d.cell x.cell).pipe with
      lanes := ((d.modLane x.cell x.lane fun l => { l with slots := rest }).cell x.cell).pipe.lanes } := by
  have h : ((begun d x sl rest).cell x.cell).pipe =
      ((d.modLane x.cell x.lane fun l => { l with slots := rest }).cell x.cell).pipe :=
    (leftSlot_sameWords d x sl rest).cell.pipe
  rw [h]
  simp [Dev.modLane]

@[simp] theorem begun_ct : ((begun d x sl rest).cell x.cell).pipe.ct = (d.cell x.cell).pipe.ct := by rw [begun_pipe]
@[simp] theorem begun_uid : ((begun d x sl rest).cell x.cell).pipe.uid = (d.cell x.cell).pipe.uid := by rw [begun_pipe]
@[simp] theorem begun_sendCtr : ((begun d x sl rest).cell x.cell).pipe.sendCtr = (d.cell x.cell).pipe.sendCtr := by
  rw [begun_pipe]

/-- The frame slots that a firing reads are those before its activation left. -/
@[simp] theorem begun_slot (a : Act) (i : Nat) : ((begun d x sl rest).cell x.cell).slot a i = (d.cell x.cell).slot a i :=
  slot_congr (begun_store d) a i

@[simp] theorem begun_frame (g : GraphId) (n : BitVec 12) :
    ((begun d x sl rest).cell x.cell).frame g n = (d.cell x.cell).frame g n := by
  simp [Cell.frame]

@[simp] theorem begun_newfNumber (g : GraphId) : (begun d x sl rest).newfNumber x.cell g = d.newfNumber x.cell g := by
  have h : (begun d x sl rest).newfNumber x.cell g =
      (d.modLane x.cell x.lane fun l => { l with slots := rest }).newfNumber x.cell g :=
    newfNumber_congr (leftSlot_sameWords d x sl rest) g
  have hstore : ((d.modLane x.cell x.lane fun l => { l with slots := rest }).cell x.cell).store = (d.cell x.cell).store := by
    simp [Dev.modLane]
  rw [h, Dev.newfNumber, hstore]
  rfl

@[simp] theorem begun_bv :
    (sl.firing x.cell x.lane).bv (begun d x sl rest) = ((sl.firing x.cell x.lane).b d.uct.entries).bits := by
  simp [Firing.bv]

/-! ### The dispatch of an opcode -/

/-- An activation that is no REP fires its own word (R82). -/
theorem firing_word_of_ready (h : Ready d x opc sl rest) (hrep : opc ≠ opcRep) : (sl.firing x.cell x.lane).word = sl.word :=
  firing_word_of_ne_rep (h.opcode ▸ hrep) ..

/-- An event raised by the firing carries the inputs that the device held before the activation left. -/
theorem firing_raise_begun (src : Nat) :
    (sl.firing x.cell x.lane).raise src (begun d x sl rest) =
      (begun d x sl rest).raise x.cell (some x.lane) sl.act.graph src
        { left := (sl.firing x.cell x.lane).a, right := (sl.firing x.cell x.lane).right d.uct.entries
          oframe := some sl.act.frame, oiter := sl.act.iter } := by
  simp only [Firing.raise, Firing.inputs, begun_uct]
  rfl

/-- A ready lane performs the operation of its opcode on the device that the activation has left, once the entry that the
operation may need is there. -/
theorem onDies_dispatch {spec : OpSpec} (h : Ready s.dev x opc sl rest) (hspec : opSpec opc = spec)
    (hentry : spec.need (sl.firing x.cell x.lane) s.dev = true → EntryFree s.dev x sl spec.wait) {effect : Firing → Dev → Dev}
    (heffect : spec.fire (sl.firing x.cell x.lane) (begun s.dev x sl rest) =
      effect (sl.firing x.cell x.lane) (begun s.dev x sl rest)) :
    onDies (dispatch opc x) s = .next (fired s x sl rest effect) := by
  subst hspec
  have hneeds : s.dev.slotNeeds x.cell x.lane sl = true → EntryFree s.dev x sl (opSpec opc).wait := by
    intro hn
    refine hentry ?_
    simp only [Dev.slotNeeds, h.opcode, Bool.and_eq_true] at hn
    exact hn.2
  have hdispatch := onDies_dispatchWith (isOp := fun o => o = opc) (fire := fun _ f d => (opSpec opc).fire f d) h (by simp)
    hneeds (opSpec_leavesSpare opc)
  exact hdispatch.trans (congrArg _ (fired_congr heffect))

/-- An operation that needs no entry. -/
theorem onDies_dispatch_plain {fire effect : Firing → Dev → Dev} (h : Ready s.dev x opc sl rest)
    (hspec : opSpec opc = .plain fire)
    (heffect : fire (sl.firing x.cell x.lane) (begun s.dev x sl rest) =
      effect (sl.firing x.cell x.lane) (begun s.dev x sl rest)) :
    onDies (dispatch opc x) s = .next (fired s x sl rest effect) :=
  onDies_dispatch h hspec (by simp [OpSpec.plain]) heffect

end

end Sys2Proof.Machine
end

section
/-! Tags, frame slots and windows (R126, R127, R132 to R134): settles TagDispatchDelivers and FrameWindowDispatch. -/

namespace Sys2Proof.Machine

open Sys2Proof.Claims

/-- A firing writes its own frame's record where that frame is bound and not being freed, and nothing else (R47, R50). -/
theorem writeFrame_eq {d e : Dev} {x : Disp} {sl : Slot} (hstore : (e.cell x.cell).store = (d.cell x.cell).store)
    (g : FrameRec → FrameRec) :
    e.writeFrame x.cell sl.act g =
      match ownFrame d x sl with
      | none => e
      | some r => withFrame e x sl (g r) := by
  unfold Dev.writeFrame ownFrame Cell.frame
  rw [hstore]
  cases mfind (d.cell x.cell).store.frames (frameKey sl.act.graph sl.act.frame) with
  | none => rfl
  | some r =>
    dsimp only
    split <;> rfl

section
variable {s : State} {x : Disp} {sl : Slot} {rest : List Slot}

theorem exec_sets (h : Ready s.dev x 0x144 sl rest) :
    exec (.sets x) s = .next (fired s x sl rest fun f d =>
      f.maker.one sl.word ⟨(f.b s.dev.uct.entries).bits, (f.b s.dev.uct.entries).vtype⟩
        (d.writeFrame x.cell sl.act fun r => r.setSlot (nbits (wMod sl.word) 0 2) f.a.bits)) := by
  refine onDies_dispatch_plain h (fire := fireSets) rfl ?_
  rw [fireSets, firing_word_of_ready h (by decide), begun_uct]
  rfl

theorem exec_loopw (h : Ready s.dev x 0x142 sl rest)
    (hb : ((sl.firing x.cell x.lane).b s.dev.uct.entries).bits.toNat ≤ 1024) :
    exec (.loopw x) s = .next (fired s x sl rest fun f d =>
      f.maker.one sl.word ⟨f.a.bits, f.a.vtype⟩ (d.writeFrame x.cell sl.act fun r =>
        { r with wbase := sl.act.iter, w := (f.b s.dev.uct.entries).bits.setWidth 11 })) := by
  refine onDies_dispatch_plain h (fire := fireLoopw) rfl ?_
  rw [fireLoopw, firing_word_of_ready h (by decide), begun_bv, if_neg (Nat.not_lt.mpr hb), bits_zero]
  rfl

/-- A window wider than 1024 (R132). -/
theorem exec_loopw_raises (h : Ready s.dev x 0x142 sl rest)
    (hb : 1024 < ((sl.firing x.cell x.lane).b s.dev.uct.entries).bits.toNat) :
    exec (.loopw x) s = .next (fired s x sl rest fun f d =>
      d.raise x.cell (some x.lane) sl.act.graph srcIllegalField
        { left := f.a, right := f.right s.dev.uct.entries, oframe := some sl.act.frame, oiter := sl.act.iter }) := by
  refine onDies_dispatch_plain h (fire := fireLoopw) rfl ?_
  rw [fireLoopw, begun_bv, if_pos hb]
  exact firing_raise_begun _

theorem exec_advw (h : Ready s.dev x 0x143 sl rest) :
    exec (.advw x) s = .next (fired s x sl rest fun f d =>
      d.writeFrame x.cell sl.act fun r => if r.w = 0 then r else
        { r with wbase := BitVec.ofNat 32 (min (r.wbase.toNat + (f.b s.dev.uct.entries).bits.toNat % 2 ^ 32) 0xFFFFFFFF) }) := by
  refine onDies_dispatch_plain h (fire := fireAdvw) rfl ?_
  rw [fireAdvw, begun_bv, nbits_zero]
  rfl

end

/-- Settles O9: what a tag operation reads of the device is the same before and after its activation leaves. -/
theorem tagDispatchDelivers : Obligations.TagDispatchDelivers := by
  intro s x sl rest b
  refine ⟨fun h => ?getit, fun h => ?setit, fun h => ?getf, fun h => ?setf, fun h => ?setcl, fun h => ?gets, exec_sets,
    exec_loopw, exec_advw⟩
  case getit =>
    refine onDies_dispatch_plain h (fire := fireGetit) rfl ?_
    rw [fireGetit, firing_word_of_ready h (by decide)]
    rfl
  case setit =>
    refine onDies_dispatch_plain h (fire := fireSetit) rfl ?_
    rw [fireSetit, firing_word_of_ready h (by decide), begun_bv, bits_zero]
    rfl
  case getf =>
    refine onDies_dispatch_plain h (fire := fireGetf) rfl ?_
    rw [fireGetf, firing_word_of_ready h (by decide), begun_fbn]
    rfl
  case setf =>
    refine onDies_dispatch_plain h (fire := fireSetf) rfl ?_
    rw [fireSetf, firing_word_of_ready h (by decide), begun_bv, bits_zero]
    rfl
  case setcl =>
    refine onDies_dispatch_plain h (fire := fireSetcl) rfl ?_
    rw [fireSetcl, firing_word_of_ready h (by decide), begun_bv, bits_zero]
    rfl
  case gets =>
    refine onDies_dispatch_plain h (fire := fireGets) rfl ?_
    have hslot := begun_slot (d := s.dev) (x := x) (sl := sl) (rest := rest) sl.act (nbits (wMod sl.word) 0 2)
    rw [fireGets, firing_word_of_ready h (by decide), ← hslot]
    rfl

/-- Settles O10: the record that a firing writes is the one its frame has before the activation leaves. -/
theorem frameWindowDispatch : Obligations.FrameWindowDispatch := by
  intro s x sl rest b write
  have hwrite := writeFrame_eq (begun_store (x := x) (sl := sl) (rest := rest) s.dev) (x := x) (sl := sl)
  refine ⟨fun h => ?sets, fun h => ?loopw, fun h => ?advw⟩
  case sets =>
    rw [exec_sets h]
    exact congrArg _ (fired_congr (congrArg _ (hwrite _)))
  case loopw =>
    by_cases hb : (b (sl.firing x.cell x.lane)).bits.toNat ≤ 1024
    · rw [exec_loopw h hb]
      refine congrArg _ (fired_congr ?_)
      rw [if_pos hb]
      exact congrArg _ (hwrite _)
    · rw [exec_loopw_raises h (Nat.not_le.mp hb)]
      refine congrArg _ (fired_congr ?_)
      rw [if_neg hb]
  case advw =>
    rw [exec_advw h]
    exact congrArg _ (fired_congr (hwrite _))

end Sys2Proof.Machine
end

section
/-! NEWF and FREEF (R49, R50, R128 to R131): settles NewfBindsAndFreefFrees. -/

namespace Sys2Proof.Machine

open Sys2Proof.Claims

/-! ### Continuation words and the inputs of NEWF and FREEF -/

theorem cwOk_eq_true_iff {w : Word} : cwOk w = true ↔ cwPort w ≠ 3 ∧ nbits w 14 10 = 0 := by
  simp [cwOk]

theorem cwOk_eq_false_iff {w : Word} : cwOk w = false ↔ cwPort w = 3 ∨ nbits w 14 10 ≠ 0 := by
  rw [← Bool.not_eq_true, cwOk_eq_true_iff]
  tauto

/-- An opcode of the map that has no right port has no right operand (R68). -/
theorem right_eq_none {f : Firing} {uct : Map Reg} {info : OpInfo} (hinfo : opInfo uct (wOpc f.word) = some info)
    (hright : info.right = false) : f.right uct = none := by
  simp [Firing.right, usesRight, hinfo, hright]

/-! ### NEWF -/

section
variable {f : Firing} {d : Dev}

theorem newfBad_iff : newfBad f = true ↔ wMod f.word = 2 ∧ (cwPort f.a.bits = 3 ∨ nbits f.a.bits 14 10 ≠ 0) := by
  simp [newfBad, cwOk_eq_false_iff]

/-- NEWF needs an entry when its word is good and no number is free (R130). -/
theorem newfNeeds_iff : newfNeeds f d = true ↔ newfBad f = false ∧ d.newfNumber f.cell f.act.graph = none := by
  simp [newfNeeds]

theorem fireNewf_raises (hbad : newfBad f = true) : fireNewf f d = f.raise srcIllegalField d := if_pos hbad

theorem fireNewf_binds {n : BitVec 12} (hgood : ¬newfBad f = true) (hn : d.newfNumber f.cell f.act.graph = some n) :
    fireNewf f d = newfDone f.maker f.word n d := by
  rw [fireNewf, if_neg hgood, hn]

theorem fireNewf_waits (hgood : ¬newfBad f = true) (hn : d.newfNumber f.cell f.act.graph = none) :
    fireNewf f d = (d.takeEntry f (.newf false)).1.evict f.cell f.act.graph := by
  rw [fireNewf, if_neg hgood, hn]

/-- FREEF of a graph's entry frame (R49). -/
theorem fireFreef_raises {r : FrameRec} (hr : (d.cell f.cell).frame f.act.graph f.act.frame = some r)
    (hentry : r.entry = true) :
    fireFreef f d = f.raise srcIllegalField d := by
  unfold fireFreef
  rw [hr]
  exact if_pos hentry

theorem fireFreef_frees (h : ∀ r, (d.cell f.cell).frame f.act.graph f.act.frame = some r → r.entry = false) :
    fireFreef f d = d.freeFrame f.cell (frameKey f.act.graph f.act.frame) := by
  unfold fireFreef
  cases hr : (d.cell f.cell).frame f.act.graph f.act.frame with
  | none => rfl
  | some r => simp [h r hr]

end

section
variable {s : State} {x : Disp} {sl : Slot} {rest : List Slot}

/-- What a NEWF binds and sends, by what the device held before its activation left. -/
theorem newfDone_begun (d : Dev) (w : Word) (n : BitVec 12) :
    newfDone (sl.firing x.cell x.lane).maker w n (begun d x sl rest) =
      { (sl.firing x.cell x.lane).maker with frame := n }.results
        (if wMod w = 1 then [(false, .local_ (wD0 w))] else resultPlan .one w (fanoutList (d.cell x.cell).store.fo w))
        (some ⟨(sl.firing x.cell x.lane).a.bits, (sl.firing x.cell x.lane).a.vtype⟩) none
        ((begun d x sl rest).bindFrame x.cell sl.act.graph n (newfParent d x.cell sl.act w)) := by
  have hparent : newfParent (begun d x sl rest) x.cell sl.act w = newfParent d x.cell sl.act w := by
    simp only [newfParent, begun_fbn]
  have hplan (p : Option Cont) : ((begun d x sl rest).bindFrame x.cell sl.act.graph n p).plan x.cell .one w =
      resultPlan .one w (fanoutList (d.cell x.cell).store.fo w) := by
    simp [Dev.plan, Dev.bindFrame]
  rw [← hparent, ← hplan (newfParent (begun d x sl rest) x.cell sl.act w)]
  rfl

theorem exec_newf (h : Ready s.dev x 0x140 sl rest)
    (hentry : newfNeeds (sl.firing x.cell x.lane) s.dev = true → EntryFree s.dev x sl true) {effect : Firing → Dev → Dev}
    (heffect : fireNewf (sl.firing x.cell x.lane) (begun s.dev x sl rest) =
      effect (sl.firing x.cell x.lane) (begun s.dev x sl rest)) :
    exec (.newf x) s = .next (fired s x sl rest effect) :=
  onDies_dispatch (spec := { need := newfNeeds, wait := true, fire := fireNewf }) h rfl hentry heffect

theorem exec_freef (h : Ready s.dev x 0x141 sl rest) {effect : Firing → Dev → Dev}
    (heffect : fireFreef (sl.firing x.cell x.lane) (begun s.dev x sl rest) =
      effect (sl.firing x.cell x.lane) (begun s.dev x sl rest)) :
    exec (.freef x) s = .next (fired s x sl rest effect) :=
  onDies_dispatch_plain h rfl heffect

/-- The inputs of a NEWF or a FREEF are its left operand alone. -/
theorem firing_raise_left {opc : Nat} {d : Dev} {info : OpInfo} (h : Ready d x opc sl rest) (hrep : opc ≠ opcRep)
    (hinfo : opInfo d.uct.entries opc = some info) (hright : info.right = false) (src : Nat) :
    (sl.firing x.cell x.lane).raise src (begun d x sl rest) =
      (begun d x sl rest).raise x.cell (some x.lane) sl.act.graph src
        { left := (sl.firing x.cell x.lane).a, right := none, oframe := some sl.act.frame, oiter := sl.act.iter } := by
  have hopc : wOpc (sl.firing x.cell x.lane).word = opc := by rw [firing_word_of_ready h hrep, h.opcode]
  rw [firing_raise_begun, right_eq_none (hopc ▸ hinfo) hright]

end

/-! ### FREEF -/

section
variable (d : Dev) (c : CellId) (k : Nat)

theorem sweepFreeing_store : ((d.sweepFreeing c).cell c).store =
    (d.cell c).store.sweepFreeing (d.cell c).pipe.acts := by
  simp [Dev.sweepFreeing]

@[simp] theorem sweepFreeing_ms : ((d.sweepFreeing c).cell c).store.ms = (d.cell c).store.ms := by
  rw [sweepFreeing_store, CellStore.sweepFreeing]
@[simp] theorem sweepFreeing_ring : ((d.sweepFreeing c).cell c).store.ring = (d.cell c).store.ring := by
  rw [sweepFreeing_store, CellStore.sweepFreeing]
@[simp] theorem sweepFreeing_reel : ((d.sweepFreeing c).cell c).store.reel = (d.cell c).store.reel := by
  rw [sweepFreeing_store, CellStore.sweepFreeing]

/-- A freed frame keeps its constants in the matching store and nothing else. -/
theorem freeFrame_ms : ((d.freeFrame c k).cell c).store.ms =
    (d.cell c).store.ms.filter fun e => !(!e.const && decide (frameKey e.tok.graph e.tok.frame = k)) := by
  unfold Dev.freeFrame
  dsimp only
  rw [sweepFreeing_ms, (consumeTokens_sameWords ..).cell.store, Dev.cell_modCell_self]

theorem freeFrame_ring : ((d.freeFrame c k).cell c).store.ring = (d.cell c).store.ring.filter fun r => r.key ≠ k := by
  unfold Dev.freeFrame
  dsimp only
  rw [sweepFreeing_ring, (consumeTokens_sameWords ..).cell.store, Dev.cell_modCell_self]

theorem freeFrame_reel : ((d.freeFrame c k).cell c).store.reel =
    if (d.cell c).store.reel = some k then none else (d.cell c).store.reel := by
  unfold Dev.freeFrame
  dsimp only
  rw [sweepFreeing_reel, (consumeTokens_sameWords ..).cell.store, Dev.cell_modCell_self]

/-- No token of a freed frame waits, is spilled or is being reeled back (R50). -/
theorem freeFrame_gone :
    (∀ e ∈ ((d.freeFrame c k).cell c).store.ms, frameKey e.tok.graph e.tok.frame = k → e.const = true) ∧
      (∀ r ∈ ((d.freeFrame c k).cell c).store.ring, r.key ≠ k) ∧ ((d.freeFrame c k).cell c).store.reel ≠ some k := by
  rw [freeFrame_ms, freeFrame_ring, freeFrame_reel]
  refine ⟨fun e he hk => ?ms, fun r hr => ?ring, ?reel⟩
  case ms =>
    have hkept := (List.mem_filter.mp he).2
    simpa [hk] using hkept
  case ring => simpa using (List.mem_filter.mp hr).2
  case reel =>
    split
    · simp
    · assumption

end

/-- Settles O11: NEWF finds the same number before and after its activation leaves, and what FREEF discards stays discarded when
FREEING frames are swept. -/
theorem newfBindsAndFreefFrees : Obligations.NewfBindsAndFreefFrees := by
  refine ⟨fun s x sl rest h => ?newf, fun s x sl rest h => ?freef⟩
  case newf =>
    have hword := firing_word_of_ready h (by decide)
    intro f bad parent
    have hbad : newfBad f = true ↔ bad := by rw [newfBad_iff, hword]
    have hnumber : (begun s.dev x sl rest).newfNumber f.cell f.act.graph = s.dev.newfNumber f.cell f.act.graph :=
      begun_newfNumber _
    refine ⟨fun n hgood hn => ?binds, fun hb => ?raises, fun hgood hn hfree => ?waits⟩
    case binds =>
      refine exec_newf h (fun hneeds => absurd ((newfNeeds_iff.mp hneeds).2.symm.trans hn) (by simp)) ?_
      rw [fireNewf_binds (mt hbad.mp hgood) (hnumber.trans hn), hword, newfDone_begun]
      rfl
    case raises =>
      have hb := hbad.mpr hb
      refine exec_newf h (fun hneeds => absurd ((newfNeeds_iff.mp hneeds).1.symm.trans hb) (by simp)) ?_
      rw [fireNewf_raises hb]
      exact firing_raise_left h (by decide) rfl rfl _
    case waits =>
      refine exec_newf h (fun _ => hfree) ?_
      rw [fireNewf_waits (mt hbad.mp hgood) (hnumber.trans hn)]
      rfl
  case freef =>
    have hframe : ((begun s.dev x sl rest).cell x.cell).frame sl.act.graph sl.act.frame =
        (s.dev.cell x.cell).frame sl.act.graph sl.act.frame := begun_frame _ _
    intro k
    refine ⟨fun r hr hentry => ?entryFrame, fun hfree => ?frees⟩
    case entryFrame =>
      refine exec_freef h ?_
      rw [fireFreef_raises (hframe.trans hr) hentry]
      exact firing_raise_left h (by decide) rfl rfl _
    case frees =>
      have hexec : exec (.freef x) s = .next (fired s x sl rest fun _ d => d.freeFrame x.cell k) :=
        exec_freef h (fireFreef_frees fun r hr => hfree r (hframe.symm.trans hr))
      refine ⟨hexec, fun t ht => ?_⟩
      rw [hexec] at ht
      cases ht
      have hgone := freeFrame_gone (begun s.dev x sl rest) x.cell k
      simpa [fired, frameKey] using hgone

end Sys2Proof.Machine
end

section
/-! SEND and SENDO (R135 to R137): settles SendDispatch. -/

namespace Sys2Proof.Machine

open Sys2Proof.Claims

section
variable {s : State} {d : Dev} {x : Disp} {sl : Slot} {rest : List Slot}

/-- An addressed token has the fields that the device gave it before the activation left (R29). -/
theorem addressed_begun (stream : BitVec 4) (seq : BitVec 9) (w : Word) (iter : BitVec 32) :
    (sl.firing x.cell x.lane).maker.addressed (begun d x sl rest) stream seq w iter (sl.firing x.cell x.lane).resultA =
      TokenFields.pack
        { node := cwNode w, cell := cwCell w, graph := sl.act.graph, cls := sl.act.cls, stream := stream, seq := seq, kind := 0
          vtype := (sl.firing x.cell x.lane).a.vtype, poison := sl.act.poisoned, epoch := d.fab.cur
          colour := ((d.cell x.cell).census sl.act.graph).colour, frame := cwFrame w, instr := cwInstr w, port := cwPort w
          iter := iter, value := (sl.firing x.cell x.lane).a.bits } := by
  have hfab := begun_fab (d := d) (x := x) (sl := sl) (rest := rest)
  have hcolour := begun_colour (d := d) (x := x) (sl := sl) (rest := rest) sl.act.graph
  rw [← hfab, ← Dev.colour, ← hcolour]
  rfl

theorem fireSend_good {f : Firing} (h : cwOk (f.bv d) = true) :
    fireSend f d = f.maker.one f.word f.resultA (d.sendToken f.cell (some f.lane)
      (f.maker.addressed d 0 0 (f.bv d) (topIter (nbits (wMod f.word) 0 2) f.act.iter) f.resultA)) := if_pos h

theorem fireSendo_good {f : Firing} {k : Nat} {seq : BitVec 9} (h : cwOk (f.bv d) = true)
    (hk : k = streamKey f.act.graph (wMod f.word)) (hseq : mget 0 (d.cell f.cell).pipe.sendCtr k = seq) :
    fireSendo f d =
      f.maker.one f.word f.resultA
        ((d.sendToken f.cell (some f.lane) (f.maker.addressed d (wMod f.word) seq (f.bv d) f.act.iter f.resultA)).modPipe
          f.cell fun p => { p with sendCtr := mset 0 p.sendCtr k (seq + 1) }) := by
  subst hk hseq
  exact if_pos h

theorem fireSend_bad {f : Firing} (h : ¬cwOk (f.bv d) = true) : fireSend f d = f.raise srcIllegalField d := if_neg h

theorem fireSendo_bad {f : Firing} (h : ¬cwOk (f.bv d) = true) : fireSendo f d = f.raise srcIllegalField d := if_neg h

end

/-- Settles O12: the token of a send, its counter and the inputs of its event are those before the activation leaves. -/
theorem sendDispatch : Obligations.SendDispatch := by
  intro s x sl rest f w good k tok
  have hw : f.bv (begun s.dev x sl rest) = w := begun_bv
  have hok : cwOk (f.bv (begun s.dev x sl rest)) = true ↔ good := by rw [hw, cwOk_eq_true_iff]
  refine ⟨fun h hgood => ?send, fun h hgood => ?sendo, fun c hc h hbad => ?bad⟩
  case send =>
    refine onDies_dispatch_plain h (fire := fireSend) rfl ?_
    rw [fireSend_good (hok.mpr hgood), hw, addressed_begun, firing_word_of_ready h (by decide)]
    rfl
  case sendo =>
    refine onDies_dispatch_plain h (fire := fireSendo) rfl ?_
    have hword := firing_word_of_ready h (by decide)
    have hseq : mget 0 ((begun s.dev x sl rest).cell f.cell).pipe.sendCtr k = mget 0 (s.dev.cell x.cell).pipe.sendCtr k :=
      congrArg (mget 0 · k) begun_sendCtr
    rw [fireSendo_good (k := k) (hok.mpr hgood) (by rw [hword]; rfl) hseq, hw, addressed_begun, hword]
    rfl
  case bad =>
    have hbad := mt hok.mp hbad
    simp only [List.mem_cons, List.not_mem_nil, or_false] at hc
    obtain rfl | rfl := hc
    · exact onDies_dispatch_plain h (fire := fireSend) rfl ((fireSend_bad hbad).trans (firing_raise_begun _))
    · exact onDies_dispatch_plain h (fire := fireSendo) rfl ((fireSendo_bad hbad).trans (firing_raise_begun _))

end Sys2Proof.Machine
end

section
/-! Memory, structure, atomic and lock opcodes (R59, R138 to R146, R509): settles MemoryDispatchIssues and
LockDispatchIssues. -/

namespace Sys2Proof.Machine

open Sys2Proof.Claims

/-! ### What the issuing cell answers itself -/

theorem isLock_eq (op : MemOp) : (decide (op = .lock) || decide (op = .trylock) || decide (op = .unlock)) = op.isLock := by
  cases op <;> rfl

theorem ne_lock_of_not_isLock {op : MemOp} (h : op.isLock = false) : op ≠ .lock := by
  rintro rfl
  cases h

theorem bit_toNat {n : Nat} (w : BitVec n) (i : Nat) : bit w i = decide (w.toNat / 2 ^ i % 2 = 1) := by
  rw [bit, BitVec.getLsbD, Nat.testBit_eq_decide_div_mod_eq]

/-- The checks of R138 on an address as a number. -/
theorem addrBad_eq_false_iff {a : Word} {sz : BitVec 2} {hostOk : Bool} :
    addrBad a sz hostOk = false ↔
      a.toNat / 2 ^ 48 = 0 ∧ a.toNat % szBytes sz = 0 ∧ (a.toNat < hbmEnd ∨ (2 ^ 47 ≤ a.toNat ∧ hostOk = true)) := by
  have hlt := a.isLt
  have hhigh : nbits a 48 16 = a.toNat / 2 ^ 48 := by
    rw [nbits, Nat.shiftRight_eq_div_pow]
    omega
  by_cases h48 : a.toNat / 2 ^ 48 = 0
  · have haddr : nbits a 0 48 = a.toNat := by
      rw [nbits_zero]
      omega
    have hhost : bit a 47 = decide (2 ^ 47 ≤ a.toNat) := by
      rw [bit_toNat, decide_eq_decide]
      omega
    by_cases h47 : 2 ^ 47 ≤ a.toNat
    · have hhbm : ¬a.toNat < hbmEnd := by
        rw [hbmEnd]
        omega
      simp only [addrBad, hhigh, haddr, hhost, h48, h47, hhbm]
      simp
    · simp only [addrBad, hhigh, haddr, hhost, h48, h47]
      simp
  · simp only [addrBad, hhigh, h48, ne_eq, not_false_eq_true, decide_true, Bool.true_or, Bool.true_eq_false, false_and]

/-- A memory opcode with a clean address leaves the cell when the address is good, and meets MEM_ERROR otherwise (R138,
R140). -/
theorem selfAnswer_mem {op : MemOp} {a : Val} {sz : BitVec 2} (hop : op.isLock = false) (hclean : a.poison = false) :
    selfAnswer op a sz = if addrBad a.bits sz (op = .ld || op = .st) then some .memError else none := by
  simp only [selfAnswer, hclean, isLock_eq, hop, Bool.false_eq_true, if_false]

/-- A poisoned address is answered with a poisoned 0 and not checked (R59). -/
theorem selfAnswer_poisoned {op : MemOp} {a : Val} {sz : BitVec 2} (h : a.poison = true) :
    selfAnswer op a sz = some (.value 0 true) := if_pos h

/-- The checks of R509 on the address of a lock opcode, in their order. -/
theorem selfAnswer_lock {op : MemOp} {a : Val} {sz : BitVec 2} (hop : op.isLock = true) (hclean : a.poison = false) :
    selfAnswer op a sz =
      if nbits a.bits 0 3 ≠ 0 then some (.value (lockWord (bits a.bits 0 48) stUnaligned) false)
      else if nbits a.bits 62 2 ≠ 0 ∨ (op ≠ .lock ∧ nbits a.bits 48 14 ≠ 0) ∨ hbmEnd ≤ nbits a.bits 0 48 then
        some (.value (lockWord (bits a.bits 0 48) stBadValue) false)
      else none := by
  simp [selfAnswer, hclean, isLock_eq, hop, or_assoc]

/-! ### The request takes an entry -/

/-- The entry that a request takes. -/
def MemOp.entryKind (op : MemOp) (r : MemReq) : CtKind := if op.isLock then .lockReq r else .mem r

/-- The size that the checks of an address use: a lock word is 8 bytes. -/
def MemOp.checkSize (op : MemOp) (w : Word) : BitVec 2 := if op.isLock then 0 else bits (wMod w) 0 2

section
variable {op : MemOp} {f : Firing} {d : Dev} {r : MemReq}

theorem fireMem_leaves (hr : f.request op d = r) (h : selfAnswer op f.a (op.checkSize f.word) = none) :
    fireMem op f d =
      let t := entryTaken d f (op.entryKind r)
      t.1.sendPkt f.cell (.req { r with src := .cell f.cell t.2.1 t.2.2 }) := by
  subst hr
  unfold fireMem
  dsimp only
  rw [isLock_eq, ← MemOp.checkSize, h]
  rfl

theorem fireMem_answers {ans : Answer} (hr : f.request op d = r) (h : selfAnswer op f.a (op.checkSize f.word) = some ans) :
    fireMem op f d =
      let t := entryTaken d f (op.entryKind r)
      t.1.modPipe f.cell fun p =>
        { p with inbox := p.inbox ++
          [.rsp { dst := f.cell, entry := t.2.1, uid := t.2.2, graph := f.act.graph, ans := ans }] } := by
  subst hr
  unfold fireMem
  dsimp only
  rw [isLock_eq, ← MemOp.checkSize, h]
  rfl

end

section
variable {s : State} {x : Disp} {sl : Slot} {rest : List Slot}

/-- A request takes its operands as they were before the activation left. -/
theorem request_begun (op : MemOp) (d : Dev) :
    (sl.firing x.cell x.lane).request op (begun d x sl rest) = (sl.firing x.cell x.lane).request op d := by
  have hslot : ((begun d x sl rest).cell (sl.firing x.cell x.lane).cell).slot (sl.firing x.cell x.lane).act 1 =
    (d.cell (sl.firing x.cell x.lane).cell).slot (sl.firing x.cell x.lane).act 1 := begun_slot _ _
  simp only [Firing.request, begun_uct, hslot]

/-- A row agrees with the model: its command dispatches its opcode, whose operation issues `op`. -/
structure IsMem (row : MemRow) : Prop where
  exec_eq : ∀ x s, exec (row.cmd x) s = onDies (dispatch row.opc x) s
  opSpec_eq : opSpec row.opc = .mem row.op
  ne_rep : row.opc ≠ opcRep

theorem exec_mem {row : MemRow} (hrow : IsMem row) (h : Ready s.dev x row.opc sl rest)
    (hfree : EntryFree s.dev x sl (row.op = .lds || row.op = .lock)) {effect : Firing → Dev → Dev}
    (heffect : fireMem row.op (sl.firing x.cell x.lane) (begun s.dev x sl rest) =
      effect (sl.firing x.cell x.lane) (begun s.dev x sl rest)) :
    exec (row.cmd x) s = .next (fired s x sl rest effect) :=
  (hrow.exec_eq x s).trans (onDies_dispatch h hrow.opSpec_eq (fun _ => hfree) heffect)

end

/-! ### Memory, structure and atomic opcodes -/

theorem memoryRows_isMem : ∀ row ∈ memoryRows, IsMem row ∧ row.op.isLock = false := by
  intro row h
  fin_cases h <;> exact ⟨⟨fun _ _ => rfl, rfl, by decide⟩, rfl⟩

/-- The request of the statement is the one that the firing issues. -/
theorem request_eq_memoryRequest {d : Dev} {x : Disp} {sl : Slot} {op : MemOp} (hop : op.isLock = false)
    (hword : (sl.firing x.cell x.lane).word = sl.word) :
    (sl.firing x.cell x.lane).request op d = memoryRequest d x sl op := by
  have hsize : (bits (wMod sl.word) 0 2 = 1) = (nbits (wMod sl.word) 0 2 = 1) := by
    rw [← BitVec.toNat_inj, bits_toNat]
    rfl
  simp only [Firing.request, memoryRequest, hword, isLock_eq, hop, hsize, Bool.and_eq_true, decide_eq_true_eq,
    Bool.false_eq_true, if_false]
  simp only [ne_lock_of_not_isLock hop, if_false]
  simp only [bits_zero]
  rfl

theorem addressGood_iff {sl : Slot} {op : MemOp} {a : Word} :
    addressGood sl op a ↔ addrBad a (bits (wMod sl.word) 0 2) (op = .ld || op = .st) = false := by
  simp [addrBad_eq_false_iff, addressGood, bits_zero, hbmEnd]

/-- Settles O13: the checks on the address decide between the two ends of a request, whose operands are those before its
activation left. -/
theorem memoryDispatchIssues : Obligations.MemoryDispatchIssues := by
  intro row hmem s x sl rest h hfree a r
  obtain ⟨hrow, hop⟩ := memoryRows_isMem row hmem
  have hword := firing_word_of_ready h hrow.ne_rep
  have hfree : EntryFree s.dev x sl (row.op = .lds || row.op = .lock) := by simpa [ne_lock_of_not_isLock hop] using hfree
  have hr : (sl.firing x.cell x.lane).request row.op (begun s.dev x sl rest) = r := by
    rw [request_begun, request_eq_memoryRequest hop hword]
  have hsize : row.op.checkSize (sl.firing x.cell x.lane).word = bits (wMod sl.word) 0 2 := by
    simp [MemOp.checkSize, hop, hword]
  have hkind : row.op.entryKind r = .mem r := by simp [MemOp.entryKind, hop]
  refine ⟨fun hclean hgood => ?leaves, fun ans hans => ?answered⟩
  case leaves =>
    have hself : selfAnswer row.op a (row.op.checkSize (sl.firing x.cell x.lane).word) = none := by
      rw [hsize, selfAnswer_mem hop hclean, addressGood_iff.mp hgood]
      rfl
    refine exec_mem hrow h hfree ?_
    rw [fireMem_leaves hr hself, hkind]
    rfl
  case answered =>
    have hself : selfAnswer row.op a (row.op.checkSize (sl.firing x.cell x.lane).word) = some ans := by
      obtain ⟨hpoison, rfl⟩ | ⟨hclean, hbad, rfl⟩ := hans
      · exact selfAnswer_poisoned hpoison
      · rw [addressGood_iff, Bool.not_eq_false] at hbad
        rw [hsize, selfAnswer_mem hop hclean, hbad]
        rfl
    refine exec_mem hrow h hfree ?_
    rw [fireMem_answers hr hself, hkind]
    rfl

/-! ### Lock opcodes -/

theorem lockRows_isMem : ∀ row ∈ lockRows, IsMem row ∧ row.op.isLock = true ∧ row.op ≠ .lds ∧ row.op ≠ .acas := by
  intro row h
  fin_cases h <;> exact ⟨⟨fun _ _ => rfl, rfl, by decide⟩, rfl, by decide, by decide⟩

/-- Settles O14: the checks of R509 decide between the two ends of a lock request. -/
theorem lockDispatchIssues : Obligations.LockDispatchIssues := by
  intro row hlocks s x sl rest h hfree a b r bad word
  obtain ⟨hrow, hop, hlds, hacas⟩ := lockRows_isMem row hlocks
  have hword := firing_word_of_ready h hrow.ne_rep
  have hfree : EntryFree s.dev x sl (row.op = .lds || row.op = .lock) := by simpa [hlds] using hfree
  have hr : (sl.firing x.cell x.lane).request row.op (begun s.dev x sl rest) = r := by
    rw [request_begun]
    simp only [Firing.request, hword, isLock_eq, hop, hacas, if_true, if_false, bits_zero, bit, decide_false, Bool.false_and,
      Bool.false_eq_true, r]
    rfl
  have hkind : row.op.entryKind r = .lockReq r := by simp [MemOp.entryKind, hop]
  refine ⟨fun hclean haligned hgood => ?leaves, fun v p hans => ?answered⟩
  case leaves =>
    have hself : selfAnswer row.op a (row.op.checkSize (sl.firing x.cell x.lane).word) = none := by
      rw [selfAnswer_lock hop hclean, if_neg (not_not.mpr haligned)]
      exact if_neg hgood
    refine exec_mem hrow h hfree ?_
    rw [fireMem_leaves hr hself, hkind]
    rfl
  case answered =>
    have hself : selfAnswer row.op a (row.op.checkSize (sl.firing x.cell x.lane).word) = some (.value v p) := by
      obtain ⟨hpoison, rfl, rfl⟩ | ⟨hclean, hunaligned, rfl, rfl⟩ | ⟨hclean, haligned, hbad, rfl, rfl⟩ := hans
      · exact selfAnswer_poisoned hpoison
      · rw [selfAnswer_lock hop hclean, if_pos hunaligned, bits_zero]
        rfl
      · rw [selfAnswer_lock hop hclean, if_neg (not_not.mpr haligned), bits_zero]
        exact if_pos hbad
    refine exec_mem hrow h hfree ?_
    rw [fireMem_answers hr hself, hkind]
    rfl

end Sys2Proof.Machine
end

section
/-! FENCE, OUT, TIMER, RETE and NOP (R143, R148, R150 to R152): settles ControlDispatchActs. -/

namespace Sys2Proof.Machine

open Sys2Proof.Claims

/-! ### What the operations do, case by case -/

section
variable {f : Firing} {d : Dev}

theorem fireOut_assigned (h : outAssigned f d = true) :
    fireOut f d =
      (d.takeEntry f (.out (outRing (f.bv d)) (bits (f.bv d) 10 10) (wMod f.word = 1) (d.cell f.cell).pipe.uid)).1 := if_pos h

theorem fireOut_raises (h : ¬outAssigned f d = true) : fireOut f d = f.raise srcIllegalField d := if_neg h

/-- The top handler level is the one that a RETE names (R150, R280). -/
def Firing.endsTop (f : Firing) (d : Dev) : Prop :=
  ∃ l, (d.cell f.cell).ev.stack.getLast? = some l ∧ l.pri = bits f.a.bits 0 8 ∧ l.graph = f.act.graph

theorem fireRete_pops (h : f.endsTop d) :
    fireRete f d = d.modEv f.cell fun e => { e with stack := e.stack.dropLast } := by
  obtain ⟨l, htop, hpri, hgraph⟩ := h
  simp [fireRete, htop, hpri, hgraph]

theorem fireRete_faults (h : ¬f.endsTop d) : fireRete f d = d.prioStack f.cell := by
  unfold fireRete
  cases htop : (d.cell f.cell).ev.stack.getLast? with
  | none => rfl
  | some l =>
    have hother : ¬(l.pri = bits f.a.bits 0 8 ∧ l.graph = f.act.graph) := fun hl => h ⟨l, htop, hl⟩
    simp [hother]

end

/-! ### What they read is the same before and after the activation leaves -/

section
variable {s : State} {d : Dev} {x : Disp} {sl : Slot} {rest : List Slot}

theorem begun_openRequests (g : GraphId) :
    ((begun d x sl rest).cell x.cell).openRequests g = (d.cell x.cell).openRequests g := by
  simp [Cell.openRequests, Cell.entriesOf]

theorem outAssigned_iff : outAssigned (sl.firing x.cell x.lane) d = true ↔
    mget 0 d.hif.oringFn (((sl.firing x.cell x.lane).b d.uct.entries).bits.toNat % 1024) = d.owner sl.act.graph := by
  simp only [outAssigned, Dev.oringFn, outRing, bits_toNat, nbits_zero, decide_eq_true_eq]
  rfl

theorem begun_outAssigned :
    outAssigned (sl.firing x.cell x.lane) (begun d x sl rest) = outAssigned (sl.firing x.cell x.lane) d := by
  rw [Bool.eq_iff_iff, outAssigned_iff, outAssigned_iff, begun_oringFn, begun_owner, begun_uct]

theorem exec_out (h : Ready s.dev x 0x1C1 sl rest)
    (hentry : outAssigned (sl.firing x.cell x.lane) s.dev = true → EntryFree s.dev x sl true) {effect : Firing → Dev → Dev}
    (heffect : fireOut (sl.firing x.cell x.lane) (begun s.dev x sl rest) =
      effect (sl.firing x.cell x.lane) (begun s.dev x sl rest)) :
    exec (.out x) s = .next (fired s x sl rest effect) :=
  onDies_dispatch (spec := { need := outAssigned, wait := true, fire := fireOut }) h rfl hentry heffect

end

/-- Settles O15: the open requests, the ring's function and the handler stack that the operations look at are those before the
activation leaves. -/
theorem controlDispatchActs : Obligations.ControlDispatchActs := by
  intro s x sl rest f b owner mine top pops
  have hbv : f.bv (begun s.dev x sl rest) = b := begun_bv
  have hmine : outAssigned f s.dev = true ↔ mine := outAssigned_iff
  have hassigned : outAssigned f (begun s.dev x sl rest) = outAssigned f s.dev := begun_outAssigned
  have hev : ((begun s.dev x sl rest).cell f.cell).ev = (s.dev.cell x.cell).ev := begun_ev s.dev
  have huid : ((begun s.dev x sl rest).cell f.cell).pipe.uid = (s.dev.cell x.cell).pipe.uid := begun_uid
  have hends : f.endsTop (begun s.dev x sl rest) ↔ pops := by
    rw [Firing.endsTop, hev, bits_zero]
    rfl
  refine ⟨fun h => ?nop, fun h hfree => ?fence, fun h hfree => ?timer, fun h hm hfree => ?out, fun h hm => ?outRaises,
    fun h hp => ?rete, fun h hp => ?reteFaults⟩
  case nop => exact onDies_dispatch_plain h (fire := fun _ d => d) rfl rfl
  case fence =>
    refine onDies_dispatch (spec := { need := fun _ _ => true, wait := false, fire := fireFence }) h rfl (fun _ => hfree) ?_
    have hopen : ((begun s.dev x sl rest).cell f.cell).openRequests f.act.graph =
        (s.dev.cell x.cell).openRequests sl.act.graph := begun_openRequests _
    dsimp only
    rw [fireFence, hopen]
    rfl
  case timer =>
    refine onDies_dispatch (spec := { need := fun _ _ => true, wait := true, fire := fireTimer }) h rfl (fun _ => hfree) ?_
    dsimp only
    rw [fireTimer, hbv, nbits_zero, begun_clock]
  case out =>
    refine exec_out h (fun _ => hfree) ?_
    rw [fireOut_assigned (hassigned.trans (hmine.mpr hm)), hbv, outRing, bits_zero, huid, firing_word_of_ready h (by decide)]
  case outRaises =>
    have hno := mt hmine.mp hm
    refine exec_out h (fun ha => absurd ha hno) ?_
    rw [fireOut_raises (hassigned ▸ hno)]
    exact firing_raise_begun _
  case rete => exact onDies_dispatch_plain h (fire := fireRete) rfl (fireRete_pops (hends.mpr hp))
  case reteFaults => exact onDies_dispatch_plain h (fire := fireRete) rfl (fireRete_faults (mt hends.mp hp))

end Sys2Proof.Machine
end

section
/-! Loads, stores and atomics at a stack controller (R3, R139, R142, R237, R241, R249, R250): settles LoadsAndStoresOfHbm and
AtomicsOfHbm. -/

namespace Sys2Proof.Machine

open Sys2Proof.Claims

/-! ### Bytes of a word -/

/-- Byte i of a value. -/
def byteOf (v : Word) (i : Nat) : Byte := (v >>> (8 * i)).setWidth 8

/-- Two words are equal when their eight bytes are. -/
theorem eq_of_byteOf {v w : Word} (h : ∀ i < 8, byteOf v i = byteOf w i) : v = w := by
  apply BitVec.eq_of_getLsbD_eq
  intro j hj
  have hb := congrArg (·.getLsbD (j % 8)) (h (j / 8) (by omega))
  have hlt : j % 8 < 8 := by omega
  have hsum : 8 * (j / 8) + j % 8 = j := by omega
  simpa [byteOf, hlt, hsum] using hb

theorem byteOf_shiftRight (v : Word) (k i : Nat) : byteOf (v >>> (8 * k)) i = byteOf v (i + k) := by
  rw [byteOf, byteOf, ← BitVec.shiftRight_add, Nat.mul_add, Nat.add_comm]

/-- The bytes of a byte with a word moved up above it. -/
theorem byteOf_cons (b : Byte) (v : Word) (i : Nat) (hi : i < 8) :
    byteOf (b.setWidth 64 ||| (v <<< 8)) i = if i = 0 then b else byteOf v (i - 1) := by
  apply BitVec.eq_of_getLsbD_eq
  intro j hj
  cases i with
  | zero =>
    simp [byteOf, hj]
  | succ i =>
    have hlow : 8 * (i + 1) + j < 64 := by omega
    have hhigh : ¬8 * (i + 1) + j < 8 := by omega
    have hbyte : b.getLsbD (8 * (i + 1) + j) = false := BitVec.getLsbD_of_ge _ _ (by omega)
    have hsub : 8 * (i + 1) + j - 8 = 8 * i + j := by omega
    simpa [byteOf, hj, hlow, hhigh, hbyte, hsub] using (BitVec.getLsbD_eq_getElem _).symm

/-- A read of n bytes has each byte of HBM at its place, and 0 above them (R3). -/
theorem byteOf_read (h : Hbm) (n a i : Nat) (hi : i < 8) : byteOf (h.read a n) i = if i < n then h.byte (a + i) else 0 := by
  induction n generalizing a i with
  | zero => simp [Hbm.read, byteOf]
  | succ n ih =>
    rw [Hbm.read, byteOf_cons _ _ _ hi]
    cases i with
    | zero => simp
    | succ i =>
      have haddr : a + 1 + i = a + (i + 1) := by omega
      simp [ih _ i (by omega), haddr]

/-! ### Sizes -/

theorem szBytes_cases (sz : BitVec 2) : szBytes sz = 1 ∨ szBytes sz = 2 ∨ szBytes sz = 4 ∨ szBytes sz = 8 := by
  revert sz
  decide

section
variable {n : Nat} (hn : n = 1 ∨ n = 2 ∨ n = 4 ∨ n = 8)
include hn

/-- Zero-extension of n bytes truncates to them. -/
theorem extend_eq_setWidth (v : Word) : extend v n false = (v.setWidth (8 * n)).setWidth 64 := by
  obtain rfl | rfl | rfl | rfl := hn
  · rfl
  · rfl
  · rfl
  · simp [extend]

/-- Zero-extension keeps the low n bytes. -/
theorem byteOf_extend (v : Word) {i : Nat} (hi : i < 8) : byteOf (extend v n false) i = if i < n then byteOf v i else 0 := by
  rw [extend_eq_setWidth hn]
  apply BitVec.eq_of_getLsbD_eq
  intro j hj
  have hlow : 8 * i + j < 64 := by omega
  split
  · next hin =>
    have hkept : 8 * i + j < 8 * n := by omega
    simp [byteOf, hj, hlow, hkept]
  · next hout =>
    have hcut : ¬8 * i + j < 8 * n := by omega
    simp [byteOf, hj, hcut]

/-- An extension looks at the low n bytes alone. -/
theorem extend_extend (v : Word) (signed : Bool) : extend (extend v n false) n signed = extend v n signed := by
  obtain rfl | rfl | rfl | rfl := hn <;> simp [extend]

/-- The bytes that an aligned access picks from its word are those at its address. -/
theorem pick_word (h : Hbm) {a : Nat} (ha : a % n = 0) : pick (h.word (a / 8)) a n = h.read a n := by
  apply eq_of_byteOf
  intro i hi
  rw [pick, byteOf_extend hn _ hi, byteOf_shiftRight, byteOf_read h n a i hi]
  split
  · next hin =>
    have hlt : i + a % 8 < 8 := by
      obtain rfl | rfl | rfl | rfl := hn <;> omega
    have haddr : 8 * (a / 8) + (i + a % 8) = a + i := by omega
    rw [Hbm.word, byteOf_read h 8 _ _ hlt, if_pos hlt, haddr]
  · rfl

/-- What an aligned load answers. -/
theorem extend_word (h : Hbm) {a : Nat} (ha : a % n = 0) (signed : Bool) :
    extend (h.word (a / 8) >>> (8 * (a % 8))) n signed = extend (h.read a n) n signed := by
  rw [← pick_word hn h ha, pick, extend_extend hn]

theorem extend_read (h : Hbm) {a : Nat} (ha : a % n = 0) : extend (h.read a n) n false = h.read a n := by
  rw [← pick_word hn h ha, pick, extend_extend hn]

end

/-! ### Stores -/

@[simp] theorem poisoned_write (n : Nat) : ∀ (h : Hbm) (a : Nat) (v : Word) (w : Nat),
    (h.write a v n).poisoned w = h.poisoned w := by
  induction n with
  | zero => exact fun _ _ _ _ => rfl
  | succ n ih => exact fun h a v w => (ih ..).trans (h.poisoned_setByte ..)

@[simp] theorem isFull_write (n : Nat) : ∀ (h : Hbm) (a : Nat) (v : Word) (w : Nat),
    (h.write a v n).isFull w = h.isFull w := by
  induction n with
  | zero => exact fun _ _ _ _ => rfl
  | succ n ih => exact fun h a v w => (ih ..).trans (h.isFull_setByte ..)

/-- An aligned store without an error writes its bytes and the poison mark of its word (R237). -/
theorem storeBytes_aligned (h : Hbm) {a n : Nat} (ha : a % n = 0) (v : Word) (p : Bool) (d : Dev) :
    storeBytes h a n v p .none d =
      ((h.write a v n).setPoison (a / 8) (if n = 8 then p else h.poisoned (a / 8) || p), d) := by
  unfold storeBytes
  split
  · next h8 =>
    have haddr : 8 * (a / 8) = a := by
      subst h8
      omega
    subst h8
    rw [Hbm.putWord, haddr]
  · rfl

theorem bytesStored_write (h : Hbm) (a n : Nat) (v : Word) (w : Nat) (p : Bool) :
    bytesStored h ((h.write a v n).setPoison w p) a n v := by
  intro b
  rw [Hbm.byte_setPoison]
  split
  · next hb =>
    have haddr : a + (b - a) = b := by omega
    rw [← h.byte_write_inside n a (b - a) v (by omega), haddr]
  · next hb => exact h.byte_write_outside n a b v (by omega)

theorem onlyMark_write (h : Hbm) (a n : Nat) (v : Word) (w : Nat) (p : Bool) :
    onlyMark h ((h.write a v n).setPoison w p) w p := by
  refine ⟨fun x => ?_, fun x => ?_⟩
  · rw [Hbm.poisoned_setPoison, poisoned_write]
  · rw [Hbm.isFull_setPoison, isFull_write]

/-! ### The controllers -/

section
variable {s : State} {k : DieId} {i : Nat} {r : MemReq}

/-- The controller takes the request that waits when it performs its operation. -/
theorem takeReq_of_waits {d : Dev} (h : Waits d k i r) {p : MemOp → Bool} (hp : p r.op = true) :
    d.takeReq k i p = some (r, asked d k i) := by
  simp [Dev.takeReq, takeAt_eq_of_getElem? h.here, hp, h.served, asked, Dev.modStack]

theorem isPlain_asked (d : Dev) (a : Nat) : (asked d k i).isPlain a = d.isPlain a := rfl

theorem isPlain_iff {d : Dev} {a : Nat} : d.isPlain a = true ↔ d.memKind a = .plain := by
  unfold Dev.isPlain
  split
  · next h => simp [h]
  · next h => simpa using h

/-- A load of PLAIN memory (R139, R237). -/
theorem controllerRead_plain {d : Dev} (hw : Waits d k i r) (hop : r.op = .ld) (hplain : plainAt d r) (h : Hbm) :
    controllerRead k i .none h d = (h, (asked d k i).respond k r (.value
      (extend (h.read r.addr.toNat (szBytes r.sz)) (szBytes r.sz) r.sx) (h.poisoned (r.addr.toNat / 8)))) := by
  obtain ⟨hkind, halign⟩ := hplain
  simp [controllerRead, takeReq_of_waits hw, hop, isPlain_asked, isPlain_iff.mpr hkind, readWord,
    extend_word (szBytes_cases r.sz) h halign]

/-- A store to PLAIN memory (R139, R237). -/
theorem controllerWrite_plain {d : Dev} (hw : Waits d k i r) (hop : r.op = .st) (hplain : plainAt d r) (h : Hbm) :
    controllerWrite k i .none h d =
      ((h.write r.addr.toNat r.data (szBytes r.sz)).setPoison (r.addr.toNat / 8)
        (if szBytes r.sz = 8 then r.dpoison else h.poisoned (r.addr.toNat / 8) || r.dpoison),
        (asked d k i).respond k r (.value 0 false)) := by
  obtain ⟨hkind, halign⟩ := hplain
  simp [controllerWrite, takeReq_of_waits hw, hop, isPlain_asked, isPlain_iff.mpr hkind, storeBytes_aligned h halign]

/-- Elsewhere a load meets MEM_ERROR (R241). -/
theorem controllerRead_elsewhere {d : Dev} (hw : Waits d k i r) (hop : r.op = .ld) (hkind : d.memKind r.addr.toNat ≠ .plain)
    (u : Upset) (h : Hbm) : controllerRead k i u h d = (h, (asked d k i).respond k r .memError) := by
  simp [controllerRead, takeReq_of_waits hw, hop, isPlain_asked, mt isPlain_iff.mp hkind]

theorem controllerWrite_elsewhere {d : Dev} (hw : Waits d k i r) (hop : r.op = .st) (hkind : d.memKind r.addr.toNat ≠ .plain)
    (u : Upset) (h : Hbm) : controllerWrite k i u h d = (h, (asked d k i).respond k r .memError) := by
  simp [controllerWrite, takeReq_of_waits hw, hop, isPlain_asked, mt isPlain_iff.mp hkind]

/-- A meaning of memory that takes and answers the request. -/
theorem onMem_answers (hw : Waits s.dev k i r) {f : Hbm → Dev → Hbm × Dev} {h : Hbm} {a : Answer}
    (hf : f s.hbm s.dev = (h, (asked s.dev k i).respond k r a)) : onMem f s = .next (answeredBy s k i r a h) := by
  rw [onMem_acts f hw.runs, hf]
  rfl

end

/-- Settles O33: an aligned load picks the bytes at its address, and an aligned store writes them. -/
theorem loadsAndStoresOfHbm : Obligations.LoadsAndStoresOfHbm := by
  intro s k i r hw a n
  refine ⟨fun hop hplain => ?load, fun hop hplain => ?store,
    fun u hkind => ⟨fun hop => ?loadElsewhere, fun hop => ?storeElsewhere⟩⟩
  case load => exact onMem_answers hw (controllerRead_plain hw hop hplain s.hbm)
  case store =>
    exact ⟨_, onMem_answers hw (controllerWrite_plain hw hop hplain s.hbm), bytesStored_write s.hbm a n r.data _ _,
      onlyMark_write s.hbm a n r.data _ _⟩
  case loadElsewhere => exact onMem_answers hw (controllerRead_elsewhere hw hop hkind u s.hbm)
  case storeElsewhere => exact onMem_answers hw (controllerWrite_elsewhere hw hop hkind u s.hbm)

/-! ### Atomics -/

/-- Min and max compare signed when the request asks for it. -/
def MemReq.signedAtomic (r : MemReq) : Bool := r.sx && (r.op = .amin || r.op = .amax)

section
variable {r : MemReq} {h : Hbm} {d : Dev} (halign : r.addr.toNat % szBytes r.sz = 0)
include halign

/-- A poisoned word is answered poisoned and kept (R250). -/
theorem performAtomic_poisoned (hp : h.poisoned (r.addr.toNat / 8) = true) :
    performAtomic r .none h d =
      (⟨extend (h.read r.addr.toNat (szBytes r.sz)) (szBytes r.sz) r.signedAtomic, true, false⟩, h, d) := by
  simp [performAtomic, readWord, hp, pick_word (szBytes_cases r.sz) h halign, MemReq.signedAtomic]

section
variable (hp : h.poisoned (r.addr.toNat / 8) = false)
include hp

/-- A comparison that fails stores nothing (R142). -/
theorem performAtomic_keeps
    (hnew : atomicNew r.op (szBytes r.sz) r.signedAtomic (h.read r.addr.toNat (szBytes r.sz)) r.data r.cmp = none) :
    performAtomic r .none h d =
      (⟨extend (h.read r.addr.toNat (szBytes r.sz)) (szBytes r.sz) r.signedAtomic, false, false⟩, h, d) := by
  rw [MemReq.signedAtomic] at hnew
  simp [performAtomic, readWord, hp, pick_word (szBytes_cases r.sz) h halign, hnew, MemReq.signedAtomic]

/-- An atomic stores its new value in its bytes; the word takes the value's poison (R237, R249). -/
theorem performAtomic_stores {v : Word}
    (hnew : atomicNew r.op (szBytes r.sz) r.signedAtomic (h.read r.addr.toNat (szBytes r.sz)) r.data r.cmp = some v) :
    performAtomic r .none h d =
      (⟨extend (h.read r.addr.toNat (szBytes r.sz)) (szBytes r.sz) r.signedAtomic, false, false⟩,
        (h.write r.addr.toNat v (szBytes r.sz)).setPoison (r.addr.toNat / 8) r.dpoison, d) := by
  rw [MemReq.signedAtomic] at hnew
  simp [performAtomic, readWord, hp, pick_word (szBytes_cases r.sz) h halign, hnew, MemReq.signedAtomic,
    storeBytes_aligned h halign]

end

end

theorem controllerAtomic_plain {d : Dev} {k : DieId} {i : Nat} {r : MemReq} {h h' : Hbm} {v : Word} {p b : Bool}
    (hw : Waits d k i r) (hop : r.op.isAtomic = true) (hkind : d.memKind r.addr.toNat = .plain)
    (hdone : performAtomic r .none h (asked d k i) = (⟨v, p, b⟩, h', asked d k i)) :
    controllerAtomic k i .none h d = (h', (asked d k i).respond k r (.value v p)) := by
  simp [controllerAtomic, takeReq_of_waits hw, hop, isPlain_asked, isPlain_iff.mpr hkind, hdone]

/-- The comparison of AMIN and AMAX (R249). -/
theorem atomicNew_less {r : MemReq} {m : Word} {n : Nat} (hop : r.op = .amin ∨ r.op = .amax) (hm : extend m n false = m) :
    (if r.signedAtomic then (extend m n true).slt (extend r.data n true) else (extend m n false).ult (extend r.data n false)) =
      decide (if r.sx then (extend m n true).toInt < (extend r.data n true).toInt
        else m.toNat < (extend r.data n false).toNat) := by
  have hsigned : r.signedAtomic = r.sx := by
    obtain hop | hop := hop <;> simp [MemReq.signedAtomic, hop]
  rw [hsigned, hm]
  cases r.sx with
  | true => rfl
  | false => rfl

/-- Settles O34: what an operation stores is its `atomicNew` of the bytes that the word has at the address. -/
theorem atomicsOfHbm : Obligations.AtomicsOfHbm := by
  intro s k i r hw hplain a n m signed old less stores
  obtain ⟨hkind, halign⟩ := hplain
  have hm : extend m n false = m := extend_read (szBytes_cases r.sz) s.hbm halign
  have hless (hop : r.op = .amin ∨ r.op = .amax) := atomicNew_less hop hm
  refine ⟨fun hp hop => ?poisoned, fun hp => ?clean⟩
  case poisoned => exact onMem_answers hw (controllerAtomic_plain hw hop hkind (performAtomic_poisoned halign hp))
  case clean =>
    have hstores {v : Word} (hop : r.op.isAtomic = true) (hnew : atomicNew r.op n r.signedAtomic m r.data r.cmp = some v) :
        stores v :=
      ⟨_, onMem_answers hw (controllerAtomic_plain hw hop hkind (performAtomic_stores halign hp hnew)),
        bytesStored_write s.hbm a n v _ _, onlyMark_write s.hbm a n v _ _⟩
    refine ⟨fun hop => ?aadd, fun hop => ?axchg, fun hop => ?aand, fun hop => ?aor, fun hop => ?amin, fun hop => ?amax,
      fun hop heq => ?acas, fun hop hne => ?acasFails⟩
    case aadd => exact hstores (by rw [hop]; rfl) (by rw [hop]; rfl)
    case axchg => exact hstores (by rw [hop]; rfl) (by rw [hop]; rfl)
    case aand => exact hstores (by rw [hop]; rfl) (by rw [hop]; rfl)
    case aor => exact hstores (by rw [hop]; rfl) (by rw [hop]; rfl)
    case amin =>
      refine hstores (by rw [hop]; rfl) ?_
      simp only [atomicNew, hless (.inl hop), decide_eq_true_eq]
      rw [hop]
    case amax =>
      refine hstores (by rw [hop]; rfl) ?_
      simp only [atomicNew, hless (.inr hop), decide_eq_true_eq]
      rw [hop]
    case acas =>
      refine hstores (by rw [hop]; rfl) ?_
      rw [hop]
      exact if_pos (hm.trans heq)
    case acasFails =>
      refine onMem_answers hw (controllerAtomic_plain hw (by rw [hop]; rfl) hkind (performAtomic_keeps halign hp ?_))
      rw [hop]
      exact if_neg (fun heq => hne (hm.symm.trans heq))

end Sys2Proof.Machine
end

section
/-! Answers to requests (R139 to R147, R187, R188, R246): settles AnswersCompleteEntries. What has to be known of an
entry's end is that it adds few enough event records not to be held (R273), and that its entry is gone afterwards. -/

namespace Sys2Proof.Machine

open Sys2Proof.Claims

/-! ### Removing and writing entries of a table -/

theorem mdrop_sublist {α : Type} (i : Nat) : ∀ m : Map α, (mdrop i m).Sublist m
  | [] => .slnil
  | (k, v) :: m => by
    simp only [mdrop]
    split
    · exact (mdrop_sublist i m).cons _
    · exact .refl _

theorem merase_sublist {α : Type} (i : Nat) : ∀ m : Map α, (merase m i).Sublist m
  | [] => .slnil
  | (k, v) :: m => by
    simp only [merase]
    split
    · exact .refl _
    · split
      · exact (mdrop_sublist i m).cons _
      · exact (merase_sublist i m).cons_cons _

/-- What is not there is not there after another removal. -/
theorem mfind_merase_none {α : Type} {j : Nat} (i : Nat) : ∀ {m : Map α}, mfind m j = none → mfind (merase m i) j = none
  | [], _ => rfl
  | (k, v) :: m, h => by
    simp only [mfind] at h
    simp only [merase]
    split
    · simpa only [mfind] using h
    · split
      · next hk =>
        subst hk
        split at h
        · cases h
        · split at h
          · exact mfind_mdrop_below _ _ ‹_› m
          · rw [mfind_mdrop_above _ _ (by omega)]
            exact h
      · simp only [mfind]
        split at h
        · cases h
        · next hne =>
          rw [if_neg hne]
          split at h
          · exact if_pos ‹_›
          · rw [if_neg ‹_›]
            exact mfind_merase_none i h

/-- An entry written is one more entry of its sort at most. -/
theorem filter_minsert_length_le {α : Type} (p : Nat × α → Bool) (i : Nat) (v : α) :
    ∀ m : Map α, ((minsert m i v).filter p).length ≤ (m.filter p).length + 1
  | [] => by
    simp only [minsert, List.filter_cons, List.filter_nil]
    split <;> simp
  | (k, w) :: m => by
    have ih := filter_minsert_length_le p i v m
    simp only [minsert]
    split
    · simp only [List.filter_cons]
      split <;> split <;> simp
    · split
      · simp only [List.filter_cons]
        split <;> split <;> simp
        omega
      · simp only [List.filter_cons]
        split
        · simpa using ih
        · exact ih

/-! ### What the end of an entry adds -/

/-- From one device to another, a cell gets at most n more shared event records and no continuation-table entry. -/
structure Adds (c : CellId) (n : Nat) (d e : Dev) : Prop where
  records : (e.cell c).sharedUsed ≤ (d.cell c).sharedUsed + n
  fewer : (e.cell c).pipe.ct.Sublist (d.cell c).pipe.ct
  absent : ∀ i, mfind (d.cell c).pipe.ct i = none → mfind (e.cell c).pipe.ct i = none

section
variable {c : CellId} {n m : Nat} {d e f : Dev}

theorem Adds.refl (c : CellId) (d : Dev) : Adds c 0 d d := ⟨by omega, .refl _, fun _ h => h⟩

theorem Adds.trans (h : Adds c n d e) (k : Adds c m e f) : Adds c (n + m) d f :=
  ⟨by have := h.records; have := k.records; omega, k.fewer.trans h.fewer, fun i hi => k.absent i (h.absent i hi)⟩

theorem Adds.mono (h : Adds c n d e) (hle : n ≤ m) : Adds c m d e :=
  ⟨by have := h.records; omega, h.fewer, h.absent⟩

theorem Adds.of_same (hev : (e.cell c).ev = (d.cell c).ev) (hct : (e.cell c).pipe.ct = (d.cell c).pipe.ct) : Adds c 0 d e :=
  ⟨by simp [Cell.sharedUsed, hev], by rw [hct], fun i => by rw [hct]; exact id⟩

theorem SameCell.adds (h : SameCell c d e) : Adds c 0 d e := .of_same h.ev (by rw [h.pipe])

end

section
variable (d : Dev) (c : CellId)

/-- An event of the continuation table takes one shared record. -/
theorem raise_adds (g : GraphId) (src : Nat) (k : Carried) : Adds c 1 d (d.raise c none g src k) := by
  unfold Dev.raise
  dsimp only
  split
  · have hadd : Adds c 1 d (d.addRecord c g src k none .shared) :=
      { records := by simp [Dev.addRecord, Cell.sharedUsed, count, List.filter_append]
        fewer := by simp [Dev.addRecord]
        absent := by simp [Dev.addRecord] }
    exact hadd.trans (cellCreate_sameWords ..).cell.adds
  · exact (Adds.refl c d).mono (by omega)

theorem sendToken_adds (l : Option (BitVec 3)) (t : Token) : Adds c 0 d (d.sendToken c l t) := by
  refine .of_same (sendToken_ev ..) ?_
  unfold Dev.sendToken
  rw [(cellCreate_sameWords _ _ _ _ c).cell.pipe, Dev.cell_modPipe_self]
  split <;> rfl

theorem releaseEntry_adds (i : Nat) : Adds c 0 d (d.releaseEntry c i) := by
  unfold Dev.releaseEntry
  split
  · exact .refl c d
  · next n hn =>
    have herase : Adds c 0 d (d.modPipe c fun p => { p with ct := merase p.ct i }) :=
      { records := by simp [Cell.sharedUsed]
        fewer := by simpa using merase_sublist i (d.cell c).pipe.ct
        absent := by simpa using fun j => mfind_merase_none i (j := j) }
    have hsweep (e : Dev) : Adds c 0 e (e.sweepFreeing c) := .of_same (sweepFreeing_ev ..) (by simp [Dev.sweepFreeing])
    exact (herase.trans (cellConsume_sameWords ..).cell.adds).trans (hsweep _)

/-- A released entry is gone. -/
theorem releaseEntry_gone (i : Nat) : mfind ((d.releaseEntry c i).cell c).pipe.ct i = none := by
  unfold Dev.releaseEntry
  split
  · assumption
  · simp only [Dev.sweepFreeing, Dev.cell_modCell_self, (cellConsume_sameWords _ _ _ _ c).cell.pipe, Dev.cell_modPipe_self,
      mfind_merase_self]

end

section
variable {m : Maker} (hl : m.lane = none)
include hl

theorem toParent_adds (d : Dev) (r : Result) : Adds m.cell 1 d (m.toParent r d) := by
  unfold Maker.toParent
  dsimp only
  rw [hl]
  split
  · exact raise_adds ..
  · split
    · exact (sendToken_adds ..).mono (by omega)
    · exact raise_adds ..

theorem toDest_adds (d : Dev) (x : Dest) (r : Result) : Adds m.cell 1 d (m.toDest x r d) := by
  have hiter (top : Nat) : Adds m.cell 0 d (m.destIter top d).2 := by
    unfold Maker.destIter
    split
    · exact .refl ..
    · exact .of_same rfl rfl
  have hstay : Adds m.cell 1 d d := (Adds.refl m.cell d).mono (by omega)
  cases x with
  | local_ f =>
    simp only [Maker.toDest]
    split
    · exact hstay
    · split
      · exact toParent_adds hl d r
      · exact ((hiter _).trans (sendToken_adds ..)).mono (by omega)
  | entry e =>
    simp only [Maker.toDest]
    split
    · exact hstay
    · split
      · exact toParent_adds hl d r
      · exact ((hiter _).trans (sendToken_adds ..)).mono (by omega)

theorem results_adds (s0 s1 : Option Result) (plan : List (Bool × Dest)) (d : Dev) :
    Adds m.cell plan.length d (m.results plan s0 s1 d) := by
  unfold Maker.results
  induction plan generalizing d with
  | nil => exact .refl ..
  | cons p plan ih =>
    rw [List.foldl_cons, List.length_cons, Nat.add_comm]
    refine Adds.trans ?_ (ih _)
    split
    · exact (Adds.refl m.cell d).mono (by omega)
    · exact toDest_adds hl ..

/-- A result has at most 17 destinations (R67). -/
theorem one_adds (d : Dev) (w : Word) (r : Result) : Adds m.cell 17 d (m.one w r d) :=
  (results_adds hl ..).mono (resultPlan_length _ _ _ (fanoutList_length ..))

end

/-! ### FENCE entries -/

/-- An entry is a FENCE of a graph. -/
def fenceOf (g : GraphId) (p : Nat × CtEntry) : Bool :=
  match p.2.kind with
  | .fence _ => p.2.act.graph = g
  | _ => false

/-- The FENCE entries that complete add the events of their results alone. -/
theorem completeFences_adds (d : Dev) (c : CellId) (g : GraphId) :
    Adds c (17 * ((d.cell c).pipe.ct.filter (fenceOf g)).length) d (d.completeFences c g) := by
  unfold Dev.completeFences
  dsimp only
  generalize (d.cell c).openRequests g = open_
  generalize (d.cell c).pipe.ct = ct
  induction ct generalizing d with
  | nil => exact .refl c d
  | cons p ct ih =>
    have hlen : (List.filter (fenceOf g) (p :: ct)).length =
        (List.filter (fenceOf g) [p]).length + (ct.filter (fenceOf g)).length := by
      rw [← List.length_append, ← List.filter_append, List.singleton_append]
    rw [List.foldl_cons, hlen, Nat.mul_add]
    refine Adds.trans ?_ (ih _)
    split
    · next waits hkind =>
      split
      · next hdone =>
        have hfence : fenceOf g p = true := by
          simp only [Bool.and_eq_true, decide_eq_true_eq] at hdone
          simp [fenceOf, hkind, hdone.1]
        rw [List.filter_cons_of_pos hfence]
        exact (one_adds (m := p.2.maker c false) rfl ..).trans (releaseEntry_adds ..)
      · exact (Adds.refl c d).mono (by omega)
    · exact (Adds.refl c d).mono (by omega)

/-! ### The end of an entry -/

section
variable {d : Dev} {c : CellId} {n : CtEntry}

theorem entry_raise_adds (d : Dev) (c : CellId) (n : CtEntry) (src : Nat) : Adds c 1 d (n.raise c src d) := raise_adds ..

/-- The model reads the fan-out words of a reply as the statement does (R88, R89). -/
theorem reply_eq_replied (fo : Upset) (make : Dev → Dev) : n.reply c fo make d = replied d c n fo make := by
  unfold CtEntry.reply replied
  by_cases hread : wDfmt n.word = 2
  · rw [if_pos hread, if_neg (not_not.mpr hread)]
    cases fo with
    | none => rfl
    | corrected => rfl
    | uncorrectable => rfl
  · rw [if_neg hread, if_pos hread]

theorem replied_adds (fo : Upset) (p : Bool) (r : Result) : Adds c 17 d (replied d c n fo ((n.maker c p).one n.word r)) := by
  have hone (e : Dev) : Adds c 17 e ((n.maker c p).one n.word r e) := one_adds (m := n.maker c p) rfl ..
  have hfault (b : Nat) : Adds c 0 d (d.celFault c b) := ((fault_frame ..).sameWords c).cell.adds
  unfold replied
  split
  · exact hone d
  · cases fo with
    | none => exact hone d
    | corrected => exact ((hfault 2).trans (hone _)).mono (by omega)
    | uncorrectable => exact ((hfault 3).trans (entry_raise_adds ..)).mono (by omega)

theorem eventOr_adds (fo : Upset) (src : Nat) (v : Word) : Adds c 17 d (eventOr d c n fo src v) := by
  unfold eventOr
  split
  · exact (entry_raise_adds ..).mono (by omega)
  · exact replied_adds ..

end

/-! ### Each kind of answer (R139 to R141, R146, R147) -/

section
variable (n : CtEntry) (c : CellId) (q : MemReq) (fo : Upset) (d : Dev)

/-- ST and STS with a clean address reply with a, the others with the data (R59, R139). -/
def replyWord (v : Word) : Word :=
  if (q.op = .st ∨ q.op = .sts) ∧ (opndVal n.act.left).poison = false then (opndVal n.act.left).bits else v

theorem replyWord_of_clean {v : Word} (h : (opndVal n.act.left).poison = false) : q.replyValue n v = replyWord n q v := by
  unfold MemReq.replyValue replyWord
  cases q.op <;> simp [h]

variable {q}

theorem answer_value (hop : q.op ≠ .lock) (v : Word) (p : Bool) :
    n.answer c q (.value v p) fo d = replied d c n fo ((n.maker c p).one n.word ⟨replyWord n q v, 8⟩) := by
  simp only [CtEntry.answer, if_neg hop, reply_eq_replied]
  cases hpoison : (opndVal n.act.left).poison with
  | true => simp [replyWord, hpoison]
  | false => rw [replyWord_of_clean n q hpoison, if_neg Bool.false_ne_true]

/-- The grant of a LOCK goes to its continuation (R146). -/
theorem answer_grant (hop : q.op = .lock) (v : Word) (p : Bool) :
    n.answer c q (.value v p) fo d = d.sendToken c none
      ({ n.maker c p with kind := 3 }.token d d.fbn.nodeId c (bits q.data 0 14) 0 n.act.iter n.act.frame ⟨v, 8⟩) := if_pos hop

variable (q)

theorem answer_memError : n.answer c q .memError fo d = eventOr d c n fo srcMemError 0 := by
  simp only [CtEntry.answer, reply_eq_replied]
  rfl

theorem answer_writeTwice : n.answer c q .writeTwice fo d = eventOr d c n fo srcStructWriteTwice (q.replyValue n 0) := by
  simp only [CtEntry.answer, reply_eq_replied]
  rfl

theorem answer_notOwner (v : Word) : n.answer c q (.notOwner v) fo d = eventOr d c n fo srcLockNotOwner v := by
  simp only [CtEntry.answer, reply_eq_replied]
  rfl

theorem answer_adds (a : Answer) : Adds c 17 d (n.answer c q a fo d) := by
  have hstay : Adds c 17 d d := (Adds.refl c d).mono (by omega)
  cases a with
  | value v p =>
    by_cases hop : q.op = .lock
    · rw [answer_grant n c fo d hop]
      exact (sendToken_adds ..).mono (by omega)
    · rw [answer_value n c fo d hop]
      exact replied_adds ..
  | memError => rw [answer_memError]; exact eventOr_adds ..
  | writeTwice => rw [answer_writeTwice]; exact eventOr_adds ..
  | notOwner v => rw [answer_notOwner]; exact eventOr_adds ..
  | ack => exact hstay
  | notRecorded => exact hstay

end

/-! ### An entry ends -/

section
variable {s : State} {d : Dev} {c : CellId} {i : Nat} {fo : Upset} {r : MemRsp} {n : CtEntry} {q : MemReq}

theorem recordsFor_iff {g : GraphId} : RecordsFor d c g ↔
    (d.cell c).sharedUsed + 17 * (((d.cell c).pipe.ct.filter (fenceOf g)).length + 1) ≤ sharedRecords := Iff.rfl

/-- What adds few enough records is not held (R273). -/
theorem ifRoom_of_adds {e f : Dev} {m : Nat} (h : Adds c m e f) (hroom : (e.cell c).sharedUsed + m ≤ sharedRecords) :
    d.ifRoom f c = f := by
  refine if_pos ?_
  have := h.records
  omega

/-- An entry that ends finds the records it needs, and is gone. -/
theorem finishEntry_ends (e : BitVec 10) (a : Answer) (hroom : RecordsFor d c n.act.graph) :
    d.finishEntry c e.toNat n q a fo = ended (n.answer c q a fo d) c e n.act.graph ∧
      mfind ((ended (n.answer c q a fo d) c e n.act.graph).cell c).pipe.ct e.toNat = none := by
  have hanswer := answer_adds n c q fo d a
  have hrelease := releaseEntry_adds (n.answer c q a fo d) c e.toNat
  have hfences := completeFences_adds ((n.answer c q a fo d).releaseEntry c e.toNat) c n.act.graph
  have hcount := ((hrelease.fewer.trans hanswer.fewer).filter (fenceOf n.act.graph)).length_le
  refine ⟨ifRoom_of_adds ((hanswer.trans hrelease).trans hfences) ?_, hfences.absent _ (releaseEntry_gone ..)⟩
  have := recordsFor_iff.mp hroom
  omega

theorem received_recordsFor {g : GraphId} (h : RecordsFor d c g) : RecordsFor (received d c i) c g := by
  simpa [recordsFor_iff, received, Cell.sharedUsed] using h

theorem entryFor_of_answered (h : Answered d c i r n) : (d.cell c).entryFor r = some n := by
  simp [Cell.entryFor, h.entry, h.use]

/-- An answer for another use of an entry, or for none, finds no entry (R188). -/
theorem entryFor_eq_none (h : ∀ n, mfind (d.cell c).pipe.ct r.entry.toNat = some n → n.uid ≠ r.uid) :
    (d.cell c).entryFor r = none := by
  unfold Cell.entryFor
  cases hentry : mfind (d.cell c).pipe.ct r.entry.toNat with
  | none => rfl
  | some n => exact if_neg (h n hentry)

theorem replyReceive_ends (h : Answered d c i r n) (hq : n.request = some q) (hans : r.isAck = false) :
    replyReceive c i fo d = ended (n.answer c q r.ans fo (received d c i)) c r.entry n.act.graph := by
  obtain ⟨hdone, hgone⟩ := finishEntry_ends (q := q) (fo := fo) r.entry r.ans (received_recordsFor (i := i) h.records)
  unfold replyReceive
  dsimp only
  rw [takeAt_eq_of_getElem? h.inbox]
  dsimp only
  rw [entryFor_of_answered h]
  dsimp only
  rw [hq]
  dsimp only
  have hreceived : (d.modPipe c fun p => { p with inbox := (d.cell c).pipe.inbox.eraseIdx i }) = received d c i := rfl
  rw [hreceived, hdone, hgone, h.running.2, hans]
  rfl

theorem exec_replyReceive (h : Answered s.dev c i r n) (hkind : n.kind = .mem q ∨ n.kind = .lockReq q) {a : Answer}
    (hans : r.ans = a) (hack : r.isAck = false) {effect : Dev → Dev} (heffect : ∀ d, n.answer c q a fo d = effect d) :
    exec (.replyReceive c ⟨i, fo⟩) s = .next (after s fun d => ended (effect (received d c i)) c r.entry n.act.graph) := by
  have hq : n.request = some q := by
    obtain hkind | hkind := hkind <;> simp [CtEntry.request, hkind]
  refine (onDies_acts _ h.running.1).trans ?_
  dsimp only
  rw [replyReceive_ends h hq hack, hans, heffect]
  rfl

/-- An answer that no entry waits for is discarded (R188). -/
theorem replyReceive_discards (hruns : (d.cell c).runs = true) (hinbox : (d.cell c).pipe.inbox[i]? = some (.rsp r))
    (hnone : (d.cell c).entryFor r = none) (hans : r.isAck = false) : replyReceive c i fo d = received d c i := by
  simp only [replyReceive, takeAt_eq_of_getElem? hinbox, hruns, hans, hnone]
  rfl

theorem requestAck_discards (hruns : (d.cell c).runs = true) (hinbox : (d.cell c).pipe.inbox[i]? = some (.rsp r))
    (hnone : (d.cell c).entryFor r = none) (hans : r.isAck = true) : requestAck c i d = received d c i := by
  simp only [requestAck, takeAt_eq_of_getElem? hinbox, hruns, hans, hnone]
  rfl

theorem isAck_iff : r.isAck = true ↔ r.ans = .ack ∨ r.ans = .notRecorded := by
  unfold MemRsp.isAck
  cases r.ans <;> simp

/-- The entry of an acknowledgement, marked (R188, R246). -/
def MemRsp.mark (r : MemRsp) (n : CtEntry) : CtEntry :=
  if r.ans = .ack then { n with acked := true } else { n with again := true }

/-- The device with the acknowledgement received and its entry marked. -/
def marked (d : Dev) (c : CellId) (i : Nat) (r : MemRsp) (n : CtEntry) : Dev :=
  (received d c i).modPipe c fun p => { p with ct := minsert p.ct r.entry.toNat (r.mark n) }

/-- An acknowledgement marks its entry; the FENCE entries that it completes find their records (R188, R246, R273). -/
theorem requestAck_marks (h : Answered d c i r n) (hans : r.isAck = true) :
    requestAck c i d = (marked d c i r n).completeFences c n.act.graph := by
  have hrecords := recordsFor_iff.mp (received_recordsFor (i := i) h.records)
  have hcount := filter_minsert_length_le (fenceOf n.act.graph) r.entry.toNat (r.mark n) ((received d c i).cell c).pipe.ct
  have hroom : ((marked d c i r n).cell c).sharedUsed +
      17 * (((marked d c i r n).cell c).pipe.ct.filter (fenceOf n.act.graph)).length ≤ sharedRecords := by
    simp only [marked, Dev.cell_modPipe_self, Cell.sharedUsed] at hrecords ⊢
    omega
  rw [← ifRoom_of_adds (d := d) (completeFences_adds ..) hroom]
  simp only [requestAck, takeAt_eq_of_getElem? h.inbox, h.running.2, hans, entryFor_of_answered h]
  rfl

end

/-- Settles O21: the end of a waiting entry is not held, since it adds at most 17 records for its result and for each FENCE of
its graph; an answer without its entry is discarded. -/
theorem answersCompleteEntries : Obligations.AnswersCompleteEntries := by
  refine ⟨?answers, ?discards, ?acks, ?reissues⟩
  case answers =>
    intro s c i fo r n q h hkind a fin word
    refine ⟨fun v p hans hop => ?value, fun v p hans hop => ?grant, fun hans => ?memError, fun hans => ?writeTwice,
      fun v hans => ?notOwner⟩
    case value => exact (exec_replyReceive h hkind hans (by rw [MemRsp.isAck, hans]) (answer_value n c fo · hop v p)).trans rfl
    case grant => exact (exec_replyReceive h hkind hans (by rw [MemRsp.isAck, hans]) (answer_grant n c fo · hop v p)).trans rfl
    case memError => exact (exec_replyReceive h hkind hans (by rw [MemRsp.isAck, hans]) (answer_memError n c q fo)).trans rfl
    case writeTwice => exact (exec_replyReceive h hkind hans (by rw [MemRsp.isAck, hans]) (answer_writeTwice n c q fo)).trans rfl
    case notOwner => exact (exec_replyReceive h hkind hans (by rw [MemRsp.isAck, hans]) (answer_notOwner n c q fo · v)).trans rfl
  case discards =>
    intro s c i fo r hrun hinbox hother
    obtain ⟨hdies, hruns⟩ := hrun
    have hnone := entryFor_eq_none hother
    by_cases hack : r.isAck = true
    · rw [if_pos (isAck_iff.mp hack)]
      refine (onDies_acts _ hdies).trans ?_
      rw [requestAck_discards hruns hinbox hnone hack]
      rfl
    · rw [if_neg (mt isAck_iff.mpr hack)]
      refine (onDies_acts _ hdies).trans ?_
      dsimp only
      rw [replyReceive_discards hruns hinbox hnone (by simpa using hack)]
      rfl
  case acks =>
    intro s c i r n h hans m
    refine (onDies_acts _ h.running.1).trans ?_
    rw [requestAck_marks h (isAck_iff.mpr hans)]
    rfl
  case reissues =>
    intro s c e n q hrun hentry hagain hkind
    obtain ⟨hdies, hruns⟩ := hrun
    refine (onDies_acts _ hdies).trans ?_
    simp only [ldsReissue, hentry, hagain, hruns, hkind]
    rfl

end Sys2Proof.Machine
end

section
/-! Output entries, held notices and timed messages (R148, R390, R404 to R407): settles OutputReachesHost. -/

namespace Sys2Proof.Machine

open Sys2Proof.Claims

/-! ### OUT_ACCEPT -/

/-- The OUT of a cell dispatched first to a ring goes first (R148). -/
theorem firstOut_iff {x : Cell} {o : BitVec 10} {order : Nat} :
    x.firstOut o order = true ↔ ∀ p ∈ x.pipe.ct, ∀ u i k, p.2.kind = .out o u i k → order ≤ k := by
  rw [Cell.firstOut, List.all_eq_true]
  refine forall₂_congr fun p _ => ?_
  cases hkind : p.2.kind with
  | out ring u i k =>
    simp only [CtKind.out.injEq, ne_eq, decide_not, Bool.or_eq_true, Bool.not_eq_true', decide_eq_false_iff_not,
      decide_eq_true_eq]
    constructor
    · rintro h u' i' k' ⟨rfl, -, -, rfl⟩
      exact h.resolve_left (not_not.mpr rfl)
    · intro h
      by_cases hring : ring = o
      · exact .inr (h u i k ⟨hring, rfl, rfl, rfl⟩)
      · exact .inl hring
  | _ => simp

/-- The hub accepts an OUT whose ring is enabled and has room, when it goes first. -/
theorem outAccept_accepts {d : Dev} {c : CellId} {e : BitVec 10} {n : CtEntry} {ring ucode : BitVec 10} {now : Bool}
    {order : Nat} (hruns : (d.cell c).runs = true) (hentry : mfind (d.cell c).pipe.ct e.toNat = some n)
    (hkind : n.kind = .out ring ucode now order)
    (hen : d.oringEn ring = true) (hroom : d.outRoom ring = true) (hfirst : (d.cell c).firstOut ring order = true) :
    outAccept c e d =
      ((d.modOring ring fun y => { y with accepted := y.accepted ++ [d.outEntry c n ucode now] }).hubCreate
        n.act.graph (d.hubColour n.act.graph)).releaseEntry c e.toNat := by
  simp [outAccept, hentry, hkind, hruns, hen, hroom, hfirst]

/-! ### OUTPUT_ENTRY_WRITE -/

/-- The phase bit as a word of a ring entry (R404). -/
theorem b2v_setWidth (b : Bool) : (b2v b).setWidth 64 = if b then 1 else (0 : Word) := by
  cases b <;> rfl

/-- The oldest accepted entry of a ring is written at its tail, and signalled and counted as consumed (R405, R407). -/
theorem outWrite_writes {d : Dev} {o : BitVec 10} {n : OutEnt} {rest : List OutEnt} (h : (d.oring o).accepted = n :: rest) :
    outWrite o d =
      let y := d.oring o
      let next := nextIndex (d.oringSize o) y.oTail
      let written := (d.emit (.hostWrite (d.oringFn o.toNat) (d.reg (rObase o.toNat) + BitVec.ofNat 64 (32 * y.oTail.toNat)) 32
        [n.w0, n.w1, n.w2hi ++ y.count, if y.phase then 1 else 0] [])).modOring o fun y =>
          { y with oTail := next, phase := xor y.phase (next = 0), count := y.count + 1, accepted := rest }
      (written.signal (d.oringFn o.toNat) (written.oringVec o) n.now).hubConsume n.graph n.colour := by
  unfold outWrite
  dsimp only
  rw [h, ← b2v_setWidth]

/-! ### NOTICE_WRITE_HELD -/

section
variable {d : Dev} {g : GraphId} {x : Graph} {n : Notice} {rest : List Notice}

theorem noticeHeld_writes (hgraph : d.graph g = some x) (hheld : x.notices = n :: rest) (hen : d.pairEn x.ring = true)
    (hfree : d.cqFree x.ring ≠ 0) :
    noticeHeld g d = (((d.setGraph g { x with notices := rest }).writeNotice g x n).startFresh g).tryRelease g := by
  simp [noticeHeld, hgraph, hheld, hen, hfree]

theorem noticeHeld_waits (hgraph : d.graph g = some x) (hheld : x.notices = n :: rest) (hfull : d.cqFree x.ring = 0) :
    noticeHeld g d = d := by
  simp [noticeHeld, hgraph, hheld, hfull]

end

/-! ### MSIX_TIME -/

/-- A vector whose oldest entry has waited its bound signals (R407). -/
theorem msixTime_signals {d : Dev} {fn : GraphId} {v : BitVec 5} (hpend : (d.vector fn v).pend ≠ 0)
    (htime : d.fld (rMsimod fn.toNat v.toNat) 0 10 ≠ 0)
    (hdue : (d.vector fn v).oldest + 1000 * d.fld (rMsimod fn.toNat v.toNat) 0 10 ≤ d.clock.run) :
    msixTime fn v d = d.msix fn v := by
  simp [msixTime, hpend, htime, hdue]

/-- A message, and its vector has nothing pending. -/
theorem msix_unmasked {d : Dev} {fn : GraphId} {v : BitVec 5} (h : (d.vector fn v).unmasked = true) :
    d.msix fn v = (d.setVector fn v { d.vector fn v with pend := 0 }).emit (.msix fn v) := if_pos h

/-- A masked vector sets its pending bit. -/
theorem msix_masked {d : Dev} {fn : GraphId} {v : BitVec 5} (h : (d.vector fn v).unmasked = false) :
    d.msix fn v = d.setVector fn v { d.vector fn v with pend := 0, pba := true } := if_neg (by simp [h])

/-- Settles O29: each command does what its case lemma says, since its trigger is there. -/
theorem outputReachesHost : Obligations.OutputReachesHost := by
  refine ⟨?accept, ?write, ?notice, ?msix⟩
  case accept =>
    intro s c e n ring ucode now order hrun hentry hkind y size hen hroom hfirst a poison colour out
    obtain ⟨hdies, hruns⟩ := hrun
    have hen : s.dev.oringEn ring = true := by simpa [Dev.oringEn] using hen
    have hroom : s.dev.outRoom ring = true := decide_eq_true hroom
    refine (onDies_acts _ hdies).trans ?_
    rw [outAccept_accepts hruns hentry hkind hen hroom (firstOut_iff.mpr hfirst)]
    rfl
  case write =>
    intro s o n rest hhub y size fn next phase hacc
    refine (onHub_acts _ hhub).trans ?_
    rw [outWrite_writes hacc]
    rfl
  case notice =>
    intro s g x n rest hhub hgraph hheld hen
    refine ⟨fun hfree => ?_, fun hfull => ?_⟩
    · refine (onHub_acts _ hhub).trans ?_
      rw [noticeHeld_writes hgraph hheld hen hfree]
      rfl
    · refine (onHub_acts _ hhub).trans ?_
      rw [noticeHeld_waits hgraph hheld hfull]
  case msix =>
    intro s fn v hhub x time hpend htime hdue
    refine ⟨fun hunmasked => ?_, fun hmasked => ?_⟩
    · refine (onHub_acts _ hhub).trans ?_
      rw [msixTime_signals hpend htime hdue, msix_unmasked hunmasked]
      rfl
    · refine (onHub_acts _ hhub).trans ?_
      rw [msixTime_signals hpend htime hdue, msix_masked hmasked]
      rfl

end Sys2Proof.Machine
end

section
/-! Prefetch, sleep and scrub (R89, R183 to R185, R190): settles PrefetchSleepAndScrub. -/

namespace Sys2Proof.Machine

open Sys2Proof.Claims

/-! ### Prefetch (R184, R185) -/

section
variable {d : Dev} {c : CellId} {ln : BitVec 3} {im : Upset}

/-- A lane with a free slot takes the head of the ready list (R185). -/
theorem prefetch_fills (hruns : (d.cell c).runs = true) (hfree : ((d.cell c).pipe.lane ln.toNat).slots.length < 2) {a : Act}
    {p : CellPipe} (hpop : (d.cell c).pipe.popReady = some (a, p)) :
    prefetch c ln im d =
      ((d.modPipe c fun _ => p).modLane c ln fun l =>
        { l with slots := l.slots ++ [(d.cell c).slotOf a im (d.coreNow c)] }).upsetFault c im 0 := by
  simp [prefetch, hruns, hfree, hpop]

theorem popReady_handler {p : CellPipe} {a : Act} {l : List Act} (h : p.rdyH = a :: l) :
    p.popReady = some (a, { p with rdyH := l }) := by
  simp only [CellPipe.popReady, h]

theorem popReady_ordinary {p : CellPipe} {a : Act} {l : List Act} (hh : p.rdyH = []) (h : p.rdy = a :: l) :
    p.popReady = some (a, { p with rdy := l }) := by
  simp only [CellPipe.popReady, hh, h]

end

/-! ### Sleep (R190) -/

/-- A cell that has been idle for 4,096 core cycles and holds no event record falls asleep. -/
theorem cellSleep_sleeps {d : Dev} {c : CellId} (hruns : (d.cell c).runs = true) (hidle : (d.cell c).idle = true)
    (hrecs : (d.cell c).ev.recs = []) (hlong : (d.cell c).idleSince + 4096 ≤ d.coreNow c) :
    cellSleep c d = d.setCell c { d.cell c with asleep := true } := by
  simp [cellSleep, hruns, hidle, hrecs, hlong, Dev.modCell]

/-! ### Scrub (R183) -/

/-- The device with the scrub pointer of a bank on its next set. -/
def Dev.scrubMoved (d : Dev) (c : CellId) (bank : Bool) : Dev :=
  d.modStore c fun m => { m with scrub := mset 0 m.scrub (b2n bank) ((mget 0 (d.cell c).store.scrub (b2n bank) + 1) % 2048) }

/-- The entries of a bank in a way of the set that its scrub pointer names. -/
def CellStore.scrubbed (s : CellStore) (bank : Bool) (way : BitVec 3) : List MsEntry :=
  s.ms.filter fun e => e.bank = bank ∧ e.set.toNat = mget 0 s.scrub (b2n bank) % 2048 ∧ e.way = some way

/-- The entry that the scrub finds in a way is the first that stands there. -/
theorem inSet_find?_way (s : CellStore) (bank : Bool) (way : BitVec 3) :
    ((s.inSet bank (BitVec.ofNat 11 (mget 0 s.scrub (b2n bank)))).find? fun e => e.way = some way) =
      (s.scrubbed bank way).head? := by
  have hset (e : MsEntry) (n : Nat) : e.set = BitVec.ofNat 11 n ↔ e.set.toNat = n % 2048 := by
    rw [← BitVec.toNat_inj, BitVec.toNat_ofNat]
  unfold CellStore.inSet CellStore.scrubbed
  rw [List.find?_filter, List.head?_filter]
  congr 1
  funext e
  cases hway : e.way <;> simp [hset, and_assoc]

section
variable {d : Dev} {c : CellId} {bank : Bool} {way : BitVec 3}

/-- A scrub that reads no entry only moves its pointer. -/
theorem msScrub_of_nil (hruns : (d.cell c).runs = true) (hawake : (d.cell c).asleep = false)
    (h : (d.cell c).store.scrubbed bank way = []) (u : Upset) : msScrub c bank way u d = d.scrubMoved c bank := by
  have hfind := inSet_find?_way (d.cell c).store bank way
  rw [h] at hfind
  simp [msScrub, hruns, hawake, hfind, Dev.scrubMoved]

/-- The entry that a scrub reads meets its check, once the pointer has moved. -/
theorem msScrub_of_cons (hruns : (d.cell c).runs = true) (hawake : (d.cell c).asleep = false) {e : MsEntry} {l : List MsEntry}
    (h : (d.cell c).store.scrubbed bank way = e :: l) (u : Upset) :
    msScrub c bank way u d = (d.scrubMoved c bank).entryUpset c e u := by
  have hfind := inSet_find?_way (d.cell c).store bank way
  rw [h] at hfind
  simp [msScrub, hruns, hawake, hfind, Dev.scrubMoved]

end

/-- An entry that fails its check is discarded: a constant's graph is aborted, an item is consumed (R183). -/
theorem entryUpset_uncorrectable (d : Dev) (c : CellId) (e : MsEntry) :
    d.entryUpset c e .uncorrectable =
      let d := (d.celFault c 5).modStore c fun m => { m with ms := m.ms.erase e }
      if e.const then d.abortDue e.tok.graph
      else if e.sticky then d
      else d.cellConsume c e.tok.graph e.tok.colour := by
  cases hconst : e.const <;> cases hsticky : e.sticky <;> simp [Dev.entryUpset, Dev.discardEntry, MsEntry.item, hconst, hsticky]

/-- Settles O23: each command does what its lemma says, since its trigger is there. -/
theorem prefetchSleepAndScrub : Obligations.PrefetchSleepAndScrub := by
  refine ⟨⟨?prefetch, ?sleep⟩, ?scrub⟩
  case prefetch =>
    intro s c ln im a l hrun x word slot put hfree
    obtain ⟨hdies, hruns⟩ := hrun
    refine ⟨fun hhandler => ?_, fun hnone hordinary => ?_⟩
    · exact (onDies_acts _ hdies).trans (by rw [prefetch_fills hruns hfree (popReady_handler hhandler)]; rfl)
    · exact (onDies_acts _ hdies).trans (by rw [prefetch_fills hruns hfree (popReady_ordinary hnone hordinary)]; rfl)
  case sleep =>
    intro s c hrun x hqs hin0 hin1 hbypass hegress hheld hrdyH hrdy hct hlanes hms hrecs hlong
    obtain ⟨hdies, hruns⟩ := hrun
    have hlanes : (x.pipe.lanes.all fun l => l.2.slots.isEmpty && l.2.rep.isNone) = true := by simpa using hlanes
    have hidle : x.idle = true := by
      simpa [Cell.idle, hqs, hin0, hin1, hbypass, hegress, hheld, hrdyH, hrdy, hct, hlanes] using hms
    refine (onDies_acts _ hdies).trans ?_
    rw [cellSleep_sleeps hruns hidle hrecs hlong]
    rfl
  case scrub =>
    intro s c bank way u hrun hawake x b at_ moved read
    obtain ⟨hdies, hruns⟩ := hrun
    refine ⟨?clean, fun e l hread => ⟨?corrected, ?uncorrectable⟩⟩
    case clean =>
      intro hclean
      refine (onDies_acts _ hdies).trans ?_
      cases hread : x.store.scrubbed bank way with
      | nil => rw [msScrub_of_nil hruns hawake hread]; rfl
      | cons e l =>
        obtain rfl | hnone := hclean
        · rw [msScrub_of_cons hruns hawake hread]; rfl
        · cases hread.symm.trans hnone
    case corrected =>
      exact (onDies_acts _ hdies).trans (by rw [msScrub_of_cons hruns hawake hread]; rfl)
    case uncorrectable =>
      exact (onDies_acts _ hdies).trans (by rw [msScrub_of_cons hruns hawake hread, entryUpset_uncorrectable]; rfl)

end Sys2Proof.Machine
end

section
/-! The token that the arbiter selects (R40, R42, R166, R170, R177): settles SelectedTokenMatches. -/

namespace Sys2Proof.Machine

open Sys2Proof.Claims

/-! ### The arbiter leaves the matching store (R170, R171) -/

section
variable (d : Dev) (c : CellId)

theorem modPipe_store (f : CellPipe → CellPipe) : ((d.modPipe c f).cell c).store = (d.cell c).store := by simp

theorem applyQcfg_cells (q : Nat) : (d.applyQcfg c q).cells = d.cells := by
  unfold Dev.applyQcfg Dev.applyStaged
  split <;> rfl

theorem foldl_applyQcfg_cells (qs : List Nat) : (qs.foldl (fun d q => d.applyQcfg c q) d).cells = d.cells := by
  induction qs generalizing d with
  | nil => rfl
  | cons q qs ih => rw [List.foldl_cons, ih, applyQcfg_cells]

theorem refill_store (level : Nat) : ((d.refill c level).cell c).store = (d.cell c).store := by
  unfold Dev.refill
  dsimp only
  rw [modPipe_store, Dev.cell_congr (foldl_applyQcfg_cells ..)]

theorem afterTake_store (q : Nat) : ((d.afterTake c q).cell c).store = (d.cell c).store := by
  unfold Dev.afterTake
  split
  · exact modPipe_store ..
  · rfl

variable {d c}

theorem chooseQueue_store {e : Dev} {q : Nat} (h : d.chooseQueue c = some (e, q)) : (e.cell c).store = (d.cell c).store := by
  unfold Dev.chooseQueue at h
  dsimp only at h
  split at h
  · cases h
  · cases h
    rw [modPipe_store]
    split
    · exact refill_store ..
    · rfl

/-- A selection leaves the matching store of its cell. -/
theorem select_store {e : Dev} {q : QTok} (h : d.select c = some (e, q)) : (e.cell c).store = (d.cell c).store := by
  unfold Dev.select at h
  split at h
  · obtain ⟨_, _, heq⟩ := Option.map_eq_some_iff.mp h
    cases heq
    exact modPipe_store ..
  · split at h
    · cases h
    · next hchoose =>
      obtain ⟨_, _, heq⟩ := Option.map_eq_some_iff.mp h
      cases heq
      rw [afterTake_store, modPipe_store, chooseQueue_store hchoose]

end

/-! ### The command -/

section
variable {d : Dev} {c : CellId}

theorem formWaiting_of_nil (h : (d.cell c).store.fires = []) (bank : Bool) : d.formWaiting c bank = d := by
  simp [Dev.formWaiting, h]

theorem matchHead_of_nil {bank : Bool} (h : (d.cell c).store.bankIn bank = []) (im ms : Upset) :
    d.matchHead c bank im ms = (d, false) := by
  simp only [Dev.matchHead, h]

theorem bankIn_of_selecting (h : Selecting d c) (bank : Bool) : (d.cell c).store.bankIn bank = [] := by
  cases bank
  · exact h.open0
  · exact h.open1

/-- With nothing in front of it, the arbiter selects (R170, R182). -/
theorem tokenSelect_of_selecting (h : Selecting d c) (qb im ms : Upset) : tokenSelect c qb im ms d = d.selectToken c qb im ms := by
  have hroom : ¬readyOrdinary ≤ (d.cell c).pipe.rdy.length := Nat.not_le.mpr h.room
  simp [tokenSelect, h.running.2, h.awake, hroom, formWaiting_of_nil h.fires, matchHead_of_nil (bankIn_of_selecting h _)]

variable {e : Dev} {q : QTok}

/-- The token selected is handled at once, since its bank's input holds none. -/
theorem selectToken_matches (h : Selecting d c) (hselect : d.select c = some (e, q)) (im ms : Upset) :
    d.selectToken c .none im ms = (e.matchAt c q [] im ms).1.release c := by
  have hempty : (e.cell c).store.bankIn q.bank = [] := by rw [select_store hselect, bankIn_of_selecting h]
  simp [Dev.selectToken, hselect, Dev.upsetFault, hempty]

/-- An uncorrectable token is discarded as it is read (R166). -/
theorem selectToken_discards (hselect : d.select c = some (e, q)) (hresv : q.resv = false) (hinst : q.installed = false)
    (im ms : Upset) :
    d.selectToken c .uncorrectable im ms = ((e.celFault c 7).cellConsume c q.tok.graph q.tok.colour).release c := by
  simp [Dev.selectToken, hselect, Dev.upsetFault, hresv, hinst, Dev.unreserve]

/-! ### The match stage (R177) -/

/-- Nothing is read with an error: the steps of R177 decide, and the token's fate clears its bank. -/
theorem matchAt_done {f : Dev} (hresv : q.resv = false) (h : e.matchToken c q = .done f) :
    ((e.matchAt c q [] .none .none).1).release c = matched c q f := by
  have hlookup : (e.upsetFault c .none 0).lookupUpset c q .none = e := by
    unfold Dev.lookupUpset
    dsimp only
    split <;> rfl
  have hread : e.matchRead c q .none .none = .done f := by
    simp only [Dev.matchRead, hlookup, h]
  simp only [Dev.matchAt, Dev.unreserve, hresv, Bool.false_eq_true, if_false, hread]
  cases hbank : q.bank <;> simp [matched, hbank, CellStore.setBankIn, CellStore.setSetp]

/-- The steps of R177 that are left for a token that meets the first four. -/
theorem matchPath_of_passing (h : Passing e c q) :
    (e.cell c).matchPath e.uct.entries q =
      let w := (e.cell c).matchWord q.tok.instr
      if (portUse e.uct.entries w).number = 1 then .single
      else if stickyPort e.uct.entries w = some q.tok.port then .sticky
      else .plain := by
  unfold Cell.matchPath
  dsimp only
  rw [h.port, h.window, List.contains_eq_mem, decide_eq_false h.here]
  by_cases hone : (portUse e.uct.entries ((e.cell c).matchWord q.tok.instr)).number = 1 <;> simp [hone]

theorem matchToken_single (h : Passing e c q)
    (hone : (portUse e.uct.entries ((e.cell c).matchWord q.tok.instr)).number = 1) :
    e.matchToken c q = .done (e.form c
      { graph := q.tok.graph, frame := q.tok.frame, iter := q.tok.iter, instr := q.tok.instr
        left := some { tok := q.tok, sticky := false }, right := none, pred := none, handler := false, freeing := false }) := by
  simp only [Dev.matchToken, matchPath_of_passing h, hone, if_true]

/-- Step 7 of R177 is reached: other ports are used, and the token's own is not sticky. -/
def Plain (e : Dev) (c : CellId) (q : QTok) : Prop :=
  let w := (e.cell c).matchWord q.tok.instr
  (portUse e.uct.entries w).number ≠ 1 ∧ stickyPort e.uct.entries w ≠ some q.tok.port

theorem matchToken_plain (h : Passing e c q) (hplain : Plain e c q) :
    e.matchToken c q = e.matchPlain c q ((e.cell c).matchWord q.tok.instr) := by
  obtain ⟨hmany, hopen⟩ := hplain
  simp only [Dev.matchToken, matchPath_of_passing h, hmany, hopen, if_false]

/-- The partners are there: the activation forms (R42). -/
theorem matchPlain_joins {w : Word} {a : Act} {es : List MsEntry}
    (h : (e.cell c).store.complete e.uct.entries w q.tok true = some (a, es)) :
    e.matchPlain c q w = .done ((e.modStore c fun m => m.join es (e.stampNow c)).form c a) := by
  simp only [Dev.matchPlain, h]

/-- The device with the entries touched that the token's lookup met (R179). -/
def Dev.lookedUp (e : Dev) (c : CellId) (t : Token) (w : Word) : Dev :=
  e.modStore c fun m => m.touchAll (m.met e.uct.entries w t) (e.stampNow c)

/-- A partner is missing: the token takes an entry, admitted and with a place (R179, R197). -/
theorem matchPlain_waits {w : Word} {m : CellStore} (h : (e.cell c).store.complete e.uct.entries w q.tok true = none)
    (hadmits : (e.lookedUp c q.tok w).admits c q.tok.graph = true)
    (hplace : ((e.lookedUp c q.tok w).cell c).store.place
      (placing q.tok (stickyPort e.uct.entries w).isSome false) ((e.lookedUp c q.tok w).stampNow c) = some m) :
    e.matchPlain c q w =
      .done ((((e.lookedUp c q.tok w).modStore c fun _ => m).markInUse c q.tok.graph q.tok.frame).touchFrame c
        q.tok.graph q.tok.frame) := by
  have hstore : e.matchPlain c q w = (e.lookedUp c q.tok w).store c q (placing q.tok (stickyPort e.uct.entries w).isSome false) := by
    simp only [Dev.matchPlain, h]
    rfl
  simp only [hstore, Dev.store, hadmits, hplace, Bool.not_true, Bool.false_eq_true, if_false]

end

/-- A token that the arbiter selects and whose fate is decided leaves its bank's input clear. -/
theorem exec_tokenSelect_done {s : State} {c : CellId} {d f : Dev} {q : QTok} (h : Selecting s.dev c)
    (hselect : s.dev.select c = some (d, q)) (hpass : Passing d c q) (hdone : d.matchToken c q = .done f) :
    exec (.tokenSelect c .none ⟨.none, .none⟩) s = .next { s with dev := matched c q f } := by
  refine (onDies_acts _ h.running.1).trans ?_
  dsimp only
  rw [tokenSelect_of_selecting h, selectToken_matches h hselect, matchAt_done hpass.kept hdone]

/-- Settles O20: the step of R177 that each clause meets decides the token's fate. -/
theorem selectedTokenMatches : Obligations.SelectedTokenMatches := by
  intro s c d q h hselect t w n plain
  refine ⟨?single, ?joins, ?waits, ?discards⟩
  case single =>
    intro hpass hone
    exact exec_tokenSelect_done h hselect hpass (matchToken_single hpass hone)
  case joins =>
    intro a es hpass hplain hcomplete
    exact exec_tokenSelect_done h hselect hpass ((matchToken_plain hpass hplain).trans (matchPlain_joins hcomplete))
  case waits =>
    intro m hpass hplain hmissing met hadmits hplace
    exact exec_tokenSelect_done h hselect hpass
      ((matchToken_plain hpass hplain).trans (matchPlain_waits hmissing hadmits hplace))
  case discards =>
    intro hresv hinst im ms
    refine (onDies_acts _ h.running.1).trans ?_
    dsimp only
    rw [tokenSelect_of_selecting h, selectToken_discards hselect hresv hinst]

end Sys2Proof.Machine
end

section
/-! The initiator timeout of a lock entry (R139, R188): refutes EntriesEndInTime. Its clause for lock entries asks of the request
only that it is no LOCK. The model replies to ST and STS with a, whatever ends the request, so an entry that holds a ST as its
lock request replies with a, and not with the status TIMEOUT. No dispatch takes such an entry. -/

namespace Sys2Proof.Machine

open Sys2Proof.Claims

/-- An entry that holds a ST as its lock request, with operand a = 1; its word sends the result to instruction 0 twice. -/
def storeAsLock : CtEntry :=
  { act := { graph := 1, frame := 0, iter := 0, instr := 0, left := some { tok := ⟨0, 0, 1⟩, sticky := false }, right := none
             pred := none, handler := false, freeing := false }
    word := 0
    kind := .lockReq { op := .st, sz := 0, sx := false, addr := 0, data := 0, cmp := 0, dpoison := false, graph := 1, frame := 0
                       src := .cell 5 0 0 }
    acked := false, again := false, uid := 0, issued := 0, colour := false }

/-- The rails are on, and the 10 ms of TMOCFG.INIT have passed since cell 5 issued the entry. -/
def storeAsLockDev : Dev :=
  { State.reset.dev with
    pwr := { State.reset.dev.pwr with off := false }, clock := { State.reset.dev.clock with run := 10000000 } }.modPipe 5 fun p =>
      { p with ct := [(0, storeAsLock)] }

/-- The values that wait in the bypass of cell 5. -/
def bypassValues (d : Dev) : List Word := (d.cell 5).pipe.bypass.map fun r => r.tok.w2

/-- The model replies with a to both destinations of the word. -/
theorem storeAsLock_sends : bypassValues (initiatorTimeout (.cellEntry 5 0 .none) storeAsLockDev) = [1, 1] := by decide +kernel

/-- What the clause says of it has the lock word with status TIMEOUT there. -/
theorem storeAsLock_claimed (d : Dev)
    (h : d = (ended (replied storeAsLockDev 5 storeAsLock .none
      ((storeAsLock.maker 5 false).one storeAsLock.word ⟨lockWord 0 stTimeout, 8⟩)) 5 0 storeAsLock.act.graph).fault rMshErr 0 64 [] []) :
    bypassValues d = [12, 12] := by
  subst h
  decide +kernel

/-- Refutes O22: at the timeout of a ST that is kept as a lock request the model replies with a, and the clause with the lock word. -/
theorem not_entriesEndInTime : ¬ Obligations.EntriesEndInTime := by
  intro h
  have hhub : storeAsLockDev.hubRuns = true := by decide +kernel
  have hrun : Running storeAsLockDev 5 := ⟨by decide +kernel, by decide +kernel⟩
  have hroom : RecordsFor storeAsLockDev 5 storeAsLock.act.graph := recordsFor_iff.mpr (by decide +kernel)
  have hentry : mfind (storeAsLockDev.cell 5).pipe.ct (0 : BitVec 10).toNat = some storeAsLock := by decide +kernel
  have hlate : storeAsLock.issued + storeAsLockDev.initTimeout ≤ storeAsLockDev.clock.run := by decide +kernel
  obtain ⟨-, hlock, -⟩ := h { State.reset with dev := storeAsLockDev } 5 0 .none storeAsLock hrun hentry hroom
  have hnext := Host.Outcome.next.inj ((onHub_acts _ hhub).symm.trans (hlock _ hhub rfl (by decide) rfl hlate))
  have hclaimed := storeAsLock_claimed _ (congrArg State.dev hnext)
  exact absurd (storeAsLock_sends.symm.trans hclaimed) (by decide)

end Sys2Proof.Machine
end

section
/-! A duplicate of a held token (R173, R174): refutes OrderedArrivalAndGap. Its clause for a token with the expected SEQ does not
ask that no held token of the stream has that SEQ. One can: a held token whose SEQ is expected stays in the hold while its queue is
full. The model then drops the arriving token, as R174 says, and the clause has it enter its queue. -/

namespace Sys2Proof.Machine

open Sys2Proof.Claims

/-- The token with SEQ 0 of stream 1 of graph 1, to instruction 0 of cell 5. -/
def firstInStream : Token :=
  TokenFields.pack
    { node := 0, cell := 5, graph := 1, cls := 0, stream := 1, seq := 0, kind := 0, vtype := 0, poison := false, epoch := false
      colour := false, frame := 0, instr := 0, port := 0, iter := 0, value := 0 }

def firstInStreamRes : Res := { tok := firstInStream, lane := none, src := .hub, count := 0, since := 0 }

/-- A graph whose mask is cell 5, with one instruction there. -/
def oneCellGraph : Graph :=
  { Image.graph { ws := [], len := 0 } 0 0 0 with
    mask := [5], cfg := [(5, { ibase := 0, icount := 1, fbase := 0, fcount := 0, nfbase := 0 })] }

/-- Cell 5 expects SEQ 0 of the stream; the token that carries it is held, and stands in the ingress once more. -/
def duplicateDev : Dev :=
  { State.reset.dev with pwr := { State.reset.dev.pwr with off := false }, graphs := [(1, oneCellGraph)] }.modPipe 5 fun p =>
    { p with ingress := [firstInStreamRes], held := [{ tok := firstInStream, asks := false, since := 0 }] }

/-- The tokens in the queue of cell 5 that the token is for. -/
def queueHolds (d : Dev) : Nat := ((d.cell 5).pipe.queue (d.queueOf 5 firstInStream)).length

theorem duplicate_running : Running duplicateDev 5 := ⟨by decide +kernel, by decide +kernel⟩

theorem duplicate_heads : Heads duplicateDev 5 false 0 firstInStreamRes := ⟨by decide +kernel, fun _ => by decide +kernel⟩

theorem duplicate_passes : Passes duplicateDev 5 firstInStream oneCellGraph :=
  { good := by decide +kernel, graph := by decide +kernel, mask := by decide +kernel, alive := by decide +kernel
    range := by decide +kernel }

/-- The model drops the token: its queue stays empty. -/
theorem duplicate_dropped : queueHolds (arrival 5 .ingress 0 duplicateDev) = 0 := by decide +kernel

/-- In the device that the clause states, the token has entered its queue. -/
theorem duplicate_claimed {d : Dev}
    (h : d = (((takenOff duplicateDev 5 false 0).enqueue 5 firstInStreamRes.qtok).modPipe 5 fun p =>
      { p with expSeq := mset 0 p.expSeq 17 1, skips := p.skips.erase (17 * 512) }).release 5) :
    queueHolds d = 1 := by
  subst h
  decide +kernel

/-- Refutes O19: the expected token arrives while a duplicate of it is held; the model drops it, and the clause queues it. -/
theorem not_orderedArrivalAndGap : ¬ Obligations.OrderedArrivalAndGap := by
  rintro ⟨harrives, -⟩
  obtain ⟨hexpected, -⟩ := harrives { State.reset with dev := duplicateDev } 5 false 0 firstInStreamRes oneCellGraph
    duplicate_running duplicate_heads duplicate_passes (by decide +kernel) (by decide +kernel)
  have hclaimed := hexpected (by decide +kernel) (by decide +kernel)
  have hnext := Host.Outcome.next.inj ((onDies_acts _ duplicate_running.1).symm.trans hclaimed)
  exact absurd (duplicate_dropped.symm.trans (duplicate_claimed (congrArg State.dev hnext))) (by decide)

end Sys2Proof.Machine
end

section
/-! The spill/fill engine moves frames (R55, R198 to R203, R208, R209): settles SpillEngineMovesFrames. -/

namespace Sys2Proof.Machine

open Sys2Proof.Claims

/-! ### An element of least key -/

theorem minBy_eq_none_iff {α : Type} {key : α → Nat} : ∀ {l : List α}, minBy key l = none ↔ l = []
  | [] => by simp [minBy]
  | a :: l => by
    simp only [minBy, reduceCtorEq, iff_false]
    split
    · simp
    · split <;> simp

theorem mem_of_minBy_eq_some {α : Type} {key : α → Nat} {a : α} : ∀ {l : List α}, minBy key l = some a → a ∈ l
  | [], h => by simp [minBy] at h
  | b :: l, h => by
    simp only [minBy] at h
    split at h
    · simp_all
    · rename_i x hx
      have hmem : x ∈ l := mem_of_minBy_eq_some hx
      split at h <;> simp_all

/-! ### Updates of one store, and the running of a command -/

/-- A command of a compute die that runs answers what its meaning makes of the device. -/
theorem onDies_next {s : State} {f : Dev → Dev} {e : Dev} (hdies : s.dev.diesStop = false) (h : f s.dev = e) :
    onDies f s = .next { s with dev := e } := h ▸ onDies_acts f hdies

theorem modStore_congr {d : Dev} {c : CellId} {f g : CellStore → CellStore} (h : f (d.cell c).store = g (d.cell c).store) :
    d.modStore c f = d.modStore c g := by
  simp only [Dev.modStore, Dev.modCell, h]

/-! ### SPILL_TRIGGER (R198) -/

/-- The device with the pool trigger in force or not. -/
def Dev.setTrigger (d : Dev) (c : CellId) (b : Bool) : Dev := d.modStore c fun m => { m with spilling := b }

/-- The pool trigger is in force: below SPILL_LO, and from there on below SPILL_HI. -/
def Dev.Triggered (d : Dev) (c : CellId) : Prop :=
  d.poolFree c < d.fld rMswm 0 16 ∨ ((d.cell c).store.spilling = true ∧ d.poolFree c < d.fld rMswm 16 16)

/-- The oldest demanded frame does not fit (R201). -/
def Dev.demandWaits (d : Dev) (c : CellId) : Bool :=
  match (d.cell c).store.demand.head? with
  | none => false
  | some k => !d.fits c k

theorem demandWaits_eq_false {d : Dev} {c : CellId}
    (h : ∀ k, (d.cell c).store.demand.head? = some k → d.fits c k = true) : d.demandWaits c = false := by
  unfold Dev.demandWaits
  split
  · rfl
  · rename_i k hk
    simp [h k hk]

section
variable {d : Dev} {c : CellId} (b : Bool)

@[simp] theorem setTrigger_cell : (d.setTrigger c b).cell c =
    { d.cell c with store := { (d.cell c).store with spilling := b } } := Dev.cell_modStore_self ..

theorem setTrigger_poolFree : (d.setTrigger c b).poolFree c = d.poolFree c := by
  simp only [Dev.poolFree, setTrigger_cell]
  rfl

theorem setTrigger_fits (k : Nat) : (d.setTrigger c b).fits c k = d.fits c k := by
  simp only [Dev.fits, setTrigger_cell, setTrigger_poolFree]
  rfl

theorem setTrigger_victim : (d.setTrigger c b).victim c = d.victim c := by
  simp only [Dev.victim, Dev.candidates, setTrigger_cell]
  rfl

theorem setTrigger_demandWaits : (d.setTrigger c b).demandWaits c = d.demandWaits c := by
  simp only [Dev.demandWaits, setTrigger_cell, setTrigger_fits]

/-- SPILL_TRIGGER once it is known whether the trigger is in force. -/
theorem spillTrigger_eq (hruns : (d.cell c).runs = true) (hon : b = true ↔ d.Triggered c) :
    spillTrigger c d =
      if (b || d.demandWaits c) && (d.cell c).store.sweep.isEmpty then (d.setTrigger c b).searchVictim c
      else d.setTrigger c b := by
  have hb : (decide (d.poolFree c < d.spillLo) || ((d.cell c).store.spilling && decide (d.poolFree c < d.spillHi))) = b := by
    rw [Bool.eq_iff_iff, hon, Bool.or_eq_true, Bool.and_eq_true, decide_eq_true_eq, decide_eq_true_eq]
    rfl
  have hruns' : ((d.setTrigger c b).cell c).runs = true := by
    rw [setTrigger_cell]
    exact hruns
  calc spillTrigger c d
      = if ((d.setTrigger c b).cell c).runs && (b || (d.setTrigger c b).demandWaits c) &&
          ((d.setTrigger c b).cell c).store.sweep.isEmpty
        then (d.setTrigger c b).searchVictim c else d.setTrigger c b := by rw [spillTrigger, hb]; rfl
    _ = _ := by rw [hruns', Bool.true_and, setTrigger_demandWaits, setTrigger_cell]

/-- Nothing is spilled while a sweep runs, or without the trigger and a demand that waits for room. -/
theorem spillTrigger_rests (hruns : (d.cell c).runs = true) (hon : b = true ↔ d.Triggered c)
    (h : b = false ∧ d.demandWaits c = false ∨ (d.cell c).store.sweep ≠ []) : spillTrigger c d = d.setTrigger c b := by
  rw [spillTrigger_eq b hruns hon]
  rcases h with ⟨rfl, hdemand⟩ | hsweep
  · simp [hdemand]
  · simp [hsweep]

theorem searchVictim_spills {k : Nat} (h : d.victim c = some k) :
    d.searchVictim c = (d.spillFrame c k).modStore c fun m => { m with scan := (m.scan + d.fld rYocfg 0 8) % 2048 } := by
  rw [Dev.searchVictim, h]

theorem spillTrigger_searches {k : Nat} (hruns : (d.cell c).runs = true) (hon : d.Triggered c)
    (hsweep : (d.cell c).store.sweep = []) (hvictim : d.victim c = some k) :
    spillTrigger c d = ((d.setTrigger c true).spillFrame c k).modStore c fun m =>
      { m with scan := (m.scan + d.fld rYocfg 0 8) % 2048 } := by
  rw [spillTrigger_eq true hruns (iff_of_true rfl hon), hsweep, List.isEmpty_nil, Bool.true_or, Bool.and_self, if_pos rfl,
    searchVictim_spills ((setTrigger_victim true).trans hvictim)]
  rfl

end

/-! ### SPILL_MOVE (R200, R206, R209) -/

section
variable {d : Dev} {c : CellId} {k : Nat}

/-- An entry of the frame that a sweep moves: constants stay. -/
def MsEntry.sweptWith (k : Nat) (e : MsEntry) : Bool := !e.const && frameKey e.tok.graph e.tok.frame = k

theorem sweptWith_eq (k : Nat) :
    (fun e : MsEntry => !e.const && decide (frameKey e.tok.graph e.tok.frame = k)) = MsEntry.sweptWith k := rfl

/-- The entries of a frame that its sweep has still to move. -/
def CellStore.toSweep (s : CellStore) (k : Nat) : List MsEntry := s.ms.filter (MsEntry.sweptWith k)

theorem filter_sweptWith (s : CellStore) (k : Nat) : s.ms.filter (MsEntry.sweptWith k) = s.toSweep k := rfl

theorem toSweep_eq (s : CellStore) (k : Nat) :
    (s.ms.filter fun e => e.const = false ∧ frameKey e.tok.graph e.tok.frame = k) = s.toSweep k :=
  List.filter_congr fun e _ => by simp [MsEntry.sweptWith]

/-- Once an entry of the frame has moved, the sweep ends exactly when no other entry of it stood in the store. -/
theorem any_sweptWith_erase {s : CellStore} {e : MsEntry} (h : e ∈ s.toSweep k) :
    (s.ms.erase e).any (MsEntry.sweptWith k) = false ↔ s.toSweep k = [e] := by
  rw [List.any_eq_false, ← List.filter_eq_nil_iff, ← List.erase_filter]
  exact List.erase_eq_nil_iff.trans (or_iff_right (List.ne_nil_of_mem h))

/-- A ring with one more record of one place, under a number that no other has (R206). -/
def CellStore.putOne (k : Nat) (b : SpillBody) (s : CellStore) : CellStore :=
  let n := freshNum s.numsUsed 0 s.numsUsed.length
  { s with
    ring := s.ring ++ [{ key := k, body := b, nums := [n] }], ringFull := false
    ringWords := addAll s.ringWords (chainHead k b :: recordWords n) }

theorem ringPut_one {b : SpillBody} (hb : b.records = 1) (hroom : (d.cell c).store.recordsUsed < d.ringSize) :
    d.ringPut c k b = some (d.modStore c (CellStore.putOne k b)) := by
  have hfits : (d.cell c).store.recordsUsed + b.records ≤ d.ringSize := by omega
  simp only [Dev.ringPut, if_pos hfits]
  simp only [hb, freshNums, List.flatMap_cons, List.flatMap_nil, List.append_nil]
  rfl

theorem ringPut_full {b : SpillBody} (hb : b.records = 1) (hfull : d.ringSize ≤ (d.cell c).store.recordsUsed) :
    d.ringPut c k b = none := if_neg (by omega)

variable {rest : List Nat}

theorem sweepOne_swept (hsweep : (d.cell c).store.sweep = k :: rest) (hnone : (d.cell c).store.toSweep k = []) :
    d.sweepOne c = d.modStore c fun m => { m with sweep := rest } := by
  have hleast := (minBy_eq_none_iff (key := MsEntry.sweepOrder)).2 hnone
  simp only [Dev.sweepOne, hsweep, sweptWith_eq, filter_sweptWith, hleast]

theorem sweepOne_moves {e : MsEntry} (hsweep : (d.cell c).store.sweep = k :: rest)
    (hleast : minBy MsEntry.sweepOrder ((d.cell c).store.toSweep k) = some e)
    (hroom : (d.cell c).store.recordsUsed < d.ringSize) :
    d.sweepOne c = (d.modStore c (CellStore.putOne k (.spilled e.tok e.sticky))).modStore c fun m =>
      { m with ms := m.ms.erase e, sweep := if (d.cell c).store.toSweep k = [e] then rest else k :: rest } := by
  have hput := ringPut_one (k := k) (b := .spilled e.tok e.sticky) rfl hroom
  have hlast := any_sweptWith_erase (mem_of_minBy_eq_some hleast)
  simp only [Dev.sweepOne, hsweep, sweptWith_eq, filter_sweptWith, hleast, hput]
  refine modStore_congr ?_
  simp only [Dev.cell_modStore_self, CellStore.putOne]
  congr 1
  simp only [← hlast, ← Bool.not_eq_true, ite_not]

theorem sweepOne_full (hsweep : (d.cell c).store.sweep = k :: rest) (hsome : (d.cell c).store.toSweep k ≠ [])
    (hfull : d.ringSize ≤ (d.cell c).store.recordsUsed) : d.sweepOne c = d.spillFull c := by
  obtain ⟨e, hleast⟩ := Option.ne_none_iff_exists'.1 (mt (minBy_eq_none_iff (key := MsEntry.sweepOrder)).1 hsome)
  have hput := ringPut_full (k := k) (b := .spilled e.tok e.sticky) rfl hfull
  simp only [Dev.sweepOne, hsweep, sweptWith_eq, filter_sweptWith, hleast, hput]

theorem spillMove_sweeps (hruns : (d.cell c).runs = true) : spillMove c d = d.sweepOne c := if_pos hruns

end

/-! ### REEL_BACK_START (R201 to R203) -/

section
variable {d : Dev} {c : CellId} {k : Nat} {rest : List Nat}

/-- A demanded frame starts to come back with a reservation for its chain, or is no longer spilled when it has none (R201, R202). -/
def Dev.startReel (d : Dev) (c : CellId) (k n : Nat) (rest : List Nat) : Dev :=
  let d := d.modStore c fun m => { m with demand := rest }
  if n = 0 then d.unspill c k
  else d.modStore c fun m =>
    { m with
      reel := some k, reelLeft := n
      reserved := mset 0 m.reserved (keyGraph k).toNat (mget 0 m.reserved (keyGraph k).toNat + n) }

theorem reelStart_starts {e : Dev} (hruns : (d.cell c).runs = true) (hdemand : (d.cell c).store.demand = k :: rest)
    (hreel : (d.cell c).store.reel = none) (hswept : k ∉ (d.cell c).store.sweep) (hfits : d.fits c k = true)
    (he : d.restoreRecord c k = some e) :
    reelStart c d = e.startReel c k ((d.cell c).store.chain k).length rest := by
  have hnot : (d.cell c).store.sweep.contains k = false := by simpa using hswept
  simp only [reelStart, hdemand, hreel, hnot, hfits, hruns, he]
  rfl

theorem restoreRecord_here (h : (d.cell c).store.evicted k = none) : d.restoreRecord c k = some d := by
  simp only [Dev.restoreRecord, h]

theorem restoreRecord_evicted {r : FrameRec} (h : (d.cell c).store.evicted k = some r)
    (hroom : (d.cell c).store.frames.length < 4096) :
    d.restoreRecord c k = some (d.modStore c fun m =>
      { m with
        frames := minsert m.frames k { r with st := .spilled, stamp := d.stampNow c }
        ring := m.ring.filter fun y => !(y.key = k && match y.body with | .saved _ => true | _ => false) }) := by
  have hfree : (d.cell c).store.freeRecords ≠ 0 := by
    unfold CellStore.freeRecords
    omega
  rw [Dev.restoreRecord, h]
  exact if_neg hfree

end

/-! ### REEL_TOKEN and PARK_REEL (R55, R202, R208) -/

section
variable {d : Dev} {c : CellId} {q : QTok} {g : Graph}

theorem wakeCell_pipe : ((d.wakeCell c).cell c).pipe = (d.cell c).pipe := by
  simp [Dev.wakeCell]

theorem wakeCell_qFull (t : Token) : (d.wakeCell c).qFull c ((d.wakeCell c).queueOf c t) = d.qFull c (d.queueOf c t) :=
  Dev.qFull_congr (d := d) (e := d.wakeCell c) rfl (by rw [wakeCell_pipe]) (by rw [wakeCell_pipe]) (d.queueOf c t)

/-- A token that the Yo-yo brings back enters its queue, whatever its stream (R167, log 18). -/
theorem arrive_back (h : Passes d c q.tok g) (hkind : q.tok.kind ≠ 3) (hroom : d.qFull c (d.queueOf c q.tok) = false) :
    (d.wakeCell c).arrive c q true false = some ((d.wakeCell c).enqueue c q) := by
  have hwake : Passes (d.wakeCell c) c q.tok g :=
    { good := h.good, graph := h.graph, mask := h.mask, alive := h.alive, range := h.range }
  simp [Dev.arrive_of_passes hwake hkind, wakeCell_qFull, hroom]

theorem reelToken_brings {k : Nat} {r : SpillRec} {rest : List SpillRec} {t : Token} {sticky : Bool} {e : Dev}
    (hruns : (d.cell c).runs = true) (hreel : (d.cell c).store.reel = some k) (hchain : (d.cell c).store.chain k = r :: rest)
    (hbody : r.body = .spilled t sticky)
    (he : (d.wakeCell c).arrive c
      { tok := t, since := 0, reeled := true, resv := (d.cell c).store.reelLeft ≠ 0, installed := sticky, asks := false }
      true false = some e) :
    reelToken c d =
      let d := e.modStore c fun m => { m with ring := m.ring.erase r, reelLeft := m.reelLeft - 1 }
      if rest = [] then d.unspill c k else d := by
  simp only [reelToken, hreel, hchain, hbody, hruns, he, List.isEmpty_iff]
  rfl

theorem parkReel_brings {first r : SpillRec} {l : List SpillRec} {t : Token} {e : Dev} (hruns : (d.cell c).runs = true)
    (hready : ((d.cell c).store.ring.filter fun y => (d.cell c).admissible y) = first :: l)
    (hleast : minBy SpillRec.iter ((first :: l).filter fun y => y.key = first.key) = some r) (hbody : r.body = .parked t)
    (he : (d.wakeCell c).arrive c { plainQTok t with asks := true } true false = some e) :
    parkReel c d = e.modStore c fun m => { m with ring := m.ring.erase r } := by
  simp only [parkReel, hready, List.head?_cons, hleast, hbody, hruns, he]
  rfl

end

/-- Settles O24: each clause is one branch of its command, and the store's usage, pool and candidates do not look at the trigger. -/
theorem spillEngineMovesFrames : Obligations.SpillEngineMovesFrames := by
  intro s c ⟨hdies, hruns⟩ x st free on set_ mine
  have hmine (k : Nat) : mine k = st.toSweep k := toSweep_eq st k
  have hmove {e : Dev} (h : s.dev.sweepOne c = e) : exec (.spillMove c) s = .next { s with dev := e } :=
    onDies_next (f := spillMove c) hdies ((spillMove_sweeps hruns).trans h)
  refine ⟨?off, ?sweeping, ?search, ?swept, ?moves, ?full, ?start, ?reel, ?park⟩
  case off =>
    intro hoff hfits
    have hon : false = true ↔ s.dev.Triggered c := iff_of_false (by decide) hoff
    exact onDies_next (f := spillTrigger c) hdies
      (spillTrigger_rests false hruns hon (.inl ⟨rfl, demandWaits_eq_false hfits⟩))
  case sweeping =>
    intro hon hsweep
    exact onDies_next (f := spillTrigger c) hdies (spillTrigger_rests true hruns (iff_of_true rfl hon) (.inr hsweep))
  case search =>
    intro k hon hsweep hvictim
    exact onDies_next (f := spillTrigger c) hdies (spillTrigger_searches hruns hon hsweep hvictim)
  case swept =>
    intro k rest hsweep hnone
    exact hmove (sweepOne_swept hsweep ((hmine k).symm.trans hnone))
  case moves =>
    intro k rest e hsweep hleast hroom body n
    rw [hmine] at hleast ⊢
    exact hmove (sweepOne_moves hsweep hleast hroom)
  case full =>
    intro k rest hsweep hsome hfull
    rw [hmine] at hsome
    exact hmove (sweepOne_full hsweep hsome hfull)
  case start =>
    intro k rest hdemand hreel hswept hfits n g start
    have hstarts {e : Dev} (he : s.dev.restoreRecord c k = some e) :
        exec (.reelBackStart c) s = .next { s with dev := start e } :=
      onDies_next (f := reelStart c) hdies (reelStart_starts hruns hdemand hreel hswept hfits he)
    exact ⟨fun hhere => hstarts (restoreRecord_here hhere), fun r hgone hroom => hstarts (restoreRecord_evicted hgone hroom)⟩
  case reel =>
    intro k r rest t sticky g hreel hchain hbody hpass hkind hroom
    exact onDies_next (f := reelToken c) hdies
      (reelToken_brings hruns hreel hchain hbody (arrive_back hpass hkind hroom))
  case park =>
    intro first l r t g hready hleast hbody hpass hkind hroom
    exact onDies_next (f := parkReel c) hdies (parkReel_brings hruns hready hleast hbody (arrive_back hpass hkind hroom))

end Sys2Proof.Machine
end

section
/-! Refused tokens (R206, R211 to R214): settles RefusedTokensReturnAndRetry. -/

namespace Sys2Proof.Machine

/-! ### TOKEN_REFUSE in a cell (R211, R212) -/

section
variable {d : Dev} {c : CellId} {i : Nat} {r : Res} {sender : Sender}

/-- A Yo-yo that has room, or no REFUSE waiting, takes one more (R214); one for another node needs none. -/
theorem refusable_of_room (h : ∀ n, sender ≠ .node n → (d.yoyo sender.die).rts.length < d.rtsPlaces ∨
    (d.yoyo sender.die).refused = []) : d.refusable sender = true := by
  have room (hs : (d.yoyo sender.die).rts.length < d.rtsPlaces ∨ (d.yoyo sender.die).refused = []) :
      (!(d.rtsFull sender.die && !(d.yoyo sender.die).refused.isEmpty)) = true := by
    rcases hs with hroom | hnone
    · simp [Dev.rtsFull, hroom]
    · simp [hnone]
  cases sender with
  | node n => rfl
  | cell k => exact room (h 0 Sender.noConfusion)
  | hub => exact room (h 0 Sender.noConfusion)

theorem mayRefuse_of_held (hkind : r.tok.kind ≠ 3) (hheld : r.since + 1000 * d.fld rBplimit 0 14 ≤ d.clock.aon)
    (hroom : d.refusable sender = true) : d.mayRefuse r.tok r.since sender = true := by
  have hplain : r.tok.kind ≠ 3#4 := hkind
  simp [Dev.mayRefuse, Dev.heldTooLong, hplain, hheld, hroom]

theorem refuseIngress_refuses (hat : (d.cell c).pipe.ingress[i]? = some r) (hlive : (d.cell c).isolated = false)
    (hmay : d.mayRefuse r.tok r.since r.src = true) :
    refuseIngress c i d = (d.modPipe c fun p => { p with ingress := p.ingress.eraseIdx i }).refuseFrom c r.tok r.src r.count := by
  simp only [refuseIngress, takeAt_eq_of_getElem? hat, hmay, hlive]
  rfl

theorem refuseBypass_refuses (hat : (d.cell c).pipe.bypass[i]? = some r) (hlive : (d.cell c).isolated = false)
    (hmay : d.mayRefuse r.tok r.since (.cell c) = true) :
    refuseBypass c i d = (d.modPipe c fun p => { p with bypass := p.bypass.eraseIdx i }).refuseFrom c r.tok (.cell c) r.count := by
  simp only [refuseBypass, takeAt_eq_of_getElem? hat, hmay, hlive]
  rfl

end

/-! ### REFUSE_STORE (R213, R214) -/

section
variable {d : Dev} {k : DieId} {i : Nat} {r : RtsRec}

theorem refuseStore_full (hat : (d.yoyo k).refused[i]? = some r) (hfull : d.rtsPlaces ≤ (d.yoyo k).rts.length) :
    refuseStore k i d = d.fault rSchErr 1 33 [] [.rtsRing k] := by
  simp [refuseStore, takeAt_eq_of_getElem? hat, Dev.rtsFull, hfull]

/-- The words written once a record has gone in: HEAD, TAIL and that record (R206). -/
theorem wrote_of_append {y : Yoyo} {rts : List RtsRec} {x : RtsRec} (h : y.rts = rts ++ [x]) (places : Nat) :
    y.wrote places =
      { y with words := addAll y.words ([0, 1] ++ (List.range 4).map fun j =>
          512 + 4 * ((y.head + (rts.length + 1) + places - 1) % places) + j) } := by
  simp [Yoyo.wrote, h]

theorem refuseStore_stores (hat : (d.yoyo k).refused[i]? = some r) (hroom : (d.yoyo k).rts.length < d.rtsPlaces) :
    refuseStore k i d =
      d.setYoyo k ({ d.yoyo k with
        lfsr := some (lfsrStep ((d.yoyo k).lfsr.getD (lfsrSeed k)))
        refused := (d.yoyo k).refused.eraseIdx i
        rts := (d.yoyo k).rts ++ [{ r with
          due := d.dueTime (min 255 (r.count + 1)) (lfsrStep ((d.yoyo k).lfsr.getD (lfsrSeed k)))
          count := min 255 (r.count + 1) }] }.wrote (d.rtsPlaces + 1)) := by
  simp [refuseStore, takeAt_eq_of_getElem? hat, Dev.rtsFull, hroom]

end

/-! ### RETRY_SEND (R213) -/

section
variable {d : Dev} {k : DieId} {r : RtsRec} {rest : List RtsRec}

theorem retrySend_sends (hrts : (d.yoyo k).rts = r :: rest) (hdue : d.isDue r = true) :
    retrySend k d =
      (d.setYoyo k ({ d.yoyo k with rts := rest, head := ((d.yoyo k).head + 1) % (d.rtsPlaces + 1) }.wrote
        (d.rtsPlaces + 1))).sendFromDie k (.tok r.tok r.sender r.count) := by
  simp [retrySend, hrts, hdue]

theorem retrySend_waits (hrts : (d.yoyo k).rts = r :: rest) (hdue : d.isDue r = false) :
    retrySend k d =
      d.setYoyo k ({ d.yoyo k with rts := rest ++ [r], head := ((d.yoyo k).head + 1) % (d.rtsPlaces + 1) }.wrote
        (d.rtsPlaces + 1)) := by
  simp [retrySend, hrts, hdue]

end

/-- Settles O25: each clause names the branch that the command takes, and the ring's words follow from the record that goes in. -/
theorem refusedTokensReturnAndRetry : Obligations.RefusedTokensReturnAndRetry := by
  refine ⟨?refuse, ?store, ?retry⟩
  case refuse =>
    intro s c byp i r hdies hat hlive hkind sender hheld hroom out
    have hmay : s.dev.mayRefuse r.tok r.since sender = true := mayRefuse_of_held hkind hheld (refusable_of_room hroom)
    cases byp with
    | true => exact onDies_next (f := refuseBypass c i) hdies (refuseBypass_refuses hat hlive hmay)
    | false => exact onDies_next (f := refuseIngress c i) hdies (refuseIngress_refuses hat hlive hmay)
  case store =>
    intro s k i r hdies y hat
    refine ⟨fun hfull => ?_, fun hroom => ?_⟩
    · exact onDies_next (f := refuseStore k i) hdies (refuseStore_full hat hfull)
    · have hstores := refuseStore_stores hat hroom
      rw [wrote_of_append rfl] at hstores
      exact onDies_next (f := refuseStore k i) hdies hstores
  case retry =>
    intro s k r rest hdies y hrts head due
    refine ⟨fun hdue => ?_, fun hdue => ?_⟩
    · exact onDies_next (f := retrySend k) hdies (retrySend_sends hrts (decide_eq_true hdue))
    · exact onDies_next (f := retrySend k) hdies (retrySend_waits hrts (decide_eq_false hdue))

end Sys2Proof.Machine
end

section
/-! The census of a graph under unload (R39, R219, R404): refutes CensusWavesCollectAndDeclare. Its clause for WAVE_START lets a
wave begin on every graph that is being unloaded. Once the census of such a graph has ended, its slot waits only for its held
notices (`Dev.tryRelease`), and the model begins no further wave. -/

namespace Sys2Proof.Machine

/-- A graph under unload whose census has ended, with a notice held. -/
def endedGraph : Graph :=
  { Image.graph { ws := [], len := 0 } 0 0 0 with
    unloading := some none, complete := true, notices := [{ type_ := 1, status := 0, result := 1 }] }

/-- The device with that graph, a second after power-on. -/
def endedDev : Dev :=
  { State.reset.dev with
    pwr := { State.reset.dev.pwr with off := false }, graphs := [(1, endedGraph)]
    clock := { State.reset.dev.clock with run := 1000000000 } }

/-- A wave of graph 1 goes on. -/
def waveGoesOn (d : Dev) : Bool := (d.graph 1).any fun x => x.waveNow.isSome

theorem endedDev_hubRuns : endedDev.hubRuns = true := by decide +kernel

/-- The model begins no wave. -/
theorem ended_waits : waveGoesOn (waveStart 1 endedDev) = false := by decide +kernel

/-- In every device of the clause's form a wave goes on: the graph has no child to send it to. -/
theorem ended_claimed (w : Wave) :
    waveGoesOn ((endedDev.setGraph 1 { endedGraph with wave := 1, waveNow := some w }).toChildren 1
      { endedGraph with wave := 1, waveNow := some w } 0) = true := rfl

/-- Refutes O26: WAVE_START on a graph under unload whose census has ended begins no wave; the clause begins one. -/
theorem not_censusWavesCollectAndDeclare : ¬ Obligations.CensusWavesCollectAndDeclare := by
  rintro ⟨hwaves, -⟩
  obtain ⟨hstart, -⟩ := hwaves { State.reset with dev := endedDev } 1 endedGraph (by decide +kernel)
  have hclaimed := hstart endedDev_hubRuns (by decide +kernel) rfl (.inr (by decide)) (by decide +kernel)
  have hnext := Host.Outcome.next.inj ((onHub_acts _ endedDev_hubRuns).symm.trans hclaimed)
  have hsame := congrArg (fun t => waveGoesOn t.dev) hnext
  exact absurd (ended_waits.symm.trans (hsame.trans (ended_claimed _))) (by decide)

end Sys2Proof.Machine
end

section
/-! Structure words (R243 to R247): settles StructureWordsFillOnce. -/

namespace Sys2Proof.Machine

open Sys2Proof.Claims

/-! ### The words of a region set EMPTY -/

/-- Below its bound a table in canonical form lists nothing. -/
theorem mget_of_mwf_below {α : Type} [DecidableEq α] (d : α) {lo j : Nat} (hj : j < lo) :
    ∀ {m : Map α}, mwf d lo m = true → mget d m j = d
  | [], _ => rfl
  | (k, v) :: m, h => by
    simp only [mwf, Bool.and_eq_true, decide_eq_true_eq] at h
    obtain ⟨⟨hk, -⟩, -⟩ := h
    simp only [mget]
    rw [if_neg (by omega), if_pos (by omega)]

/-- A table in canonical form without the keys that fail a test: those read the default, the others as before. -/
theorem mget_filter_key {α : Type} [DecidableEq α] (d : α) (p : Nat → Bool) (j : Nat) :
    ∀ {m : Map α} {lo : Nat}, mwf d lo m = true → mget d (m.filter fun x => p x.1) j = if p j then mget d m j else d
  | [], _, _ => by simp [mget]
  | (k, v) :: m, lo, h => by
    simp only [mwf, Bool.and_eq_true, decide_eq_true_eq] at h
    obtain ⟨-, htail⟩ := h
    have ih := mget_filter_key d p j htail
    rw [List.filter_cons]
    obtain hlt | rfl | hgt := Nat.lt_trichotomy j k
    · have hne : k ≠ j := by omega
      rw [mget_of_mwf_below d (by omega : j < k + 1) htail, ite_self] at ih
      split <;> simp [mget, hne, hlt, ih]
    · rw [mget_of_mwf_below d (Nat.lt_succ_self j) htail, ite_self] at ih
      split
      · simp [mget]
      · exact ih
    · have hhead (l : Map α) : mget d ((k, v) :: l) j = mget d l j := by
        rw [mget, if_neg (by omega), if_neg (by omega)]
      rw [hhead]
      split
      · rw [hhead, ih]
      · exact ih

theorem isFull_setEmpty {h : Hbm} (hwf : h.wf = true) (lo hi x : Nat) :
    (h.setEmpty lo hi).isFull x = if lo ≤ x ∧ x < hi then false else h.isFull x := by
  obtain ⟨-, -, hfull⟩ := h.wf_iff.1 hwf
  have hread := mget_filter_key false (fun k => decide (k < lo) || decide (hi ≤ k)) x hfull
  by_cases hin : lo ≤ x ∧ x < hi
  · rw [if_pos hin]
    exact hread.trans (if_neg (by simp; omega))
  · rw [if_neg hin]
    exact hread.trans (if_pos (by simp; omega))

theorem regionInitDone_empties {d : Dev} {n : Nat} {rest : List Nat} {rg : Region} (hinit : d.rgnInit = n :: rest)
    (hregion : d.region n = some rg) (h : Hbm) :
    regionInitDone h d = (h.setEmpty (rg.base / 8) (rg.dataEnd / 8),
      { d with rgnInit := rest }.modStack (wordStack (rg.base / 8)) fun x =>
        { x with deferred := x.deferred.filter fun y => !rg.covers (8 * y.word) }) := by
  have hsame : { d with rgnInit := rest }.region n = some rg := hregion
  simp only [regionInitDone, hinit, hsame]

/-! ### CONTROLLER_STS and CONTROLLER_LDS (R244, R245, R247) -/

section
variable {d : Dev} {k : DieId} {i : Nat} {r : MemReq} {rg : Region} {h : Hbm}

theorem structAt_asked (hkind : d.memKind r.addr.toNat = .data rg) : (asked d k i).structAt r.addr.toNat = some rg := by
  have hsame : (asked d k i).structAt r.addr.toNat = d.structAt r.addr.toNat := rfl
  rw [hsame, Dev.structAt, hkind]

theorem drtUsed_asked : (asked d k i).drtUsed k = ((d.stack k).deferred.filter fun x => x.overflow = false).length := by
  simp [Dev.drtUsed, asked, count]

/-- A read is recorded at the end of the table while an entry is free (R245). -/
theorem defer_records (hroom : d.drtUsed k < deferredEntries) :
    d.defer k rg r = (d.modStack k fun x => { x with
      deferred := x.deferred ++ [{ word := r.addr.toNat / 8, src := r.src, graph := r.graph, overflow := false }] }).respond
        k r .ack := if_pos hroom

variable (hw : Waits d k i r) (hkind : d.memKind r.addr.toNat = .data rg)
include hw hkind

theorem controllerSts_full (hop : r.op = .sts) (hfull : h.isFull (r.addr.toNat / 8) = true) :
    controllerSts k i .none h d = (h, (asked d k i).respond k r .writeTwice) := by
  simp [controllerSts, takeReq_of_waits hw, hop, structAt_asked hkind, readPresence, hfull]

theorem controllerSts_fills (hop : r.op = .sts) (hempty : h.isFull (r.addr.toNat / 8) = false) :
    controllerSts k i .none h d =
      ((h.putWord (r.addr.toNat / 8) r.data r.dpoison).setFull (r.addr.toNat / 8) true,
        ((asked d k i).releaseAll k (r.addr.toNat / 8) r.data r.dpoison).respond k r (.value 0 false)) := by
  simp [controllerSts, takeReq_of_waits hw, hop, structAt_asked hkind, readPresence, hempty]

theorem controllerLds_full (hop : r.op = .lds) (hfull : h.isFull (r.addr.toNat / 8) = true) :
    controllerLds k i .none .none h d =
      (h, (asked d k i).respond k r
        (.value (h.read (8 * (r.addr.toNat / 8)) 8) (h.poisoned (r.addr.toNat / 8)))) := by
  simp [controllerLds, takeReq_of_waits hw, hop, structAt_asked hkind, readPresence, hfull, readWord, Hbm.word]

theorem controllerLds_defers (hop : r.op = .lds) (hempty : h.isFull (r.addr.toNat / 8) = false) :
    controllerLds k i .none .none h d = (h, (asked d k i).defer k rg r) := by
  simp [controllerLds, takeReq_of_waits hw, hop, structAt_asked hkind, readPresence, hempty]

end

/-- Settles O35: a structure word's presence decides what its request does, and a table in canonical form lists no word twice. -/
theorem structureWordsFillOnce : Obligations.StructureWordsFillOnce := by
  refine ⟨?requests, ?init⟩
  case requests =>
    intro s k i r rg hw w hkind
    refine ⟨fun hop hfull => ?twice, fun hop hempty => ?fills, fun hop hfull => ?answers, fun hop hempty hroom => ?records⟩
    case twice => exact onMem_answers hw (controllerSts_full hw hkind hop hfull)
    case fills =>
      refine ⟨_, (onMem_acts _ hw.runs).trans (by rw [controllerSts_fills hw hkind hop hempty]),
        fun b => ?_, fun x => ?_, fun x => ?_⟩
      · exact bytesStored_write s.hbm (8 * w) 8 r.data w r.dpoison b
      · simp [Hbm.putWord, Hbm.poisoned_setPoison, w]
      · simp [Hbm.putWord, Hbm.isFull_setFull, w]
    case answers => exact onMem_answers hw (controllerLds_full hw hkind hop hfull)
    case records =>
      have hdefer := defer_records (rg := rg) (r := r) (drtUsed_asked (i := i) ▸ hroom)
      exact (onMem_acts _ hw.runs).trans (by rw [controllerLds_defers hw hkind hop hempty, hdefer])
  case init =>
    intro s n rest rg hdies hinit hregion
    have hacts := onMem_acts regionInitDone hdies
    rw [regionInitDone_empties hinit hregion] at hacts
    refine ⟨_, hacts, rfl, rfl, rfl, rfl, ?_, fun hwf x => isFull_setEmpty hwf _ _ x⟩
    rw [Dev.stack_modStack_self]
    rfl

end Sys2Proof.Machine
end

section
/-! Scrub, self-refresh and host memory (R238, R239, R251, R252): settles MemoryUpkeepAndHostMemory. -/

namespace Sys2Proof.Machine

open Sys2Proof.Claims

/-! ### HBM_SCRUB and HBM_SELF_REFRESH (R238, R239) -/

section
variable {d : Dev} {k : DieId}

/-- The scrub of a stack at its next word. -/
def Dev.scrubNext (d : Dev) (k : DieId) : Dev := d.modStack k fun x => { x with scrub := (x.scrub + 1) % stackWords }

theorem hbmScrub_off (hoff : d.fld rMemCfg 0 8 = 0) (u : Upset) (h : Hbm) : hbmScrub k u h d = (h, d) := by
  simp [hbmScrub, hoff]

theorem hbmScrub_clean (hon : d.fld rMemCfg 0 8 ≠ 0) (hserved : d.stackIso k = false) (h : Hbm) :
    hbmScrub k .none h d = (h, d.scrubNext k) := by
  simp only [hbmScrub, hon, hserved]
  rfl

theorem hbmScrub_corrected (hon : d.fld rMemCfg 0 8 ≠ 0) (hserved : d.stackIso k = false) (h : Hbm) :
    hbmScrub k .corrected h d = (h, (d.scrubNext k).eccCorr k) := by
  simp only [hbmScrub, hon, hserved]
  rfl

theorem hbmSelfRefresh_rests (hserved : d.stackIso k = false) (hnone : (d.stack k).reqs = [])
    (hidle : (d.stack k).lastReq + 1000000 ≤ d.clock.run) :
    hbmSelfRefresh k true d = d.modStack k fun x => { x with selfRef := true } := by
  simp [hbmSelfRefresh, hserved, hnone, hidle]

/-- A meaning of memory that leaves HBM as it is. -/
theorem onMem_keeps {s : State} {f : Hbm → Dev → Hbm × Dev} {e : Dev} (hdies : s.dev.diesStop = false)
    (hf : f s.hbm s.dev = (s.hbm, e)) : onMem f s = .next { s with dev := e } := by
  rw [onMem_acts f hdies, hf]

end

/-! ### HOST_MEM_REQUEST (R251, R252) -/

theorem bits_zero_setWidth (a : BitVec 48) (len : Nat) :
    (bits a 0 len).setWidth 64 = BitVec.ofNat 64 (a.toNat % 2 ^ len) := by
  rw [bits_zero]
  apply BitVec.eq_of_toNat_eq
  simp

/-- The hub without the request at place i of those for host memory. -/
def Dev.hostTaken (d : Dev) (i : Nat) : Dev := { d with hif := { d.hif with hostReqs := d.hif.hostReqs.eraseIdx i } }

/-- The host interface's answer to the cell entry of a request. -/
def Dev.hostAnswer (d : Dev) (c : CellId) (e : BitVec 10) (uid : Nat) (g : GraphId) (x : Answer) : Dev :=
  d.sendFromHub hubHost (.rsp { dst := c, entry := e, uid := uid, graph := g, ans := x })

/-- The host address of a request: a[46:0] (R251). -/
def MemReq.hostAddr (r : MemReq) : Word := BitVec.ofNat 64 (r.addr.toNat % 2 ^ 47)

/-- What a read of host memory answers, by how it ended; a timeout answers nothing (R252). -/
def MemReq.readAnswer (r : MemReq) (a : HostData) : Option Answer :=
  match a.status with
  | .timeout => none
  | .ok => some (.value (extend (a.words.getD 0 0) (szBytes r.sz) r.sx) (a.poisoned.contains 0))
  | .poisoned => some (.value (extend (a.words.getD 0 0) (szBytes r.sz) r.sx) true)
  | .unsupported => some .memError
  | .aborted => some .memError

section
variable {d : Dev} {i : Nat} {a : HostData} {r : MemReq} {c : CellId} {e : BitVec 10} {uid : Nat}
  (hat : d.hif.hostReqs[i]? = some r) (hsrc : r.src = .cell c e uid)
include hat hsrc

/-- A cell's request leaves the hub, and the owner of its graph is the requester of what the host sees (R251). -/
theorem hostMemRequest_eq :
    hostMemRequest i a d =
      let fn := d.owner r.graph
      let n := szBytes r.sz
      let taken := d.hostTaken i
      if d.busMaster fn = false then taken.hostAnswer c e uid r.graph .memError
      else if r.op = .st then
        (taken.emit (.hostWrite fn r.hostAddr n [extend r.data n false] (if r.dpoison then [0] else []))).hostAnswer c e uid
          r.graph (.value 0 false)
      else
        let read := taken.readHost fn r.hostAddr n a.status (a.poisoned.contains 0)
        match r.readAnswer a with
        | none => read
        | some x => read.hostAnswer c e uid r.graph x := by
  simp only [hostMemRequest, takeAt_eq_of_getElem? hat, hsrc, bits_zero_setWidth r.addr 47, MemReq.readAnswer,
    Bool.not_eq_true']
  cases a.status <;> rfl

theorem hostMemRequest_refused (hbus : d.busMaster (d.owner r.graph) = false) :
    hostMemRequest i a d = (d.hostTaken i).hostAnswer c e uid r.graph .memError :=
  (hostMemRequest_eq hat hsrc).trans (if_pos hbus)

variable (hbus : d.busMaster (d.owner r.graph) = true)
include hbus

theorem hostMemRequest_store (hop : r.op = .st) :
    hostMemRequest i a d =
      ((d.hostTaken i).emit (.hostWrite (d.owner r.graph) r.hostAddr (szBytes r.sz)
        [extend r.data (szBytes r.sz) false] (if r.dpoison then [0] else []))).hostAnswer c e uid r.graph (.value 0 false) := by
  simp [hostMemRequest_eq hat hsrc, hbus, hop]

theorem hostMemRequest_unanswered (hop : r.op ≠ .st) (hanswer : r.readAnswer a = none) :
    hostMemRequest i a d =
      (d.hostTaken i).readHost (d.owner r.graph) r.hostAddr (szBytes r.sz) a.status (a.poisoned.contains 0) := by
  simp [hostMemRequest_eq hat hsrc, hbus, hop, hanswer]

theorem hostMemRequest_answered (hop : r.op ≠ .st) {x : Answer} (hanswer : r.readAnswer a = some x) :
    hostMemRequest i a d =
      ((d.hostTaken i).readHost (d.owner r.graph) r.hostAddr (szBytes r.sz) a.status
        (a.poisoned.contains 0)).hostAnswer c e uid r.graph x := by
  simp [hostMemRequest_eq hat hsrc, hbus, hop, hanswer]

end

/-- Settles O36: each clause is one branch of its command; a read answers by how the host's completion came. -/
theorem memoryUpkeepAndHostMemory : Obligations.MemoryUpkeepAndHostMemory := by
  refine ⟨?upkeep, ?host, ?failed⟩
  case upkeep =>
    intro s k hdies hserved x next
    refine ⟨fun hon => ⟨?clean, ?corrected⟩, fun hoff u => ?off, fun hnone hidle => ?rests⟩
    case clean => exact onMem_keeps hdies (hbmScrub_clean hon hserved s.hbm)
    case corrected => exact onMem_keeps hdies (hbmScrub_corrected hon hserved s.hbm)
    case off => exact onMem_keeps hdies (hbmScrub_off hoff u s.hbm)
    case rests => exact onDies_next hdies (hbmSelfRefresh_rests hserved hnone hidle)
  case host =>
    intro s i a r c e uid hhub hat hsrc fn addr n answer taken
    have hacts {f : Dev} (h : hostMemRequest i a s.dev = f) : exec (.hostMemRequest i a) s = .next { s with dev := f } :=
      (onHub_acts _ hhub).trans (by rw [h])
    refine ⟨fun hbus => hacts (hostMemRequest_refused hat hsrc hbus),
      fun hbus hop => hacts (hostMemRequest_store hat hsrc hbus hop), fun hbus hop htimeout => ?timeout,
      fun hbus hop x hx => ?answered⟩
    case timeout =>
      rw [← htimeout]
      exact hacts (hostMemRequest_unanswered hat hsrc hbus hop (by simp [MemReq.readAnswer, htimeout]))
    case answered =>
      refine hacts (hostMemRequest_answered hat hsrc hbus hop ?_)
      obtain ⟨hok, rfl⟩ | ⟨hpoisoned, rfl⟩ | ⟨hunsupported | haborted, rfl⟩ := hx
      · simp only [MemReq.readAnswer, hok, n]
      · simp only [MemReq.readAnswer, hpoisoned, n]
      · simp only [MemReq.readAnswer, hunsupported]
      · simp only [MemReq.readAnswer, haborted]
  case failed => exact fun s hhub => onHub_acts hostWriteFails hhub

end Sys2Proof.Machine
end

section
/-! The lock unit (R258 to R261, R509): settles LockUnitActs. -/

namespace Sys2Proof.Machine

open Sys2Proof.Claims

/-- An update of a stack is what it makes of that stack. -/
theorem modStack_congr {d : Dev} {k : DieId} {f g : Stack → Stack} (h : f (d.stack k) = g (d.stack k)) :
    d.modStack k f = d.modStack k g := by
  rw [Dev.modStack, h, Dev.modStack]

theorem addr_of_lock {x : Stack} {a : BitVec 48} {e : LockEnt} (h : x.lock a = some e) : e.addr = a := by
  simpa using List.find?_some h

/-! ### A free lock is acquired (R260) -/

/-- The entry of a lock just taken. -/
def MemReq.freshEntry (r : MemReq) : LockEnt :=
  { addr := r.addr, owner := some r.owner, abandoned := false, waiters := [], freed := 0 }

section
variable {d : Dev} {k : DieId} {r : MemReq} {e : LockEnt}

theorem free_of_none (h : (d.stack k).lock r.addr = none) : (d.stack k).free r.addr = true := by simp [Stack.free, h]

theorem free_of_some (h : (d.stack k).lock r.addr = some e) : (d.stack k).free r.addr = e.owner.isNone := by
  simp [Stack.free, h]

theorem lockAcquire_new (hnone : (d.stack k).lock r.addr = none) (hroom : (d.stack k).locks.length < heldLocks) :
    d.lockAcquire k r = some (withLocks d k ((d.stack k).locks ++ [r.freshEntry]), stOk) := by
  simp only [Dev.lockAcquire, hnone, Dev.lockRoom, if_pos hroom, Option.map_some]
  exact congrArg (fun x => some (x, stOk)) (modStack_congr rfl)

theorem lockAcquire_abandoned (h : (d.stack k).lock r.addr = some e) :
    d.lockAcquire k r =
      some (withLocks d k (relock (d.stack k).locks { e with owner := some r.owner, abandoned := false }), stAbandoned) := by
  simp only [Dev.lockAcquire, h]
  exact congrArg (fun x => some (x, stAbandoned)) (modStack_congr rfl)

variable (hplain : d.lockInSpill r.addr = false)
include hplain

section
variable {t : Dev} {st : Byte} (hfree : (d.stack k).free r.addr = true) (hacq : d.lockAcquire k r = some (t, st))
include hfree hacq

theorem doLock_takes : d.doLock k r = (t.lockAck k r).grant k r st := by simp [Dev.doLock, hplain, hfree, hacq]

theorem doTrylock_takes : d.doTrylock k r = t.respond k r (.value (lockWord r.addr st) false) := by
  simp [Dev.doTrylock, hplain, hfree, hacq, Dev.respond]

end

/-! ### A held lock -/

section
variable {o : Owner} (hlock : (d.stack k).lock r.addr = some e) (howner : e.owner = some o)
include hlock howner

theorem doTrylock_busy : d.doTrylock k r = d.respond k r (.value (lockWord r.addr stBusy) false) := by
  simp [Dev.doTrylock, hplain, free_of_some hlock, howner, Dev.respond]

theorem doLock_waits (hroom : (d.stack k).waiters < waiterEntries) :
    d.doLock k r = (withLocks d k ((d.stack k).locks.map fun y =>
      if y.addr = r.addr then { y with waiters := y.waiters ++ [{ owner := r.owner, req := r }] } else y)).lockAck k r := by
  have hheld : (d.stack k).free r.addr = false := by simp [free_of_some hlock, howner]
  simp only [Dev.doLock, hplain, hheld, if_neg (Nat.not_le.2 hroom), Bool.false_eq_true, if_false]
  exact congrArg (Dev.lockAck · k r) (modStack_congr rfl)

theorem doUnlock_other (hne : o ≠ r.owner) :
    d.doUnlock k r = d.respond k r (.notOwner (lockWord r.addr stNotOwner)) := by
  simp [Dev.doUnlock, hplain, hlock, howner, hne, Dev.respond]

theorem doUnlock_owner (heq : o = r.owner) :
    d.doUnlock k r = (d.respond k r (.value (lockWord r.addr stOk) false)).passLock k e := by
  simp [Dev.doUnlock, hplain, hlock, howner, heq, Dev.respond]

end

end

/-! ### The commands (R260) -/

section
variable {d : Dev} {k : DieId} {i : Nat} {r : MemReq}

@[simp] theorem asked_locks : ((asked d k i).stack k).locks = (d.stack k).locks := by simp [asked]
@[simp] theorem asked_lock (a : BitVec 48) : ((asked d k i).stack k).lock a = (d.stack k).lock a := by simp [Stack.lock]
@[simp] theorem asked_waiters : ((asked d k i).stack k).waiters = (d.stack k).waiters := by simp [Stack.waiters]

/-- The lock unit takes the first of the lock requests when it performs its operation. -/
theorem takeLock_of_lockWaits (h : LockWaits d k i r) : d.takeLock k i r.op = some (r, asked d k i) := by
  obtain ⟨⟨-, hhere, hserved⟩, hfirst, -⟩ := h
  have hnone : ((d.stack k).reqs.take i).any (fun x => x.op.isLock) = false := by
    simpa only [List.any_eq_false, Bool.not_eq_true] using hfirst
  simp [Dev.takeLock, takeAt_eq_of_getElem? hhere, hnone, hserved, asked, Dev.modStack]

variable (h : LockWaits d k i r)
include h

theorem lockUnitLock_takes (hop : r.op = .lock) : lockUnitLock k i d = (asked d k i).doLock k r := by
  rw [lockUnitLock, ← hop, takeLock_of_lockWaits h]

theorem lockUnitTrylock_takes (hop : r.op = .trylock) : lockUnitTrylock k i d = (asked d k i).doTrylock k r := by
  rw [lockUnitTrylock, ← hop, takeLock_of_lockWaits h]

theorem lockUnitUnlock_takes (hop : r.op = .unlock) : lockUnitUnlock k i d = (asked d k i).doUnlock k r := by
  rw [lockUnitUnlock, ← hop, takeLock_of_lockWaits h]

end

/-- Settles O37: the entry of the request's address and its owner decide the row of the table of R260. -/
theorem lockUnitActs : Obligations.LockUnitActs := by
  intro s k i r hw l found d word mine
  have hdies := hw.waits.runs
  have hplain : d.lockInSpill r.addr = false := hw.plain
  have hlocks : (d.stack k).locks = l := asked_locks
  have hlock : (d.stack k).lock r.addr = found := asked_lock r.addr
  have hwaiters : (d.stack k).waiters = (s.dev.stack k).waiters := asked_waiters
  have hexecLock {t : Dev} (hop : r.op = .lock) (h : d.doLock k r = t) :
      exec (.lockUnitLock k i) s = .next { s with dev := t } := onDies_next hdies ((lockUnitLock_takes hw hop).trans h)
  have hexecTry {t : Dev} (hop : r.op = .trylock) (h : d.doTrylock k r = t) :
      exec (.lockUnitTrylock k i) s = .next { s with dev := t } := onDies_next hdies ((lockUnitTrylock_takes hw hop).trans h)
  have hexecUnlock {t : Dev} (hop : r.op = .unlock) (h : d.doUnlock k r = t) :
      exec (.lockUnitUnlock k i) s = .next { s with dev := t } := onDies_next hdies ((lockUnitUnlock_takes hw hop).trans h)
  refine ⟨fun hnone hroom => ?new, fun e hsome howner => ?abandoned, fun e o hsome howner => ?held⟩
  case new =>
    have hnew := hlock.trans hnone
    have hfree := free_of_none hnew
    have hacq := lockAcquire_new hnew (by rw [hlocks]; exact hroom)
    rw [hlocks] at hacq
    exact ⟨fun hop => hexecLock hop (doLock_takes hplain hfree hacq), fun hop => hexecTry hop (doTrylock_takes hplain hfree hacq)⟩
  case abandoned =>
    have hentry := hlock.trans hsome
    have hfree : (d.stack k).free r.addr = true := by rw [free_of_some hentry, howner]; rfl
    have hacq := lockAcquire_abandoned hentry
    rw [hlocks] at hacq
    exact ⟨fun hop => hexecLock hop (doLock_takes hplain hfree hacq), fun hop => hexecTry hop (doTrylock_takes hplain hfree hacq)⟩
  case held =>
    have hentry := hlock.trans hsome
    have haddr : e.addr = r.addr := addr_of_lock hentry
    have hpass (heq : o = r.owner) := doUnlock_owner hplain hentry howner heq
    refine ⟨fun hop => hexecTry hop (doTrylock_busy hplain hentry howner), fun hop hroom => ?waits,
      fun hop hne => hexecUnlock hop (doUnlock_other hplain hentry howner hne), fun hop heq hnone => ?frees,
      fun w ws hop heq hcons => ?passes⟩
    case waits =>
      have hwaits := doLock_waits hplain hentry howner (by rw [hwaiters]; exact hroom)
      rw [hlocks] at hwaits
      exact hexecLock hop hwaits
    case frees =>
      refine hexecUnlock hop ((hpass heq).trans ?_)
      simp only [Dev.passLock, hnone, haddr]
      rfl
    case passes =>
      refine hexecUnlock hop ((hpass heq).trans ?_)
      simp only [Dev.passLock, hcons]
      rfl

end Sys2Proof.Machine
end

section
/-! EVENT_PRESENT: which record is chosen, and the handler activation made of it (R270 to R272, R278, R279): settles
EventPresentationRunsHandler. -/

namespace Sys2Proof.Machine

open Sys2Proof.Claims

/-! ### Elements of least key, and the first that meets a test -/

theorem le_of_minBy_eq_some {α : Type} {key : α → Nat} {a x : α} :
    ∀ {l : List α}, minBy key l = some a → x ∈ l → key a ≤ key x
  | b :: l, h, hx => by
    simp only [minBy] at h
    split at h
    · rename_i hnone
      rw [minBy_eq_none_iff] at hnone
      simp_all
    · rename_i y hy
      have hleast : ∀ z ∈ l, key y ≤ key z := fun z hz => le_of_minBy_eq_some hy hz
      rcases List.mem_cons.1 hx with rfl | hmem
      · split at h <;> cases h <;> omega
      · have hy_le := hleast x hmem
        split at h <;> cases h <;> omega

theorem mem_of_mem_leastBy {α : Type} {key : α → Nat} {l : List α} {x : α} (h : x ∈ leastBy key l) : x ∈ l := by
  unfold leastBy at h
  split at h
  · simp at h
  · exact List.mem_of_mem_filter h

theorem le_of_mem_leastBy {α : Type} {key : α → Nat} {l : List α} {x y : α} (h : x ∈ leastBy key l) (hy : y ∈ l) :
    key x ≤ key y := by
  unfold leastBy at h
  split at h
  · simp at h
  · rename_i a ha
    have hkey : key x = key a := by simpa using List.of_mem_filter h
    exact hkey ▸ le_of_minBy_eq_some ha hy

/-- `takeFirst` in the library's words. -/
theorem takeFirst_eq_find?_eraseP {α : Type} (p : α → Bool) :
    ∀ l : List α, takeFirst p l = (l.find? p).map fun a => (a, l.eraseP p)
  | [] => rfl
  | a :: l => by
    rw [takeFirst, takeFirst_eq_find?_eraseP p l, List.find?_cons, List.eraseP_cons]
    cases p a <;> simp [Function.comp_def]

/-! ### The record chosen (R279) -/

/-- The records that a cell may present now, in the order of its list. -/
def Dev.presentableHere (d : Dev) (c : CellId) : List EvRec :=
  (d.cell c).ev.recs.filter fun r => d.presentable c r && (match d.evWay c r with | .here _ => true | _ => false)

/-- Those of them that are aged. -/
def Dev.presentableAged (d : Dev) (c : CellId) : List EvRec :=
  (d.presentableHere c).filter fun r => r.since + d.fld rAgecap 0 24 ≤ d.coreNow c

section
variable {d : Dev} {c : CellId} {r q : EvRec}

theorem mem_presentableHere : r ∈ d.presentableHere c ↔ presentedHere d c r := by
  unfold Dev.presentableHere presentedHere
  rw [List.mem_filter, Bool.and_eq_true]
  cases d.evWay c r <;> simp

theorem mem_presentableAged : r ∈ d.presentableAged c ↔ presentedHere d c r ∧ agedRecord d c r := by
  simp [Dev.presentableAged, mem_presentableHere, agedRecord]

/-- The two ways in which a record is chosen: the oldest of the aged, or, none being aged, one of lowest PRI. -/
theorem chooseRecord_mem (h : d.chooseRecord c = some r) :
    r ∈ leastBy (·.born) (d.presentableAged c) ∨
      d.presentableAged c = [] ∧ r ∈ leastBy (fun q => (evPri (d.govern q)).toNat) (d.presentableHere c) := by
  have hchoose : d.chooseRecord c =
      minBy (fun r => r.graph.toNat * 64 + r.source.toNat) (leastBy (·.born) (leastBy (fun q => (evPri (d.govern q)).toNat)
        (if !(d.presentableAged c).isEmpty then leastBy (·.born) (d.presentableAged c) else d.presentableHere c))) := by
    unfold Dev.chooseRecord
    dsimp only
    rw [apply_ite (leastBy _), apply_ite (leastBy _), apply_ite (minBy _)]
    rfl
  rw [hchoose] at h
  have hmem := mem_of_mem_leastBy (mem_of_minBy_eq_some h)
  by_cases hnone : d.presentableAged c = []
  · rw [if_neg (by simp [hnone])] at hmem
    exact .inr ⟨hnone, hmem⟩
  · rw [if_pos (by simp [hnone])] at hmem
    exact .inl (mem_of_mem_leastBy hmem)

theorem chooseRecord_presentedHere (h : d.chooseRecord c = some r) : presentedHere d c r := by
  obtain haged | ⟨-, hleast⟩ := chooseRecord_mem h
  · exact (mem_presentableAged.1 (mem_of_mem_leastBy haged)).1
  · exact mem_presentableHere.1 (mem_of_mem_leastBy hleast)

theorem chooseRecord_oldest_of_aged (h : d.chooseRecord c = some r) (hq : presentedHere d c q) (haged : agedRecord d c q) :
    agedRecord d c r ∧ r.born ≤ q.born := by
  have hmem : q ∈ d.presentableAged c := mem_presentableAged.2 ⟨hq, haged⟩
  obtain holdest | ⟨hnone, -⟩ := chooseRecord_mem h
  · exact ⟨(mem_presentableAged.1 (mem_of_mem_leastBy holdest)).2, le_of_mem_leastBy holdest hmem⟩
  · simp [hnone] at hmem

theorem chooseRecord_lowest_of_not_aged (h : d.chooseRecord c = some r)
    (hnone : ∀ q, presentedHere d c q → ¬agedRecord d c q) (hq : presentedHere d c q) :
    (evPri (d.govern r)).toNat ≤ (evPri (d.govern q)).toNat := by
  obtain haged | ⟨-, hleast⟩ := chooseRecord_mem h
  · obtain ⟨hhere, hold⟩ := mem_presentableAged.1 (mem_of_mem_leastBy haged)
    exact absurd hold (hnone r hhere)
  · exact le_of_mem_leastBy (key := fun q => (evPri (d.govern q)).toNat) hleast (mem_presentableHere.2 hq)

/-! ### What a presentation leaves in the cell -/

theorem govern_congr {e : Dev} (h : (e.cell r.post).ev = (d.cell r.post).ev) : e.govern r = d.govern r := by
  simp [Dev.govern, Cell.entry, h]

/-- Counting a presentation leaves everything in a cell but its census. -/
theorem countPresented_sameCell (k : CellId) : SameCell k d (d.countPresented c r) := by
  unfold Dev.countPresented
  split
  · exact .refl k d
  · exact (((cellCreate_sameWords ..).trans (cellCreate_sameWords ..)).trans (cellConsume_sameWords ..)).cell

/-- A level pushed changes the stack and the margin alone. -/
theorem pushLevel_cell :
    ((d.pushLevel c r).cell c).pipe = (d.cell c).pipe ∧ ((d.pushLevel c r).cell c).ev.recs = (d.cell c).ev.recs ∧
      ((d.pushLevel c r).cell c).ev.stack =
        if evLvl (d.govern r) then (d.cell c).ev.stack ++ [{ pri := evPri (d.govern r), graph := r.graph }]
        else (d.cell c).ev.stack := by
  unfold Dev.pushLevel
  dsimp only
  split
  · simp
  · exact ⟨rfl, rfl, rfl⟩

/-- A record that leaves takes its place in the list with it; the lane refilled thereby (R273) changes only where records stand. -/
theorem dropRecord_cell (hmem : r ∈ (d.cell c).ev.recs) :
    ((d.dropRecord c r.born).cell c).pipe.rdyH = (d.cell c).pipe.rdyH ∧
      ((d.dropRecord c r.born).cell c).ev.recs.length + 1 = (d.cell c).ev.recs.length ∧
      ((d.dropRecord c r.born).cell c).ev.stack = (d.cell c).ev.stack := by
  have hlength : ((d.cell c).ev.recs.eraseP fun q => q.born = r.born).length + 1 = (d.cell c).ev.recs.length := by
    rw [List.length_eraseP_of_mem hmem (by simp)]
    have := List.length_pos_of_mem hmem
    omega
  obtain ⟨q, hfind⟩ := Option.isSome_iff_exists.1
    (List.find?_isSome (p := fun q : EvRec => decide (q.born = r.born)).2 ⟨r, hmem, by simp⟩)
  unfold Dev.dropRecord
  dsimp only
  rw [takeFirst_eq_find?_eraseP, hfind]
  dsimp only [Option.map_some]
  split
  · simpa using hlength
  · simpa [Dev.modLane] using hlength
  · split
    · simpa using hlength
    · simpa [Dev.modLane] using hlength

/-! ### The handler activation (R270 to R272) -/

@[simp] theorem handler_handler : (d.handler c r).handler = true := by unfold Dev.handler; split <;> rfl
@[simp] theorem handler_graph : (d.handler c r).graph = r.graph := by unfold Dev.handler; split <;> rfl
@[simp] theorem handler_pred : (d.handler c r).pred = none := by unfold Dev.handler; split <;> rfl

/-- The activation of a LOCK_GRANT record is that of its grant token. -/
theorem handler_of_grant {g : Token} (h : r.grant = some g) : d.handler c r =
    { graph := r.graph, frame := g.frame, iter := g.iter, instr := g.instr, left := some { tok := g, sticky := false }
      right := none, pred := none, handler := true, freeing := false } := by
  simp only [Dev.handler, h]

/-- The frame of a handler: the origin's with FI, HFRAME without (R270). -/
def Dev.handlerFrame (d : Dev) (r : EvRec) : BitVec 12 :=
  if evFi (d.govern r) then r.oframe.getD (evHframe (d.govern r)) else evHframe (d.govern r)

/-- The activation of any other record: at HINSTR, with the values carried as its operands. -/
theorem handler_of_none (h : r.grant = none) : d.handler c r =
    { graph := r.graph, frame := d.handlerFrame r, iter := r.oiter, instr := evHinstr (d.govern r)
      left := some { tok := d.handlerToken c r.graph (d.govern r) (d.handlerFrame r) r.oiter 0 r.left, sticky := false }
      right := some { tok := d.handlerToken c r.graph (d.govern r) (d.handlerFrame r) r.oiter 1
                        (r.right.getD { bits := 0, vtype := 8, poison := false }), sticky := false }
      pred := none, handler := true, freeing := false } := by
  simp only [Dev.handler, h, Dev.handlerFrame]

section
variable (g : GraphId) (e : Word) (f : BitVec 12) (it : BitVec 32) (p : BitVec 2) (v : Val)

@[simp] theorem handlerToken_kind : (d.handlerToken c g e f it p v).kind = 1 := TokenFields.pack_kind _
@[simp] theorem handlerToken_vtype : (d.handlerToken c g e f it p v).vtype = v.vtype := TokenFields.pack_vtype _
@[simp] theorem handlerToken_poison : (d.handlerToken c g e f it p v).poison = v.poison := TokenFields.pack_poison _
@[simp] theorem handlerToken_port : (d.handlerToken c g e f it p v).port = p := TokenFields.pack_port _
@[simp] theorem handlerToken_w2 : (d.handlerToken c g e f it p v).w2 = v.bits := TokenFields.pack_w2 _

end

/-! ### The command -/

/-- The device once it has told of a redirected record: counted, its level pushed, the record gone, the activation appended. -/
def Dev.presented (d : Dev) (c : CellId) (r : EvRec) (a : Act) : Dev :=
  (((d.countPresented c r).pushLevel c r).dropRecord c r.born).modPipe c fun p => { p with rdyH := p.rdyH ++ [a] }

/-- A presentation; a record presented in its fallback cell is told of by a fault, which touches no cell. -/
theorem eventPresent_presents (hruns : (d.cell c).runs = true) (hroom : (d.cell c).pipe.rdyH.length < 8)
    (h : d.chooseRecord c = some r) : ∃ e : Dev, e.cells = d.cells ∧ eventPresent c d = e.presented c r (d.handler c r) := by
  have hfree : ¬handlerPlaces ≤ (d.cell c).pipe.rdyH.length := Nat.not_le.2 hroom
  have hgo : ¬((d.cellOut c || decide (handlerPlaces ≤ (d.cell c).pipe.rdyH.length)) = true) := by
    simp [Dev.cellOut, hruns, hfree]
  unfold eventPresent
  rw [if_neg hgo, h]
  refine ⟨_, ?cells, rfl⟩
  split
  · exact (fault_frame ..).cells
  · rfl

theorem presented_cell (a : Act) (hmem : r ∈ (d.cell c).ev.recs) :
    ((d.presented c r a).cell c).pipe.rdyH = (d.cell c).pipe.rdyH ++ [a] ∧
      ((d.presented c r a).cell c).ev.recs.length + 1 = (d.cell c).ev.recs.length ∧
      ((d.presented c r a).cell c).ev.stack =
        if evLvl (d.govern r) then (d.cell c).ev.stack ++ [{ pri := evPri (d.govern r), graph := r.graph }]
        else (d.cell c).ev.stack := by
  have hcount := countPresented_sameCell (d := d) (c := c) (r := r) c
  have hgovern : (d.countPresented c r).govern r = d.govern r := govern_congr (countPresented_sameCell r.post).ev
  obtain ⟨hpipe, hkept, hpushed⟩ := pushLevel_cell (d := d.countPresented c r) (c := c) (r := r)
  rw [hcount.pipe] at hpipe
  rw [hcount.ev] at hkept
  rw [hcount.ev, hgovern] at hpushed
  obtain ⟨hready, hrecs, hstack⟩ := dropRecord_cell (d := (d.countPresented c r).pushLevel c r) (c := c) (r := r)
    (by rwa [hkept])
  rw [hpipe] at hready
  rw [hkept] at hrecs
  rw [hpushed] at hstack
  simp only [Dev.presented, Dev.cell_modPipe_self]
  exact ⟨by rw [hready], hrecs, hstack⟩

end

/-- Settles O31: the choice by the order of R279, and the presentation through the cell's records, handler list and stack. -/
theorem eventPresentationRunsHandler : Obligations.EventPresentationRunsHandler := by
  intro s c r hchosen
  have hhere := chooseRecord_presentedHere hchosen
  refine ⟨⟨hhere, fun q => chooseRecord_oldest_of_aged hchosen, fun hnone q => chooseRecord_lowest_of_not_aged hchosen hnone⟩, ?_⟩
  intro hrun hroom e
  obtain ⟨t, hcells, hpresents⟩ := eventPresent_presents hrun.2 hroom hchosen
  have hcell : t.cell c = s.dev.cell c := Dev.cell_congr hcells c
  have hgovern : t.govern r = e := govern_congr (by rw [Dev.cell_congr hcells])
  obtain ⟨hready, hrecs, hstack⟩ := presented_cell (s.dev.handler c r) (by rw [hcell]; exact hhere.1)
  rw [hcell] at hready hrecs hstack
  rw [hgovern] at hstack
  refine ⟨_, s.dev.handler c r, onDies_next hrun.1 hpresents, rfl, rfl, hready, handler_handler, handler_graph, handler_pred,
    hrecs, hstack, fun g hgrant => ?grant, fun hnone => ?event⟩
  case grant =>
    rw [handler_of_grant hgrant]
    exact ⟨rfl, rfl, rfl, rfl, rfl⟩
  case event =>
    rw [handler_of_none hnone]
    refine ⟨rfl, rfl, rfl, _, _, rfl, rfl, ?_⟩
    simp only [handlerToken_kind, handlerToken_w2, handlerToken_vtype, handlerToken_poison, handlerToken_port, true_and, and_true]
    cases r.right <;> rfl

end Sys2Proof.Machine
end

section
/-! An event record's way to its cell (R266, R269, R273, R274): settles EventRecordsReachTheirCell. -/

namespace Sys2Proof.Machine

open Sys2Proof.Claims

/-! ### EVENT_RECORD_SEND -/

section
variable {d : Dev} {c : CellId} {i : Nat} {r : EvRec}

/-- A record in its post cell goes to the running cell that its entry names. -/
theorem evWay_send {t : CellId} (hgrant : r.grant = none) (hpost : r.post = c)
    (htgtv : evTgtv ((d.cell c).entry r.graph r.source.toNat) = true)
    (htgt : evTgt ((d.cell c).entry r.graph r.source.toNat) = t) (hne : t ≠ c) (hruns : (d.cell t).runs = true) :
    d.evWay c r = .send t c false := by
  simp [Dev.evWay, Dev.resolve, Dev.cellOut, hgrant, hpost, htgtv, htgt, hne, hruns]

section
variable {t : CellId} (hruns : (d.cell c).runs = true) (hat : (d.cell c).ev.recs[i]? = some r)
  (hway : d.evWay c r = .send t c false)
include hruns hat hway

theorem eventSend_sends (hpost : r.post = c) (hgranted : r.granted = some t) :
    eventSend c i d = eventSent (d.dropRecord c r.born) c t (.ev t r) := by
  subst hpost
  simp only [eventSend, hat, Dev.cellOut, hruns, hway, if_pos hgranted]
  rfl

theorem eventSend_asks_place (hgranted : r.granted ≠ some t) : eventSend c i d = d.askPlace c t r := by
  simp only [eventSend, hat, Dev.cellOut, hruns, hway, if_neg hgranted]
  rfl

end

theorem askPlace_asked {t : CellId} (h : r.asked = some t) : d.askPlace c t r = d := if_pos h

theorem askPlace_asks {t : CellId} (hgranted : r.granted = none) (h : r.asked ≠ some t) :
    d.askPlace c t r = eventSent (changed (changed d c r.born fun q => { q with asked := none, granted := none }) c r.born
      fun q => { q with asked := some t }) c t (.evAsk t c r.graph r.born) := by
  simp only [Dev.askPlace, if_neg h, Dev.giveBack, hgranted]
  rfl

/-! ### RECEIVE_BUFFER_GRANT -/

/-- The receive buffer has a place that is neither held nor granted (R273). -/
theorem not_receive_full (h : ((d.cell c).ev.recs.filter fun r => r.place = .receive).length + (d.cell c).ev.rbGrant < 8) :
    ¬receivePlaces ≤ (d.cell c).received + (d.cell c).ev.rbGrant := Nat.not_le.2 h

theorem receiveGrant_grants {src : CellId} {g : GraphId} {born : Nat} {rest : List (CellId × GraphId × Nat)}
    (hruns : (d.cell c).runs = true) (hreq : (d.cell c).ev.rbReq = (src, g, born) :: rest)
    (hroom : ((d.cell c).ev.recs.filter fun r => r.place = .receive).length + (d.cell c).ev.rbGrant < 8) :
    receiveGrant c d =
      eventSent (d.modEv c fun y => { y with rbReq := rest, rbGrant := y.rbGrant + 1 }) c src (.evGrant src c g born) := by
  simp only [receiveGrant, hreq, hruns, not_receive_full hroom]
  rfl

/-! ### EVENT_RECORD_ARRIVAL -/

theorem eventArrival_ask {tgt src : CellId} {g : GraphId} {born : Nat} (hruns : (d.cell c).runs = true)
    (hat : (d.cell c).pipe.inbox[i]? = some (.evAsk tgt src g born)) :
    eventArrival c i d = ((received d c i).modEv c fun e => { e with rbReq := e.rbReq ++ [(src, g, born)] }).wakeCell c := by
  simp only [eventArrival, takeAt_eq_of_getElem? hat, hruns]
  rfl

theorem eventArrival_grant {tgt t : CellId} {g : GraphId} {born : Nat}
    (hat : (d.cell c).pipe.inbox[i]? = some (.evGrant tgt t g born)) :
    eventArrival c i d = (received d c i).takeGrant c t g born := by
  simp only [eventArrival, takeAt_eq_of_getElem? hat]
  rfl

theorem eventArrival_give {tgt : CellId} {g : GraphId} (hat : (d.cell c).pipe.inbox[i]? = some (.evGive tgt g)) :
    eventArrival c i d = (received d c i).modEv c fun e => { e with rbGrant := e.rbGrant - 1 } := by
  simp only [eventArrival, takeAt_eq_of_getElem? hat]
  rfl

theorem eventArrival_record {tgt : CellId} (hat : (d.cell c).pipe.inbox[i]? = some (.ev tgt r)) :
    eventArrival c i d = d.recordArrives c r (received d c i) := by
  simp only [eventArrival, takeAt_eq_of_getElem? hat]
  rfl

/-- A grant marks the record that asked for it. -/
theorem takeGrant_marks {t : CellId} {g : GraphId} {born : Nat}
    (h : ∃ r ∈ (d.cell c).ev.recs, r.born = born ∧ r.asked = some t) :
    d.takeGrant c t g born = changed d c born fun q => { q with granted := some t } :=
  if_pos (by simpa using h)

/-- A grant that no record asks for goes back as a place. -/
theorem takeGrant_gives_back {t : CellId} {g : GraphId} {born : Nat}
    (h : ∀ r ∈ (d.cell c).ev.recs, r.born = born → r.asked ≠ some t) :
    d.takeGrant c t g born = eventSent d c t (.evGive t g) :=
  if_neg (by simpa using h)

theorem recordArrives_receives {taken : Dev} (hruns : (d.cell c).runs = true) (hgraph : d.graphUnloading r.graph = false)
    (hreturns : r.returns = false ∨ r.post = c)
    (hplace : r.granted = some c ∨
      ((d.cell c).ev.recs.filter fun r => r.place = .receive).length + (d.cell c).ev.rbGrant < 8) :
    d.recordArrives c r taken = taken.receiveRecord c r := by
  have hstays : (r.returns && decide (r.post ≠ c)) = false := by
    obtain h | h := hreturns <;> simp [h]
  have hfits : ¬((decide (r.granted ≠ some c) && decide (receivePlaces ≤ (d.cell c).received + (d.cell c).ev.rbGrant)) = true) := by
    obtain h | h := hplace
    · simp [h]
    · simp [not_receive_full h]
  simp only [Dev.recordArrives, hruns, hgraph, hstays, if_neg hfits]
  rfl

end

/-! ### PUPPETEER_POST -/

section
variable {d : Dev} {c : CellId} {g : GraphId} (v : Word) (vt : BitVec 4) (poison : Bool)

theorem puppeteerPost_ignored (h : ¬(d.inMask c g = true ∧ (d.cell c).enabled g srcPuppeteerPost = true)) :
    puppeteerPost c g v vt poison d = d :=
  if_neg (by simpa using h)

/-- The record that the Puppeteer posts. -/
def Dev.puppeteerRecord (d : Dev) (c : CellId) (g : GraphId) : EvRec :=
  { graph := g, source := BitVec.ofNat 6 srcPuppeteerPost, left := { bits := v, vtype := vt, poison := poison }
    right := none, oframe := none, oiter := 0, post := c, grant := none, place := .receive, since := d.coreNow c
    born := 0, asked := none, granted := none, returns := false, colour := d.hubColour g }

theorem hubCreate_coreNow (b : Bool) : (d.hubCreate g b).coreNow c = d.coreNow c := by
  simp [Dev.coreNow, Dev.hubCreate]

theorem puppeteerPost_posts (h : d.inMask c g = true ∧ (d.cell c).enabled g srcPuppeteerPost = true) :
    puppeteerPost c g v vt poison d =
      (d.hubCreate g (d.hubColour g)).sendFromHub hubMgt (.ev c (d.puppeteerRecord v vt poison c g)) := by
  refine (if_pos (by simpa using h)).trans ?_
  simp only [Dev.post, hubCreate_coreNow]
  rfl

end

/-- Settles O32: each command by what its one packet, request or record makes of the device. -/
theorem eventRecordsReachTheirCell : Obligations.EventRecordsReachTheirCell := by
  refine ⟨?sends, ?grants, ?places, ?records, ?posts⟩
  case sends =>
    intro s c i r hrun hat e t hgrant hpost htgtv hne htruns
    have hway : s.dev.evWay c r = .send t c false := evWay_send hgrant hpost htgtv rfl hne htruns
    refine ⟨fun hgranted => ?_, fun hgranted hasked => ?_, fun hgranted hasked => ?_⟩
    · exact onDies_next hrun.1 (eventSend_sends hrun.2 hat hway hpost hgranted)
    · exact onDies_next hrun.1 ((eventSend_asks_place hrun.2 hat hway hgranted).trans (askPlace_asked hasked))
    · have hother : r.granted ≠ some t := by simp [hgranted]
      exact onDies_next hrun.1 ((eventSend_asks_place hrun.2 hat hway hother).trans (askPlace_asks hgranted hasked))
  case grants =>
    intro s c src g born rest hrun x hreq hroom
    exact onDies_next hrun.1 (receiveGrant_grants hrun.2 hreq hroom)
  case places =>
    intro s c tgt i hrun place recs
    have hrecs : ((received s.dev c i).cell c).ev.recs = recs := by simp [received, recs]
    refine ⟨fun src g born hat => ?ask, fun t g born hat => ⟨fun hasked => ?marked, fun hother => ?back⟩, fun g hat => ?give⟩
    case ask => exact onDies_next hrun.1 (eventArrival_ask hrun.2 hat)
    case marked => exact onDies_next hrun.1 ((eventArrival_grant hat).trans (takeGrant_marks (by rwa [hrecs])))
    case back => exact onDies_next hrun.1 ((eventArrival_grant hat).trans (takeGrant_gives_back (by rwa [hrecs])))
    case give => exact onDies_next hrun.1 (eventArrival_give hat)
  case records =>
    intro s c tgt i r hrun x hat hgraph hreturns hplace
    exact onDies_next hrun.1 ((eventArrival_record hat).trans (recordArrives_receives hrun.2 hgraph hreturns hplace))
  case posts =>
    intro s c g v vt poison hdies on
    exact ⟨fun hoff => onDies_next hdies (puppeteerPost_ignored v vt poison hoff),
      fun hon => onDies_next hdies (puppeteerPost_posts v vt poison hon)⟩

end Sys2Proof.Machine
end

section
/-! FLIT_HOP, CROSSBAR_FLIT_SEND and HUB_FORWARD (R288 to R300, R306): settles MeshForwardsFlits. -/

namespace Sys2Proof.Machine

open Sys2Proof.Claims

/-! ### Rising keys -/

/-- A table whose keys strictly rise. -/
def Rising {α : Type} (m : Map α) : Prop := m.Pairwise fun a b => a.1 < b.1

theorem mdrop_eq_dropWhile {α : Type} (i : Nat) : ∀ m : Map α, mdrop i m = m.dropWhile fun x => x.1 ≤ i
  | [] => rfl
  | (k, v) :: m => by
    simp only [mdrop, List.dropWhile_cons, decide_eq_true_eq]
    split
    · exact mdrop_eq_dropWhile i m
    · rfl

theorem mem_of_mem_merase {α : Type} {i : Nat} {x : Nat × α} : ∀ {m : Map α}, x ∈ merase m i → x ∈ m
  | [], h => h
  | (k, v) :: m, h => by
    simp only [merase] at h
    split at h
    · exact h
    · split at h
      · rw [mdrop_eq_dropWhile] at h
        exact List.mem_cons_of_mem _ ((List.dropWhile_sublist _).subset h)
      · rcases List.mem_cons.mp h with rfl | h
        · exact List.mem_cons_self
        · exact List.mem_cons_of_mem _ (mem_of_mem_merase h)

theorem Rising.merase {α : Type} : ∀ {m : Map α}, Rising m → ∀ i, Rising (merase m i)
  | [], h, _ => h
  | (k, v) :: m, h, i => by
    obtain ⟨hk, hm⟩ := List.pairwise_cons.mp h
    simp only [Machine.merase]
    split
    · exact h
    · split
      · rw [mdrop_eq_dropWhile]
        exact hm.sublist (List.dropWhile_sublist _)
      · exact List.pairwise_cons.mpr ⟨fun x hx => hk x (mem_of_mem_merase hx), Rising.merase hm i⟩

theorem mem_of_mem_minsert {α : Type} {i : Nat} {v : α} {x : Nat × α} : ∀ {m : Map α}, x ∈ minsert m i v → x = (i, v) ∨ x ∈ m
  | [], h => by simpa [minsert] using h
  | (k, w) :: m, h => by
    simp only [minsert] at h
    split at h
    · simpa using h
    · split at h
      · rcases List.mem_cons.mp h with h | h
        · exact .inl h
        · exact .inr (List.mem_cons_of_mem _ h)
      · rcases List.mem_cons.mp h with rfl | h
        · exact .inr List.mem_cons_self
        · exact (mem_of_mem_minsert h).imp_right (List.mem_cons_of_mem _)

theorem Rising.minsert {α : Type} : ∀ {m : Map α}, Rising m → ∀ i v, Rising (minsert m i v)
  | [], _, _, _ => List.pairwise_singleton ..
  | (k, w) :: m, h, i, v => by
    obtain ⟨hk, hm⟩ := List.pairwise_cons.mp h
    simp only [Machine.minsert]
    split
    · refine List.pairwise_cons.mpr ⟨fun x hx => ?_, h⟩
      rcases List.mem_cons.mp hx with rfl | hx
      · assumption
      · have := hk x hx
        simp only at this ⊢
        omega
    · split
      · subst i
        exact List.pairwise_cons.mpr ⟨hk, hm⟩
      · refine List.pairwise_cons.mpr ⟨fun x hx => ?_, Rising.minsert hm i v⟩
        rcases mem_of_mem_minsert hx with rfl | hx
        · simp only
          omega
        · exact hk x hx

theorem mfind_of_below {α : Type} {j : Nat} : ∀ {m : Map α}, (∀ x ∈ m, j < x.1) → mfind m j = none
  | [], _ => rfl
  | (k, v) :: m, h => by
    have hk : j < k := h (k, v) List.mem_cons_self
    rw [mfind, if_neg (by omega), if_pos hk]

/-- An entry removed from a table of rising keys leaves every other as it is found. -/
theorem mfind_merase_ne {α : Type} {i j : Nat} (hj : j ≠ i) : ∀ {m : Map α}, Rising m → mfind (merase m i) j = mfind m j
  | [], _ => rfl
  | (k, v) :: m, h => by
    obtain ⟨hk, hm⟩ := List.pairwise_cons.mp h
    simp only [merase]
    split
    · rfl
    · split
      · subst i
        have hne : ¬k = j := fun e => hj e.symm
        rw [mfind, if_neg hne]
        split
        · exact mfind_mdrop_below k j ‹_› m
        · exact mfind_mdrop_above k j (by omega) m
      · simp only [mfind]
        rw [mfind_merase_ne hj hm]

/-! ### The credits of a router's heads (R294) -/

section
variable {d : Dev} {r : ClusterId} {now : Nat}

/-- What router r has seen of a channel's head after a look; `before`: since when it was without adaptive credit. -/
def Dev.dryAfter (d : Dev) (r : ClusterId) (now key : Nat) (before : Option Nat) : Option Nat :=
  match d.headOf key with
  | none => none
  | some (_, f) =>
    if f.esc ∨ d.adaptiveCredit r f then none else some (before.getD now)

theorem drySince_eq (key : Nat) : drySince d r now key = d.dryAfter r now key (mfind d.fab.dry key) := rfl

/-- The look at one channel. -/
def Dev.lookAt (d : Dev) (r : ClusterId) (now : Nat) (m : Map Nat) (key : Nat) : Map Nat :=
  match d.headOf key with
  | none => merase m key
  | some (_, f) =>
    if f.esc || d.adaptiveCredit r f then merase m key
    else if (mfind m key).isNone then minsert m key now
    else m

theorem lookCredits_dry :
    (d.lookCredits r now).fab.dry = ((routerKeys r).map (·.2)).foldl (d.lookAt r now) d.fab.dry := by
  rw [List.foldl_map, Dev.lookCredits]
  generalize routerKeys r = keys
  rfl

theorem lookAt_rising {m : Map Nat} (h : Rising m) (key : Nat) : Rising (d.lookAt r now m key) := by
  unfold Dev.lookAt
  split
  · exact h.merase key
  · split
    · exact h.merase key
    · split
      · exact h.minsert key now
      · exact h

theorem mfind_lookAt_ne {m : Map Nat} (h : Rising m) {key j : Nat} (hj : j ≠ key) :
    mfind (d.lookAt r now m key) j = mfind m j := by
  unfold Dev.lookAt
  split
  · exact mfind_merase_ne hj h
  · split
    · exact mfind_merase_ne hj h
    · split
      · exact mfind_minsert_ne m key j now hj
      · rfl

theorem mfind_lookAt_self (m : Map Nat) (key : Nat) :
    mfind (d.lookAt r now m key) key = d.dryAfter r now key (mfind m key) := by
  unfold Dev.lookAt Dev.dryAfter
  cases hhead : d.headOf key with
  | none => simp
  | some x =>
    obtain ⟨i, f⟩ := x
    by_cases hwet : f.esc = true ∨ d.adaptiveCredit r f = true
    · simp [hwet]
    · cases hm : mfind m key with
      | none => simp [hwet]
      | some t => simp [hwet, hm]

/-- Looks at distinct channels do not meet. -/
theorem foldl_lookAt {keys : List Nat} (hkeys : keys.Nodup) : ∀ {m : Map Nat}, Rising m →
    Rising (keys.foldl (d.lookAt r now) m) ∧
      ∀ j, mfind (keys.foldl (d.lookAt r now) m) j = if j ∈ keys then d.dryAfter r now j (mfind m j) else mfind m j := by
  induction keys with
  | nil => exact fun h => ⟨h, fun j => by simp⟩
  | cons key keys ih =>
    intro m h
    obtain ⟨hnew, hkeys⟩ := List.nodup_cons.mp hkeys
    obtain ⟨hrising, hfind⟩ := ih hkeys (lookAt_rising h key)
    refine ⟨hrising, fun j => ?_⟩
    rw [List.foldl_cons, hfind]
    by_cases hj : j = key
    · subst j
      simp [hnew, mfind_lookAt_self]
    · simp [hj, mfind_lookAt_ne h hj]

theorem routerKeys_nodup (r : ClusterId) : ((routerKeys r).map (·.2)).Nodup := by
  have hshift : (routerKeys r).map (·.2) = ((routerKeys 0).map (·.2)).map fun n => 128 * r.toNat + n := by
    simp only [routerKeys, List.map_flatMap, List.map_map]
    refine List.flatMap_congr fun port _ => List.map_congr_left fun i _ => ?_
    have hzero : BitVec.toNat (0 : ClusterId) = 0 := rfl
    simp only [Function.comp, vcKey, hzero]
    omega
  rw [hshift]
  exact List.Nodup.map (fun a b h => Nat.add_left_cancel h) (by decide)

theorem lookCredits_rising (h : Rising d.fab.dry) : Rising (d.lookCredits r now).fab.dry := by
  rw [lookCredits_dry]
  exact (foldl_lookAt (routerKeys_nodup r) h).1

theorem mfind_lookCredits (h : Rising d.fab.dry) {x : Nat × Nat} (hx : x ∈ routerKeys r) :
    mfind (d.lookCredits r now).fab.dry x.2 = drySince d r now x.2 := by
  rw [lookCredits_dry, (foldl_lookAt (routerKeys_nodup r) h).2, if_pos (List.mem_map_of_mem hx), drySince_eq]

end

/-! ### The candidates of an output and the choice among them (R294, R296) -/

section
variable {d : Dev} {r : ClusterId} {o now : Nat}

theorem dryLong_iff {key : Nat} : d.dryLong key now = true ↔ ∃ t, mfind d.fab.dry key = some t ∧ t + 8 ≤ now := by
  unfold Dev.dryLong
  cases mfind d.fab.dry key with
  | none => simp
  | some t => exact decide_eq_true_iff.trans (by simp [escapeWait])

theorem dryLong_of_candOf_escape {port key : Nat} {c : Cand} (h : d.candOf r o now port key = some c) (hesc : c.esc = true)
    (hflit : c.flit.esc = false) : d.dryLong key now = true := by
  unfold Dev.candOf at h
  split at h
  · cases h
  · split at h
    · rename_i hf
      split at h
      · obtain rfl := Option.some.inj h
        simp [hf] at hflit
      · cases h
    · split at h
      · obtain rfl := Option.some.inj h
        cases hesc
      · split at h
        · rename_i hdry
          simp only [Bool.and_eq_true] at hdry
          exact hdry.1.1.2
        · cases h

theorem oldest_filter_singleton {last : Nat} {c : Cand} {p : Cand → Bool} (h : ([c].filter p).isEmpty = false) :
    oldest now last ([c].filter p) = some c := by
  cases hp : p c with
  | true => simp [hp, oldest, minBy]
  | false => simp [hp] at h

theorem choose_singleton (c : Cand) : ∃ urgent, d.choose r o now [c] = some (c, urgent) := by
  unfold Dev.choose
  dsimp only
  split
  · rename_i h
    rw [oldest_filter_singleton (by simp_all)]
    exact ⟨_, rfl⟩
  · split
    · rename_i h
      rw [oldest_filter_singleton (by simp_all)]
      exact ⟨_, rfl⟩
    · split
      · rename_i h
        rw [oldest_filter_singleton (by simp_all)]
        exact ⟨_, rfl⟩
      · rw [oldest_filter_singleton (by simp)]
        exact ⟨_, rfl⟩

theorem choose_nil : d.choose r o now [] = none := by
  simp [Dev.choose, oldest, minBy]

end

/-! ### Where the flit goes (R288, R293, R306) -/

section
variable {d : Dev} {r : ClusterId} {o : Nat} {c : Cand} {u : Upset}

theorem popVc_eq_popped : d.popVc c.key c.idx = popped d c := rfl

theorem enterVc_eq_entered (d : Dev) (r : ClusterId) (port : Nat) (f : Flit) (u : Upset) :
    d.enterVc r port f.esc f u = entered d r port f u := by
  cases u <;> rfl

theorem moveFlit_router {q : ClusterId} {port : Nat} (h : beyond r o = .router q port) :
    d.moveFlit r o c u = entered (popped d c) q port { c.flit with esc := c.esc } u := by
  rw [Dev.moveFlit, h]
  exact enterVc_eq_entered (popped d c) q port { c.flit with esc := c.esc } u

theorem moveFlit_module {e : Nat} (h : beyond r o = .module e) :
    d.moveFlit r o c u = (popped d c).intoModule e c.flit c.esc := by
  rw [Dev.moveFlit, h]
  rfl

theorem moveFlit_held {n : ClusterId} {p : ClPower} (h : beyond r o = .cluster n) (hpower : mfind d.fab.power n.toNat = some p) :
    d.moveFlit r o c u = (popped d c).holdFlit n c.flit := by
  rw [Dev.moveFlit, h]
  simp [hpower, popVc_eq_popped]

theorem moveFlit_cluster {n : ClusterId} (h : beyond r o = .cluster n) (hpower : mfind d.fab.power n.toNat = none) :
    d.moveFlit r o c u =
      let x := (popped d c).deliverAll (n.setWidth 7) c.flit.pkts
      if x.2 = [] then x.1 else x.1.setVc c.key ((d.vc c.key).set c.idx { c.flit with pkts := x.2 }) := by
  rw [Dev.moveFlit, h]
  simp [hpower, popVc_eq_popped, tgtCluster]

end

/-! ### FLIT_HOP (R296) -/

section
variable {d : Dev} {r : ClusterId} {o now : Nat} {u : Upset}
  (hidle : mget 0 d.fab.sent (r.toNat * 8 + o) ≠ now + 1)

include hidle

theorem hopOut_rests (h : (d.lookCredits r now).choose r o now (candidatesAt (d.lookCredits r now) r o now) = none) :
    d.hopOut r o now u = (d.lookCredits r now).noteWait r o false := by
  have hpick : (d.lookCredits r now).pickHop r o now = none := (if_neg hidle).trans h
  refine (if_neg hidle).trans ?_
  rw [hpick]

theorem hopOut_sends {c : Cand} {urgent : Bool}
    (h : (d.lookCredits r now).choose r o now (candidatesAt (d.lookCredits r now) r o now) = some (c, urgent)) :
    ∃ taken, d.hopOut r o now u =
      ((granted (d.lookCredits r now) r o now c urgent).moveFlit r o c u).noteWait r o taken := by
  have hpick : (d.lookCredits r now).pickHop r o now = some (c, urgent) := (if_neg hidle).trans h
  rw [Dev.hopOut, hpick]
  exact ⟨_, if_neg hidle⟩

end

section
variable {s : State} {r : ClusterId} {o : BitVec 3} {sub : Nat} {u : Upset}

theorem flitHop_output (h : o.toNat < 5) (d : Dev) : flitHop r o sub u d = d.hopOut r o.toNat (d.clock.run * 2 + sub) u := by
  unfold flitHop
  split
  · omega
  · omega
  · omega
  · rfl

/-- A step whose device is another's but for what `noteWait` records of it. -/
theorem sendsTo_of_noteWait {d : Dev} {k : Nat} {taken : Bool} (hdies : s.dev.diesStop = false)
    (h : flitHop r o sub u s.dev = d.noteWait r k taken) : SendsTo (.flitHop r o sub u) s d :=
  ⟨_, onDies_next hdies h⟩

theorem flitHop_crossing {d : Dev} {p : BitVec 4} {f : Flit} {l : List Flit} (hport : beyond r 0 = .port p)
    (hcross : d.crossing p.toNat = f :: l) (hroom : (d.vc (vcKey r 0 f.mc false)).length < 4) (hesc : f.esc = false) :
    flitHop r 5 sub u d = entered (d.setCrossing p.toNat l) r 0 f u := by
  have hpull : flitHop r 5 sub u d = d.pullCross (portCross p) r 0 u := by
    unfold flitHop
    simp [hport]
  have hfirst : (d.crossing (portCross p)).zipIdx.find? (fun x => decide ((d.vc (vcKey r 0 x.1.mc false)).length < vcDepth false)) =
      some (f, 0) := by
    rw [portCross, hcross, List.zipIdx_cons, List.find?_cons_of_pos (by simpa [vcDepth] using hroom)]
  rw [hpull, Dev.pullCross, hfirst, ← enterVc_eq_entered, hesc]
  simp [portCross, hcross]

end

/-! ### CROSSBAR_FLIT_SEND (R289) -/

theorem crossbarSend_packs {d : Dev} {n : ClusterId} {u : Upset} {x : CellId × Nat × OutPkt} {tgt : BitVec 7}
    (hfirst : minBy (fun y => y.2.2.since) (d.leaving n) = some x) (hway : d.way x.2.2.pkt = .target tgt)
    (hroom : (d.vc (vcKey n 4 x.2.2.pkt.mc false)).length < 4) :
    let group := packUp 4 (x :: (d.leaving n).filter fun y => y ≠ x && d.sameFlit x.2.2 y.2.2)
    crossbarSend n u d = entered (d.takeOut group) n 4
      (flitOf tgt x.1 (2 * d.clock.run) x.2.2.epoch (group.map fun y => y.2.2.pkt) x.2.2.pkt.mc x.2.2.pkt.graph) u := by
  intro group
  have hmesh : d.meshNow 0 = 2 * d.clock.run := by simp [Dev.meshNow, Nat.mul_comm]
  have hfree : ¬vcDepth false ≤ (d.vc (vcKey n 4 x.2.2.pkt.mc false)).length := Nat.not_le.mpr hroom
  simp only [crossbarSend, hfirst, hway, hmesh, if_neg hfree]
  exact enterVc_eq_entered (d.takeOut group) n 4 (flitOf tgt x.1 (2 * d.clock.run) x.2.2.epoch
    (group.map fun y => y.2.2.pkt) x.2.2.pkt.mc x.2.2.pkt.graph) u

/-! ### HUB_FORWARD (R300) -/

section
variable {d : Dev}

theorem hubForward_switches {inp : BitVec 4} (h : inp.toNat ≠ 8) : hubForward inp d = d.hubSwitch inp.toNat := if_neg h

theorem hubSwitch_rests {inp : Nat} (h : ((d.pullHub inp).lookHub inp).hubNext inp = none) :
    d.hubSwitch inp = (d.pullHub inp).lookHub inp := by
  rw [Dev.hubSwitch, h]

theorem hubSwitch_moves {inp : Nat} {x : Nat × Flit} (h : ((d.pullHub inp).lookHub inp).hubNext inp = some x) :
    d.hubSwitch inp = ((d.pullHub inp).lookHub inp).hubMove inp x := by
  rw [Dev.hubSwitch, h]

theorem hubMove_module {inp k e : Nat} {f : Flit} {esc : Bool} (h : d.hubGo inp k f = .module e esc) :
    ∃ m, d.hubMove inp (k, f) =
      { (d.popHub k).intoModule e f esc with fab := { ((d.popHub k).intoModule e f esc).fab with waits := m } } := by
  refine ⟨merase ((d.popHub k).intoModule e f esc).fab.waits (512 + e), ?_⟩
  rw [Dev.hubMove, h]

theorem moduleCredit_of_hubGo {inp k e : Nat} {f : Flit} {esc : Bool} (h : d.hubGo inp k f = .module e esc) :
    d.moduleCredit e f esc = true := by
  unfold Dev.hubGo at h
  split at h
  · cases h
  · dsimp only at h
    split at h
    · rename_i hfind
      cases h
      exact List.find?_some (p := fun e => d.moduleCredit e f false) hfind
    · split at h
      · rename_i hfind
        cases h
        split at hfind
        · exact List.find?_some (p := fun e => d.moduleCredit e f true) hfind
        · cases hfind
      · cases h

end

/-- Settles O27: each output by the one candidate that R296 chooses and by what stands beyond it; the crossbar and the hub by the
packet or head that goes first. -/
theorem meshForwardsFlits : Obligations.MeshForwardsFlits := by
  refine ⟨?hop, ?crossing, ?crossbar, ?hub⟩
  case hop =>
    intro s r o sub u hdies ho hidle now seen cs
    refine ⟨fun hdry => ⟨lookCredits_rising hdry, fun x hx => mfind_lookCredits hdry hx⟩, ?escape, ?lone, ?rests, ?sends⟩
    case escape =>
      intro x _ c hc hesc hflit
      exact dryLong_iff.mp (dryLong_of_candOf_escape hc hesc hflit)
    case lone =>
      intro c hcs
      rw [hcs]
      exact choose_singleton c
    case rests =>
      intro hcs
      have hnone : seen.choose r o.toNat now cs = none := by rw [hcs, choose_nil]
      exact sendsTo_of_noteWait hdies ((flitHop_output ho s.dev).trans (hopOut_rests hidle hnone))
    case sends =>
      intro c urgent hchoose d gone
      obtain ⟨taken, hhop⟩ := hopOut_sends (u := u) hidle hchoose
      have sends : ∀ e, d.moveFlit r o.toNat c u = e → SendsTo (.flitHop r o sub u) s e := by
        intro e he
        exact sendsTo_of_noteWait hdies ((flitHop_output ho s.dev).trans (he ▸ hhop))
      exact ⟨fun q port hbeyond => sends _ (moveFlit_router hbeyond), fun e hbeyond => sends _ (moveFlit_module hbeyond),
        fun n hbeyond hpower => sends _ (moveFlit_cluster hbeyond hpower),
        fun n p hbeyond hpower => sends _ (moveFlit_held hbeyond hpower)⟩
  case crossing =>
    intro s r p sub u f l hdies hport hcross hroom hesc
    exact onDies_next hdies (flitHop_crossing hport hcross hroom hesc)
  case crossbar =>
    intro s n u x tgt hdies l p group hfirst hway hroom
    exact onDies_next hdies (crossbarSend_packs hfirst hway hroom)
  case hub =>
    intro s inp hhub hinp seen
    refine ⟨fun hnone => ?_, fun k f e esc hnext hgo => ⟨moduleCredit_of_hubGo hgo, ?_⟩⟩
    · have hrests := (hubForward_switches hinp).trans (hubSwitch_rests hnone)
      exact (onHub_acts _ hhub).trans (by rw [hrests])
    · obtain ⟨m, hmove⟩ := hubMove_module hgo
      have hmoves := (hubForward_switches hinp).trans ((hubSwitch_moves hnext).trans hmove)
      exact ⟨m, (onHub_acts _ hhub).trans (by rw [hmoves]; rfl)⟩

end Sys2Proof.Machine
end

section
/-! PROBE_MATCH (R313 to R315): settles ProbesCountTraceAndFreeze. -/

namespace Sys2Proof.Machine

/-! ### ARM, bit 1 of KAL.TRCTL -/

theorem nbits_setBits_one (w : Word) (v : Nat) : nbits (setBits w 1 1 v) 1 1 = v % 2 := by
  have hw := w.isLt
  simp only [nbits, setBits, BitVec.toNat_ofNat, Nat.shiftRight_eq_div_pow, Nat.shiftLeft_eq]
  omega

theorem fld_setReg_ne (d : Dev) {k j : Nat} (v : Word) (h : j ≠ k) (lo len : Nat) :
    (d.setReg k v).fld j lo len = d.fld j lo len := by rw [Dev.fld, Dev.fld, Dev.reg_setReg_ne d v h]

theorem setArm_fld (d : Dev) (b : Bool) : (d.setArm b).fld rTrctl 1 1 = b2n b := by
  rw [Dev.fld, Dev.setArm, Dev.reg_setReg_self, nbits_setBits_one]
  cases b <;> rfl

theorem setArm_reg_ne (d : Dev) (b : Bool) {j : Nat} (h : j ≠ rTrctl) : (d.setArm b).reg j = d.reg j :=
  Dev.reg_setReg_ne d _ h

/-! ### Records offered to the trace buffer (R315) -/

/-- The records that the buffer has been offered in a hub cycle. -/
def Kal.offered (k : Kal) (cycle : Nat) : Nat := if k.cycle = cycle then k.inCycle else 0

section
variable {k : Kal} {wrap : Bool} {cycle : Nat} {r : List Word}

theorem offer_dropped (h : 4 ≤ k.offered cycle) :
    k.offer wrap cycle r = { k with lost := if k.lost = 0xFFFFFFFF then k.lost else k.lost + 1 } :=
  if_neg (Nat.not_lt.mpr h)

theorem offer_taken (h : k.offered cycle < 4) :
    k.offer wrap cycle r = { k with cycle := cycle, inCycle := k.offered cycle + 1 }.record wrap r := if_pos h

theorem record_lost : (k.record wrap r).lost = k.lost := by
  unfold Kal.record
  split
  · rfl
  · split <;> rfl

theorem record_trace_room (h : k.trace.length < 8192) : (k.record wrap r).trace = k.trace ++ [r] := by
  rw [Kal.record, traceRecords, if_pos h]

theorem record_trace_wrap (h : 8192 ≤ k.trace.length) : (k.record true r).trace = putAt k.trace k.next r := by
  rw [Kal.record, traceRecords, if_neg (Nat.not_lt.mpr h), if_pos rfl]

theorem record_trace_full (h : 8192 ≤ k.trace.length) : (k.record false r).trace = k.trace := by
  rw [Kal.record, traceRecords, if_neg (Nat.not_lt.mpr h), if_neg Bool.false_ne_true]

end

/-! ### What a match does (R314, R315) -/

section
variable (d : Dev) (p : BitVec 4) (ns : Nat) (rec : List Word) (slot : BitVec 2)

/-- The probe has counted a match. -/
def Dev.counted (k : Nat) : Dev := d.setReg (rPcnt k) (d.reg (rPcnt k) + 1)

/-- The record of a match is offered to the trace buffer when TRACE and ARM are 1. -/
def Dev.traced : Dev :=
  if bit (d.reg (rPctl p.toNat)) 6 && d.fld rTrctl 1 1 = 1 then
    { d with
      kal := d.kal.offer (d.fld rTrctl 2 1 = 1) (hubCycle (d.clock.aon + ns)) (d.traceRecord p (d.fld (rPsel p.toNat) 12 4) ns rec slot) }
  else d

/-- START sets ARM, then STOP clears it (log 38). -/
def Dev.armedBy (ctl : Word) : Dev :=
  let e := if bit ctl 5 then d.setArm true else d
  if bit ctl 4 then e.setArm false else e

theorem rPcnt_ne_rTrctl (k : Nat) : rPcnt k ≠ rTrctl := by unfold rPcnt rTrctl; omega
theorem rPsel_ne_rPcnt (k : Nat) : rPsel k ≠ rPcnt k := by unfold rPcnt rPsel; omega
theorem rPctl_ne_rPcnt (k : Nat) : rPctl k ≠ rPcnt k := by unfold rPcnt rPctl; omega

theorem counted_reg_ne {k j : Nat} (h : j ≠ rPcnt k) : (d.counted k).reg j = d.reg j := Dev.reg_setReg_ne d _ h
theorem counted_fld_ne {k j : Nat} (h : j ≠ rPcnt k) (lo len : Nat) : (d.counted k).fld j lo len = d.fld j lo len :=
  fld_setReg_ne d _ h lo len

@[simp] theorem counted_flt (k : Nat) : (d.counted k).flt = d.flt := rfl

@[simp] theorem traced_regs : (d.traced p ns rec slot).regs = d.regs := by
  unfold Dev.traced
  split <;> rfl
@[simp] theorem traced_flt : (d.traced p ns rec slot).flt = d.flt := by
  unfold Dev.traced
  split <;> rfl

@[simp] theorem armedBy_kal (ctl : Word) : (d.armedBy ctl).kal = d.kal := by
  unfold Dev.armedBy
  cases bit ctl 5 <;> cases bit ctl 4 <;> rfl
@[simp] theorem armedBy_flt (ctl : Word) : (d.armedBy ctl).flt = d.flt := by
  unfold Dev.armedBy
  cases bit ctl 5 <;> cases bit ctl 4 <;> rfl

theorem armedBy_reg_ne (ctl : Word) {j : Nat} (h : j ≠ rTrctl) : (d.armedBy ctl).reg j = d.reg j := by
  unfold Dev.armedBy
  cases bit ctl 5 <;> cases bit ctl 4 <;> simp [setArm_reg_ne _ _ h]

theorem armedBy_arm (ctl : Word) :
    (d.armedBy ctl).fld rTrctl 1 1 = if bit ctl 4 then 0 else if bit ctl 5 then 1 else d.fld rTrctl 1 1 := by
  unfold Dev.armedBy
  cases bit ctl 5 <;> cases bit ctl 4 <;> simp [setArm_fld, b2n]

/-- A match counts, traces, arms and freezes, in this order. -/
theorem probeHit_eq :
    d.probeHit p ns rec slot =
      let e := ((d.counted p.toNat).traced p ns rec slot).armedBy (d.reg (rPctl p.toNat))
      if bit (d.reg (rPctl p.toNat)) 3 then { e with flt := { e.flt with freezeLatch := true } } else e := by
  have hctl := counted_reg_ne d (rPctl_ne_rPcnt p.toNat)
  have harm := counted_fld_ne d (rPcnt_ne_rTrctl p.toNat).symm 1 1
  rw [Dev.traced, hctl, harm]
  rfl

theorem probeHit_regs :
    (d.probeHit p ns rec slot).regs = (((d.counted p.toNat).traced p ns rec slot).armedBy (d.reg (rPctl p.toNat))).regs := by
  rw [probeHit_eq]
  dsimp only
  split <;> rfl

theorem probeHit_count : (d.probeHit p ns rec slot).reg (rPcnt p.toNat) = d.reg (rPcnt p.toNat) + 1 := by
  calc (d.probeHit p ns rec slot).reg (rPcnt p.toNat)
      = (((d.counted p.toNat).traced p ns rec slot).armedBy (d.reg (rPctl p.toNat))).reg (rPcnt p.toNat) := by
        simp only [Dev.reg, probeHit_regs]
    _ = ((d.counted p.toNat).traced p ns rec slot).reg (rPcnt p.toNat) := armedBy_reg_ne _ _ (rPcnt_ne_rTrctl _)
    _ = (d.counted p.toNat).reg (rPcnt p.toNat) := by simp only [Dev.reg, traced_regs]
    _ = d.reg (rPcnt p.toNat) + 1 := Dev.reg_setReg_self ..

theorem probeHit_arm :
    (d.probeHit p ns rec slot).fld rTrctl 1 1 =
      if bit (d.reg (rPctl p.toNat)) 4 then 0 else if bit (d.reg (rPctl p.toNat)) 5 then 1 else d.fld rTrctl 1 1 := by
  rw [Dev.fld_congr (probeHit_regs ..), armedBy_arm, Dev.fld_congr (traced_regs ..),
    counted_fld_ne d (rPcnt_ne_rTrctl p.toNat).symm]

theorem probeHit_freezeLatch :
    (d.probeHit p ns rec slot).flt.freezeLatch = (d.flt.freezeLatch || bit (d.reg (rPctl p.toNat)) 3) := by
  rw [probeHit_eq]
  cases bit (d.reg (rPctl p.toNat)) 3 <;> simp

theorem probeHit_kal :
    (d.probeHit p ns rec slot).kal =
      if bit (d.reg (rPctl p.toNat)) 6 = true ∧ d.fld rTrctl 1 1 = 1 then
        d.kal.offer (d.fld rTrctl 2 1 = 1) (hubCycle (d.clock.aon + ns)) (d.traceRecord p (d.fld (rPsel p.toNat) 12 4) ns rec slot)
      else d.kal := by
  have hkal : (d.probeHit p ns rec slot).kal = ((d.counted p.toNat).traced p ns rec slot).kal := by
    rw [probeHit_eq]
    dsimp only
    split <;> simp
  rw [hkal, Dev.traced, counted_reg_ne d (rPctl_ne_rPcnt p.toNat), counted_fld_ne d (rPcnt_ne_rTrctl p.toNat).symm,
    counted_fld_ne d (rPcnt_ne_rTrctl p.toNat).symm, counted_fld_ne d (rPsel_ne_rPcnt p.toNat)]
  simp only [Bool.and_eq_true, decide_eq_true_eq]
  split <;> rfl

end

/-! ### The command (R313) -/

section
variable {d : Dev} {p : BitVec 4} {sel ns : Nat} {slot : BitVec 2}

/-- A word at the probe's point is one that it matches: EN is 1, and the masked word is the value. -/
def Dev.probeHits (d : Dev) (p : BitVec 4) (w : Word) : Prop :=
  bit (d.reg (rPctl p.toNat)) 7 = true ∧ w &&& d.reg (rPmask p.toNat) = d.reg (rPval p.toNat)

theorem probeMatch_misses
    (h : ∀ x w, d.probeSees p.toNat sel ns slot.toNat = some x →
      x.words.getD (nbits (d.reg (rPctl p.toNat)) 0 2) none = some w → ¬d.probeHits p w) :
    probeMatch p sel ns slot d = d := by
  unfold probeMatch
  dsimp only
  split
  · rfl
  · rename_i hen
    split
    · rfl
    · rename_i x hx
      split
      · rfl
      · rename_i w hw
        refine if_pos fun heq => h x w hx hw ⟨by simpa using hen, heq⟩

theorem probeMatch_matches {x : Seen} {w : Word} (hx : d.probeSees p.toNat sel ns slot.toNat = some x)
    (hw : x.words.getD (nbits (d.reg (rPctl p.toNat)) 0 2) none = some w) (h : d.probeHits p w) :
    probeMatch p sel ns slot d =
      d.probeHit p ns (if nbits (d.reg (rPctl p.toNat)) 0 2 = 0 then x.rec0 else x.rec1)
        (if nbits (d.reg (rPctl p.toNat)) 0 2 = 0 ∨ d.fld (rPsel p.toNat) 12 4 = 5 then 0 else slot) := by
  obtain ⟨hen, heq⟩ := h
  simp only [probeMatch, hen, hx, hw, heq, Bool.not_true, Bool.false_eq_true, if_false, ne_eq, not_true_eq_false,
    Bool.or_eq_true, decide_eq_true_eq]

theorem probeSees_of_ptype_zero (h : d.fld (rPsel p.toNat) 12 4 = 0) : d.probeSees p.toNat sel ns slot.toNat = none := by
  simp [Dev.probeSees, h, Dev.flitAt]

theorem probeSees_flit {f : Flit} (h : d.fld (rPsel p.toNat) 12 4 ≤ 4)
    (hf : d.flitAt (d.fld (rPsel p.toNat) 12 4) (d.fld (rPsel p.toNat) 0 12) sel ns = some f) :
    d.probeSees p.toNat sel ns slot.toNat = some (seenFlit f (d.meshNow (2 * ns)) slot.toNat) := by
  rw [Dev.probeSees, if_neg (by omega), hf]
  rfl

end

/-- Settles O51: a look without a match rests, and of a match each effect is read off by its own lemma. -/
theorem probesCountTraceAndFreeze : Obligations.ProbesCountTraceAndFreeze := by
  intro s p sel ns slot hdies ctl ptype arm wrap field look hits k cycle before full
  have rests : (∀ x w, look = some x → x.words.getD field none = some w → ¬hits w) →
      exec (.probeMatch p sel ns slot) s = .next s := fun h => onDies_next hdies (probeMatch_misses h)
  refine ⟨?nothing, ?noPoint, ?differs, ?header, ?hit⟩
  case nothing =>
    intro hnone
    exact rests fun x w hx => by simp [hnone] at hx
  case noPoint =>
    intro hzero
    exact rests fun x w hx => by simp [look, probeSees_of_ptype_zero hzero] at hx
  case differs =>
    intro x hx hno
    refine rests fun y w hy => ?_
    obtain rfl : y = x := Option.some.inj (hy.symm.trans hx)
    exact hno w
  case header =>
    intro _ hflit f hf
    exact ⟨_, probeSees_flit hflit hf, rfl⟩
  case hit =>
    intro x w hx hw hhit shown record
    refine ⟨_, onDies_next hdies (probeMatch_matches hx hw hhit), rfl, rfl, probeHit_count .., probeHit_freezeLatch ..,
      ?starts, ?stops, ?stays, ?untraced, ?dropped, ?recorded⟩
    case starts => exact fun hstart hstop => (probeHit_arm ..).trans (by rw [hstop, hstart]; rfl)
    case stops => exact fun hstop _ => (probeHit_arm ..).trans (by rw [hstop]; rfl)
    case stays => exact fun hstart hstop => (probeHit_arm ..).trans (by rw [hstop, hstart]; rfl)
    case untraced =>
      intro hoff
      refine (probeHit_kal ..).trans (if_neg ?_)
      rintro ⟨htrace, harm⟩
      rcases hoff with hoff | hoff
      · simp [ctl, htrace] at hoff
      · simp [arm, harm] at hoff
    case dropped =>
      intro htrace harm hmany
      exact (probeHit_kal ..).trans ((if_pos ⟨htrace, harm⟩).trans (offer_dropped hmany))
    case recorded =>
      intro htrace harm hfew
      have hkal := (probeHit_kal s.dev p ns (if field = 0 then x.rec0 else x.rec1) shown).trans
        ((if_pos ⟨htrace, harm⟩).trans (offer_taken hfew))
      refine ⟨(congrArg Kal.lost hkal).trans record_lost, fun hroom => ?_, fun hfull hwrap => ?_, fun hfull hwrap => ?_⟩
      · exact (congrArg Kal.trace hkal).trans (record_trace_room hroom)
      · rw [show decide (s.dev.fld rTrctl 2 1 = 1) = true from decide_eq_true hwrap] at hkal
        exact (congrArg Kal.trace hkal).trans (record_trace_wrap hfull)
      · rw [show decide (s.dev.fld rTrctl 2 1 = 1) = false from decide_eq_false (by omega)] at hkal
        exact (congrArg Kal.trace hkal).trans (record_trace_full hfull)

end Sys2Proof.Machine
end

section
/-! A register write on the bus of the hub: from the command to the write of the register (R5, R414, R415, R422). -/

namespace Sys2Proof.Machine

open Sys2Proof.Claims

/-! ### Fields of a 4-byte value as a word -/

@[simp] theorem bit_setWidth_word (v : Reg) (i : Nat) : bit (v.setWidth 64) i = bit v i := by
  simp only [bit, BitVec.getLsbD_setWidth, Bool.and_eq_right_iff_imp, decide_eq_true_eq]
  intro h
  have := BitVec.lt_of_getLsbD h
  omega

@[simp] theorem nbits_setWidth_word (v : Reg) (lo len : Nat) : nbits (v.setWidth 64) lo len = nbits v lo len := by
  have hv : v.toNat < 2 ^ 64 := by have := v.isLt; omega
  simp only [nbits, BitVec.toNat_setWidth, Nat.mod_eq_of_lt hv]

@[simp] theorem bits_setWidth_word (v : Reg) (lo len : Nat) : bits (v.setWidth 64) lo len = bits v lo len :=
  BitVec.eq_of_toNat_eq (by simp only [bits_toNat, nbits_setWidth_word])

theorem nbits_one_eq_one_iff {n : Nat} (w : BitVec n) (i : Nat) : nbits w i 1 = 1 ↔ bit w i = true := by
  simp [nbits, bit, BitVec.getLsbD, Nat.testBit, Nat.one_and_eq_mod_two]

/-- The two halves of a word make it again. -/
theorem halves_append (v : Word) : bits v 32 32 ++ v.setWidth 32 = v := by
  ext i hi
  simp only [BitVec.getElem_append, bits, BitVec.getElem_setWidth, BitVec.getElem_extractLsb']
  split
  · exact BitVec.getLsbD_eq_getElem hi
  · rw [show 32 + (i - 32) = i by omega]
    exact BitVec.getLsbD_eq_getElem hi

/-! ### The checks that an accepted write has passed (R5) -/

theorem firstFailing_eq_none_iff {l : List (Bool × Byte)} : firstFailing l = none ↔ ∀ x ∈ l, x.1 = false := by
  simp [firstFailing]

section
variable {d : Dev} {req : Requester} {off : Nat} {r : RegSpec} {w : Word}

theorem writeRefusal_eq_none_iff : d.writeRefusal req off r w = none ↔
    d.noAccess req off r w = false ∧ d.isLocked req off r w = false ∧ ((w ^^^ d.regVal req off r) &&& r.reserved != 0) = false ∧
      d.badValue off r w = false ∧ (d.isBusy req off r w || d.frozenOut off) = false ∧ d.isStale off r w = false := by
  simp only [Dev.writeRefusal, firstFailing_eq_none_iff, List.forall_mem_cons, List.not_mem_nil, false_implies, implies_true,
    and_true]

end

/-! ### The way to the register -/

theorem onAccess_performs {s : State} {x : HostTlp} (hhub : s.dev.hubRuns = true) (hreq : x.req.toNat ≤ x.top) :
    onAccess x s = .next { s with dev := s.dev.performTlp x } := by
  rw [onAccess, if_neg (Nat.not_lt.mpr hreq), Dev.hostAccess, if_pos hhub]

theorem wakeFor_regs (d : Dev) (off : Nat) : (d.wakeFor off).regs = d.regs := by
  unfold Dev.wakeFor
  split
  · dsimp only
    split <;> rfl
  · rfl

section
variable {d : Dev} {req : Requester} {off : Nat} {r : RegSpec}

theorem writeWhole_accepted {a : Acss} {w : Word} (hok : d.writeRefusal a.req off r w = none) (at_ : Nat) (data : Reg) :
    d.writeWhole a off at_ r w data = ((d.wakeFor off).writeReg a.req off r w, stOk) := by
  delta Dev.writeWhole
  rw [hok]

theorem write4_accepted {v : Reg} (hreach : d.unreached false req off = none) (hspec : regSpec off = some r)
    (hnarrow : r.wide = false) (hok : d.writeRefusal req off r (v.setWidth 64) = none) :
    (d.write4 false req off v).1 = (d.wakeFor off).writeReg req off r (v.setWidth 64) := by
  have hcover : regCover off = some (off, r) := by rw [regCover, hspec]
  simp [Dev.write4, hreach, hcover, hnarrow, writeWhole_accepted (a := ⟨req, false, false⟩) hok]

theorem write8_accepted {v : Word} (hreach : d.unreached false req off = none) (hok : d.writeRefusal req off r v = none) :
    (d.write8 false req off r v).1 = (d.wakeFor off).writeReg req off r v := by
  simp [Dev.write8, hreach, writeWhole_accepted (a := ⟨req, false, true⟩) hok]

theorem performTlp_regWrite {v : Reg} (hoff : off % 4 = 0) :
    d.performTlp (regWrite req off v) = (d.write4 false req off v).1 := by
  have hform : formRefusal off 4 true = none := by simp [firstFailing_eq_none_iff, formRefusal, hoff]
  have hwords : Access.words { space := .bar0, off := off, size := 4, data := [v], fullBe := true } = [v] := by
    simp [Access.words]
  simp only [Dev.performTlp, regWrite, Dev.write0, hform, hwords, Dev.writeUnits]

theorem performTlp_regWrite8 {v : Word} (hoff : off % 8 = 0) (hspec : regSpec off = some r) (hwide : r.wide = true) :
    d.performTlp (regWrite8 req off v) = (d.write8 false req off r v).1 := by
  have hform : formRefusal off 8 true = none := by simp [firstFailing_eq_none_iff, formRefusal, hoff]
  have hwords : Access.words { space := .bar0, off := off, size := 8, data := [v.setWidth 32, bits v 32 32], fullBe := true } =
      [v.setWidth 32, bits v 32 32] := by simp [Access.words, List.range_succ]
  simp only [Dev.performTlp, regWrite8, Dev.write0, hform, hwords, Dev.writeUnits, hspec, hoff, hwide, if_true, halves_append]

/-- An accepted write of a register without sticky bits: its fields are stored, and its block acts. -/
theorem writeReg_plain {w : Word} (hplain : r.isStatus = false) (hkey : regKey (reqFn req) off = off) :
    d.writeReg req off r w = (d.storeReg req off r w).written req off w (d.reg off) := by
  simp [Dev.writeReg, hplain, hkey]

end

section
variable {s : State} {c : Instr} {req : Requester} {off : Nat} {v : Reg} {r : RegSpec}

theorem exec_of_isWrite (h : IsWrite c req off v) : exec c s = onAccess (regWrite req off v) s := by
  unfold IsWrite at h
  split at h
  case h_1 =>
    obtain ⟨rfl, rfl⟩ := h
    rfl
  case h_25 => exact h.elim
  all_goals
    obtain ⟨rfl, rfl, rfl⟩ := h
    rfl

/-- A 4-byte write that every check passes. -/
theorem exec_write_accepted (h : IsWrite c req off v) (hasks : Asks s.dev req off) (hreach : s.dev.unreached false req off = none)
    (hspec : regSpec off = some r) (hnarrow : r.wide = false) (hok : s.dev.writeRefusal req off r (v.setWidth 64) = none) :
    exec c s = .next { s with dev := (s.dev.wakeFor off).writeReg req off r (v.setWidth 64) } := by
  obtain ⟨hwho, hruns, hplace⟩ := hasks
  rw [exec_of_isWrite h, onAccess_performs (x := regWrite req off v) hruns hwho, performTlp_regWrite hplace,
     write4_accepted hreach hspec hnarrow hok]

theorem exec_write8_accepted {w : Word} (hruns : s.dev.hubRuns = true) (hwho : req.toNat ≤ 64) (hplace : off % 8 = 0)
    (hspec : regSpec off = some r) (hwide : r.wide = true) (hreach : s.dev.unreached false req off = none)
    (hok : s.dev.writeRefusal req off r w = none) :
    onAccess (regWrite8 req off w) s = .next { s with dev := (s.dev.wakeFor off).writeReg req off r w } := by
  rw [onAccess_performs (x := regWrite8 req off w) hruns hwho, performTlp_regWrite8 hplace hspec hwide, write8_accepted hreach hok]

end

/-! ### The fields that are stored (R422) -/

section
variable {d : Dev} {req : Requester} {off : Nat} {r : RegSpec} {w : Word}

theorem storeReg_window (h : isWindow off = true) : d.storeReg req off r w = d := by simp [Dev.storeReg, h]

/-- A register whose kept fields all come into force at once. -/
theorem storeReg_atOnce (hwindow : isWindow off = false) (hkey : regKey (reqFn req) off = off)
    (hkept : r.mask Field.kept ≠ 0) (hshadow : (r.mask fun f => f.cls = .shadow) = 0) :
    d.storeReg req off r w = d.setReg off (w &&& r.mask Field.kept) := by
  have hkept' : r.mask Field.kept ≠ 0#64 := hkept
  have hones : w &&& r.mask Field.kept &&& 18446744073709551615#64 = w &&& r.mask Field.kept := BitVec.and_allOnes
  simp [Dev.storeReg, hwindow, hkey, hkept', hshadow, hones]

end

end Sys2Proof.Machine
end

section
/-! What the blocks do on the writes of their command registers (R302, R317, R340, R350, R376, R392, R393, R445, R454, R465, R476,
R192, R193): settles RegisterWritesAct. -/

namespace Sys2Proof.Machine

open Sys2Proof.Claims

/-! ### Registers without sticky bits -/

/-- A register at a known offset is the one that the tables give there. -/
theorem isStatus_of_spec {off : Nat} {r q : RegSpec} (h : regSpec off = some r) (hq : regSpec off = some q)
    (hplain : q.isStatus = false) : r.isStatus = false := by
  obtain rfl : q = r := Option.some.inj (hq.symm.trans h)
  exact hplain

theorem regSpec_rTrctl : regSpec rTrctl = some (r32 [fAny 2 1, fAny 1 1, fWo 0 1]) := rfl
theorem regSpec_rFltAck : regSpec rFltAck = some (r32 [fWo 0 16]) := rfl
theorem regSpec_rFrzctl : regSpec rFrzctl = some (r32 [fWo 1 1, fWo 0 1]) := rfl
theorem regSpec_rUnitrst : regSpec rUnitrst = some (r32 [fWo 31 1, fWo 30 1, fWo 0 10]) := rfl
theorem regSpec_rRoutectl : regSpec rRoutectl = some (r32 [fWo 0 1]) := rfl
theorem regSpec_rRollctl : regSpec rRollctl = some (r32 [fWo 0 1]) := rfl
theorem regSpec_rFlipctl : regSpec rFlipctl = some (r32 [fWo 0 1]) := rfl
theorem regSpec_rIsodata : regSpec rIsodata = some (r32 [fAny 0 1]) := rfl
theorem regSpec_rNodeId : regSpec rNodeId = some (r32 [⟨0, 16, .wo1, .live, none, 0, 0xFFFF⟩]) := rfl
theorem regSpec_rWake : regSpec rWake = some (r32 [fWo 0 1]) := rfl

/-- FBP.CFG, RCFG and OCFG. -/
def specFbpCfg : RegSpec := r32 [fStat 6 2 0 2, fStat 4 2 0 2, fAny 0 1]
def specRingCfg : RegSpec := r32 [fAny 31 1, fRo 30 1, fStat 16 5 0 31, fStat 0 5 4 16]

theorem regSpec_rFbp (p : BitVec 4) : regSpec (rFbp p.toNat) = some specFbpCfg := by revert p; decide
theorem regSpec_rFbpCmd (p : BitVec 4) : regSpec (rFbpCmd p.toNat) = some (r32 [fWo 4 4, fWo 0 4]) := by revert p; decide

theorem regSpec_rRcfg (p : BitVec 12) : regSpec (rRcfg p.toNat) = some specRingCfg := by
  have hp := p.isLt
  have hmod : (0x30018 + 32 * p.toNat - 0x20000) % 32 = 0x18 := by omega
  unfold regSpec rRcfg
  rw [if_neg (by omega), if_neg (by omega), if_pos (by omega)]
  unfold specHif
  rw [if_neg (by omega), if_neg (by omega), if_pos (by simp only [Bool.and_eq_true, decide_eq_true_eq]; omega),
    hmod]
  rfl

theorem regSpec_rOcfg (o : BitVec 10) : regSpec (rOcfg o.toNat) = some specRingCfg := by
  have ho := o.isLt
  have hmod : (0x50010 + 32 * o.toNat - 0x20000) % 32 = 0x10 := by omega
  unfold regSpec rOcfg
  rw [if_neg (by omega), if_neg (by omega), if_pos (by omega)]
  unfold specHif
  rw [if_neg (by omega), if_neg (by omega),
    if_neg (by simp only [Bool.and_eq_true, decide_eq_true_eq]; omega),
    if_pos (by simp only [Bool.and_eq_true, decide_eq_true_eq]; omega), hmod]
  rfl

/-! ### The window of a cell: 0x4000 bytes from `rCel` on -/

section
variable (x : CellId) {o : Nat} (ho : o < 0x4000)
include ho

theorem rCel_range : 0x1000000 ≤ rCel x.toNat + o ∧ rCel x.toNat + o < 0x2000000 := by
  have hx := x.isLt
  unfold rCel
  omega

theorem rCel_mod : (rCel x.toNat + o) % 0x4000 = o := by
  unfold rCel
  omega

theorem offCell_rCel : offCell (rCel x.toNat + o) = x := by
  have hx := x.isLt
  refine BitVec.eq_of_toNat_eq ?_
  simp only [offCell, rCel, BitVec.toNat_ofNat]
  omega

theorem regSpec_rCel : regSpec (rCel x.toNat + o) = specCel o := by
  obtain ⟨hlo, hhi⟩ := rCel_range x ho
  unfold regSpec
  rw [rCel_mod x ho]
  simp (disch := omega) only [if_neg, if_pos]

theorem written_rCel (d : Dev) (req : Requester) (v old : Word) :
    d.written req (rCel x.toNat + o) v old = d.celWritten (rCel x.toNat + o) v := by
  obtain ⟨hlo, hhi⟩ := rCel_range x ho
  unfold Dev.written
  simp (disch := omega) only [if_neg, if_pos]

end

/-! ### What the storing of fields leaves as it was -/

section
variable {d : Dev} {req : Requester} {off : Nat} {r : RegSpec} {w : Word}

theorem wakeFor_fbn : (d.wakeFor off).fbn = d.fbn := by
  unfold Dev.wakeFor
  split
  · dsimp only
    split <;> rfl
  · rfl

theorem wakeFor_graphs : (d.wakeFor off).graphs = d.graphs := by
  unfold Dev.wakeFor
  split
  · dsimp only
    split <;> rfl
  · rfl

theorem regKey_eq_self (h : off < 0x20008 ∨ 0x20008 < off ∧ off < 0x20100 ∨ 0x20180 ≤ off) (fn : GraphId) :
    regKey fn off = off := by
  refine if_neg ?_
  simp only [Bool.or_eq_true, Bool.and_eq_true, decide_eq_true_eq]
  omega

/-- A bit of a field that comes into force at once reads as it is written. -/
theorem fld_storeReg_bit {i : Nat} (hwindow : isWindow off = false) (hkey : regKey (reqFn req) off = off)
    (hkept : bit (r.mask Field.kept) i = true) (hshadow : (r.mask fun f => f.cls = .shadow) = 0) :
    (d.storeReg req off r w).fld off i 1 = 1 ↔ bit w i = true := by
  have hmask : r.mask Field.kept ≠ 0 := by
    rintro h
    simp [h, bit] at hkept
  rw [Dev.fld, storeReg_atOnce hwindow hkey hmask hshadow, Dev.reg_setReg_self, nbits_one_eq_one_iff]
  simp only [bit] at hkept ⊢
  simp [hkept]

end

/-! ### The blocks -/

section
variable {d : Dev} {req : Requester} {off : Nat} {r : RegSpec} {v old : Word}

theorem written_rTrctl (hoff : off = rTrctl) (hgo : bit v 0 = true) :
    d.written req off v old = { d with kal := { d.kal with trace := [], next := 0, lost := 0 } } := by
  subst hoff
  have hclear : (decide (rTrctl = rTrctl) && bit v 0) = true := by simp [hgo]
  exact if_pos hclear

theorem acknowledge_eq :
    d.acknowledge = { d with flt := { d.flt with episode := d.flt.episode.map fun e => { e with acked := true } } } := by
  unfold Dev.acknowledge Dev.modEpisode
  split
  · rename_i hnone
    have hmap : (d.flt.episode.map fun e => { e with acked := true }) = d.flt.episode := by rw [hnone]; rfl
    rw [hmap]
  · rename_i e hsome
    rw [hsome]
    rfl

theorem written_rFltAck (hoff : off = rFltAck) : d.written req off v old =
    { d with flt := { d.flt with episode := d.flt.episode.map fun e => { e with acked := true } } } := by
  subst hoff
  exact acknowledge_eq

theorem written_rFrzctl (hoff : off = rFrzctl) : d.written req off v old = d.frzctl v := by
  subst hoff
  rfl

theorem frzctl_freezes (h : bit v 0 = true) : d.frzctl v = { d with flt := { d.flt with freezeLatch := true } } := if_pos h

/-- FREEZE with RESUME is refused (R454). -/
theorem not_freeze_of_resume (hbad : d.badValue rFrzctl r v = false) (h : bit v 1 = true) : bit v 0 = false := by
  have hthree : nbits v 0 2 ≠ 3 := by
    simp only [Dev.badValue, Bool.or_eq_false_iff] at hbad
    have hflt : d.badFlt rFrzctl v = false := hbad.2
    simp only [Dev.badFlt, Bool.or_eq_false_iff] at hflt
    simpa using hflt.2
  have hone := (nbits_one_eq_one_iff v 1).mpr h
  refine Bool.eq_false_iff.mpr fun hzero => hthree ?_
  have hnought := (nbits_one_eq_one_iff v 0).mpr hzero
  simp only [nbits, Nat.shiftRight_eq_div_pow] at hone hnought ⊢
  omega

theorem frzctl_thaws (hzero : bit v 0 = false) (hone : bit v 1 = true) :
    d.frzctl v = Dev.thaw d.frozen { d with flt := { d.flt with freezeLatch := false } } := by
  rw [Dev.frzctl, hzero, hone]
  rfl

theorem thaw_still (h : d.flt.freezePinLow = true ∨ d.flt.clockLatch = true ∨ d.frozen = false) :
    Dev.thaw d.frozen { d with flt := { d.flt with freezeLatch := false } } =
      { d with flt := { d.flt with freezeLatch := false } } := by
  refine if_neg ?_
  rcases h with h | h | h <;> simp [Dev.frozen] at h ⊢ <;> simp [h]

theorem thaw_resumes (hpin : d.flt.freezePinLow = false) (hclock : d.flt.clockLatch = false) (hlatch : d.flt.freezeLatch = true)
    (hnone : d.flt.resetAtResume = []) :
    Dev.thaw d.frozen { d with flt := { d.flt with freezeLatch := false } } =
      Dev.resumeLinks { d with flt := { d.flt with freezeLatch := false } } := by
  have hwas : d.frozen = true := by simp [Dev.frozen, hlatch]
  have hnow : ({ d with flt := { d.flt with freezeLatch := false } } : Dev).frozen = false := by simp [Dev.frozen, hpin, hclock]
  rw [Dev.thaw, hwas, hnow]
  refine (if_pos rfl).trans ?_
  simp only [hnone, List.foldl_nil]

theorem written_rUnitrst (hoff : off = rUnitrst) (hgo : bit v 31 = true) :
    d.written req off v old = d.startReset (resetUnit v) := by
  subst hoff
  exact if_pos hgo

theorem written_rRoutectl (hoff : off = rRoutectl) (hgo : bit v 0 = true) : d.written req off v old = d.flip := by
  subst hoff
  exact if_pos hgo

theorem written_rRollctl (hoff : off = rRollctl) (hgo : bit v 0 = true) : d.written req off v old = d.rollStart := by
  subst hoff
  exact if_pos hgo

theorem written_rFlipctl (hoff : off = rFlipctl) (hgo : bit v 0 = true) : d.written req off v old = d.fflipStart := by
  subst hoff
  exact if_pos hgo

theorem written_rIsodata (hoff : off = rIsodata) : d.written req off v old = d.isoWritten v := by
  subst hoff
  rfl

theorem written_rNodeId (hoff : off = rNodeId) (hheld : d.fbn.nodeHeld = false) (hnone : d.graphs.isEmpty = true) :
    d.written req off v old = { d with fbn := { d.fbn with nodeId := v.setWidth 16, nodeHeld := true } } := by
  subst hoff
  have htake : d.written req rNodeId v old = (d.takeId (v.setWidth 16)).1 := rfl
  rw [htake, Dev.takeId, hheld, hnone]
  rfl

theorem written_rWake (hoff : off = rWake) (hgo : bit v 0 = true) : d.written req off v old = d.wakeFn (reqFn req) := by
  subst hoff
  exact if_pos hgo

end

/-! ### The registers of a Fober port (R340, R465) -/

section
variable {d : Dev} {req : Requester} {off : Nat} {r : RegSpec} {v old : Word} (p : BitVec 4) {o : Nat} (ho : o < 0x1000)

section
include ho

theorem offPort_rFbp : BitVec.ofNat 4 (offPort (rFbp p.toNat + o)) = p := by
  have hp := p.isLt
  refine BitVec.eq_of_toNat_eq ?_
  simp only [offPort, rFbp, BitVec.toNat_ofNat]
  omega

theorem rFbp_mod : (rFbp p.toNat + o) % 0x1000 = o := by
  unfold rFbp
  omega

theorem written_port : d.written req (rFbp p.toNat + o) v old = d.fbpWritten (rFbp p.toNat + o) v old := by
  have hp := p.isLt
  have hlo : 0x300000 ≤ rFbp p.toNat + o := by unfold rFbp; omega
  have hhi : rFbp p.toNat + o < 0x380000 := by unfold rFbp; omega
  unfold Dev.written
  simp (disch := omega) only [if_neg, if_pos]

end

theorem written_rFbp (hoff : off = rFbp p.toNat) : d.written req off v old = d.portWritten p (bit old 0) := by
  obtain rfl : off = rFbp p.toNat + 0 := hoff
  rw [written_port p (by decide), Dev.fbpWritten, rFbp_mod p (by decide), offPort_rFbp p (by decide)]
  rfl

theorem written_rFbpCmd (hoff : off = rFbpCmd p.toNat) : d.written req off v old = d.portCommand p v := by
  obtain rfl : off = rFbp p.toNat + 0xC := hoff
  rw [written_port p (by decide), Dev.fbpWritten, rFbp_mod p (by decide), offPort_rFbp p (by decide)]
  rfl

/-- EN of a port is the bit written. -/
theorem portEn_storeReg {w : Word} (hoff : off = rFbp p.toNat) (hspec : regSpec off = some r) :
    (d.storeReg req off r w).portEn p = bit w 0 := by
  subst hoff
  obtain rfl : specFbpCfg = r := Option.some.inj ((regSpec_rFbp p).symm.trans hspec)
  have hwindow : isWindow (rFbp p.toNat) = false := by revert p; decide
  have hlo : 0x20180 ≤ rFbp p.toNat := by unfold rFbp; omega
  exact Bool.eq_iff_iff.mpr (decide_eq_true_iff.trans
    (fld_storeReg_bit hwindow (regKey_eq_self (.inr (.inr hlo)) _) (by decide) (by decide)))

end

/-! ### The registers of a ring (R392) -/

section
variable {d : Dev} {req : Requester} {off : Nat} {r : RegSpec} {v w old : Word} {ring : RingName}

theorem offRing_ringCfg (ring : RingName) : offRing (ringCfg ring) = some ring := by
  cases ring with
  | pair p =>
    have hp := p.isLt
    have hin : 0x30000 ≤ rRcfg p.toNat ∧ rRcfg p.toNat < 0x50000 := by unfold rRcfg; omega
    have hnum : (rRcfg p.toNat - 0x30000) / 32 = p.toNat := by unfold rRcfg; omega
    simp [ringCfg, offRing, hin, hnum]
  | output o =>
    have ho := o.isLt
    have hin : ¬rOcfg o.toNat < 0x50000 ∧ 0x50000 ≤ rOcfg o.toNat ∧ rOcfg o.toNat < 0x58000 := by unfold rOcfg; omega
    have hnum : (rOcfg o.toNat - 0x50000) / 32 = o.toNat := by unfold rOcfg; omega
    simp [ringCfg, offRing, hin, hnum]

theorem ringCfg_range (ring : RingName) : 0x30018 ≤ ringCfg ring ∧ ringCfg ring < 0x58000 := by
  cases ring with
  | pair p =>
    have hp := p.isLt
    simp only [ringCfg, rRcfg]
    omega
  | output o =>
    have ho := o.isLt
    simp only [ringCfg, rOcfg]
    omega

theorem isRingCfg_ringCfg (ring : RingName) : isRingCfg (ringCfg ring) = true := by
  rw [isRingCfg, offRing_ringCfg]
  cases ring with
  | pair p =>
    have hmod : rRcfg p.toNat % 32 = 0x18 := by unfold rRcfg; omega
    exact decide_eq_true hmod
  | output o =>
    have hmod : rOcfg o.toNat % 32 = 0x10 := by unfold rOcfg; omega
    exact decide_eq_true hmod

theorem regSpec_ringCfg (ring : RingName) : regSpec (ringCfg ring) = some specRingCfg := by
  cases ring with
  | pair p => exact regSpec_rRcfg p
  | output o => exact regSpec_rOcfg o

theorem written_ringCfg (hoff : off = ringCfg ring) : d.written req off v old = d.ringWritten ring (bit old 31) := by
  subst hoff
  obtain ⟨hlo, hhi⟩ := ringCfg_range ring
  have hwake : ringCfg ring ≠ rWake := by unfold rWake; omega
  unfold Dev.written
  rw [if_neg (by omega), if_neg (by omega), if_pos (by omega), Dev.hifWritten, if_neg hwake, isRingCfg_ringCfg, offRing_ringCfg]
  rfl

theorem isWindow_ringCfg (ring : RingName) : isWindow (ringCfg ring) = false := by
  obtain ⟨hlo, hhi⟩ := ringCfg_range ring
  simp [isWindow]
  omega

theorem ringEn_eq_decide (d : Dev) (ring : RingName) : d.ringEn ring = decide (d.fld (ringCfg ring) 31 1 = 1) := by
  cases ring <;> rfl

/-- EN of a ring is the bit written. -/
theorem ringEn_storeReg (hoff : off = ringCfg ring) (hspec : regSpec off = some r) :
    (d.storeReg req off r w).ringEn ring = bit w 31 := by
  subst hoff
  obtain ⟨hlo, hhi⟩ := ringCfg_range ring
  obtain rfl : specRingCfg = r := Option.some.inj ((regSpec_ringCfg ring).symm.trans hspec)
  rw [ringEn_eq_decide]
  exact Bool.eq_iff_iff.mpr (decide_eq_true_iff.trans
    (fld_storeReg_bit (isWindow_ringCfg ring) (regKey_eq_self (.inr (.inr (by omega))) _) (by decide) (by decide)))

end

/-! ### The registers of a cell (R192, R193, R285) -/

section
variable {d : Dev} {req : Requester} {off : Nat} {v old : Word} (x : CellId)

theorem written_rInjcmd (hoff : off = rInjcmd x.toNat) (hgo : bit v 0 = true) : d.written req off v old = d.injectCell x := by
  obtain rfl : off = rCel x.toNat + 0x58 := hoff
  rw [written_rCel x (by decide), Dev.celWritten, rCel_mod x (by decide), offCell_rCel x (by decide)]
  exact if_pos hgo

theorem celWritten_accdata : d.celWritten (rCel x.toNat + 0x28) v = d.accWrite x v := by
  rw [Dev.celWritten, rCel_mod x (by decide), offCell_rCel x (by decide)]
  rfl

theorem celWritten_evtdata : d.celWritten (rCel x.toNat + 0x2048) v = d.entryWrite x v := by
  rw [Dev.celWritten, rCel_mod x (by decide), offCell_rCel x (by decide)]
  rfl

theorem regSpec_rInjcmd : regSpec (rInjcmd x.toNat) = some (r32 [fWo 0 1]) := regSpec_rCel x (o := 0x58) (by decide)

/-- The window of a cell wakes its cluster at every offset alike. -/
theorem wakeFor_rCel (d : Dev) {o : Nat} (ho : o < 0x4000) : d.wakeFor (rCel x.toNat + o) = d.wakeFor (rCel x.toNat) := by
  have hin := rCel_range x ho
  have hin' : 0x1000000 ≤ rCel x.toNat ∧ rCel x.toNat < 0x2000000 := rCel_range x (o := 0) (by decide)
  have hcell' : offCell (rCel x.toNat) = x := offCell_rCel x (o := 0) (by decide)
  simp [Dev.wakeFor, hin, hin', offCell_rCel x ho, hcell']

theorem isWindow_rCel {o : Nat} (ho : o < 0x4000) (hwindow : [0x28, 0x2048].contains o = true) :
    isWindow (rCel x.toNat + o) = true := by
  obtain ⟨hlo, hhi⟩ := rCel_range x ho
  rw [isWindow, rCel_mod x ho, hwindow]
  simp [hlo, hhi]

/-- An accepted write of a cell's window on a table: the table alone is written. -/
theorem writeReg_rCel_window {o : Nat} {r : RegSpec} (ho : o < 0x4000) (hwindow : [0x28, 0x2048].contains o = true)
    (hplain : r.isStatus = false) : d.writeReg req (rCel x.toNat + o) r v = d.celWritten (rCel x.toNat + o) v := by
  obtain ⟨hlo, hhi⟩ := rCel_range x ho
  rw [writeReg_plain hplain (regKey_eq_self (.inr (.inr (by omega))) _), storeReg_window (isWindow_rCel x ho hwindow),
    written_rCel x ho]

end

end Sys2Proof.Machine
end

section
/-! The event tables, which the moves of records keep (R269, R275), and the entry that EVTDATA writes (R285). -/

namespace Sys2Proof.Machine

/-- Every cell's event table is as it was. -/
def SameTables (d e : Dev) : Prop := ∀ c, (e.cell c).ev.evt = (d.cell c).ev.evt

namespace SameTables

theorem refl (d : Dev) : SameTables d d := fun _ => rfl

theorem trans {d e f : Dev} (h : SameTables d e) (h' : SameTables e f) : SameTables d f := fun c => (h' c).trans (h c)

theorem of_ev {d e : Dev} (h : ∀ c, (e.cell c).ev = (d.cell c).ev) : SameTables d e := fun c => by rw [h c]

theorem foldl {α : Type} {f : Dev → α → Dev} (h : ∀ d a, SameTables d (f d a)) :
    ∀ (l : List α) (d : Dev), SameTables d (l.foldl f d)
  | [], d => refl d
  | a :: l, d => (h d a).trans (foldl h l (f d a))

theorem ite {P : Prop} [Decidable P] {d a b : Dev} (ha : SameTables d a) (hb : SameTables d b) :
    SameTables d (if P then a else b) := by
  split
  · exact ha
  · exact hb

end SameTables

/-- The records of a controller changed. -/
theorem modRecs_sameTables (d : Dev) (k : CellId) (f : CellEvents → List EvRec) :
    SameTables d (d.modEv k fun e => { e with recs := f e }) := fun c => by
  rw [Dev.modEv, Dev.cell_modCell]
  split
  · subst c
    rfl
  · rfl

theorem sendEv_sameTables (d : Dev) (c t : CellId) (p : Pkt) : SameTables d (d.sendEv c t p) := .of_ev fun k => by
  unfold Dev.sendEv
  split
  · exact modPipe_ev ..
  · exact sendPkt_ev ..

theorem giveBack_sameTables (d : Dev) (c : CellId) (r : EvRec) : SameTables d (d.giveBack c r) := by
  unfold Dev.giveBack
  dsimp only
  split
  · exact modRecs_sameTables _ _ _
  · exact (sendEv_sameTables _ _ _ _).trans (modRecs_sameTables _ _ _)

theorem refill_sameTables (d : Dev) (c : CellId) (ln : BitVec 3) :
    SameTables d (d.modLane c ln fun l => { l with spareUsed := false }) := .of_ev fun k => modLane_ev d k c ln _

theorem dropRecord_sameTables (d : Dev) (c : CellId) (born : Nat) : SameTables d (d.dropRecord c born) := by
  unfold Dev.dropRecord
  dsimp only
  split
  · exact .refl d
  · split
    · exact modRecs_sameTables _ _ _
    · exact (modRecs_sameTables _ _ _).trans (refill_sameTables _ _ _)
    · split
      · exact modRecs_sameTables _ _ _
      · exact ((modRecs_sameTables _ _ _).trans (modRecs_sameTables _ _ _)).trans (refill_sameTables _ _ _)

theorem returnRecords_sameTables (d : Dev) (t : CellId) (mine : EvRec → Bool) : SameTables d (d.returnRecords t mine) := by
  have hstep (d : Dev) (r : EvRec) : SameTables d ((d.dropRecord t r.born).sendRecord t r.post r.loose) :=
    (dropRecord_sameTables d t r.born).trans (sendEv_sameTables _ _ _ _)
  exact .foldl hstep _ d

/-- A table whose entries are changed under their keys. -/
theorem mget_map_snd {α : Type} {f : α → α} (dflt : α) (j : Nat) :
    ∀ m : Map α, f dflt = dflt → mget dflt (m.map fun x => (x.1, f x.2)) j = f (mget dflt m j)
  | [], h => h.symm
  | (k, v) :: m, h => by
    simp only [List.map_cons, mget, mget_map_snd dflt j m h]
    split
    · rfl
    · split
      · exact h.symm
      · rfl

/-- A cell with its packets changed or dropped. -/
def cellPkts (p : Pkt → Option Pkt) (x : Cell) : Cell :=
  { x with pipe := { x.pipe with
      egress := x.pipe.egress.filterMap fun o => (p o.pkt).map fun q => { o with pkt := q }
      inbox := x.pipe.inbox.filterMap p } }

theorem mapPkts_cell (d : Dev) (p : Pkt → Option Pkt) (c : CellId) : (d.mapPkts p).cell c = cellPkts p (d.cell c) :=
  mget_map_snd (f := cellPkts p) cellReset c.toNat d.cells rfl

theorem mapPkts_sameTables (d : Dev) (p : Pkt → Option Pkt) : SameTables d (d.mapPkts p) := fun c => by
  rw [mapPkts_cell]
  rfl

/-- An entry replaced: the moves of records by its new target leave the tables. -/
theorem entryWrite_sameTables (d : Dev) (c : CellId) (v : Word) :
    SameTables (d.modEv c fun e => { e with evt := mset 0 e.evt ((d.evtGraph c).toNat * 64 + d.evtSource c) v }) (d.entryWrite c v) :=
  .ite (.refl _) (((SameTables.foldl (fun d r => giveBack_sameTables d c r) _ _).trans
    (.foldl (fun d t => returnRecords_sameTables d t _) _ _)).trans (mapPkts_sameTables _ _))

/-- The entry that EVTADDR names is what EVTDATA wrote. -/
theorem entryWrite_entry (d : Dev) (c : CellId) (v : Word) :
    ((d.entryWrite c v).cell c).entry (d.evtGraph c) (d.evtSource c) = v := by
  rw [Cell.entry, entryWrite_sameTables, Dev.cell_modEv_self, mget_mset_self]

end Sys2Proof.Machine
end

section
/-! The accepted writes of the command registers: settles RegisterWritesAct. -/

namespace Sys2Proof.Machine

open Sys2Proof.Claims

/-! ### From the register that is written to the next state -/

/-- A 4-byte register write that every check passes. -/
structure AcceptedWrite (s : State) (c : Instr) (req : Requester) (off : Nat) (v : Reg) (r : RegSpec) : Prop where
  isWrite : IsWrite c req off v
  asks : Asks s.dev req off
  reached : s.dev.unreached false req off = none
  spec : regSpec off = some r
  narrow : r.wide = false
  accepted : s.dev.writeRefusal req off r (v.setWidth 64) = none

/-- The device once the fields of a write are stored, before its block acts. -/
def stored (s : State) (req : Requester) (off : Nat) (r : RegSpec) (v : Reg) : Dev :=
  (s.dev.wakeFor off).storeReg req off r (v.setWidth 64)

theorem storeReg_eq (d : Dev) (req : Requester) (off : Nat) (r : RegSpec) (w : Word) :
    ∃ m, d.storeReg req off r w = { d with regs := m } := by
  unfold Dev.storeReg
  extract_lets kept shadow
  split
  · exact ⟨d.regs, rfl⟩
  · split
    · exact ⟨_, rfl⟩
    · exact ⟨_, rfl⟩

section
variable {s : State} {c : Instr} {req : Requester} {off : Nat} {v : Reg} {r : RegSpec}

theorem stored_fbn : (stored s req off r v).fbn = s.dev.fbn := by
  obtain ⟨m, hm⟩ := storeReg_eq (s.dev.wakeFor off) req off r (v.setWidth 64)
  rw [stored, hm]
  exact wakeFor_fbn

theorem stored_graphs : (stored s req off r v).graphs = s.dev.graphs := by
  obtain ⟨m, hm⟩ := storeReg_eq (s.dev.wakeFor off) req off r (v.setWidth 64)
  rw [stored, hm]
  exact wakeFor_graphs

theorem wakeFor_reg (d : Dev) (off k : Nat) : (d.wakeFor off).reg k = d.reg k := by rw [Dev.reg, wakeFor_regs, Dev.reg]

/-- What the block of a register without sticky bits does is what the write comes to. -/
theorem AcceptedWrite.ends (h : AcceptedWrite s c req off v r) {q : RegSpec} {e : Dev} (hq : regSpec off = some q)
    (hplain : q.isStatus = false) (hkey : off < 0x20008 ∨ 0x20008 < off ∧ off < 0x20100 ∨ 0x20180 ≤ off)
    (hacts : (stored s req off r v).written req off (v.setWidth 64) (s.dev.reg off) = e) :
    exec c s = .next { s with dev := e } := by
  rw [exec_write_accepted h.isWrite h.asks h.reached h.spec h.narrow h.accepted,
    writeReg_plain (isStatus_of_spec h.spec hq hplain) (regKey_eq_self hkey _), wakeFor_reg, ← hacts, stored]

/-! ### What the blocks do, by the value written -/

/-- The checks leave an ID that is not assigned, and no graph loaded (R350). -/
theorem AcceptedWrite.nodeId_free (h : AcceptedWrite s c req off v r) (hoff : off = rNodeId) :
    s.dev.fbn.nodeHeld = false ∧ s.dev.graphs.isEmpty = true := by
  subst hoff
  obtain ⟨-, hlocked, -, -, hbusy, -⟩ := writeRefusal_eq_none_iff.mp h.accepted
  have hother : s.dev.otherBusy rNodeId (v.setWidth 64) = (!s.dev.graphs.isEmpty) := rfl
  simp only [Dev.isLocked, Dev.isBusy, Bool.or_eq_false_iff, hother] at hlocked hbusy
  exact ⟨by simpa using hlocked.2, by simpa using hbusy.1.2⟩

/-- FREEZE is 0 where RESUME is 1. -/
theorem AcceptedWrite.not_freeze_of_resume (h : AcceptedWrite s c req off v r) (hoff : off = rFrzctl) (hgo : bit v 1 = true) :
    bit v 0 = false := by
  subst hoff
  obtain ⟨-, -, -, hbad, -, -⟩ := writeRefusal_eq_none_iff.mp h.accepted
  rw [← bit_setWidth_word v 0]
  exact Machine.not_freeze_of_resume hbad (by rwa [bit_setWidth_word])

end

section
variable {d : Dev} {x : CellId}

theorem injectCell_arrives {y : Dev} (h : (d.wakeCell x).arrive x (plainQTok (d.injToken x)) false false = some y) :
    d.injectCell x = if y.loaded (d.injToken x).graph then y.cellCreate x (d.injToken x).graph (d.injToken x).colour else y := by
  unfold Dev.injectCell
  dsimp only
  rw [h]

theorem injectCell_kept (h : (d.wakeCell x).arrive x (plainQTok (d.injToken x)) false false = none) :
    d.injectCell x = (d.wakeCell x).setSticky (rQovr x.toNat (d.queueOf x (d.injToken x)))
      (BitVec.ofNat 32 (2 ^ (d.queueOf x (d.injToken x) % 16))) := by
  unfold Dev.injectCell
  dsimp only
  rw [h]

theorem portWritten_eq {p : BitVec 4} {b was : Bool} (h : d.portEn p = b) : d.portWritten p was =
    if b then Dev.enableLinks { d with pwr := { d.pwr with shed := d.pwr.shed.erase p.toNat } } p
    else if was then d.disableLinks p else d := by
  rw [Dev.portWritten, h]

theorem ringWritten_pair {p : BitVec 12} {b was : Bool} (h : d.ringEn (.pair p) = b) :
    d.ringWritten (.pair p) was = if !was && b then d.modPair p fun _ => pairReset else d := by
  rw [Dev.ringWritten, h]
  cases was <;> cases b <;> rfl

theorem ringWritten_output {o : BitVec 10} {b was : Bool} (h : d.ringEn (.output o) = b) :
    d.ringWritten (.output o) was = if !was && b then d.modOring o fun _ => oringReset else d := by
  rw [Dev.ringWritten, h]
  cases was <;> cases b <;> rfl

theorem isoWritten_eq {a : Nat} {v : Reg} (h : d.fld rIsoaddr 0 16 = a) : d.isoWritten (v.setWidth 64) =
    if bit v 0 then d.isolateNode (BitVec.ofNat 16 a) else d.releaseNode (BitVec.ofNat 16 a) := by
  rw [Dev.isoWritten, h, bit_setWidth_word]

theorem resetUnit_eq (v : Reg) :
    resetUnit (v.setWidth 64) = if bit v 30 then .cluster (bits v 0 6) else .cell (bits v 0 10) := by
  simp only [resetUnit, bit_setWidth_word, bits_setWidth_word]

theorem portCommand_eq (p : BitVec 4) (v : Reg) :
    d.portCommand p (v.setWidth 64) = (d.retrainLinks p (nbits v 4 4)).restartLinks p (nbits v 0 4) := by
  simp only [Dev.portCommand, nbits_setWidth_word]

end

/-! ### The tables of a cell (R192, R285) -/

/-- An accepted write through one of the windows of a cell: its table is written, and nothing is stored in the register. -/
theorem exec_cellWindow {s : State} {req : Requester} {v : Word} (x : CellId) {o : Nat} (ho : [0x28, 0x2048].contains o = true)
    (hspec : specCel o = some (r64 [fAny 0 64])) (hruns : s.dev.hubRuns = true) (hwho : req.toNat ≤ 64)
    (hreach : s.dev.unreached false req (rCel x.toNat + o) = none)
    (hok : s.dev.writeRefusal req (rCel x.toNat + o) (r64 [fAny 0 64]) v = none) :
    onAccess (regWrite8 req (rCel x.toNat + o) v) s =
      .next { s with dev := (s.dev.wakeFor (rCel x.toNat)).celWritten (rCel x.toNat + o) v } := by
  have hoffset : o = 0x28 ∨ o = 0x2048 := by simpa using ho
  have hlt : o < 0x4000 := by omega
  have hplace : (rCel x.toNat + o) % 8 = 0 := by unfold rCel; omega
  rw [exec_write8_accepted hruns hwho hplace ((regSpec_rCel x hlt).trans hspec) rfl hreach hok,
    writeReg_rCel_window x hlt ho rfl, wakeFor_rCel x _ hlt]

section
variable {s : State} {req : Requester} {x : CellId} {v : Word} (hruns : s.dev.hubRuns = true) (hwho : req.toNat ≤ 64)
include hruns hwho

theorem exec_accdataWrite (hreach : s.dev.unreached false req (rAccdata x.toNat) = none)
    (hok : s.dev.writeRefusal req (rAccdata x.toNat) (r64 [fAny 0 64]) v = none) :
    exec (.accdataWrite req x v) s = .next { s with dev := (s.dev.wakeFor (rCel x.toNat)).accWrite x v } := by
  rw [← celWritten_accdata]
  exact exec_cellWindow x (o := 0x28) rfl rfl hruns hwho hreach hok

theorem exec_evtdataWrite (hreach : s.dev.unreached false req (rEvtdata x.toNat) = none)
    (hok : s.dev.writeRefusal req (rEvtdata x.toNat) (r64 [fAny 0 64]) v = none) :
    exec (.evtdataWrite req x v) s = .next { s with dev := (s.dev.wakeFor (rCel x.toNat)).entryWrite x v } := by
  rw [← celWritten_evtdata]
  exact exec_cellWindow x (o := 0x2048) rfl rfl hruns hwho hreach hok

end

/-- ACCDATA replaces the word that ACCADDR names: waking leaves the registers. -/
theorem accWrite_wakeFor (d : Dev) (off : Nat) (x : CellId) (v : Word) : (d.wakeFor off).accWrite x v =
    (d.wakeFor off).modStore x fun m =>
      if nbits (d.reg (rAccaddr x.toNat)) 30 2 = 0 then { m with im := mset 0 m.im (nbits (d.reg (rAccaddr x.toNat)) 0 14) v }
      else { m with fo := mset 0 m.fo (nbits (d.reg (rAccaddr x.toNat)) 0 14) v } := by
  rw [Dev.accWrite, wakeFor_reg]

/-! ### The obligation -/

/-- Settles O56: an accepted write stores its fields and then lets the block of its register act. -/
theorem registerWritesAct : Obligations.RegisterWritesAct := by
  unfold Obligations.RegisterWritesAct
  refine ⟨?_, ?_⟩
  · intro s c req off v r hwrite hasks hreach hspec hnarrow woken w hok d old ends
    have h : AcceptedWrite s c req off v r := ⟨hwrite, hasks, hreach, hspec, hnarrow, hok⟩
    have hbit (i : Nat) (hi : bit v i = true) : bit w i = true := (bit_setWidth_word v i).trans hi
    refine ⟨?trctl, ?ack, ?freeze, ?resume, ?unitrst, ?injcmd, ?routectl, ?rollctl, ?flipctl, ?isodata, ?nodeId, ?port, ?portCmd,
      ?pair, ?output, ?wake⟩
    case trctl =>
      intro hoff hgo
      exact h.ends (hoff ▸ regSpec_rTrctl) rfl (by rw [hoff]; decide) (written_rTrctl hoff (hbit 0 hgo))
    case ack =>
      intro hoff
      exact h.ends (hoff ▸ regSpec_rFltAck) rfl (by rw [hoff]; decide) (written_rFltAck hoff)
    case freeze =>
      intro hoff hgo
      exact h.ends (hoff ▸ regSpec_rFrzctl) rfl (by rw [hoff]; decide)
        ((written_rFrzctl hoff).trans (frzctl_freezes (hbit 0 hgo)))
    case resume =>
      intro hoff hgo
      have hzero : bit w 0 = false := (bit_setWidth_word v 0).trans (h.not_freeze_of_resume hoff hgo)
      have hthaw := (written_rFrzctl (d := d) (req := req) (old := old) hoff).trans (frzctl_thaws hzero (hbit 1 hgo))
      refine ⟨fun hstill => ?_, fun hpin hclock hlatch hnone => ?_⟩
      · exact h.ends (hoff ▸ regSpec_rFrzctl) rfl (by rw [hoff]; decide) (hthaw.trans (thaw_still hstill))
      · exact h.ends (hoff ▸ regSpec_rFrzctl) rfl (by rw [hoff]; decide) (hthaw.trans (thaw_resumes hpin hclock hlatch hnone))
    case unitrst =>
      intro hoff hgo
      exact h.ends (hoff ▸ regSpec_rUnitrst) rfl (by rw [hoff]; decide)
        ((written_rUnitrst hoff (hbit 31 hgo)).trans (congrArg d.startReset (resetUnit_eq v)))
    case injcmd =>
      intro x hoff hgo
      have hkey : 0x20180 ≤ off := by rw [hoff]; unfold rInjcmd rCel; omega
      have hacts := written_rInjcmd (d := d) (req := req) (old := old) x hoff (hbit 0 hgo)
      exact ⟨fun y hy => h.ends (hoff ▸ regSpec_rInjcmd x) rfl (.inr (.inr hkey)) (hacts.trans (injectCell_arrives hy)),
        fun hkept => h.ends (hoff ▸ regSpec_rInjcmd x) rfl (.inr (.inr hkey)) (hacts.trans (injectCell_kept hkept))⟩
    case routectl =>
      intro hoff hgo
      exact ⟨_, h.ends (hoff ▸ regSpec_rRoutectl) rfl (by rw [hoff]; decide) (written_rRoutectl hoff (hbit 0 hgo))⟩
    case rollctl =>
      intro hoff hgo
      exact h.ends (hoff ▸ regSpec_rRollctl) rfl (by rw [hoff]; decide) (written_rRollctl hoff (hbit 0 hgo))
    case flipctl =>
      intro hoff hgo
      exact h.ends (hoff ▸ regSpec_rFlipctl) rfl (by rw [hoff]; decide) (written_rFlipctl hoff (hbit 0 hgo))
    case isodata =>
      intro hoff
      have hregs : d.regs = s.dev.regs := by
        have hwindow : d = woken := storeReg_window (by rw [hoff]; decide)
        rw [hwindow]
        exact wakeFor_regs s.dev off
      exact h.ends (hoff ▸ regSpec_rIsodata) rfl (by rw [hoff]; decide)
        ((written_rIsodata hoff).trans (isoWritten_eq (Dev.fld_congr hregs ..)))
    case nodeId =>
      intro hoff
      obtain ⟨hheld, hnone⟩ := h.nodeId_free hoff
      have hid : w.setWidth 16 = v.setWidth 16 := BitVec.setWidth_setWidth_of_le v (by decide)
      have hacts := written_rNodeId (d := d) (req := req) (v := w) (old := old) hoff (stored_fbn ▸ hheld)
        (stored_graphs ▸ hnone)
      rw [hid] at hacts
      exact h.ends (hoff ▸ regSpec_rNodeId) rfl (by rw [hoff]; decide) hacts
    case port =>
      intro p hoff
      have hkey : 0x20180 ≤ off := by rw [hoff]; unfold rFbp; omega
      exact h.ends (hoff ▸ regSpec_rFbp p) rfl (.inr (.inr hkey))
        ((written_rFbp p hoff).trans (portWritten_eq ((portEn_storeReg p hoff hspec).trans (bit_setWidth_word v 0))))
    case portCmd =>
      intro p hoff
      have hkey : 0x20180 ≤ off := by rw [hoff]; unfold rFbpCmd rFbp; omega
      exact h.ends (hoff ▸ regSpec_rFbpCmd p) rfl (.inr (.inr hkey)) ((written_rFbpCmd p hoff).trans (portCommand_eq p v))
    case pair =>
      intro p hoff
      have hkey : 0x20180 ≤ off := by rw [hoff]; unfold rRcfg; omega
      exact h.ends (hoff ▸ regSpec_rRcfg p) rfl (.inr (.inr hkey)) ((written_ringCfg (ring := .pair p) hoff).trans
        (ringWritten_pair ((ringEn_storeReg (ring := .pair p) hoff hspec).trans (bit_setWidth_word v 31))))
    case output =>
      intro o hoff
      have hkey : 0x20180 ≤ off := by rw [hoff]; unfold rOcfg; omega
      exact h.ends (hoff ▸ regSpec_rOcfg o) rfl (.inr (.inr hkey)) ((written_ringCfg (ring := .output o) hoff).trans
        (ringWritten_output ((ringEn_storeReg (ring := .output o) hoff hspec).trans (bit_setWidth_word v 31))))
    case wake =>
      intro hoff hgo
      exact h.ends (hoff ▸ regSpec_rWake) rfl (by rw [hoff]; decide) (written_rWake hoff (hbit 0 hgo))
  · intro s req x v hruns hwho d a r
    refine ⟨fun hreach hok => ?_, fun hreach hok => ?_⟩
    · rw [exec_accdataWrite hruns hwho hreach hok, accWrite_wakeFor]
    · have hends := exec_evtdataWrite hruns hwho hreach hok
      refine ⟨hends, fun t ht => ?_⟩
      obtain rfl := Host.Outcome.next.inj (hends.symm.trans ht)
      exact entryWrite_entry d x v

end Sys2Proof.Machine
end

section
/-! A Fober link and its updates: what each leaves of every other link and of the clock (R340 to R343). -/

namespace Sys2Proof.Machine

open Sys2Proof.Claims

/-! ### One link of the table -/

theorem link_congr {d e : Dev} (h : e.links = d.links) (m : LinkId) : e.link m = d.link m := by rw [Dev.link, Dev.link, h]

@[simp] theorem link_setLink_self (d : Dev) (l : LinkId) (x : Link) : (d.setLink l x).link l = x := mget_mset_self ..

@[simp] theorem link_modLink_self (d : Dev) (l : LinkId) (f : Link → Link) : (d.modLink l f).link l = f (d.link l) :=
  link_setLink_self ..

theorem link_setLink_ne (d : Dev) {l m : LinkId} (x : Link) (h : m ≠ l) : (d.setLink l x).link m = d.link m :=
  mget_mset_ne _ _ _ fun heq => h (BitVec.eq_of_toNat_eq heq)

/-- Link l of e holds y; every other link, and the clock, is as in d. -/
structure Relinked (d : Dev) (l : LinkId) (e : Dev) (y : Link) : Prop where
  link : e.link l = y
  others : ∀ m, m ≠ l → e.link m = d.link m
  clock : e.clock = d.clock

section
variable {d e : Dev} {l : LinkId} {y : Link}

theorem Relinked.refl (d : Dev) (l : LinkId) : Relinked d l d (d.link l) := ⟨rfl, fun _ _ => rfl, rfl⟩

theorem Relinked.quiet (h : Relinked d l e y) {f : Dev} (hlinks : f.links = e.links) (hclock : f.clock = e.clock) :
    Relinked d l f y :=
  ⟨(link_congr hlinks l).trans h.link, fun m hm => (link_congr hlinks m).trans (h.others m hm), hclock.trans h.clock⟩

theorem Relinked.setLink (h : Relinked d l e y) (z : Link) : Relinked d l (e.setLink l z) z :=
  ⟨link_setLink_self .., fun m hm => (link_setLink_ne e z hm).trans (h.others m hm), h.clock⟩

theorem Relinked.modLink (h : Relinked d l e y) (f : Link → Link) : Relinked d l (e.modLink l f) (f y) :=
  h.link ▸ h.setLink (f (e.link l))

theorem Relinked.fault (h : Relinked d l e y) (key b src : Nat) (us : List DevUnit) (as : List AbortCause) :
    Relinked d l (e.fault key b src us as) y :=
  h.quiet (fault_frame ..).links (fault_frame ..).clock

theorem Relinked.emit (h : Relinked d l e y) (o : Out) : Relinked d l (e.emit o) y := h.quiet rfl rfl

theorem Relinked.foldl {α : Type} {f : Dev → α → Dev} (hf : ∀ e a, Relinked d l e y → Relinked d l (f e a) y) :
    ∀ (as : List α) {e : Dev}, Relinked d l e y → Relinked d l (as.foldl f e) y
  | [], _, h => h
  | a :: as, e, h => Relinked.foldl hf as (hf e a h)

/-- A command of the compute dies that rewrites one link. -/
theorem linkBecomes_of_relinked {s : State} {c : Instr} {f : Dev → Dev} (hdies : s.dev.diesStop = false)
    (hexec : exec c s = onDies f s) (hf : f s.dev = e) (h : Relinked s.dev l e y) : LinkBecomes s c l y :=
  ⟨{ s with dev := e }, hexec.trans (onDies_next hdies hf), rfl, rfl, h.link, h.others⟩

/-! ### What groups and rates look at -/

theorem Dev.split_congr (h : e.regs.cfg = d.regs.cfg) (p : BitVec 4) : e.split p = d.split p := by
  simp only [Dev.split, Dev.fld, Dev.reg, h]

theorem Dev.groupOf_congr (h : e.regs.cfg = d.regs.cfg) (l : LinkId) (usable : Nat → Bool) :
    e.groupOf l usable = d.groupOf l usable := by
  simp only [Dev.groupOf, Dev.split_congr h]

/-! ### The states that a link enters (R340, R341, R343) -/

theorem applyStaged_links (d : Dev) (key : Nat) : (d.applyStaged key).links = d.links := by
  unfold Dev.applyStaged
  split <;> rfl

theorem applyStaged_clock (d : Dev) (key : Nat) : (d.applyStaged key).clock = d.clock := by
  unfold Dev.applyStaged
  split <;> rfl

theorem Relinked.startTaps (h : Relinked d l e y) (rate lane : Nat) : Relinked d l (e.startTaps l rate lane) y := by
  unfold Dev.startTaps
  dsimp only
  split
  · exact h.quiet (applyStaged_links ..) (applyStaged_clock ..)
  · exact h.quiet rfl rfl

theorem Relinked.enterEq {s : State} (h : Relinked s.dev l e y) (rate w : Nat) (g : List Nat) :
    Relinked s.dev l (e.enterEq l rate w g) (equalizing s y rate w g) := by
  have htaps : Relinked s.dev l (g.foldl (fun d i => d.startTaps l rate i) e) y :=
    Relinked.foldl (fun _ i he => he.startTaps rate i) g h
  unfold equalizing Dev.enterEq
  rw [← htaps.clock]
  exact htaps.modLink _

theorem Relinked.enterLock (h : Relinked d l e y) :
    Relinked d l (e.enterLock l) { y with st := .lock, since := d.clock.run } := by
  rw [← h.clock]
  exact h.modLink _

theorem Relinked.enterRetrain (h : Relinked d l e y) :
    Relinked d l (e.enterRetrain l)
      { y with st := .retrain, since := d.clock.run, fromRetrain := true, retrainDue := 3, train := [] } := by
  rw [← h.clock]
  exact (h.modLink _).fault ..

theorem Relinked.countReplay (h : Relinked d l e y) :
    Relinked d l (e.countReplay l)
      { y with replay := y.retry.map fun q => q.seq, replayCnt := min 0xFFFFFFFF (y.replayCnt + 1) } :=
  (h.modLink _).fault ..

/-- After RETRAIN what is unacknowledged is replayed, which counts when there is something (R336, R343). -/
theorem Relinked.enterActive (h : Relinked d l e y) (hfrom : y.fromRetrain = true) :
    Relinked d l (e.enterActive l)
      { y with
        st := .active, since := d.clock.run, fromRetrain := false, lastNak := none, replays := 0
        replay := y.retry.map fun q => q.seq
        replayCnt := if y.retry = [] then y.replayCnt else min 0xFFFFFFFF (y.replayCnt + 1) } := by
  rw [← h.clock]
  unfold Dev.enterActive
  dsimp only
  rw [h.link, hfrom, Bool.true_and]
  by_cases hretry : y.retry = []
  · rw [if_pos hretry, if_neg (by simp [hretry]), hretry]
    exact h.setLink _
  · rw [if_neg hretry, if_pos (by simpa using hretry)]
    exact (h.setLink _).countReplay

theorem loseFlits_of_acked (h : (d.link l).retry = []) : d.loseFlits l = d := by simp [Dev.loseFlits, h]

theorem Relinked.linkTo (h : Relinked d l e y) (hretry : y.retry = []) (st : LinkState) :
    Relinked d l (e.linkTo l st) (y.restart st d.clock.run) := by
  rw [Dev.linkTo, loseFlits_of_acked (h.link.symm ▸ hretry), ← h.clock]
  exact h.modLink _

/-- A node whose root is not known sends no NOTICE of the link that it isolates (R371). -/
theorem linkIsolate_relinked (hretry : (d.link l).retry = []) (hroot : d.rootNode = none) :
    Relinked d l (d.linkIsolate l) ((d.link l).restart .isolated d.clock.run) := by
  have hto : d.linkTo l .isolated = d.modLink l fun x => x.restart .isolated d.clock.run := by
    rw [Dev.linkTo, loseFlits_of_acked hretry]
  have hroot' : (d.linkTo l .isolated).rootNode = none := by rw [hto]; exact hroot
  rw [Dev.linkIsolate, Dev.isoNotice, hroot']
  exact (Relinked.refl ..).linkTo hretry .isolated

/-- The retraining of a link x, all of whose failed lanes are given, on what is left of it. -/
def Dev.narrow (d : Dev) (l : LinkId) (x : Link) (all : Byte) (named : Option (Nat × List Nat)) : Dev :=
  let left := fun (i : Nat) => bit x.lanes i && !bit all i
  match (named.filter fun g => g.2.all left).or (d.groupOf l left) with
  | some (w, g) => (d.setLink l { x with failed := all, width := BitVec.ofNat 2 w, lanes := laneMask g }).enterRetrain l
  | none => ((d.setLink l { x with failed := all }).enterRetrain l).nextRate l

theorem failLanes_eq_narrow (d : Dev) (l : LinkId) (failed : Byte) (named : Option (Nat × List Nat)) :
    d.failLanes l failed named =
      (if (d.link l).failed ||| failed = (d.link l).failed then d else d.degraded l).narrow l (d.link l)
        ((d.link l).failed ||| failed) named := rfl

/-- The lanes left retrain, on the group named when it is one of theirs (R341, R342). -/
theorem failLanes_relinked {s : State} {failed : Byte} {named : Option (Nat × List Nat)} {w : Nat} {g : List Nat}
    (hgroup :
      let left := fun (i : Nat) => bit (s.dev.link l).lanes i && !bit ((s.dev.link l).failed ||| failed) i
      ((named.filter fun g => g.2.all left).or (s.dev.groupOf l left)) = some (w, g)) :
    Relinked s.dev l (s.dev.failLanes l failed named) (retrained s (s.dev.link l) ((s.dev.link l).failed ||| failed) w g) := by
  have hretrain {e : Dev} (h : Relinked s.dev l e (s.dev.link l)) (hcfg : e.regs.cfg = s.dev.regs.cfg) :
      Relinked s.dev l (e.narrow l (s.dev.link l) ((s.dev.link l).failed ||| failed) named)
        (retrained s (s.dev.link l) ((s.dev.link l).failed ||| failed) w g) := by
    unfold Dev.narrow
    dsimp only at hgroup ⊢
    rw [Dev.groupOf_congr hcfg, hgroup]
    exact (h.setLink _).enterRetrain
  rw [failLanes_eq_narrow]
  split
  · exact hretrain (.refl ..) rfl
  · exact hretrain ((Relinked.refl ..).fault ..) (fault_frame ..).cfg

end

end Sys2Proof.Machine
end

section
/-! The training of a link (R320, R321, R325, R339 to R343): settles LinksTrainByTheirStates. -/

namespace Sys2Proof.Machine

open Sys2Proof.Claims

section
variable {d : Dev} {l : LinkId} {w : Nat} {g : List Nat}

/-! ### Where training leads (R340) -/

theorem Link.trains_iff {x : Link} : x.trains = true ↔ x.st = .detect ∨ x.st = .eq ∨ x.st = .retrain := by
  simp [Link.trains, or_assoc]

theorem tryTrain_detect (hst : (d.link l).st = .detect) : d.tryTrain l = d.tryDetect l := by simp [Dev.tryTrain, hst]

theorem tryTrain_eq (hst : (d.link l).st = .eq) : d.tryTrain l = d := by simp [Dev.tryTrain, hst]

theorem tryTrain_retrain (hst : (d.link l).st = .retrain) : d.tryTrain l = d.tryRetrain l := by simp [Dev.tryTrain, hst]

theorem tryDetect_unheard (h : d.groupOf l (d.link l).heard = none) : d.tryDetect l = d := by simp [Dev.tryDetect, h]

theorem tryDetect_whole (h : d.groupOf l (d.link l).heard = some (w, g)) (hall : g.length = (d.lanesOf l).length) :
    d.tryDetect l = d.enterEq l (d.commonRate l g) w g := by
  simp [Dev.tryDetect, h, hall]

theorem tryRetrain_locked (h : ∀ i ∈ d.lanesOf l, bit (d.link l).lanes i = true → ((d.link l).lane i).locked = true) :
    d.tryRetrain l = d.enterLock l := by
  refine if_pos (List.all_eq_true.mpr fun i hi => ?_)
  cases hused : bit (d.link l).lanes i with
  | false => rfl
  | true => simp [h i hi hused]

/-! ### LANE_LOCK -/

/-- A link once a lane has locked; the first lock is timed. -/
def Link.laneLocked (x : Link) (lane now : Nat) : Link :=
  { x.setLane lane { x.lane lane with locked := true } with
    firstLock := if x.firstLock = none then some now else x.firstLock }

theorem laneLock_trains {lane : BitVec 3} (htrains : (d.link l).trains = true) (hlane : lane.toNat ∈ d.lanesOf l) :
    laneLock l lane d = (d.setLink l ((d.link l).laneLocked lane.toNat d.clock.run)).tryTrain l := by
  simp [laneLock, htrains, hlane, Link.laneLocked]

/-! ### TRAINING_FRAME_RECEIVE (R320, R339) -/

@[simp] theorem framed_st (x : Link) (lane : Nat) (inv : Bool) (v : Word) : (framed x lane inv v).st = x.st := rfl

@[simp] theorem framed_req (x : Link) (lane : Nat) (inv : Bool) (v : Word) :
    ((framed x lane inv v).lane lane).req = (x.lane lane).req := by
  simp [framed, Link.lane, Link.setLane]

theorem equalize_of_ne_eq (h : (d.link l).st ≠ .eq) (lane : Nat) (v : Word) : d.equalize l lane v = d := by
  simp [Dev.equalize, h]

/-- With MODE 2 the requests of the peer are not answered. -/
theorem equalize_of_manual (h : d.fld (rFbpEqctl (linkPort l).toNat) 0 2 = 2) (lane : Nat) (v : Word) :
    d.equalize l lane v = d := by
  simp [Dev.equalize, h]

theorem adapt_of_ne_eq (h : (d.link l).st ≠ .eq) (lane : Nat) (v : Word) (rx : RxAdapt) : d.adapt l lane v rx = d := by
  simp [Dev.adapt, h]

theorem adapt_ready {lane : Nat} (hst : (d.link l).st = .eq) (hreq : ((d.link l).lane lane).req = 0) (v : Word) :
    d.adapt l lane v .ready = d.setLink l ((d.link l).setLane lane { (d.link l).lane lane with rdy := true }) := by
  simp [Dev.adapt, LaneTrain.adapt, hst, hreq]

/-- The third frame in a row that carries a word lets the word count. -/
theorem trainingFrame_counts {lane : BitVec 3} (htrains : (d.link l).trains = true)
    (hlocked : ((d.link l).lane lane.toNat).locked = true) (hlane : lane.toNat ∈ d.lanesOf l) (inv : Bool) (raw : Word)
    (rx : RxAdapt) :
    let v := if inv then ~~~raw else raw
    let t := (d.link l).lane lane.toNat
    let e := d.setLink l (framed (d.link l) lane.toNat inv v)
    trainingFrame l lane inv raw rx d =
      if 3 ≤ (if t.last = v then t.seen + 1 else 1) then
        ((e.equalize l lane.toNat v).adapt l lane.toNat v rx).tryTrain l
      else e := by
  simp [trainingFrame, htrains, hlocked, hlane, framed]

/-! ### The timeouts (R340, R341) -/

theorem detectTimeout_isolates {t : Nat} (hst : (d.link l).st = .detect) (hfirst : (d.link l).firstLock = some t)
    (hdue : t + 10000000 ≤ d.clock.run) (hnone : d.groupOf l (d.link l).heard = none) :
    detectTimeout l d = d.linkIsolate l := by
  simp [detectTimeout, hst, hfirst, hdue, hnone]

theorem eqTimeout_narrows (hst : (d.link l).st = .eq) (hdue : (d.link l).since + 20000000 ≤ d.clock.run)
    (hgroup : d.groupOf l (fun i => bit (d.link l).lanes i && (d.link l).usable i) = some (w, g)) :
    let failed := laneMask ((d.lanesUsed l).filter fun i => !(d.link l).usable i)
    eqTimeout l d =
      ((if failed = 0 then d else d.degraded l).setLink l
        { d.link l with
          failed := (d.link l).failed ||| failed, width := BitVec.ofNat 2 w, lanes := laneMask g }).enterLock l := by
  simp [eqTimeout, hst, hdue, hgroup]

theorem eqTimeout_fails (hst : (d.link l).st = .eq) (hdue : (d.link l).since + 20000000 ≤ d.clock.run)
    (hnone : d.groupOf l (fun i => bit (d.link l).lanes i && (d.link l).usable i) = none) :
    eqTimeout l d = d.nextRate l := by
  simp [eqTimeout, hst, hdue, hnone]

theorem nextRate_isolates (hrate : (d.link l).rate = 0) : d.nextRate l = d.linkIsolate l := if_pos hrate

theorem nextRate_lowers (hrate : (d.link l).rate ≠ 0) :
    d.nextRate l = (d.setLink l { d.link l with failed := 0 }).enterEq l ((d.link l).rate.toNat - 1) (d.split (linkPort l))
      (d.lanesOf l) :=
  if_neg hrate

theorem lockTimeout_equalizes (hst : (d.link l).st = .lock) (hdue : (d.link l).since + 1000000 ≤ d.clock.run) :
    lockTimeout l d = d.enterEq l (d.link l).rate.toNat (d.link l).width.toNat (d.lanesUsed l) := by
  simp [lockTimeout, hst, hdue]

/-! ### CODEWORD_LOCK and its loss, LANE_FAIL (R325, R341, R343) -/

theorem codewordLock_locks {syms : List Nat} {skew : Nat} (hst : (d.link l).st = .lock) (hskew : skew ≤ 20)
    (hsyms : syms = (List.range (d.lanesUsed l).length).map alignSymbol) :
    codewordLock l syms skew d =
      if (d.link l).fromRetrain then d.enterActive l else d.setLink l { d.link l with st := .hello, since := d.clock.run } := by
  simp [codewordLock, hst, hskew, hsyms, skewLimit]

theorem codewordLoss_retrains (hst : (d.link l).st = .active) : codewordLoss l d = d.enterRetrain l := if_pos hst

theorem laneFail_fails {lane : BitVec 3} {lost : Bool} (hst : (d.link l).st = .active)
    (hused : bit (d.link l).lanes lane.toNat = true)
    (hlost : lost = true ∨ d.fld (rFbpLanecfg (linkPort l).toNat) 16 16 < d.recentSyms l lane.toNat) :
    laneFail l lane lost d = d.failLanes l (1#8 <<< lane.toNat) none := by
  refine if_pos ?_
  simpa [hst, hused] using hlost

/-! ### Control messages (R342) -/

theorem retrainMsg_fails (hst : (d.link l).st = .active) (m : RetrainMsg) :
    retrainMsg l m d = d.failLanes l (m.failed &&& laneMask (d.lanesOf l)) (d.namedGroup l m) := if_pos hst

theorem downMsg_ends (hst : (d.link l).st = .lock ∨ (d.link l).st = .hello ∨ (d.link l).st = .active) :
    downMsg l d = d.linkTo l .detect := by
  refine if_pos ?_
  rcases hst with h | h | h <;> simp [Link.talks, h]

theorem common_version {vermap : BitVec 16} (h : bit vermap 1 = true) : vermap &&& linkVermap ≠ 0 := by
  intro hnone
  have hbit : bit (vermap &&& linkVermap) 1 = true := by
    rw [bit, BitVec.getLsbD_and, show vermap.getLsbD 1 = true from h]
    rfl
  rw [hnone] at hbit
  exact absurd hbit (by decide)

/-- The limits that a HELLO names, by channel. -/
def helloLimits (m : HelloMsg) : Map (BitVec 12) := m.buf.zipIdx.foldl (fun t b => mset 0 t b.2 b.1) []

/-- A link that has taken a HELLO. -/
def Link.greeted (x : Link) (m : HelloMsg) : Link :=
  { x with
    peerVermap := m.vermap, ver := 1, helloSeen := x.helloSeen || m.ver = 1, peerSeen := x.peerSeen || m.seen
    lim := helloLimits m }

theorem helloMsg_greets {m : HelloMsg} (hst : (d.link l).st = .hello) (hver : bit m.vermap 1 = true) :
    helloMsg l m d = (d.setLink l ((d.link l).greeted m)).tryActive l := by
  unfold helloMsg
  dsimp only
  rw [if_neg (not_not_intro hst), if_neg (common_version hver)]
  rfl

theorem tryActive_unsent (h : (d.link l).helloSent = false) : d.tryActive l = d := by simp [Dev.tryActive, h]

end

theorem mget_foldl_mset_zipIdx {α : Type} [DecidableEq α] (e : α) :
    ∀ (as : List α) (k : Nat) (t : Map α) (v : Nat),
      mget e ((as.zipIdx k).foldl (fun t b => mset e t b.2 b.1) t) v =
        if k ≤ v ∧ v < k + as.length then as.getD (v - k) e else mget e t v
  | [], k, t, v => by simp
  | a :: as, k, t, v => by
    rw [List.zipIdx_cons, List.foldl_cons, mget_foldl_mset_zipIdx e as (k + 1), mget_mset, List.length_cons]
    by_cases hv : v = k
    · subst hv
      rw [if_neg (by omega), if_pos rfl, if_pos (by omega), Nat.sub_self]
      rfl
    · rw [if_neg hv]
      by_cases hlast : k + 1 ≤ v ∧ v < k + 1 + as.length
      · rw [if_pos hlast, if_pos (by omega), show v - k = v - (k + 1) + 1 by omega]
        rfl
      · rw [if_neg hlast, if_neg (by omega)]

theorem helloLimits_get {m : HelloMsg} {v : Nat} (hv : v < m.buf.length) : mget 0 (helloLimits m) v = m.buf.getD v 0 := by
  rw [helloLimits, mget_foldl_mset_zipIdx, if_pos (by omega), Nat.sub_zero]

/-- Settles O41: each clause is one branch of its command, and what follows a change of one link leaves the others. That DETECT ends
once every lane is heard is log 29, the three RETRAIN messages due at the entry to RETRAIN log 56. -/
theorem linksTrainByTheirStates : Obligations.LinksTrainByTheirStates := by
  intro s l hdies x now all used
  have hself : Relinked s.dev l s.dev x := .refl ..
  have hset (y : Link) : (s.dev.setLink l y).link l = y := link_setLink_self ..
  refine ⟨?laneLock, ?frame, ?detectTimeout, ?eqTimeout, ?lockTimeout, ?codewordLock, ?codewordLoss, ?laneFail, ?retrain,
    ?hello, ?down⟩
  case laneLock =>
    intro lane hlane y
    have hlocks {e : Dev} {z : Link} (hst : x.st = .detect ∨ x.st = .eq ∨ x.st = .retrain)
        (htry : (s.dev.setLink l y).tryTrain l = e) (h : Relinked s.dev l e z) : LinkBecomes s (.laneLock l lane) l z :=
      linkBecomes_of_relinked hdies rfl ((laneLock_trains (Link.trains_iff.mpr hst) hlane).trans htry) h
    refine ⟨?_, fun hst hlocked => ?_⟩
    · rintro (heq | ⟨hdetect, hnone⟩)
      · exact hlocks (.inr (.inl heq)) (tryTrain_eq (by rwa [hset])) (hself.setLink y)
      · exact hlocks (.inl hdetect) ((tryTrain_detect (by rwa [hset])).trans (tryDetect_unheard (by rwa [hset])))
          (hself.setLink y)
    · exact hlocks (.inr (.inr hst)) ((tryTrain_retrain (by rwa [hset])).trans (tryRetrain_locked (by rwa [hset])))
        (hself.setLink y).enterLock
  case frame =>
    intro lane inv raw rx hlocked hlane v t y
    have hcounts (rx : RxAdapt) (hst : x.st = .detect ∨ x.st = .eq ∨ x.st = .retrain) :=
      trainingFrame_counts (d := s.dev) (Link.trains_iff.mpr hst) hlocked hlane inv raw rx
    have hthird (hlast : t.last = v) (hseen : 3 ≤ t.seen + 1) : 3 ≤ if t.last = v then t.seen + 1 else 1 := by
      rwa [if_pos hlast]
    refine ⟨fun hst hearly => ?_, fun wd g hst hlast hseen hgroup hall => ?_, fun hst hlast hseen hreq hmanual => ?_⟩
    · have hfew : ¬3 ≤ if t.last = v then t.seen + 1 else 1 := by
        split_ifs with hlast
        · have := hearly.resolve_left (not_not_intro hlast)
          omega
        · omega
      exact linkBecomes_of_relinked hdies rfl ((hcounts rx hst).trans (if_neg hfew)) (hself.setLink y)
    · have hne : ((s.dev.setLink l y).link l).st ≠ .eq := by
        rw [hset, framed_st, hst]
        decide
      refine linkBecomes_of_relinked hdies rfl ((hcounts rx (.inl hst)).trans (if_pos (hthird hlast hseen))) ?_
      rw [equalize_of_ne_eq hne, adapt_of_ne_eq hne, tryTrain_detect (by rwa [hset]),
        tryDetect_whole (d := s.dev.setLink l y) (by rw [hset]; exact hgroup) hall]
      exact (hself.setLink y).enterEq ..
    · have heq : ((s.dev.setLink l y).link l).st = .eq := by rwa [hset]
      have hidle : (((s.dev.setLink l y).link l).lane lane.toNat).req = 0 := by rwa [hset, framed_req]
      refine linkBecomes_of_relinked hdies rfl ((hcounts .ready (.inr (.inl hst))).trans (if_pos (hthird hlast hseen))) ?_
      rw [equalize_of_manual (d := s.dev.setLink l y) hmanual, adapt_ready heq hidle,
        tryTrain_eq (by rwa [link_setLink_self, hset]), hset]
      exact (hself.setLink y).setLink _
  case detectTimeout =>
    intro t hst hfirst hdue hnone hretry hroot
    exact linkBecomes_of_relinked hdies rfl (detectTimeout_isolates hst hfirst hdue hnone) (linkIsolate_relinked hretry hroot)
  case eqTimeout =>
    intro hst hdue group
    refine ⟨fun w g hgroup => ?_, fun hnone hrate => ?_, fun hnone hrate hretry hroot => ?_⟩
    · simp only [Bool.decide_eq_false]
      refine linkBecomes_of_relinked hdies rfl (eqTimeout_narrows hst hdue hgroup) ?_
      split
      · exact (hself.setLink _).enterLock
      · exact ((hself.fault ..).setLink _).enterLock
    · exact linkBecomes_of_relinked hdies rfl ((eqTimeout_fails hst hdue hnone).trans (nextRate_lowers hrate))
        ((hself.setLink _).enterEq ..)
    · exact linkBecomes_of_relinked hdies rfl ((eqTimeout_fails hst hdue hnone).trans (nextRate_isolates hrate))
        (linkIsolate_relinked hretry hroot)
  case lockTimeout =>
    intro hst hdue
    exact linkBecomes_of_relinked hdies rfl (lockTimeout_equalizes hst hdue) (hself.enterEq ..)
  case codewordLock =>
    intro syms skew hst hskew hsyms
    have hlocks := codewordLock_locks hst hskew hsyms
    refine ⟨fun hfrom => ?_, fun hfrom => ?_⟩
    · exact linkBecomes_of_relinked hdies rfl (hlocks.trans (if_neg (ne_true_of_eq_false hfrom))) (hself.setLink _)
    · exact linkBecomes_of_relinked hdies rfl (hlocks.trans (if_pos hfrom)) (hself.enterActive hfrom)
  case codewordLoss =>
    intro hst
    exact linkBecomes_of_relinked hdies rfl (codewordLoss_retrains hst) hself.enterRetrain
  case laneFail =>
    intro lane lost w g hst hused hlost failed hgroup
    exact linkBecomes_of_relinked hdies rfl (laneFail_fails hst hused hlost) (failLanes_relinked hgroup)
  case retrain =>
    intro m w g hst failed left hgroup
    refine linkBecomes_of_relinked hdies rfl (retrainMsg_fails hst m) (failLanes_relinked ?_)
    obtain ⟨hnamed, hleft⟩ | ⟨hnamed, hwidest⟩ := hgroup
    · rw [hnamed]
      exact congrArg (fun o => Option.or o (s.dev.groupOf l left)) (Option.filter_some_pos (a := (w, g)) hleft)
    · rw [hnamed]
      exact hwidest
  case hello =>
    intro m hst hver hsent
    have hgreets := (helloMsg_greets hst hver).trans (tryActive_unsent (by rwa [hset]))
    exact ⟨helloLimits m, fun v hv => helloLimits_get hv, linkBecomes_of_relinked hdies rfl hgreets (hself.setLink _)⟩
  case down =>
    intro hst hretry
    exact linkBecomes_of_relinked hdies rfl (downMsg_ends hst) (hself.linkTo hretry .detect)

end Sys2Proof.Machine
end

section
/-! The flits that a link sends: training frames, NULL flits, messages and packets, and the codewords that they fill (R323 to
R333, R339, R340). -/

namespace Sys2Proof.Machine

open Sys2Proof.Claims

section
variable {d e : Dev} {l : LinkId} {y : Link}

/-! ### Training frames -/

theorem Relinked.sendFrames (h : Relinked d l e y) : Relinked d l (e.sendFrames l) y :=
  Relinked.foldl (fun _ _ he => he.emit _) _ h

/-! ### Codewords (R323, R325) -/

/-- A link whose next flit is f: the codeword that five flits fill goes out, and an alignment codeword before the first of every
16,384. -/
def Link.filled (x : Link) (f : RawFlit) : Link :=
  let n := if x.cw = [] ∧ x.cwCount = 0 then 1 else x.cwCount
  { x with
    cw := if x.cw.length + 1 < 5 then x.cw ++ [f] else []
    cwCount := if x.cw.length + 1 < 5 then n else (n + 1) % 16384 }

theorem Relinked.sendCodeword (h : Relinked d l e y) (cw : List Nat) :
    Relinked d l (e.sendCodeword l cw) { y with cwCount := (y.cwCount + 1) % 16384 } :=
  (h.modLink _).emit _

theorem Relinked.intoCodeword (h : Relinked d l e y) (f : RawFlit) : Relinked d l (e.intoCodeword l f) (y.filled f) := by
  have haligned : Relinked d l
      (if y.cw.isEmpty && y.cwCount = 0 then e.sendCodeword l (alignCodeword (e.lanesUsed l).length) else e)
      { y with cwCount := if y.cw = [] ∧ y.cwCount = 0 then 1 else y.cwCount } := by
    by_cases hfirst : y.cw = [] ∧ y.cwCount = 0
    · rw [if_pos (by simpa using hfirst), if_pos hfirst]
      have hsent := h.sendCodeword (alignCodeword (e.lanesUsed l).length)
      rwa [hfirst.2] at hsent
    · rw [if_neg (by simpa using hfirst), if_neg hfirst]
      exact h
  unfold Dev.intoCodeword Link.filled
  dsimp only
  rw [h.link, List.length_append, List.length_singleton]
  split
  · exact haligned.modLink _
  · exact (haligned.sendCodeword _).modLink _

theorem mem_out_sendCodeword {o : Out} (h : o ∈ d.out) (cw : List Nat) : o ∈ (d.sendCodeword l cw).out :=
  List.mem_append_left _ h

theorem mem_out_intoCodeword {o : Out} (h : o ∈ d.out) (f : RawFlit) : o ∈ (d.intoCodeword l f).out := by
  have haligned : o ∈ (if (d.link l).cw.isEmpty && (d.link l).cwCount = 0 then
      d.sendCodeword l (alignCodeword (d.lanesUsed l).length) else d).out := by
    split
    · exact mem_out_sendCodeword h _
    · exact h
  unfold Dev.intoCodeword
  dsimp only
  split
  · exact haligned
  · exact mem_out_sendCodeword haligned _

/-! ### A flit goes out (R329, R332, R333) -/

/-- Link l, which held x, has sent the flit f and holds y; every other link is as in d. -/
structure FlitSent (d : Dev) (l : LinkId) (e : Dev) (y : Link) (f : RawFlit) : Prop where
  relinked : Relinked d l e y
  sent : .flit l f ∈ e.out

theorem FlitSent.modLink {f : RawFlit} (h : FlitSent d l e y f) (g : Link → Link) : FlitSent d l (e.modLink l g) (g y) f :=
  ⟨h.relinked.modLink g, h.sent⟩

theorem Dev.ownBuf_congr (h : e.regs.cfg = d.regs.cfg) (l : LinkId) (v : Nat) : e.ownBuf l v = d.ownBuf l v := by
  simp only [Dev.ownBuf, Dev.split_congr h]

theorem Relinked.sendFlit {s : State} (h : Relinked s.dev l e y) (hcfg : e.regs.cfg = s.dev.regs.cfg) (hdr : Word)
    (slots : List RawSlot) :
    FlitSent s.dev l (e.sendFlit l hdr slots) (sentFlit s l y hdr slots) (outFlit s l y hdr slots) := by
  have hsend : e.sendFlit l hdr slots =
      ((e.setLink l
        { y with
          reported := (y.reported + 1) % 7
          adv := minsert y.adv ((y.reported + 1) % 7) (bits (outFlit s l y hdr slots).link 4 12) }).emit
        (.flit l (outFlit s l y hdr slots))).intoCodeword l (outFlit s l y hdr slots) := by
    unfold Dev.sendFlit
    dsimp only
    rw [h.link, Dev.ownBuf_congr hcfg]
    rfl
  rw [hsend]
  exact ⟨((h.setLink _).emit _).intoCodeword _, mem_out_intoCodeword (List.mem_append_right _ (List.mem_singleton_self _)) _⟩

theorem Relinked.sendNull {s : State} (h : Relinked s.dev l e y) (hcfg : e.regs.cfg = s.dev.regs.cfg) :
    FlitSent s.dev l (e.sendNull l) (sentFlit s l y 0 []) (outFlit s l y 0 []) := h.sendFlit hcfg 0 []

/-- HELLO goes out as sent with SEEN when a HELLO was received (R342). -/
theorem Relinked.sendHello {s : State} (h : Relinked s.dev l s.dev y) (hunseen : y.helloSeen = false) :
    ∃ z, FlitSent s.dev l (s.dev.sendHello l) z (outFlit s l y (flitHdr 2 0 0) (s.dev.helloSlots l)) ∧ z.st = y.st ∧
      z.helloSent = false ∧ z.cw = (sentFlit s l y (flitHdr 2 0 0) (s.dev.helloSlots l)).cw := by
  unfold Dev.sendHello
  refine ⟨_, (h.sendFlit rfl (flitHdr 2 0 0) (s.dev.helloSlots l)).modLink _, ?_, ?_, ?_⟩
  · rfl
  · exact hunseen
  · rfl

/-! ### Packets (R331) -/

theorem packTx_single {x : Link} {may : FPacket → Bool} {q : PortPkt} {sent : Map (BitVec 12)} {room : Nat}
    (hmay : may q.pkt = true) (hroom : slotsOf q.pkt ≤ room)
    (hcredit : slotsOf q.pkt ≤ (mget 0 x.lim q.pkt.mc.toNat - mget 0 sent q.pkt.mc.toNat).toNat) :
    packTx x may room [] sent [q] =
      ([q.pkt], [], mset 0 sent q.pkt.mc.toNat (mget 0 sent q.pkt.mc.toNat + BitVec.ofNat 12 (slotsOf q.pkt))) := by
  simp only [packTx, hmay, hroom, hcredit, List.contains_nil, Bool.not_false, decide_true, Bool.and_self, if_true]

theorem newFlit_idle (htx : (d.link l).tx = []) : d.newFlit l = d.sendNull l := by
  simp [Dev.newFlit, htx, packTx]

theorem newFlit_packet {q : PortPkt} (htx : (d.link l).tx = [q]) (hheld : d.fbn.nodeHeld = true) (hfits : slotsOf q.pkt ≤ 4)
    (hcredit : slotsOf q.pkt ≤ (d.link l).credit q.pkt.mc.toNat) (hroom : (d.link l).retry.length < d.retryRoom l) :
    let x := d.link l
    let v := q.pkt.mc.toNat
    let slots := packetSlots q.pkt
    d.newFlit l =
      (d.setLink l
        { x with
          tx := [], sentCr := mset 0 x.sentCr v (mget 0 x.sentCr v + BitVec.ofNat 12 (slotsOf q.pkt)), txSeq := x.txSeq + 1
          retry := x.retry ++ [{ seq := x.txSeq, slots := slots, at_ := d.clock.run }] }).sendFlit l
        (flitHdr 1 x.txSeq (BitVec.ofNat 4 (2 ^ slots.length - 1))) slots := by
  have hpack := packTx_single (x := d.link l) (may := d.maySend) (sent := (d.link l).sentCr) (by simp [Dev.maySend, hheld]) hfits
    hcredit
  unfold Dev.newFlit
  dsimp only
  rw [htx, hpack]
  simp [Nat.not_le.mpr hroom]

/-! ### FLIT_TRANSMIT, state by state (R340) -/

theorem flitTransmit_detect (hst : (d.link l).st = .detect) : flitTransmit l d = d.sendFrames l := by simp [flitTransmit, hst]

theorem flitTransmit_unready (hst : (d.link l).st = .eq) (hdone : d.eqDone l = false) :
    flitTransmit l d = (d.sendFrames l).modLink l fun y => { y with eqFrames := 0 } := by
  simp [flitTransmit, hst, hdone]

theorem flitTransmit_ready (hst : (d.link l).st = .eq) (hdone : d.eqDone l = true) :
    flitTransmit l d =
      if 64 ≤ (d.link l).eqFrames + 1 then
        ((d.sendFrames l).modLink l fun y => { y with eqFrames := y.eqFrames + 1 }).enterLock l
      else (d.sendFrames l).modLink l fun y => { y with eqFrames := y.eqFrames + 1 } := by
  simp [flitTransmit, hst, hdone, eqExtra]

theorem flitTransmit_lock (hst : (d.link l).st = .lock) : flitTransmit l d = d.sendNull l := by simp [flitTransmit, hst]

theorem flitTransmit_hello (hst : (d.link l).st = .hello) : flitTransmit l d = (d.sendHello l).tryActive l := by
  simp [flitTransmit, hst]

theorem flitTransmit_retrain (hst : (d.link l).st = .retrain) (hdue : (d.link l).retrainDue ≠ 0) :
    flitTransmit l d = (d.sendCtrl l (d.retrainSlots l)).modLink l fun y => { y with retrainDue := y.retrainDue - 1 } := by
  simp [flitTransmit, hst, hdue]

theorem flitTransmit_active (hst : (d.link l).st = .active) (hreplay : (d.link l).replay = []) :
    flitTransmit l d = d.newFlit l := by
  simp [flitTransmit, hst, hreplay]

end

end Sys2Proof.Machine
end

section
/-! The flits that a link receives: good ones and bad ones, and what is replayed (R326 to R337). -/

namespace Sys2Proof.Machine

open Sys2Proof.Claims

section
variable {d e : Dev} {l : LinkId} {y : Link}

/-! ### The codeword that a flit comes in (R326) -/

theorem Relinked.countSyms (h : Relinked d l e y) (syms : List Nat) : Relinked d l (e.countSyms l syms) y := by
  refine Relinked.foldl (fun e lane he => ?_) _ h
  dsimp only
  split
  · exact he
  · exact he.quiet rfl rfl

/-- The device once the decoder's outcome, for the first flit of a codeword, has counted. -/
def Dev.decoded (d : Dev) (l : LinkId) (cw : Option CwOutcome) : Dev :=
  match cw with
  | some c => d.codeword l c
  | none => d

theorem Relinked.clean (h : Relinked d l e y) : Relinked d l (e.decoded l (some .clean)) { y with rxBad := false } :=
  h.modLink fun x => { x with rxBad := false }

theorem Relinked.corrected (h : Relinked d l e y) (syms : List Nat) :
    Relinked d l (e.decoded l (some (.corrected syms))) { y with rxBad := false, fecc := min 0xFFFFFFFF (y.fecc + 1) } :=
  (h.modLink _).countSyms syms

theorem Relinked.uncorrectable (h : Relinked d l e y) :
    Relinked d l (e.decoded l (some .uncorrectable)) { y with rxBad := true, fecu := min 0xFFFFFFFF (y.fecu + 1) } :=
  (h.modLink _).fault ..

/-! ### Good flits and bad ones (R326, R330, R335) -/

/-- A link that takes flits. -/
def Link.takes (x : Link) : Prop := x.st = .lock ∨ x.st = .hello ∨ x.st = .active

theorem Link.takes_iff {x : Link} : x.takes ↔ (x.talks || x.st = .lock) = true := by
  simp only [Link.takes, Link.talks, Bool.or_eq_true, decide_eq_true_eq]
  tauto

theorem flitReceive_bad {cw : Option CwOutcome} {f : RawFlit} (htakes : (d.link l).takes)
    (hbad : ((d.decoded l cw).link l).rxBad = true ∨ f.crc ≠ flitCrc f) :
    flitReceive l cw f d = (d.decoded l cw).modLink l fun x => { x with nak := true } := by
  unfold flitReceive
  rw [Link.takes_iff.mp htakes]
  have hbad' : (((d.decoded l cw).link l).rxBad || decide (f.crc ≠ flitCrc f)) = true := by simpa using hbad
  exact if_pos hbad'

theorem acked_of_acked (h : (d.link l).retry = []) (a : BitVec 12) : d.acked l a = d := by simp [Dev.acked, h]

/-- A link word without a limit or a NAK tells nothing to a link whose flits are all acknowledged. -/
theorem takeLinkWord_silent {lw : Reg} (hlim : nbits lw 16 3 = 7) (hnak : bit lw 19 = false) (hretry : (d.link l).retry = []) :
    d.takeLinkWord l lw = d := by
  simp [Dev.takeLinkWord, hlim, hnak, acked_of_acked hretry]

theorem flitReceive_data {f : RawFlit} {ps : List FPacket} (htakes : (d.link l).takes) (hgood : (d.link l).rxBad = false)
    (hcrc : f.crc = flitCrc f) (hcheck : flitCheck f = some ps) (hdata : nbits f.hdr 60 4 = 1)
    (hword : d.takeLinkWord l f.link = d) :
    flitReceive l none f d = d.takeData l (bits f.hdr 48 12) ps := by
  have htalks := Link.takes_iff.mp htakes
  unfold flitReceive
  dsimp only
  rw [htalks, if_neg (by decide), if_neg (by simp [hgood, hcrc]), hcheck]
  dsimp only
  rw [hword, if_neg (by omega), hdata, htalks]
  rfl

theorem proxyCount_of_endpoint (h : d.isProxy l = false) (received : Bool) (ps : List FPacket) :
    d.proxyCount l received ps = d := by
  simp [Dev.proxyCount, h]

/-- A link that has taken the packets of the flit that it expected. -/
def Link.received (x : Link) (now : Nat) (ps : List FPacket) : Link :=
  { x with
    exp := x.exp + 1, ackSeq := x.exp, nak := false, got := addGot x.got ps
    rx := x.rx ++ ps.map fun p => { pkt := p, since := now, counted := true } }

theorem takeData_expected {ps : List FPacket} (hplain : d.isProxy l = false)
    (hcredit : ∀ v < 7, slotsIn v ps ≤ (mget 0 (d.link l).adv v - mget 0 (d.link l).got v).toNat) :
    d.takeData l (d.link l).exp ps = d.setLink l ((d.link l).received d.clock.aon ps) := by
  have hfits : ((List.range 7).any fun v => (d.link l).allowed v < slotsIn v ps) = false :=
    List.any_eq_false.mpr fun v hv => by
      rw [decide_eq_true_iff]
      exact Nat.not_lt.mpr (hcredit v (List.mem_range.mp hv))
  unfold Dev.takeData
  dsimp only
  rw [if_pos rfl, hfits]
  exact proxyCount_of_endpoint (d := d.setLink l _) hplain true ps

/-! ### Slots received, by channel (R332) -/

theorem slotsIn_foldl (v : Nat) : ∀ (ps : List FPacket) (n : Nat),
    ps.foldl (fun n p => if p.mc.toNat = v then n + slotsOf p else n) n = n + slotsIn v ps
  | [], n => rfl
  | p :: ps, n => by
    rw [slotsIn, List.foldl_cons, List.foldl_cons, slotsIn_foldl v ps, slotsIn_foldl v ps]
    split <;> omega

theorem slotsIn_cons (v : Nat) (p : FPacket) (ps : List FPacket) :
    slotsIn v (p :: ps) = (if p.mc.toNat = v then slotsOf p else 0) + slotsIn v ps := by
  rw [slotsIn, List.foldl_cons, slotsIn_foldl, Nat.zero_add]

theorem mget_addGot (v : Nat) : ∀ (ps : List FPacket) (m : Map (BitVec 12)),
    mget 0 (addGot m ps) v = mget 0 m v + BitVec.ofNat 12 (slotsIn v ps)
  | [], m => (BitVec.add_zero _).symm
  | p :: ps, m => by
    rw [addGot, List.foldl_cons, ← addGot, mget_addGot v ps, mget_mset, slotsIn_cons]
    by_cases hv : v = p.mc.toNat
    · rw [if_pos hv, if_pos hv.symm, BitVec.ofNat_add, hv, BitVec.add_assoc]
    · rw [if_neg hv, if_neg (Ne.symm hv), Nat.zero_add]

/-! ### Replay (R336, R337) -/

theorem replayTimeout_due {q : Sent} {rest : List Sent} (hst : (d.link l).st = .active) (hretry : (d.link l).retry = q :: rest)
    (hreplay : (d.link l).replay = []) (hdue : q.at_ + 100 * d.fld (rFbpRetry (linkPort l).toNat) 0 16 ≤ d.clock.run) :
    replayTimeout l d = d.startReplay l (d.link l).lastNak := by
  simp [replayTimeout, hst, hretry, hreplay, hdue]

theorem startReplay_replays (h : (d.link l).replays < d.fld (rFbpRetry (linkPort l).toNat) 16 8) (nak : Option (BitVec 12)) :
    d.startReplay l nak =
      (d.setLink l { d.link l with replays := (d.link l).replays + 1, lastNak := nak }).countReplay l :=
  if_neg (Nat.not_le.mpr h)

theorem startReplay_retrains (h : d.fld (rFbpRetry (linkPort l).toNat) 16 8 ≤ (d.link l).replays) (nak : Option (BitVec 12)) :
    d.startReplay l nak = d.enterRetrain l := if_pos h

end

end Sys2Proof.Machine
end

section
/-! Flits out and in, their replay, and where the training commands lead (R323 to R337, R340): settles
FlitsAreCheckedAcknowledgedAndReplayed. -/

namespace Sys2Proof.Machine

open Sys2Proof.Claims

/-! ### A command as its effect on the device -/

theorem exec_keeps_hbm_pending {s : State} {c : Instr} {f : Dev → Dev} (hexec : exec c s = onDies f s) :
    ∃ t, exec c s = .next t ∧ t.hbm = s.hbm ∧ t.pending = s.pending := ⟨_, hexec, rfl, rfl⟩

theorem exec_idle {s : State} {c : Instr} {f : Dev → Dev} (hdies : s.dev.diesStop = false) (hexec : exec c s = onDies f s)
    (hf : f s.dev = s.dev) : exec c s = .next s := hexec.trans (onDies_next hdies hf)

section
variable {d e : Dev} {l : LinkId} {y : Link}

/-- FLIT_TRANSMIT that sends a flit. -/
theorem flitTransmit_sends {s : State} {f : RawFlit} (hdies : s.dev.diesStop = false) (hf : flitTransmit l s.dev = e)
    (h : FlitSent s.dev l e y f) :
    ∃ t, exec (.flitTransmit l) s = .next t ∧ t.hbm = s.hbm ∧ t.pending = s.pending ∧ t.dev.link l = y ∧
      (∀ m, m ≠ l → t.dev.link m = s.dev.link m) ∧ .flit l f ∈ t.dev.out :=
  ⟨{ s with dev := e }, onDies_next (f := flitTransmit l) hdies hf, rfl, rfl, h.relinked.link, h.relinked.others, h.sent⟩

/-! ### A link that does not train -/

theorem detectTimeout_idle (h : (d.link l).st ≠ .detect) : detectTimeout l d = d := by
  unfold detectTimeout
  dsimp only
  split
  · exact if_neg (by simp [h])
  · rfl

theorem eqTimeout_idle (h : (d.link l).st ≠ .eq) : eqTimeout l d = d := if_neg (by simp [h])

theorem lockTimeout_idle (h : (d.link l).st ≠ .lock) : lockTimeout l d = d := if_neg (by simp [h])

theorem laneLock_idle (h : (d.link l).trains = false) (lane : BitVec 3) : laneLock l lane d = d := if_neg (by simp [h])

theorem trainingFrame_idle (h : (d.link l).trains = false) (lane : BitVec 3) (inv : Bool) (raw : Word) (rx : RxAdapt) :
    trainingFrame l lane inv raw rx d = d := if_pos (by simp [h])

theorem codewordLock_idle (h : (d.link l).st ≠ .lock) (syms : List Nat) (skew : Nat) : codewordLock l syms skew d = d :=
  if_neg (by simp [h])

/-! ### Fields after a change of state -/

theorem enterActive_link (d : Dev) (l : LinkId) :
    ((d.enterActive l).link l).st = .active ∧ ((d.enterActive l).link l).peerVermap = (d.link l).peerVermap := by
  unfold Dev.enterActive
  dsimp only
  split
  · rw [((Relinked.refl d l).setLink _).countReplay.link]
    exact ⟨rfl, rfl⟩
  · rw [link_setLink_self]
    exact ⟨rfl, rfl⟩

theorem tryActive_peerVermap (d : Dev) (l : LinkId) : ((d.tryActive l).link l).peerVermap = (d.link l).peerVermap := by
  unfold Dev.tryActive
  dsimp only
  split
  · exact (enterActive_link d l).2
  · rfl

theorem linkTo_st (d : Dev) (l : LinkId) (st : LinkState) : ((d.linkTo l st).link l).st = st := by
  rw [Dev.linkTo, link_modLink_self]
  rfl

end

/-- Settles O42: each clause is one branch of its command; every flit sent goes through the one lemma of its link word and of its
place in the codeword, `Relinked.sendFlit`. The channels reported in turn are log 56, the place of the alignment codeword log 79. -/
theorem flitsAreCheckedAcknowledgedAndReplayed : Obligations.FlitsAreCheckedAcknowledgedAndReplayed := by
  intro s l hdies x now sends retrain
  have hself : Relinked s.dev l s.dev x := .refl ..
  refine ⟨?detect, ?unready, ?ready, ?lock, ?hello, ?retrain, ?idle, ?packet, ?bad, ?data, ?replay, ?silent, ?lockTimeout,
    ?eqTimeout, ?detectTimeout, ?laneLock, ?frame, ?codewordLock, ?codewordLoss, ?laneFail, ?retrainMsg, ?helloMsg, ?down⟩
  case detect =>
    intro hst
    exact linkBecomes_of_relinked hdies rfl (flitTransmit_detect hst) hself.sendFrames
  case unready =>
    intro hst hdone
    exact linkBecomes_of_relinked hdies rfl (flitTransmit_unready hst hdone) (hself.sendFrames.modLink _)
  case ready =>
    intro hst hdone
    have hready := flitTransmit_ready hst hdone
    have hcounts := hself.sendFrames.modLink fun y => { y with eqFrames := y.eqFrames + 1 }
    exact ⟨fun hfew => linkBecomes_of_relinked hdies rfl (hready.trans (if_neg (Nat.not_le.mpr hfew))) hcounts,
      fun hall => linkBecomes_of_relinked hdies rfl (hready.trans (if_pos hall)) hcounts.enterLock⟩
  case lock =>
    intro hst
    exact flitTransmit_sends hdies (flitTransmit_lock hst) (hself.sendNull rfl)
  case hello =>
    intro hst hunseen
    obtain ⟨y, hsent, hyst, hyunsent, hycw⟩ := hself.sendHello hunseen
    have hwaits : (s.dev.sendHello l).tryActive l = s.dev.sendHello l := tryActive_unsent (by rwa [hsent.relinked.link])
    exact ⟨y, flitTransmit_sends hdies ((flitTransmit_hello hst).trans hwaits) hsent, hyst.trans hst, hyunsent, hycw⟩
  case retrain =>
    intro hst hdue y
    exact flitTransmit_sends hdies (flitTransmit_retrain hst hdue) ((hself.sendFlit rfl _ _).modLink _)
  case idle =>
    intro hst hreplay htx
    exact flitTransmit_sends hdies ((flitTransmit_active hst hreplay).trans (newFlit_idle htx)) (hself.sendNull rfl)
  case packet =>
    intro q hst hreplay htx hheld hfits hcredit hroom slots hdr
    refine ⟨mset 0 x.sentCr q.pkt.mc.toNat (mget 0 x.sentCr q.pkt.mc.toNat + BitVec.ofNat 12 (slotsOf q.pkt)),
      fun v => ?_, ?_⟩
    · rw [mget_mset]
      by_cases hv : v = q.pkt.mc.toNat
      · rw [if_pos hv, if_pos hv, hv]
      · rw [if_neg hv, if_neg hv]
        exact (BitVec.add_zero _).symm
    · exact flitTransmit_sends hdies ((flitTransmit_active hst hreplay).trans (newFlit_packet htx hheld hfits hcredit hroom))
        ((hself.setLink _).sendFlit rfl hdr slots)
  case bad =>
    intro f htakes
    refine ⟨fun hbad => ?_, fun hcrc => ?_, fun syms hcrc => ?_, ?_⟩
    · exact linkBecomes_of_relinked hdies rfl (flitReceive_bad (cw := none) htakes hbad) (hself.modLink _)
    · exact linkBecomes_of_relinked hdies rfl (flitReceive_bad htakes (.inr hcrc)) (hself.clean.modLink _)
    · exact linkBecomes_of_relinked hdies rfl (flitReceive_bad htakes (.inr hcrc)) ((hself.corrected syms).modLink _)
    · have hbad : ((s.dev.decoded l (some .uncorrectable)).link l).rxBad = true := by rw [hself.uncorrectable.link]
      exact linkBecomes_of_relinked hdies rfl (flitReceive_bad htakes (.inl hbad)) (hself.uncorrectable.modLink _)
  case data =>
    intro f ps htakes hgood hcrc hcheck hdata hlim hnak hretry hseq hplain hcredit
    have hreceives := flitReceive_data htakes hgood hcrc hcheck hdata (takeLinkWord_silent hlim hnak hretry)
    rw [hseq] at hreceives ⊢
    exact ⟨addGot x.got ps, fun v => mget_addGot v ps x.got,
      linkBecomes_of_relinked hdies rfl (hreceives.trans (takeData_expected hplain hcredit)) (hself.setLink _)⟩
  case replay =>
    intro q rest hst hretry hreplay hdue limit
    have htimes := replayTimeout_due hst hretry hreplay hdue
    refine ⟨fun hfew => ?_, fun hmany => ?_⟩
    · exact linkBecomes_of_relinked hdies rfl (htimes.trans (startReplay_replays hfew _)) (hself.setLink _).countReplay
    · exact linkBecomes_of_relinked hdies rfl (htimes.trans (startReplay_retrains hmany _)) hself.enterRetrain
  case silent =>
    intro c hc hst
    have hne {st : LinkState} (hdisabled : st ≠ .disabled) (hisolated : st ≠ .isolated) : x.st ≠ st := by
      rintro rfl
      exact hst.elim hdisabled hisolated
    have hlock : x.st ≠ .lock := hne (by decide) (by decide)
    have htrains : x.trains = false := by
      rw [Bool.eq_false_iff, ne_eq, Link.trains_iff]
      rintro (h | h | h) <;> exact hne (by decide) (by decide) h
    simp only [List.mem_cons, List.not_mem_nil, or_false] at hc
    obtain rfl | rfl | rfl | rfl | rfl | rfl := hc
    · exact exec_idle hdies rfl (detectTimeout_idle (hne (by decide) (by decide)))
    · exact exec_idle hdies rfl (eqTimeout_idle (hne (by decide) (by decide)))
    · exact exec_idle hdies rfl (lockTimeout_idle hlock)
    · exact exec_idle hdies rfl (laneLock_idle htrains 0)
    · exact exec_idle hdies rfl (trainingFrame_idle htrains 0 false 0 .hold)
    · exact exec_idle hdies rfl (codewordLock_idle hlock [] 0)
  case lockTimeout =>
    intro hst hdue
    have hequalizes := hself.enterEq x.rate.toNat x.width.toNat (s.dev.lanesUsed l)
    refine ⟨_, onDies_next (f := lockTimeout l) hdies (lockTimeout_equalizes hst hdue), ?_, ?_⟩
    · exact congrArg Link.st hequalizes.link
    · exact (congrArg Link.rate hequalizes.link).trans ((BitVec.ofNat_toNat ..).trans (BitVec.setWidth_eq _))
  case eqTimeout =>
    intro _ _
    exact exec_keeps_hbm_pending (f := eqTimeout l) rfl
  case detectTimeout =>
    intro _ _ _ _ _
    exact exec_keeps_hbm_pending (f := detectTimeout l) rfl
  case laneLock =>
    intro lane _ _
    exact ⟨_, rfl⟩
  case frame =>
    intro lane inv raw rx _ _
    exact ⟨_, rfl, rfl⟩
  case codewordLock =>
    intro syms skew hst hskew hsyms
    refine ⟨_, onDies_next (f := codewordLock l syms skew) hdies (codewordLock_locks hst hskew hsyms), ?_⟩
    dsimp only
    split
    · exact (enterActive_link s.dev l).1
    · rw [link_setLink_self]
  case codewordLoss =>
    intro hst
    exact ⟨_, onDies_next (f := codewordLoss l) hdies (codewordLoss_retrains hst), congrArg Link.st hself.enterRetrain.link⟩
  case laneFail =>
    intro lane _ _
    exact exec_keeps_hbm_pending (f := laneFail l lane true) rfl
  case retrainMsg =>
    intro m _
    exact exec_keeps_hbm_pending (f := retrainMsg l m) rfl
  case helloMsg =>
    intro m hst hver
    refine ⟨_, onDies_next (f := helloMsg l m) hdies (helloMsg_greets hst hver), ?_⟩
    exact (tryActive_peerVermap ..).trans (congrArg Link.peerVermap (link_setLink_self ..))
  case down =>
    intro hst
    exact ⟨_, onDies_next (f := downMsg l) hdies (downMsg_ends hst), linkTo_st ..⟩

end Sys2Proof.Machine
end

section
/-! The routing of a received packet (R348, R354, R356, R360, R376): settles PacketsAreRoutedByTheirNode. -/

namespace Sys2Proof.Machine

open Sys2Proof.Claims

section
variable {d : Dev} {l : LinkId} {i : Nat} {q : PortPkt}

/-! ### A packet leaves the receive buffer (R332) -/

theorem takeRx_at (hat : (d.link l).rx[i]? = some q) : d.takeRx l i = some (q.pkt, unqueued d l i q) := by
  simp only [Dev.takeRx, takeAt_eq_of_getElem? hat]
  rfl

/-- A link that lost a packet of its receive buffer carries packets as before. -/
@[simp] theorem up_link_unqueued (d : Dev) (l m : LinkId) (i : Nat) (q : PortPkt) :
    ((unqueued d l i q).link m).up = (d.link m).up := by
  by_cases hm : m = l
  · subst hm
    rw [unqueued, link_setLink_self]
    rfl
  · rw [unqueued, link_setLink_ne d _ hm]

theorem packetRoute_routes {e : Dev} (hat : (d.link l).rx[i]? = some q) (htype : q.pkt.ptype ≠ ptIdAssign)
    (hroute : (unqueued d l i q).routePacket l q.pkt = some e) : packetRoute l i d = e := by
  simp [packetRoute, takeRx_at hat, htype, hroute]

end

section
variable {d : Dev} {l : LinkId} {p : FPacket}

/-! ### Where a packet goes (R356) -/

section
variable {n : BitVec 16} {epoch : Bool} {on : Option LinkId} {e : BitVec 16}

theorem routeNode_here (hnode : n = d.fbn.nodeId) : d.routeNode n epoch on = .deliver := if_pos hnode

theorem routeNode_isolated (hnode : n ≠ d.fbn.nodeId) (hiso : d.fbn.isolated.contains n.toNat = true) :
    d.routeNode n epoch on = .absorb stIsolated false := by
  rw [Dev.routeNode, if_neg hnode, if_pos hiso]

section
variable (hnode : n ≠ d.fbn.nodeId) (hlive : d.fbn.isolated.contains n.toNat = false)
  (hentry : mget 0 d.fbn.rt (b2n epoch * 65536 + n.toNat) = e)
include hnode hlive hentry

/-- No valid entry, or one that names the link of arrival. -/
theorem routeNode_noroute (hbad : bit e 15 = false ∨ on = some (bits e 0 6) ∨ (bit e 14 = true ∧ on = some (bits e 8 6))) :
    d.routeNode n epoch on = .absorb stNotFound true := by
  simp only [Dev.routeNode, if_neg hnode, hlive, Bool.false_eq_true, if_false, hentry]
  rw [if_pos (by simpa [or_assoc] using hbad)]

section
variable (hvalid : bit e 15 = true) (hpri : on ≠ some (bits e 0 6)) (halt : bit e 14 = false ∨ on ≠ some (bits e 8 6))
include hvalid hpri halt

/-- A valid entry that leads on is followed over PRI, else over ALT, else nowhere. -/
theorem routeNode_leads :
    d.routeNode n epoch on =
      if (d.link (bits e 0 6)).up then .send (bits e 0 6)
      else if bit e 14 && (d.link (bits e 8 6)).up then .send (bits e 8 6)
      else .absorb stIsolated false := by
  have hleads : ¬(!bit e 15 || on = some (bits e 0 6) || (bit e 14 && on = some (bits e 8 6))) = true := by
    rcases halt with halt | halt <;> simp [hvalid, hpri, halt]
  simp only [Dev.routeNode, if_neg hnode, hlive, Bool.false_eq_true, if_false, hentry]
  rw [if_neg hleads]

theorem routeNode_pri (hup : (d.link (bits e 0 6)).up = true) : d.routeNode n epoch on = .send (bits e 0 6) := by
  rw [routeNode_leads hnode hlive hentry hvalid hpri halt, if_pos hup]

theorem routeNode_alt (hdown : (d.link (bits e 0 6)).up = false) (hav : bit e 14 = true)
    (hup : (d.link (bits e 8 6)).up = true) : d.routeNode n epoch on = .send (bits e 8 6) := by
  rw [routeNode_leads hnode hlive hentry hvalid hpri halt, hdown, hav, hup]
  rfl

theorem routeNode_down (hdown : (d.link (bits e 0 6)).up = false)
    (hnone : bit e 14 = false ∨ (d.link (bits e 8 6)).up = false) : d.routeNode n epoch on = .absorb stIsolated false := by
  rw [routeNode_leads hnode hlive hentry hvalid hpri halt, hdown]
  rcases hnone with h | h <;> simp [h]

end

end

end

/-! ### Into the crossing behind the port (R304) -/

theorem sendFromPort_enters {port : BitVec 4} {x : Pkt} {tgt : BitVec 7} (hway : d.way x = .target tgt)
    (hroom : (d.crossing (portCross port)).length < 64) :
    d.sendFromPort port x =
      some (d.setCrossing (portCross port) (d.crossing (portCross port) ++ [portFlit d port tgt (d.pktEpoch x) x])) := by
  simp only [Dev.sendFromPort, hway]
  exact if_neg (Nat.not_le.mpr hroom)

/-- A token for this node is routed by its own words, as its packet was. -/
theorem way_token {t : Token} {from_ : Sender} {n : Nat} (hnode : t.node = d.fbn.nodeId) :
    d.way (.tok t from_ n) = .target (tgtCluster (cellCluster t.cell)) := if_pos hnode

theorem way_fob {m : LinkId} (h : d.routeNode p.node p.epoch none = .send m) :
    d.way (.fob p) = .target (tgtPort (linkPort m)) := by
  rw [Dev.way, h]
  rfl

/-! ### What becomes of a packet (R348, R356, R360, R376) -/

theorem routePacket_unnamed (h : d.fbn.nodeHeld = false) : d.routePacket l p = some d := by simp [Dev.routePacket, h]

section
variable (hheld : d.fbn.nodeHeld = true)
include hheld

theorem routePacket_lost (hiso : d.fromIsolated p = true) : d.routePacket l p = some (d.loseFob p) := by
  simp [Dev.routePacket, hheld, hiso]

section
variable (hfrom : d.fromIsolated p = false)
include hfrom

theorem routePacket_here (hnode : p.node = d.fbn.nodeId) : d.routePacket l p = d.deliverFob (linkPort l) p := by
  simp [Dev.routePacket, hheld, hfrom, routeNode_here hnode]

theorem routePacket_on {m : LinkId} (hway : d.routeNode p.node p.epoch (some l) = .send m) :
    d.routePacket l p = d.sendFromPort (linkPort l) (.fob p) := by
  simp [Dev.routePacket, hheld, hfrom, hway]

theorem routePacket_absorbed {st : Byte} {noroute : Bool} (hway : d.routeNode p.node p.epoch (some l) = .absorb st noroute)
    (hreq : p.isRequest = true) :
    d.routePacket l p =
      some ((if noroute then d.norouteFault else d).sendFob ((if noroute then d.norouteFault else d).absorbedResp p st)) := by
  simp [Dev.routePacket, hheld, hfrom, hway, hreq]

end

end

/-- The answer to an absorbed request names the bank in force, which a fault leaves. -/
theorem absorbedResp_norouteFault (d : Dev) (p : FPacket) (st : Byte) :
    d.norouteFault.absorbedResp p st = d.absorbedResp p st := by
  simp only [Dev.absorbedResp, Dev.respFrom, Dev.norouteFault, (fault_frame ..).fab]

theorem deliverFob_bad {port : BitVec 4} (hbad : fobOk p = false) : d.deliverFob port p = some (d.badPacket p) := by
  simp [Dev.deliverFob, hbad]

theorem deliverFob_token {port : BitVec 4} (hok : fobOk p = true) (htok : p.ptype = ptToken ∨ p.ptype = ptLockGrant) :
    d.deliverFob port p = d.sendFromPort port (.tok p.token (.node p.pspec) 0) := by
  rw [Dev.deliverFob, hok, if_neg (by decide), if_pos (by simpa using htok)]

theorem deliverFob_waits {port : BitVec 4} (hok : fobOk p = true) (htok : p.ptype ≠ ptToken) (hgrant : p.ptype ≠ ptLockGrant) :
    d.deliverFob port p = some { d with fbn := { d.fbn with delivered := d.fbn.delivered ++ [p] } } := by
  rw [Dev.deliverFob, hok, if_neg (by decide), if_neg (by simp [htok, hgrant])]

end

/-- A token's packet is routed by the node that the token names (R354). -/
theorem node_token {p : FPacket} (h : p.ptype = ptToken ∨ p.ptype = ptLockGrant) : p.node = p.token.node :=
  if_pos (by simpa using h)

/-- Settles O43: each clause is one way through R356, which looks at no receive buffer. That a node without an ID drops what it
receives is log 37. -/
theorem packetsAreRoutedByTheirNode : Obligations.PacketsAreRoutedByTheirNode := by
  intro s l i q hdies hat htype p port ends enters
  let d := unqueued s.dev l i q
  have routes {e : Dev} (h : d.routePacket l p = some e) :
      exec (.packetRoute l i) s = .next { s with dev := e } := onDies_next hdies (packetRoute_routes hat htype h)
  have goes {x : Pkt} {tgt : BitVec 7} {epoch : Bool} (hepoch : d.pktEpoch x = epoch)
      (h : d.routePacket l p = d.sendFromPort port x) (hway : d.way x = .target tgt) : enters x tgt epoch := by
    intro hroom
    subst hepoch
    exact routes (h.trans (sendFromPort_enters hway hroom))
  refine ⟨fun hunnamed => routes (routePacket_unnamed hunnamed), fun hheld => ?_⟩
  refine ⟨fun hiso => routes (routePacket_lost (d := d) hheld hiso), ?_⟩
  intro hfrom
  refine ⟨fun hnode => ?here, fun hnode hiso hreq => ?isolated, fun hnode hlive => ?other⟩
  case here =>
    have hhere := routePacket_here (d := d) (l := l) hheld hfrom hnode
    refine ⟨fun hbad => routes (hhere.trans (deliverFob_bad hbad)), fun hok => ⟨fun htok hgrant => ?_, fun htok => ?_⟩⟩
    · exact routes (hhere.trans (deliverFob_waits hok htok hgrant))
    · exact goes rfl (hhere.trans (deliverFob_token hok htok)) (way_token ((node_token htok).symm.trans hnode))
  case isolated =>
    exact routes (routePacket_absorbed (d := d) hheld hfrom (routeNode_isolated hnode hiso) hreq)
  case other =>
    intro e pri alt
    refine ⟨fun hbad hreq => ?_, fun hvalid hpri halt => ⟨fun hup => ?_, fun hdown hav hup => ?_, fun hdown hnone hreq => ?_⟩⟩
    · have hway := routeNode_noroute (d := d) (on := some l) hnode hlive rfl
        (hbad.imp_right (Or.imp (congrArg some ·.symm) (And.imp_right (congrArg some ·.symm))))
      have habsorbed := routePacket_absorbed (d := d) hheld hfrom hway hreq
      simp only [if_true, absorbedResp_norouteFault] at habsorbed
      exact routes habsorbed
    all_goals
      have hpri' : some l ≠ some pri := fun h => hpri (Option.some.inj h).symm
      have halt' : bit e 14 = false ∨ some l ≠ some alt := halt.imp_right fun h h' => h (Option.some.inj h').symm
    · have hup' := (up_link_unqueued s.dev l pri i q).trans hup
      exact goes rfl
        (routePacket_on (d := d) hheld hfrom (routeNode_pri hnode hlive rfl hvalid hpri' halt' hup'))
        (way_fob (routeNode_pri hnode hlive rfl hvalid nofun (.inr nofun) hup'))
    · have hdown' := (up_link_unqueued s.dev l pri i q).trans hdown
      have hup' := (up_link_unqueued s.dev l alt i q).trans hup
      exact goes rfl
        (routePacket_on (d := d) hheld hfrom (routeNode_alt hnode hlive rfl hvalid hpri' halt' hdown' hav hup'))
        (way_fob (routeNode_alt hnode hlive rfl hvalid nofun (.inr nofun) hdown' hav hup'))
    · exact routes (routePacket_absorbed (d := d) hheld hfrom
        (routeNode_down hnode hlive rfl hvalid hpri' halt' ((up_link_unqueued ..).trans hdown)
          (hnone.imp_right (up_link_unqueued ..).trans)) hreq)

end Sys2Proof.Machine
end

section
/-! ID_ASSIGN packets and the board slot (R348, R349, R352): settles IdAssignPacketsFollowTheirHops. -/

namespace Sys2Proof.Machine

open Sys2Proof.Claims

/-! ### The words of a packet whose hop is recorded (R352 step 1) -/

theorem getD_setHop {ws : List Word} (hws : ws ≠ []) (i : Nat) (l : LinkId) {k : Nat} (hk : k = 0 ∨ 7 ≤ k) :
    (setHop ws i l).getD k 0 = ws.getD k 0 := by
  obtain ⟨w, rest, rfl⟩ := List.exists_cons_of_ne_nil hws
  rcases hk with rfl | hk
  · rfl
  · obtain ⟨j, rfl⟩ := Nat.exists_eq_add_of_le hk
    simp only [setHop, hopWords, List.getD_eq_getElem?_getD]
    rw [List.getElem?_append_right (by simp), List.getElem?_drop]
    simp

/-- Recording a hop changes the hop list alone. -/
theorem getD_arrivedOn (l : LinkId) (ws : List Word) {k : Nat} (hk : k = 0 ∨ 7 ≤ k) :
    (arrivedOn l ws).getD k 0 = ws.getD k 0 := by
  unfold arrivedOn
  split
  case isTrue => rfl
  case isFalse hptr =>
    refine getD_setHop (fun hnil => hptr ?_) _ _ hk
    subst hnil
    rfl

@[simp] theorem iwSub_arrivedOn (l : LinkId) (ws : List Word) : iwSub (arrivedOn l ws) = iwSub ws := by
  rw [iwSub, getD_arrivedOn l ws (.inl rfl), iwSub]

@[simp] theorem iwNew_arrivedOn (l : LinkId) (ws : List Word) : iwNew (arrivedOn l ws) = iwNew ws := by
  rw [iwNew, getD_arrivedOn l ws (.inl rfl), iwNew]

section
variable {d e : Dev} {l : LinkId} {p : IdPacket} {q : PortPkt} {rest : List PortPkt}

/-! ### The packet that stands first on its link -/

section
variable (hrx : (d.link l).rx = q :: rest) (htype : q.pkt.ptype = ptIdAssign) (hwords : q.pkt.words = p.words)
  (hformed : idFormed q.pkt = true ∨ idTransit p.words = true) (hfrom : d.fromIsolated q.pkt = false)
include hrx htype hwords hformed hfrom

theorem takeId2_first {sub : Nat} (hsub : iwSub p.words = sub) : d.takeId2 l p sub = some (unqueued d l 0 q, false) := by
  have htakes : (q.pkt.ptype = ptIdAssign && q.pkt.words = p.words && (idTransit p.words || idFormed q.pkt)) = true := by
    simpa [htype, hwords] using hformed.symm
  have hat : (d.link l).rx[0]? = some q := by rw [hrx]; rfl
  unfold Dev.takeId2
  rw [hrx, List.findIdx?_cons, htakes]
  simp [hsub, takeRx_at hat, hfrom]

theorem idRequestOp_first {sub : Nat} (hsub : iwSub p.words = sub) :
    idRequestOp sub l p d = (unqueued d l 0 q).idRequest l p.words := by
  rw [idRequestOp, takeId2_first hrx htype hwords hformed hfrom hsub]
  rfl

theorem idReply_first (hsub : iwSub p.words = 2) :
    idReply l p d = if iwPtr p.words = 0 then (unqueued d l 0 q).rootReply p.words else (unqueued d l 0 q).sendBack p.words := by
  rw [idReply, takeId2_first hrx htype hwords hformed hfrom hsub]
  rfl

end

/-! ### A request goes on, or is answered at its target (R352) -/

theorem idRequest_goes_on {ws : List Word} (hptr : iwPtr (arrivedOn l ws) ≠ iwHops (arrivedOn l ws)) :
    d.idRequest l ws =
      d.sendId (hopAt (arrivedOn l ws) (iwPtr (arrivedOn l ws))) (setPtr (arrivedOn l ws) (iwPtr (arrivedOn l ws) + 1)) :=
  if_neg hptr

theorem idRequest_answers {ws : List Word} {st : Byte} {w : Word} (hptr : iwPtr (arrivedOn l ws) = iwHops (arrivedOn l ws))
    (hdoes : d.idTarget (arrivedOn l ws) = (e, st, w)) :
    d.idRequest l ws =
      (learned e (arrivedOn l ws)).sendBack ((learned e (arrivedOn l ws)).replyWords (arrivedOn l ws) st w) := by
  have hrequest : d.idRequest l ws =
      (learned (d.idTarget (arrivedOn l ws)).1 (arrivedOn l ws)).sendBack
        ((learned (d.idTarget (arrivedOn l ws)).1 (arrivedOn l ws)).replyWords (arrivedOn l ws)
          (d.idTarget (arrivedOn l ws)).2.1 (d.idTarget (arrivedOn l ws)).2.2) := if_pos hptr
  rw [hrequest, hdoes]

theorem idTarget_probe {ws : List Word} (hsub : iwSub ws = 0) : d.idTarget ws = (d, stOk, 0) := by simp [Dev.idTarget, hsub]

theorem idTarget_set {ws : List Word} {st : Byte} (hsub : iwSub ws = 1) (hid : d.takeId (iwNew ws) = (e, st)) :
    d.idTarget ws = (e, st, 0) := by
  simp [Dev.idTarget, hsub, hid]

theorem idTarget_status {ws : List Word} (hsub : iwSub ws = 3) (hcmd : nbits (ws.getD 9 0) 60 4 = 2) :
    d.idTarget ws = (d, stOk, d.routeStatus) := by
  simp only [Dev.idTarget, hsub, hcmd, Dev.routeOp]

/-! ### An ID is taken once (R348) -/

theorem takeId_held {n : BitVec 16} (hheld : d.fbn.nodeHeld = true) : d.takeId n = (d, stLocked) := if_pos hheld

theorem takeId_busy {n : BitVec 16} (hheld : d.fbn.nodeHeld = false) (hgraphs : d.graphs ≠ []) : d.takeId n = (d, stBusy) := by
  simp [Dev.takeId, hheld, hgraphs]

theorem takeId_takes {n : BitVec 16} (hheld : d.fbn.nodeHeld = false) (hgraphs : d.graphs = []) :
    d.takeId n = ({ d with fbn := { d.fbn with nodeId := n, nodeHeld := true } }, stOk) := by
  simp [Dev.takeId, hheld, hgraphs]

/-! ### The board slot (R349) -/

theorem pulsesIn_eq_zero_iff {highs : List Nat} : pulsesIn highs = 0 ↔ ∀ w ∈ highs, 700 < w := by
  simp [pulsesIn]

theorem enumFrame_wait {highs : List Nat} (hunknown : d.fbn.slotKnown = false) (hne : highs ≠ []) (hwait : pulsesIn highs = 0) :
    enumFrame highs d = { d with fbn := { d.fbn with enumHigh := true } } := by
  simp [enumFrame, hunknown, hne, hwait]

theorem enumFrame_first {highs : List Nat} (hunknown : d.fbn.slotKnown = false) (hpulses : pulsesIn highs ≠ 0)
    (hlast : d.fbn.enumLast ≠ some (pulsesIn highs)) :
    enumFrame highs d = { d with fbn := { d.fbn with enumHigh := true, enumLast := some (pulsesIn highs) } } := by
  have hne : highs ≠ [] := by rintro rfl; exact hpulses rfl
  simp [enumFrame, hunknown, hne, hpulses, hlast]

theorem enumFrame_agrees {highs : List Nat} (hunknown : d.fbn.slotKnown = false) (hpulses : pulsesIn highs ≠ 0)
    (hlast : d.fbn.enumLast = some (pulsesIn highs)) :
    enumFrame highs d =
      if pulsesIn highs ≤ 255 then d.takeSlot (pulsesIn highs) else (d.takeSlot (pulsesIn highs)).fault rFbnErr 7 82 [] [] := by
  have hne : highs ≠ [] := by rintro rfl; exact hpulses rfl
  simp only [enumFrame, hunknown, hpulses, hlast, List.isEmpty_eq_false_iff.mpr hne, Bool.or_self, Bool.false_eq_true, if_false,
    if_true, ← Nat.not_le, ite_not]

theorem enumFrame_known {highs : List Nat} (hknown : d.fbn.slotKnown = true) : enumFrame highs d = d := by
  simp [enumFrame, hknown]

theorem enumSlot0_low (hwait : d.fbn.enumOut = true) (hlow : d.fbn.enumHigh = false)
    (hdue : d.fbn.enumFrom + 10000000 ≤ d.clock.aon) : enumSlot0 d = d.takeSlot 0 := by
  simp [enumSlot0, hwait, hlow, hdue]

theorem enumSlot0_idle (h : d.fbn.enumOut = false ∨ d.fbn.enumHigh = true) : enumSlot0 d = d := by
  rcases h with h | h <;> simp [enumSlot0, h]

end

/-- A command of the domains outside every freeze, as its effect on the device. -/
theorem onAlways_next {s : State} {f : Dev → Dev} {e : Dev} (h : f s.dev = e) : onAlways f s = .next { s with dev := e } :=
  h ▸ rfl

/-- A frame with a pulse counts it. -/
theorem pulsesIn_ne_zero {highs : List Nat} {w : Nat} (hmem : w ∈ highs) (hshort : w ≤ 700) : pulsesIn highs ≠ 0 :=
  fun h => Nat.not_lt.mpr hshort (pulsesIn_eq_zero_iff.mp h w hmem)

/-- Settles O44: the packet that stands first on its link is taken, and its pointer decides between the next hop and the target.
That the target learns the root's ID is log 30. -/
theorem idAssignPacketsFollowTheirHops : Obligations.IdAssignPacketsFollowTheirHops := by
  refine ⟨?packets, fun s hunknown => ⟨?empty, ?wait, ?first, ?agrees, ?low⟩, fun s h => ?idle, fun s hknown => ⟨?known, ?out⟩⟩
  case packets =>
    intro s l p q rest hdies hrx htype hwords hformed hfrom ws d becomes
    have requests {c : Instr} {sub : Nat} {e : Dev} (hexec : exec c s = onDies (idRequestOp sub l p) s)
        (hsub : iwSub p.words = sub) (h : d.idRequest l p.words = e) : becomes c e :=
      hexec.trans (onDies_next hdies ((idRequestOp_first hrx htype hwords hformed hfrom hsub).trans h))
    refine ⟨?on, fun hptr => ?target, ?reply⟩
    case on =>
      intro c hc hsub hptr
      have hon : d.idRequest l p.words = _ := idRequest_goes_on hptr
      simp only [List.mem_cons, List.not_mem_nil, or_false] at hc
      obtain rfl | rfl | rfl := hc
      · exact requests rfl hsub hon
      · exact requests rfl hsub hon
      · exact requests rfl hsub hon
    case target =>
      intro replies
      refine ⟨fun hsub => ?_, fun hsub => ?_, fun hsub hcmd => ?_⟩
      · exact requests rfl hsub (idRequest_answers hptr (idTarget_probe ((iwSub_arrivedOn ..).trans hsub)))
      · have sets {e : Dev} {st : Byte} (hid : d.takeId (iwNew ws) = (e, st)) : becomes (.idAssignSet l p) (replies e st 0) :=
          requests rfl hsub (idRequest_answers hptr (idTarget_set ((iwSub_arrivedOn ..).trans hsub) hid))
        refine ⟨fun hheld => sets (takeId_held hheld), fun hheld hgraphs => sets (takeId_busy hheld hgraphs), ?_⟩
        intro hheld hgraphs
        rw [← iwNew_arrivedOn l p.words]
        exact sets (takeId_takes hheld hgraphs)
      · have hword : ws.getD 9 0 = p.words.getD 9 0 := getD_arrivedOn l p.words (.inr (by decide))
        exact requests rfl hsub (idRequest_answers hptr (idTarget_status ((iwSub_arrivedOn ..).trans hsub) (hword ▸ hcmd)))
    case reply =>
      intro hsub hptr
      exact onDies_next hdies ((idReply_first hrx htype hwords hformed hfrom hsub).trans (if_neg hptr))
  case empty => exact onAlways_next (by simp [enumFrame])
  case wait =>
    intro highs hne hlong
    exact onAlways_next (enumFrame_wait hunknown hne (pulsesIn_eq_zero_iff.mpr hlong))
  case first =>
    intro highs w hmem hshort hlast
    exact onAlways_next (enumFrame_first hunknown (pulsesIn_ne_zero hmem hshort) hlast)
  case agrees =>
    intro highs w hmem hshort hlast
    exact onAlways_next (enumFrame_agrees hunknown (pulsesIn_ne_zero hmem hshort) hlast)
  case low =>
    intro hwait hlow hdue
    exact onAlways_next (enumSlot0_low hwait hlow hdue)
  case idle => exact onAlways_next (enumSlot0_idle h)
  case known => exact fun highs => onAlways_next (enumFrame_known hknown)
  case out => exact onAlways_next (f := enumOut) (if_pos hknown)

end Sys2Proof.Machine
end

section
/-! Roll-call (R348, R350 to R352): settles RollCallProbesAndAssigns. -/

namespace Sys2Proof.Machine

open Sys2Proof.Claims

/-! ### The next free ID (R350) -/

/-- Numbers that all stand in a list are no more than its places. -/
theorem length_le_of_range'_subset {lo n : Nat} {l : List Nat} (h : ∀ m, lo ≤ m → m < lo + n → m ∈ l) : n ≤ l.length := by
  have hsub : List.range' lo n ⊆ l := fun m hm => by
    obtain ⟨hlo, hhi⟩ := List.mem_range'_1.mp hm
    exact h m hlo hhi
  simpa using (List.subperm_of_subset List.nodup_range' hsub).length_le

/-- An ID that a roll-call has given or that a node of this run holds. -/
def IdTaken (d : Dev) (r : Roll) (m : Nat) : Prop := (∃ z ∈ r.nodes, z.id.toNat = m) ∨ ∃ z ∈ d.fbn.handed, z.toNat = m

/-- The numbers of the IDs that are taken. -/
def takenIds (d : Dev) (r : Roll) : List Nat := r.nodes.map (·.id.toNat) ++ d.fbn.handed.map (·.toNat)

theorem mem_takenIds {d : Dev} {r : Roll} {m : Nat} : m ∈ takenIds d r ↔ IdTaken d r m := by
  simp [takenIds, IdTaken]

/-- What roll-call asks of the next ID: within LIMIT, and not taken. -/
theorem idFree_iff {d : Dev} {r : Roll} {m : Nat} :
    (m ≤ d.fld rRollcfg 16 16 && !(d.fbn.handed.any fun x => x.toNat = m) && !(r.nodes.any fun x => x.id.toNat = m)) = true ↔
      m ≤ d.fld rRollcfg 16 16 ∧ ¬IdTaken d r m := by
  simp only [IdTaken, Bool.and_eq_true, Bool.not_eq_true', List.any_eq_false, decide_eq_true_eq]
  constructor
  · rintro ⟨⟨hle, hhanded⟩, hnodes⟩
    refine ⟨hle, ?_⟩
    rintro (⟨z, hz, heq⟩ | ⟨z, hz, heq⟩)
    · exact hnodes z hz heq
    · exact hhanded z hz heq
  · rintro ⟨hle, hfree⟩
    exact ⟨⟨hle, fun z hz heq => hfree (.inr ⟨z, hz, heq⟩)⟩, fun z hz heq => hfree (.inl ⟨z, hz, heq⟩)⟩

/-- The lowest free ID from BASE on is found: the IDs below it are all taken, so that it is within the numbers looked at. -/
theorem nextId_eq_some {d : Dev} {r : Roll} {n : Nat} (hbase : d.fld rRollcfg 0 16 ≤ n) (hlimit : n ≤ d.fld rRollcfg 16 16)
    (hfree : ¬IdTaken d r n) (hlow : ∀ m, d.fld rRollcfg 0 16 ≤ m → m < n → IdTaken d r m) : d.nextId r = some n := by
  obtain ⟨k, rfl⟩ := Nat.exists_eq_add_of_le hbase
  have hfew : k ≤ (takenIds d r).length := length_le_of_range'_subset fun m hlo hhi => mem_takenIds.mpr (hlow m hlo hhi)
  have hrange : k < d.fbn.handed.length + r.nodes.length + 1 := by
    simp only [takenIds, List.length_append, List.length_map] at hfew
    omega
  rw [Dev.nextId, List.find?_map, Option.map_eq_some_iff]
  refine ⟨k, List.find?_range_eq_some.mpr ⟨idFree_iff.mpr ⟨hlimit, hfree⟩, List.mem_range.mpr hrange, fun j hj => ?_⟩, rfl⟩
  have htaken : IdTaken d r (d.fld rRollcfg 0 16 + j) := hlow _ (Nat.le_add_right ..) (Nat.add_lt_add_left hj _)
  rw [Bool.not_eq_true', ← Bool.not_eq_true]
  exact fun h => (idFree_iff.mp h).2 htaken

/-! ### The next PROBE (R351) -/

section
variable {d : Dev} {r : Roll} {x : RollNode} {k : Nat}

theorem rollProbe_probes (hcur : r.cur = some x) (hlink : nextLink x.links r.link = some k) (hdepth : x.path.length < 63)
    (n : Nat) :
    d.rollProbe r (n + 1) = probing d r x k := by
  simp only [Dev.rollProbe, hcur, hlink, if_neg (Nat.not_le.mpr hdepth), probing]

theorem rollProbe_fuel (hcur : r.cur = some x) (hlink : nextLink x.links r.link = some k) (hdepth : x.path.length < 63) :
    d.rollProbe r r.fuel = probing d r x k := by
  obtain ⟨n, hn⟩ : ∃ n, r.fuel = n + 1 := Nat.exists_eq_add_one.mpr (by simp [Roll.fuel])
  rw [hn, rollProbe_probes hcur hlink hdepth]

/-! ### ROLL_CALL_AUTO (R350) -/

theorem rollStatus_ok (hroot : d.fbn.root = true) (hroll : d.fbn.roll = none) (hid : d.fbn.nodeHeld = true ∨ d.graphs = []) :
    d.rollStatus = stOk := by
  rcases hid with h | h <;> simp [Dev.rollStatus, Dev.rolling, hroot, hroll, h]

theorem rollCallAuto_starts (hauto : d.fld rFbn 4 1 = 1) (hready : d.mgt.ready = true)
    (hdue : d.mgt.readyAt + 100000000 ≤ d.clock.aon) (hnone : d.fbn.nodes = 0) (hstatus : d.rollStatus = stOk) :
    rollCallAuto d = d.rollStart := by
  simp [rollCallAuto, hauto, hready, hdue, hnone, hstatus]

/-! ### What the root does with a REPLY (R351) -/

section
variable {ws : List Word} (hroll : d.fbn.roll = some r) (htag : r.tag = iwTag ws) (hstage : r.stage = .probe)
include hroll htag hstage

theorem rootReply_probe (hset : r.set_ = none) : d.rootReply ws = d.probeReply r ws := by
  simp [Dev.rootReply, hroll, htag, hstage, hset]

theorem rootReply_set {z : RollNode} (hset : r.set_ = some z) : d.rootReply ws = d.setReply r z ws := by
  simp [Dev.rootReply, hroll, htag, hstage, hset]

end

theorem probeReply_gives {ws : List Word} {n : Nat} (hunnamed : bit (ws.getD 7 0) 47 = false)
    (hroom : (replyNode r ws).tk8 = false ∨ d.fbn.tk8s < 16384) (hnext : d.nextId r = some n) :
    d.probeReply r ws =
      (d.setRoll { r with
        set_ := some { replyNode r ws with id := BitVec.ofNat 16 n }, tag := d.fbn.tag, sentAt := d.clock.run }).sendPath 1
        (replyNode r ws).path (BitVec.ofNat 16 n) 0 := by
  have hfits : ¬((replyNode r ws).tk8 && decide (16384 ≤ d.fbn.tk8s)) = true := by
    rcases hroom with h | h <;> simp [h]
  unfold Dev.probeReply
  dsimp only
  rw [hunnamed, if_neg Bool.false_ne_true, if_neg hfits, hnext]

/-- The OK to a SET records the node, and its ID is not given again. -/
theorem setReply_records {z : RollNode} {ws : List Word} (hok : bits (ws.getD 7 0) 0 8 = stOk) (hcur : r.cur = some x)
    (hlink : nextLink x.links r.link = some k) (hdepth : x.path.length < 63) :
    d.setReply r z ws =
      probing
        { d with fbn := { d.fbn with
          handed := d.fbn.handed ++ [z.id], nodes := d.fbn.nodes + 1, tk8s := d.fbn.tk8s + b2n z.tk8 } }
        { r with set_ := none, ends := r.ends ++ r.cable z, nodes := r.nodes ++ [z], queue := r.queue ++ [z] } x k :=
  (if_pos hok).trans (rollProbe_fuel hcur hlink hdepth)

/-! ### ROLL_PROBE_TIMEOUT (R351) -/

theorem rollProbeTimeout_early (hroll : d.fbn.roll = some r) (hearly : d.clock.run < r.sentAt + 1000000) :
    rollProbeTimeout d = d := by
  simp [rollProbeTimeout, hroll, hearly]

theorem rollProbeTimeout_skips (hroll : d.fbn.roll = some r) (hstage : r.stage = .probe) (hset : r.set_ = none)
    (hdue : r.sentAt + 1000000 ≤ d.clock.run) : rollProbeTimeout d = d.rollProbe r r.fuel := by
  simp [rollProbeTimeout, hroll, hstage, hset, hdue]

end

/-- A command of the hub, as its effect on the device. -/
theorem onHub_next {s : State} {f : Dev → Dev} {e : Dev} (hhub : s.dev.hubRuns = true) (h : f s.dev = e) :
    onHub f s = .next { s with dev := e } := h ▸ onHub_acts f hhub

/-- Settles O45: the node probed has a link left, so that each command ends with its PROBE, or with the SET of the lowest free ID.
What makes an ID free, and when roll-call starts by itself, are log 34. -/
theorem rollCallProbesAndAssigns : Obligations.RollCallProbesAndAssigns := by
  refine ⟨?start, ?reply, ?timeout⟩
  case start =>
    intro s k hhub hauto hready hdue hnone hroot hroll hid hlink base named x r
    refine onHub_next hhub ((rollCallAuto_starts hauto hready hdue hnone (rollStatus_ok hroot hroll hid)).trans ?_)
    dsimp only [x, r, named, base, Dev.rollStart]
    split
    all_goals exact rollProbe_fuel rfl hlink (Nat.succ_pos 62)
  case reply =>
    intro s l p q rest r x k hdies hrx htype hwords hformed hsub hptr hfrom hroll htag hnext d y
    obtain ⟨hstage, hcur, hlink, hdepth⟩ := hnext
    have consumes {e : Dev} (h : d.rootReply p.words = e) : exec (.idAssignReply l p) s = .next { s with dev := e } :=
      onDies_next hdies (((idReply_first hrx htype hwords (.inl hformed) hfrom hsub).trans (if_pos hptr)).trans h)
    refine ⟨?gives, ?records⟩
    case gives =>
      intro n hset hunnamed hroom taken hlowest
      obtain ⟨hbase, hlimit, hfree, hlow⟩ := hlowest
      have hid : d.nextId r = some n := nextId_eq_some hbase hlimit hfree hlow
      exact consumes ((rootReply_probe (d := d) hroll htag hstage hset).trans (probeReply_gives hunnamed hroom hid))
    case records =>
      intro z hset hok e r'
      exact consumes ((rootReply_set (d := d) hroll htag hstage hset).trans (setReply_records hok hcur hlink hdepth))
  case timeout =>
    intro s r x k hhub hroll
    refine ⟨fun hearly => onHub_next hhub (rollProbeTimeout_early hroll hearly), fun hnext hdue hset => ?_⟩
    obtain ⟨hstage, hcur, hlink, hdepth⟩ := hnext
    exact onHub_next hhub ((rollProbeTimeout_skips hroll hstage hset hdue).trans (rollProbe_fuel hcur hlink hdepth))

end Sys2Proof.Machine
end

section
/-! ROUTE, ISOLATE and MEM_RESP packets delivered to this node (R357, R358, R370 to R372, R376): settles
RouteAndIsolateRequestsAreAnswered. -/

namespace Sys2Proof.Machine

open Sys2Proof.Claims

/-! ### A range of a table set to one value -/

section
variable {α : Type} {dflt : α}

theorem mget_append_below {i : Nat} {m m' : Map α} (h : ∀ x ∈ m, x.1 < i) : mget dflt (m ++ m') i = mget dflt m' i := by
  induction m with
  | nil => rfl
  | cons x m ih =>
    obtain ⟨hx, hm⟩ := List.forall_mem_cons.mp h
    rw [List.cons_append, mget, if_neg hx.ne, if_neg hx.asymm, ih hm]

theorem mget_above {i : Nat} {m : Map α} (h : ∀ x ∈ m, i < x.1) : mget dflt m i = dflt := by
  cases m with
  | nil => rfl
  | cons x m =>
    have hx := h x List.mem_cons_self
    rw [mget, if_neg hx.ne', if_pos hx]

theorem mget_append_above {i : Nat} {m m' : Map α} (h : ∀ x ∈ m', i < x.1) : mget dflt (m ++ m') i = mget dflt m i := by
  induction m with
  | nil => exact mget_above h
  | cons x m ih => rw [List.cons_append, mget, mget, ih]

theorem mget_range' (v : α) (i : Nat) : ∀ lo n : Nat,
    mget dflt ((List.range' lo n).map fun k => (k, v)) i = if lo ≤ i ∧ i < lo + n then v else dflt
  | lo, 0 => (if_neg (by omega)).symm
  | lo, n + 1 => by
    rw [List.range'_succ, List.map_cons, mget, mget_range' v i (lo + 1) n]
    rcases Nat.lt_trichotomy lo i with h | h | h
    · rw [if_neg (by omega), if_neg (by omega)]
      exact if_congr (by omega) rfl rfl
    · rw [if_pos h, if_pos (by omega)]
    · rw [if_neg (by omega), if_pos (by omega), if_neg (by omega)]

variable [DecidableEq α]

/-- The entries that a range is set to; entries of the default are not listed. -/
theorem mget_mrange_new (lo n i : Nat) (v : α) :
    mget dflt (if v = dflt then [] else (List.range n).map fun j => (lo + j, v)) i = if lo ≤ i ∧ i < lo + n then v else dflt := by
  split
  case isTrue hv =>
    subst hv
    exact (ite_self _).symm
  case isFalse =>
    rw [← mget_range', List.range'_eq_map_range, List.map_map]
    rfl

theorem mget_mrange {m : Map α} {bound : Nat} (hm : mwf dflt bound m = true) (lo n : Nat) (v : α) (i : Nat) :
    mget dflt (mrange dflt m lo n v) i = if lo ≤ i ∧ i < lo + n then v else mget dflt m i := by
  have hlow := mget_filter_key dflt (fun k => decide (k < lo)) i hm
  have hhigh := mget_filter_key dflt (fun k => decide (lo + n ≤ k)) i hm
  have below : ∀ x ∈ m.filter fun x => decide (x.1 < lo), x.1 < lo := fun x hx => by simpa using (List.mem_filter.mp hx).2
  have above : ∀ x ∈ m.filter fun x => decide (lo + n ≤ x.1), lo + n ≤ x.1 := fun x hx => by
    simpa using (List.mem_filter.mp hx).2
  have within : ∀ x ∈ (if v = dflt then [] else (List.range n).map fun j => (lo + j, v)), lo ≤ x.1 ∧ x.1 < lo + n := by
    split
    case isTrue => simp
    case isFalse =>
      simp only [List.forall_mem_map, List.mem_range]
      omega
  unfold mrange
  by_cases hlo : i < lo
  · rw [List.append_assoc, mget_append_above, hlow, if_pos (decide_eq_true hlo), if_neg (by omega)]
    intro x hx
    rcases List.mem_append.mp hx with hx | hx
    · exact hlo.trans_le (within x hx).1
    · exact (Nat.lt_add_right n hlo).trans_le (above x hx)
  · rw [List.append_assoc, mget_append_below fun x hx => (below x hx).trans_le (Nat.not_lt.mp hlo)]
    by_cases hhi : i < lo + n
    · rw [mget_append_above fun x hx => hhi.trans_le (above x hx), mget_mrange_new, if_pos ⟨Nat.not_lt.mp hlo, hhi⟩,
        if_pos ⟨Nat.not_lt.mp hlo, hhi⟩]
    · have hge := Nat.not_lt.mp hhi
      rw [mget_append_below fun x hx => (within x hx).2.trans_le hge, hhigh, if_pos (decide_eq_true hge), if_neg (by omega)]

end

/-! ### A delivered packet and its command -/

section
variable {d e : Dev} {p : FPacket}

theorem takeFob_delivered {want : FPacket → Bool} (hwant : want p = true) (hhere : d.fbn.delivered.contains p = true) :
    d.takeFob p want = some (withoutFob d p) := by
  rw [Dev.takeFob, hwant, hhere]
  rfl

theorem onFob_delivered {want : FPacket → Bool} {f : Dev → Dev} (hwant : want p = true)
    (hhere : d.fbn.delivered.contains p = true) : d.onFob p want f = f (withoutFob d p) := by
  rw [Dev.onFob, takeFob_delivered hwant hhere]

theorem isFob_true {t : BitVec 5} {sub : Nat} (htype : p.ptype = t) (hsub : pSub p = sub) : isFob t sub p = true := by
  simp [isFob, htype, hsub]

/-- A command of the compute dies that handles a delivered packet. -/
theorem exec_delivered {s : State} {c : Instr} {want : FPacket → Bool} {f : Dev → Dev} (hhere : Delivered s.dev p)
    (hwant : want p = true) (hexec : exec c s = onDies (fun d => d.onFob p want f) s) (hf : f (withoutFob s.dev p) = e) :
    exec c s = .next { s with dev := e } :=
  hexec.trans (onDies_next hhere.1 ((onFob_delivered hwant hhere.2).trans hf))

/-! ### Route banks (R357, R370) -/

section
variable {bank : Bool} {first n : Nat} {e : BitVec 16}

theorem fobWrite_outside (hn : n ≠ 0) (he : nbits e 6 2 = 0) (h : 65536 < first + n) :
    d.fobWrite bank first n e = (d, stBadValue) := by
  simp [Dev.fobWrite, hn, he, h]

theorem fobWrite_busy (hn : n ≠ 0) (he : nbits e 6 2 = 0) (hrange : first + n ≤ 65536)
    (h : bank = d.fab.cur ∨ d.fab.retiring = true) : d.fobWrite bank first n e = (d, stBusy) := by
  simp [Dev.fobWrite, hn, he, Nat.not_lt.mpr hrange, h]

theorem fobWrite_writes (hn : n ≠ 0) (he : nbits e 6 2 = 0) (hrange : first + n ≤ 65536) (hbank : bank = !d.fab.cur)
    (hretiring : d.fab.retiring = false) :
    d.fobWrite bank first n e =
      ({ d with fbn := { d.fbn with rt := mrange 0 d.fbn.rt ((if bank then 65536 else 0) + first) n e } }, stOk) := by
  subst hbank
  cases hcur : d.fab.cur <;> simp [Dev.fobWrite, hn, he, Nat.not_lt.mpr hrange, hretiring, hcur, fobBank, b2n]

end

theorem nodeFlip_busy (h : d.fab.retiring = true) : d.nodeFlip = (d, stBusy) := if_pos h

theorem nodeFlip_flips (h : d.fab.retiring = false) :
    d.nodeFlip = ({ d.flip with fbn := { d.flip.fbn with retireWait := true } }, stOk) := by
  simp [Dev.nodeFlip, h]

/-- Three flags as the bits of a number. -/
theorem append_b2v (a b c : Bool) :
    (0 : BitVec 61) ++ b2v a ++ b2v b ++ b2v c =
      BitVec.ofNat 64 ((if a then 4 else 0) + (if b then 2 else 0) + if c then 1 else 0) := by
  revert a b c
  decide

/-! ### Isolation of nodes (R371, R376) -/

theorem isolateNode_isolates {n : BitVec 16} (h : d.fbn.isolated.contains n.toNat = false) :
    d.isolateNode n =
      ({ d with fbn := { d.fbn with isolated := d.fbn.isolated ++ [n.toNat] } }.abandon (Owner.ofNode n)).fault
        rFbnErr 1 76 [] [] := by
  rw [Dev.isolateNode, h, if_neg Bool.false_ne_true]

end

/-- Settles O46: each packet waits here for its command, and the branch of its operation that a clause meets decides the answer. -/
theorem routeAndIsolateRequestsAreAnswered : Obligations.RouteAndIsolateRequestsAreAnswered := by
  refine ⟨fun m lo n v i hm => mget_mrange hm lo n v i, ?_⟩
  intro s p hhere d becomes bank first count e
  refine ⟨?route, ?isolate, ?resp⟩
  case route =>
    intro htype
    have ends {c : Instr} {sub : Nat} {f : Dev} {st : Byte} {w : Word} (hexec : exec c s = onDies (routePacketOp sub p) s)
        (hsub : pSub p = sub) (hop : d.routeOp sub bank first count e = (f, st, w)) : becomes c (f.answerFob p st 0 [w]) := by
      refine exec_delivered hhere (isFob_true htype hsub) hexec ?_
      dsimp only
      rw [hop]
    refine ⟨fun hsub hcount he => ?write, fun hsub => ?flip, fun hsub => ?status, fun hsub => ?retire⟩
    case write =>
      have writes {f : Dev} {st : Byte} (h : d.fobWrite bank first count e = (f, st)) :
          becomes (.routeWrite p) (f.answerFob p st 0 [0]) := ends rfl hsub (by rw [Dev.routeOp, h])
      exact ⟨fun hover => writes (fobWrite_outside hcount he hover),
        fun hrange hbusy => writes (fobWrite_busy hcount he hrange hbusy),
        fun hrange hbank hretiring => writes (fobWrite_writes hcount he hrange hbank hretiring)⟩
    case flip =>
      refine ⟨fun hbusy => ends rfl hsub (by rw [Dev.routeOp, nodeFlip_busy (d := d) hbusy]), fun hfree => ⟨?_, rfl, rfl⟩⟩
      exact ends rfl hsub (by rw [Dev.routeOp, nodeFlip_flips (d := d) hfree])
    case status => exact ends rfl hsub (congrArg (d, stOk, ·) (append_b2v ..))
    case retire => exact ends rfl hsub rfl
  case isolate =>
    intro htype n
    refine ⟨fun hsub hlive => ?_, fun hsub => ?_, fun hsub => ?_⟩
    · exact exec_delivered (f := fun d => (d.isolateNode n).answerFob p stOk 0 []) hhere (isFob_true htype hsub) rfl
        (congrArg (Dev.answerFob · p stOk 0 []) (isolateNode_isolates (d := d) hlive))
    · exact exec_delivered hhere (isFob_true htype hsub) rfl rfl
    · exact exec_delivered hhere (isFob_true htype hsub) rfl rfl
  case resp =>
    intro htype hroll
    have hwant : decide (p.ptype = ptMemResp) = true := decide_eq_true htype
    refine ⟨fun ⟨q, hq, hnode, htag⟩ => ?_, fun hnone => ?_⟩
    · refine exec_delivered hhere hwant rfl ((if_pos (List.any_eq_true.mpr ⟨q, hq, by simp [hnode, htag]⟩)).trans ?_)
      dsimp only
      split
      case h_1 => rfl
      case h_2 r hr => exact absurd (hr.symm.trans hroll) nofun
    · refine exec_delivered hhere hwant rfl (if_neg ?_)
      rw [Bool.not_eq_true, List.any_eq_false]
      intro q hq
      have hother := hnone q hq
      simpa [← not_and_or] using hother

end Sys2Proof.Machine
end

section
/-! Memory requests of other nodes (R237, R250, R363 to R365): settles RemoteMemoryRequestsAreServed. -/

namespace Sys2Proof.Machine

open Sys2Proof.Claims

/-! ### Whole words of HBM -/

theorem word_putWord (h : Hbm) (w : Nat) (v : Word) (p : Bool) (x : Nat) :
    (h.putWord w v p).word x = if x = w then v else h.word x := by
  apply eq_of_byteOf
  intro i hi
  rw [Hbm.word, byteOf_read _ 8 _ i hi, if_pos hi, Hbm.putWord, bytesStored_write h (8 * w) 8 v w p]
  split
  case isTrue hin =>
    have hx : x = w := by omega
    have hi' : 8 * x + i - 8 * w = i := by omega
    rw [if_pos hx, hi', byteOf]
  case isFalse hout =>
    rw [if_neg (by omega), Hbm.word, byteOf_read _ 8 _ i hi, if_pos hi]

theorem poisoned_putWord (h : Hbm) (w : Nat) (v : Word) (p : Bool) (x : Nat) :
    (h.putWord w v p).poisoned x = if x = w then p else h.poisoned x := (onlyMark_write h (8 * w) 8 v w p).1 x

theorem isFull_putWord (h : Hbm) (w : Nat) (v : Word) (p : Bool) (x : Nat) : (h.putWord w v p).isFull x = h.isFull x :=
  (onlyMark_write h (8 * w) 8 v w p).2 x

/-! ### MEM_WR of whole words (R363) -/

section
variable (p : FPacket)

theorem word_fobWrite (x : Nat) : ∀ (n w i : Nat) (h : Hbm),
    (fobWrite p w i n h).word x = if w ≤ x ∧ x < w + n then p.word (2 + (i + (x - w))) else h.word x
  | 0, w, i, h => (if_neg (by omega)).symm
  | n + 1, w, i, h => by
    rw [fobWrite, word_fobWrite x n, word_putWord]
    rcases Nat.lt_trichotomy x w with hx | hx | hx
    · rw [if_neg (by omega), if_neg (by omega), if_neg (by omega)]
    · rw [if_neg (by omega), if_pos hx, if_pos (by omega), writeWord, hx, Nat.sub_self, Nat.add_zero]
    · have hplace : i + 1 + (x - (w + 1)) = i + (x - w) := by omega
      rw [if_neg (by omega : ¬x = w), hplace]
      exact if_congr (by omega) rfl rfl

theorem poisoned_fobWrite (x : Nat) : ∀ (n w i : Nat) (h : Hbm),
    (fobWrite p w i n h).poisoned x = if w ≤ x ∧ x < w + n then false else h.poisoned x
  | 0, w, i, h => (if_neg (by omega)).symm
  | n + 1, w, i, h => by
    rw [fobWrite, poisoned_fobWrite x n, poisoned_putWord]
    by_cases hx : x = w
    · rw [if_neg (by omega), if_pos hx, if_pos (by omega)]
    · rw [if_neg hx]
      exact if_congr (by omega) rfl rfl

theorem isFull_fobWrite (x : Nat) : ∀ (n w i : Nat) (h : Hbm), (fobWrite p w i n h).isFull x = h.isFull x
  | 0, _, _, _ => rfl
  | n + 1, w, i, h => by rw [fobWrite, isFull_fobWrite x n, isFull_putWord]

end

/-! ### MEM_RD (R363, R364) -/

/-- The mask that a read of n words answers, from place i on. -/
def readMask (h : Hbm) : Nat → Nat → Nat → Byte
  | _, _, 0 => 0
  | w, i, n + 1 => (if h.poisoned w then 1#8 <<< i else 0) ||| readMask h (w + 1) (i + 1) n

theorem fobRead_clean (h : Hbm) (d : Dev) : ∀ w i n : Nat,
    fobRead h w i [] n d = ((List.range' w n).map h.word, readMask h w i n, d)
  | _, _, 0 => rfl
  | w, i, n + 1 => by
    simp only [fobRead, List.headD_nil, List.tail_nil, readWord, fobRead_clean h d (w + 1) (i + 1) n]
    rfl

theorem readMask_one (h : Hbm) (w : Nat) : readMask h w 0 1 = if h.poisoned w then 1 else 0 := by simp [readMask]

theorem bit_shiftLeft_one {i j : Nat} (hj : j < 8) : bit (1#8 <<< i) j = decide (j = i) := by
  simp only [bit, BitVec.getLsbD_shiftLeft, BitVec.getLsbD_one, hj]
  rw [Bool.eq_iff_iff]
  simp
  omega

theorem bit_readMask (h : Hbm) {j : Nat} (hj : j < 8) : ∀ w i n : Nat,
    bit (readMask h w i n) j = (decide (i ≤ j ∧ j < i + n) && h.poisoned (w + (j - i)))
  | w, i, 0 => by
    rw [decide_eq_false (by omega), Bool.false_and]
    exact BitVec.getLsbD_zero
  | w, i, n + 1 => by
    have hrest : bit (readMask h w i (n + 1)) j =
        ((h.poisoned w && decide (j = i)) || bit (readMask h (w + 1) (i + 1) n) j) := by
      rw [readMask, bit, BitVec.getLsbD_or]
      cases h.poisoned w with
      | false => simp [bit]
      | true => exact congrArg (· || _) (bit_shiftLeft_one hj)
    rw [hrest, bit_readMask h hj (w + 1) (i + 1) n]
    rcases Nat.lt_trichotomy j i with hlt | heq | hgt
    · rw [decide_eq_false (by omega), decide_eq_false (by omega), decide_eq_false (by omega), Bool.and_false]
      rfl
    · subst heq
      simp
    · have hwithin : (i + 1 ≤ j ∧ j < i + 1 + n) ↔ (i ≤ j ∧ j < i + (n + 1)) := by omega
      have hplace : w + 1 + (j - (i + 1)) = w + (j - i) := by omega
      rw [decide_eq_false (by omega : ¬j = i), decide_eq_decide.mpr hwithin, hplace, Bool.and_false, Bool.false_or]

/-! ### A request that R365 lets pass -/

/-- The device that performs a request of another node: without its packet, and with the addressed stack awake. -/
def memServer (d : Dev) (p : FPacket) : Dev := (withoutFob d p).wakeStack (addrStack (bits (p.word 1) 0 48))

section
variable {s : State} {p : FPacket} (hreach : Reaches s.dev p)
include hreach

theorem memChecks_pass : firstFailing ((withoutFob s.dev p).memChecks p) = none := by
  change firstFailing (s.dev.memChecks p) = none
  have hhbm : ¬hbmEnd ≤ mAddr p := Nat.not_le.mpr hreach.hbm
  simpa [firstFailing, Dev.memChecks, hreach.enabled, hreach.plain, hreach.aligned, hhbm, ← hreach.block, hreach.served]
    using hreach.low

theorem onFobMem_passes {want : FPacket → Bool} (hwant : want p = true) (f : Hbm → Dev → Hbm × Dev) (h : Hbm) :
    onFobMem p want f h s.dev = f h (memServer s.dev p) := by
  rw [onFobMem, takeFob_delivered hwant hreach.here.2]
  dsimp only
  rw [memChecks_pass hreach]
  rfl

/-- A command of memory that serves a delivered request. -/
theorem exec_served {c : Instr} {want : FPacket → Bool} {f : Hbm → Dev → Hbm × Dev} {h : Hbm} {e : Dev} (hwant : want p = true)
    (hexec : exec c s = onMem (onFobMem p want f) s) (hf : f s.hbm (memServer s.dev p) = (h, e)) :
    exec c s = .next { s with hbm := h, dev := e } := by
  rw [hexec, onMem_acts _ hreach.here.1, onFobMem_passes hreach hwant, hf]

end

/-! ### What a request brings about -/

theorem mAddr_eq (p : FPacket) : (bits (p.word 1) 0 48).toNat = mAddr p := bits_toNat ..

section
variable {p : FPacket} {op : MemOp}

theorem atomicReq_addr : (atomicReq op p).addr.toNat = mAddr p := bits_toNat ..

/-- The seven operations of an ATOMIC packet. -/
def fobAtomics : List MemOp := [.aadd, .axchg, .acas, .amin, .amax, .aand, .aor]

/-- What the atomic of a delivered request stores (R142, R249). -/
theorem atomicNew_eq_atomicStores {m : Word} (hop : op ∈ fobAtomics) (hm : extend m (szBytes (mSz p)) false = m) :
    atomicNew op (szBytes (mSz p)) (atomicReq op p).signedAtomic m (atomicReq op p).data (atomicReq op p).cmp =
      atomicStores op (szBytes (mSz p)) (mSgn p) m (p.word 2) (atomicReq op p).cmp := by
  have hless := fun hop => atomicNew_less (r := atomicReq op p) (n := szBytes (mSz p)) (m := m) hop hm
  simp only [fobAtomics, List.mem_cons, List.not_mem_nil, or_false] at hop
  obtain rfl | rfl | rfl | rfl | rfl | rfl | rfl := hop
  · rfl
  · rfl
  · simp only [atomicNew, atomicStores, hm]
    rfl
  · simp only [atomicNew, atomicStores, hless (.inl rfl), decide_eq_true_eq]
    rfl
  · simp only [atomicNew, atomicStores, hless (.inr rfl), decide_eq_true_eq]
    rfl
  · rfl
  · rfl

section
variable {h : Hbm} (d : Dev) (halign : mAddr p % szBytes (mSz p) = 0)
include halign

theorem atomicReq_aligned : (atomicReq op p).addr.toNat % szBytes (atomicReq op p).sz = 0 :=
  (congrArg (· % szBytes (mSz p)) atomicReq_addr).trans halign

/-- What an ATOMIC answers: the old bytes, and whether the word is poisoned. -/
def fobOld (h : Hbm) (op : MemOp) (p : FPacket) : Got :=
  { val := extend (h.read (mAddr p) (szBytes (mSz p))) (szBytes (mSz p)) (mSgn p && (op = .amin || op = .amax))
    poison := h.poisoned (mAddr p / 8), bad := false }

theorem performAtomic_fob_poisoned (hp : h.poisoned (mAddr p / 8) = true) :
    performAtomic (atomicReq op p) .none h d = (fobOld h op p, h, d) := by
  have hkeeps := performAtomic_poisoned (r := atomicReq op p) (d := d) (atomicReq_aligned halign) (by rwa [atomicReq_addr])
  rw [atomicReq_addr] at hkeeps
  rw [hkeeps, fobOld, hp]
  rfl

/-- What an ATOMIC stores. -/
def fobStores (h : Hbm) (op : MemOp) (p : FPacket) : Option Word :=
  atomicStores op (szBytes (mSz p)) (mSgn p) (h.read (mAddr p) (szBytes (mSz p))) (p.word 2) (atomicReq op p).cmp

section
variable (hop : op ∈ fobAtomics)
include hop

theorem atomicNew_fob :
    atomicNew op (szBytes (mSz p)) (atomicReq op p).signedAtomic (h.read (atomicReq op p).addr.toNat (szBytes (mSz p)))
      (atomicReq op p).data (atomicReq op p).cmp = fobStores h op p := by
  rw [atomicReq_addr, atomicNew_eq_atomicStores hop (extend_read (szBytes_cases _) h halign), fobStores]

variable (hp : h.poisoned (mAddr p / 8) = false)
include hp

theorem performAtomic_fob_keeps (hstores : fobStores h op p = none) :
    performAtomic (atomicReq op p) .none h d = (fobOld h op p, h, d) := by
  have hkeeps := performAtomic_keeps (d := d) (atomicReq_aligned halign) (by rwa [atomicReq_addr])
    ((atomicNew_fob halign hop).trans hstores)
  rw [atomicReq_addr] at hkeeps
  rw [hkeeps, fobOld, hp]
  rfl

theorem performAtomic_fob_stores {v : Word} (hstores : fobStores h op p = some v) :
    performAtomic (atomicReq op p) .none h d =
      (fobOld h op p, (h.write (mAddr p) v (szBytes (mSz p))).setPoison (mAddr p / 8) false, d) := by
  have hdone := performAtomic_stores (d := d) (atomicReq_aligned halign) (by rwa [atomicReq_addr])
    ((atomicNew_fob halign hop).trans hstores)
  rw [atomicReq_addr] at hdone
  rw [hdone, fobOld, hp]
  rfl

end

end

end

/-- Settles O47: a request that passes R365 is served as a load, a store or an atomic of its stack's controller is. -/
theorem remoteMemoryRequestsAreServed : Obligations.RemoteMemoryRequestsAreServed := by
  intro s p hreach d a n w nw
  have hn : n = 1 ∨ n = 2 ∨ n = 4 ∨ n = 8 := szBytes_cases (mSz p)
  refine ⟨fun htype => ?read, fun htype => ?write, ?atomic⟩
  case read =>
    have hwant : decide (p.ptype = ptMemRd) = true := decide_eq_true htype
    refine ⟨fun h8 => ⟨readMask s.hbm w 0 nw, fun i hi => ?_, ?_⟩, fun h8 hone => ?_⟩
    · rw [bit_readMask s.hbm hi]
      simp
    · refine exec_served hreach hwant rfl ?_
      rw [fobRead_clean]
      dsimp only
      rw [if_pos (h8 : szBytes (mSz p) = 8), List.range'_eq_map_range, List.map_map]
      rfl
    · refine exec_served hreach hwant rfl ?_
      rw [fobRead_clean]
      dsimp only
      have hone' : mWords p = 1 := hone
      rw [if_neg (h8 : szBytes (mSz p) ≠ 8), hone', readMask_one, extend_read hn s.hbm hreach.aligned,
        ← pick_word hn s.hbm hreach.aligned]
      rfl
  case write =>
    have hwant : decide (p.ptype = ptMemWr) = true := decide_eq_true htype
    by_cases h8 : n = 8
    · refine ⟨fobWrite p w 0 nw s.hbm, exec_served hreach hwant rfl (if_pos h8), fun x => isFull_fobWrite p x .., ?_, ?_⟩
      · intro _ x
        rw [word_fobWrite, Nat.zero_add]
        exact ⟨rfl, poisoned_fobWrite p x ..⟩
      · exact fun hne => absurd h8 hne
    · have hstore := storeBytes_aligned s.hbm hreach.aligned (p.word 2) false (memServer s.dev p)
      rw [if_neg h8, Bool.or_false] at hstore
      have hmark := onlyMark_write s.hbm a n (p.word 2) w (s.hbm.poisoned w)
      refine ⟨_, exec_served hreach hwant rfl ((if_neg h8).trans ?_), hmark.2, fun h => absurd h h8, fun _ => ⟨?_, fun x => ?_⟩⟩
      · rw [hstore]
        rfl
      · exact bytesStored_write s.hbm a n (p.word 2) w _
      · rw [hmark.1]
        split
        case isTrue hx => rw [hx]
        case isFalse => rfl
  case atomic =>
    intro c hc htype hsub m old e
    have hc' : c.2.2 ∈ fobAtomics ∧ exec c.1 s = onMem (fobAtomic c.2.1 c.2.2 p .none) s := by
      simp only [List.mem_cons, List.not_mem_nil, or_false] at hc
      obtain rfl | rfl | rfl | rfl | rfl | rfl | rfl := hc <;> exact ⟨by simp [fobAtomics], rfl⟩
    obtain ⟨hop, hexec⟩ := hc'
    have serves {h : Hbm}
        (hdone : performAtomic (atomicReq c.2.2 p) .none s.hbm (memServer s.dev p) =
          (fobOld s.hbm c.2.2 p, h, memServer s.dev p)) :
        exec c.1 s = .next { s with hbm := h, dev := d.answerFob p stOk (if s.hbm.poisoned w then 1 else 0) [old] } := by
      refine exec_served hreach (isFob_true htype hsub) hexec ?_
      dsimp only
      rw [hdone]
      rfl
    refine ⟨fun hp => ?poisoned, fun hp => ?clean⟩
    case poisoned =>
      have hserved := serves (performAtomic_fob_poisoned _ hreach.aligned hp)
      rwa [if_pos hp] at hserved
    case clean =>
      rw [hp] at serves
      cases hstores : atomicStores c.2.2 n (mSgn p) m (p.word 2) e with
      | none => exact ⟨s.hbm, serves (performAtomic_fob_keeps _ hreach.aligned hop hp hstores), rfl⟩
      | some v =>
        exact ⟨_, serves (performAtomic_fob_stores _ hreach.aligned hop hp hstores), bytesStored_write s.hbm a n v _ _,
          onlyMark_write s.hbm a n v _ _⟩

end Sys2Proof.Machine
end

section
/-! Locks, events and refused tokens of other nodes (R259 to R263, R366, R367, R374): settles RemoteLocksEventsAndTokensArrive. -/

namespace Sys2Proof.Machine

open Sys2Proof.Claims

/-! ### Lock requests (R366) -/

section
variable {s : State} {p : FPacket}

theorem locks_memServer (d : Dev) (p : FPacket) :
    ((memServer d p).stack (addrStack (bits (p.word 1) 0 48))).locks = (d.stack (addrStack (bits (p.word 1) 0 48))).locks := by
  rw [memServer, Dev.wakeStack, Dev.stack_modStack_self]
  rfl

/-- A lock request that passes the checks of R509 is performed by its lock unit, whatever the operation. -/
theorem fobLockStatus_pass {op op' : MemOp} (hlocks : Locks s.dev p (lockReqOf op p)) :
    (withoutFob s.dev p).fobLockStatus (lockReqOf op' p) = none := by
  have hhbm : ¬hbmEnd ≤ (lockReqOf op p).addr.toNat := Nat.not_le.mpr hlocks.hbm
  change s.dev.fobLockStatus (lockReqOf op p) = none
  simp [firstFailing, Dev.fobLockStatus, hlocks.aligned, hhbm, hlocks.served]

theorem fobLockStatus_unaligned {d : Dev} {op : MemOp} (h : (lockReqOf op p).addr.toNat % 8 ≠ 0) :
    d.fobLockStatus (lockReqOf op p) = some stUnaligned := by
  simp [firstFailing, Dev.fobLockStatus, h]

section
variable {op : MemOp} {e : Dev} (hlocks : Locks s.dev p (lockReqOf op p))
include hlocks

theorem exec_lockReqLock (htype : p.ptype = ptLockReq) (hsub : pSub p = 0)
    (hacts : (memServer s.dev p).doLock (addrStack (bits (p.word 1) 0 48)) (lockReqOf .lock p) = e) :
    exec (.lockReqLock p) s = .next { s with dev := e } := by
  refine exec_delivered hlocks.here (isFob_true htype hsub) rfl ?_
  dsimp only
  rw [fobLockStatus_pass hlocks]
  exact hacts

theorem exec_fobLock {c : Instr} {t : BitVec 5} {sub : Nat} {op' : MemOp} {act : Dev → DieId → MemReq → Dev}
    (hexec : exec c s = onDies (fobLock t sub op' act p) s) (htype : p.ptype = t) (hsub : pSub p = sub)
    (hacts : act (memServer s.dev p) (addrStack (bits (p.word 1) 0 48)) (lockReqOf op' p) = e) :
    exec c s = .next { s with dev := e } := by
  refine exec_delivered hlocks.here (isFob_true htype hsub) hexec ?_
  dsimp only
  rw [fobLockStatus_pass hlocks]
  exact hacts

end

/-- An unaligned request is answered at once (R509). -/
theorem exec_fobLock_unaligned {c : Instr} {t : BitVec 5} {sub : Nat} {op : MemOp} {act : Dev → DieId → MemReq → Dev}
    (hhere : Delivered s.dev p) (hexec : exec c s = onDies (fobLock t sub op act p) s) (htype : p.ptype = t) (hsub : pSub p = sub)
    (h : (lockReqOf op p).addr.toNat % 8 ≠ 0) :
    exec c s =
      .next { s with dev := (withoutFob s.dev p).answerFob p stOk 0 [lockWord (bits (p.word 1) 0 48) stUnaligned] } := by
  refine exec_delivered hhere (isFob_true htype hsub) hexec ?_
  dsimp only
  rw [fobLockStatus_unaligned h]
  rfl

end

/-! ### Refused tokens (R213, R374) -/

theorem yoyo_setYoyo_self (d : Dev) (k : DieId) (y : Yoyo) : (d.setYoyo k y).yoyo k = y := mget_mset_self ..

/-- A token that comes back to a Yo-yo with room stands last in its ring, refused once; what waited there before waits on. -/
theorem refuseStore_received {d : Dev} {k : DieId} {r : RtsRec} (hfirst : r.count = 0) (hroom : d.rtsFull k = false) :
    let y := d.yoyo k
    let z := (refuseStore k y.refused.length (d.setYoyo k { y with refused := y.refused ++ [r] })).yoyo k
    z.refused = y.refused ∧
      z.rts = y.rts ++ [{ r with due := d.dueTime 1 (lfsrStep (y.lfsr.getD (lfsrSeed k))), count := 1 }] := by
  intro y z
  have hat : ((d.setYoyo k { y with refused := y.refused ++ [r] }).yoyo k).refused[y.refused.length]? = some r := by
    rw [yoyo_setYoyo_self]
    exact List.getElem?_concat_length
  have hplace : ((d.setYoyo k { y with refused := y.refused ++ [r] }).yoyo k).rts.length <
      (d.setYoyo k { y with refused := y.refused ++ [r] }).rtsPlaces := by
    rw [yoyo_setYoyo_self]
    change y.rts.length < d.rtsPlaces
    simpa [Dev.rtsFull] using hroom
  have hz : z = _ := (congrArg (Dev.yoyo · k) (refuseStore_stores hat hplace)).trans (yoyo_setYoyo_self ..)
  rw [hz, yoyo_setYoyo_self, hfirst]
  refine ⟨?_, rfl⟩
  change (y.refused ++ [r]).eraseIdx y.refused.length = y.refused
  rw [List.eraseIdx_append_of_length_le (le_refl _), Nat.sub_self]
  exact List.append_nil _

/-- Settles O48: a request that passes R509 is performed by its lock unit as one of this module is; each of the other packets has
one effect. That an EVENT is of its consumer's colour is log 26, that the count starts again is log 39. -/
theorem remoteLocksEventsAndTokensArrive : Obligations.RemoteLocksEventsAndTokensArrive := by
  intro s p d becomes request k l word found
  refine ⟨fun hlocks => ?locks, fun hhere hodd => ⟨?tryOdd, ?unlockOdd⟩, fun hhere htype hsub => ?abandon,
    fun hhere htype hmask => ?event, fun port hhere htype => ?refuse⟩
  case locks =>
    intro taken
    have hplain {op : MemOp} : (memServer s.dev p).lockInSpill (lockReqOf op p).addr = false := hlocks.plain
    have hheld : ((memServer s.dev p).stack k).locks = l := locks_memServer s.dev p
    have hlock {op : MemOp} : ((memServer s.dev p).stack k).lock (lockReqOf op p).addr = found := by rw [Stack.lock, hheld]; rfl
    refine ⟨fun hnone hroom htype => ?free, fun e hsome howner htype hsub => ?busy,
      fun e hsome howner hwaiters htype hsub => ?frees⟩
    case free =>
      have hnew {op : MemOp} := (hlock (op := op)).trans hnone
      have hacq {op : MemOp} : (memServer s.dev p).lockAcquire k (lockReqOf op p) = some (taken, stOk) := by
        have hacquire := lockAcquire_new (hnew (op := op)) (by rw [hheld]; exact hroom)
        rwa [hheld] at hacquire
      exact ⟨fun hsub => exec_lockReqLock hlocks htype hsub (doLock_takes hplain (free_of_none hnew) hacq),
        fun hsub => exec_fobLock hlocks rfl htype hsub (doTrylock_takes hplain (free_of_none hnew) hacq)⟩
    case busy =>
      obtain ⟨o, ho⟩ := Option.ne_none_iff_exists'.mp howner
      exact exec_fobLock hlocks rfl htype hsub (doTrylock_busy hplain (hlock.trans hsome) ho)
    case frees =>
      have hentry := (hlock (op := .unlock)).trans hsome
      refine exec_fobLock hlocks rfl htype hsub ((doUnlock_owner hplain hentry howner rfl).trans ?_)
      simp only [Dev.passLock, hwaiters, addr_of_lock hentry]
      rfl
  case tryOdd => exact fun htype hsub => exec_fobLock_unaligned hhere rfl htype hsub hodd
  case unlockOdd => exact fun htype hsub => exec_fobLock_unaligned hhere rfl htype hsub hodd
  case abandon => exact exec_delivered hhere (isFob_true htype hsub) rfl rfl
  case event =>
    intro c g colour v
    have hwant : decide (p.ptype = ptEvent) = true := decide_eq_true htype
    have hin : ¬(!d.inMask c g) = true := by
      rw [Bool.not_eq_true, Bool.not_eq_false']
      exact hmask
    refine ⟨fun hoff => ?_, fun hon => ?_⟩
    · refine exec_delivered hhere hwant rfl ((if_neg hin).trans (if_pos ?_))
      rw [Bool.not_eq_true']
      exact hoff
    · refine exec_delivered hhere hwant rfl ((if_neg hin).trans (if_neg ?_))
      rw [Bool.not_eq_true, Bool.not_eq_false']
      exact hon
  case refuse =>
    intro n y hroom
    obtain ⟨hrefused, hrts⟩ := refuseStore_received (d := d) (k := n)
      (r := { tok := p.token, due := 0, count := 0, hub := false, src := clusterCell (portCluster port) }) rfl hroom
    exact ⟨_, exec_delivered hhere (decide_eq_true htype) rfl rfl, rfl, rfl, hrefused, hrts⟩

end Sys2Proof.Machine
end

section
/-! CENSUS and MGMT packets of other nodes (R223, R225, R368, R369): settles RemoteCensusAndManagementAreAnswered. -/

namespace Sys2Proof.Machine

open Sys2Proof.Claims

/-! ### What leaves the graphs as they are -/

theorem signal_frame (d : Dev) (fn : GraphId) (v : BitVec 5) (now : Bool) : FaultFrame d (d.signal fn v now) := by
  unfold Dev.signal
  extract_lets x y counted
  split
  · exact (setVector_frame ..).trans (msix_frame ..)
  · exact setVector_frame ..

theorem putCq_graphs (d : Dev) (r : BitVec 12) (tag : BitVec 32) (st : Byte) (ty : BitVec 4) (w : Word) (irq : Bool) :
    (d.putCq r tag st ty w irq).graphs = d.graphs := (signal_frame ..).graphs

theorem norouteFault_graphs (d : Dev) : d.norouteFault.graphs = d.graphs := (fault_frame ..).graphs

section
variable {p : FPacket} (htype : p.ptype = ptCensus)
include htype

/-- A CENSUS packet that ends without arriving takes nothing with it. -/
theorem loseFob_census (d : Dev) : d.loseFob p = d := by
  simp [Dev.loseFob, htype, ptCensus, ptToken, ptRefuse, ptLockGrant, ptEvent]

theorem trySend_census_graphs (d : Dev) : (d.trySend p).1.graphs = d.graphs := by
  unfold Dev.trySend
  split
  · rfl
  · rfl
  · rw [loseFob_census htype]
    split
    · exact norouteFault_graphs d
    · rfl

theorem sendFob_census_graphs (d : Dev) : (d.sendFob p).graphs = d.graphs := by
  have hreq : p.isRequest = false := by
    simp [FPacket.isRequest, htype, ptCensus, ptMemRd, ptMemWr, ptAtomic, ptLockReq, ptLockRel, ptMgmtRd, ptMgmtWr, ptRoute,
      ptIsolate]
  have htry := trySend_census_graphs htype d
  unfold Dev.sendFob
  split
  case h_1 heq => rwa [heq] at htry
  case h_2 heq =>
    rw [heq] at htry
    rw [hreq]
    exact htry

theorem sendFromHub_census_graphs (d : Dev) (inp : Nat) : (d.sendFromHub inp (.fob p)).graphs = d.graphs := by
  unfold Dev.sendFromHub Dev.sendStaged
  split
  · rfl
  · exact sendFob_census_graphs htype d
  · rw [Dev.absorbPacket, Dev.losePacket, loseFob_census htype]
    split
    · exact norouteFault_graphs d
    · rfl

end

theorem toChildren_graphs (d : Dev) (g : GraphId) (x : Graph) (op : BitVec 2) : (d.toChildren g x op).graphs = d.graphs := by
  unfold Dev.toChildren
  generalize x.children d.fbn.nodeId = ns
  induction ns generalizing d with
  | nil => rfl
  | cons n ns ih => exact (ih _).trans (sendFromHub_census_graphs rfl d hubMgt)

theorem graph_congr {d e : Dev} (h : e.graphs = d.graphs) (g : GraphId) : e.graph g = d.graph g := by rw [Dev.graph, h, Dev.graph]

/-! ### A run is declared complete (R223) -/

section
variable {d : Dev} {g : GraphId} {x : Graph}

theorem notice_graph (hg : d.graph g = some x) (n : Notice) : ∃ ns, (d.notice g n).graph g = some { x with notices := ns } := by
  unfold Dev.notice
  rw [hg]
  dsimp only
  split
  · exact ⟨x.notices, hg⟩
  · split
    · exact ⟨_, Dev.graph_setGraph_self ..⟩
    · exact ⟨x.notices, (graph_congr (putCq_graphs ..) g).trans hg⟩

theorem endRun_graph (hg : d.graph g = some x) (st : Byte) :
    ∃ ns, (d.endRun g st).graph g = some { x with running := false, notices := ns } := by
  unfold Dev.endRun
  rw [hg]
  dsimp only
  split
  case isTrue => exact notice_graph (Dev.graph_setGraph_self ..) _
  case isFalse hidle =>
    refine ⟨x.notices, hg.trans ?_⟩
    rw [← Bool.eq_false_iff.mpr hidle]

theorem startFresh_stays (hg : d.graph g = some x) (hfresh : x.fresh = false) : (d.startFresh g).graph g = some x := by
  unfold Dev.startFresh Dev.modGraph
  rw [hg]
  exact (Dev.graph_setGraph_self ..).trans (congrArg some (if_neg (by simp [hfresh])))

theorem tryRelease_stays (hg : d.graph g = some x) (hload : x.unloading = none) : d.tryRelease g = d := by
  simp only [Dev.tryRelease, hg, hload]

/-- DONE ends the run, and no other begins unless an INJECT came since; the slot stays. -/
theorem declare_graph (hfresh : x.fresh = false) (hload : x.unloading = none) :
    ∃ ns, (d.declare g x).graph g = some { x with complete := true, running := false, notices := ns } := by
  obtain ⟨ns, hends⟩ := endRun_graph (d := d.setGraph g { x with complete := true }) (Dev.graph_setGraph_self ..) stOk
  let ended := ((d.setGraph g { x with complete := true }).endRun g stOk).drainEnd g
  have hstays := startFresh_stays ((graph_congr (toChildren_graphs ended g x 2) g).trans hends) hfresh
  exact ⟨ns, by rwa [Dev.declare, tryRelease_stays hstays hload]⟩

end

/-! ### A delivered packet and a command of the hub -/

theorem exec_hub_delivered {s : State} {c : Instr} {p : FPacket} {want : FPacket → Bool} {f : Dev → Dev} {e : Dev}
    (hhub : s.dev.hubRuns = true) (hhere : s.dev.fbn.delivered.contains p = true) (hwant : want p = true)
    (hexec : exec c s = onHub (fun d => d.onFob p want f) s) (hf : f (withoutFob s.dev p) = e) :
    exec c s = .next { s with dev := e } :=
  hexec.trans (onHub_next hhub ((onFob_delivered hwant hhere).trans hf))

/-! ### CENSUS (R225, R368) -/

section
variable {s : State} {c : Instr} {p : FPacket} {op : Nat} {f : GraphId → Graph → Dev → Dev} {x : Graph} {e : Dev}

theorem exec_census (hhub : s.dev.hubRuns = true) (hhere : s.dev.fbn.delivered.contains p = true) (htype : p.ptype = ptCensus)
    (hg : s.dev.graph (pGraph p) = some x) (hop : pOp p = op) (hexec : exec c s = onHub (fun d => d.onCensus p op f) s)
    (hf : f (pGraph p) x (withoutFob s.dev p) = e) : exec c s = .next { s with dev := e } := by
  refine exec_hub_delivered hhub hhere (by simp [htype, hop]) hexec ?_
  have hg' : (withoutFob s.dev p).graph (pGraph p) = some x := hg
  rw [hg']
  exact hf

end

/-! ### Management requests (R369) -/

section
variable {d : Dev} {p : FPacket}

theorem identity_reserved {off : Nat} (h : 0x10 ≤ off) : d.identity off = 0 := by
  obtain ⟨k, rfl⟩ := Nat.exists_eq_add_of_le' h
  rfl

theorem mgmtStatus_unaligned (h : mOffset p % (if mW64 p then 8 else 4) ≠ 0) : d.mgmtStatus p = some stUnaligned := by
  simp [Dev.mgmtStatus, firstFailing, h]

theorem mgmtStatus_denied (halign : mOffset p % (if mW64 p then 8 else 4) = 0) (h : d.mgmtAllowed p = false) :
    d.mgmtStatus p = some stNoAccess := by
  simp [Dev.mgmtStatus, firstFailing, halign, h]

theorem mgmtStatus_passes (halign : mOffset p % 4 = 0) (hnarrow : mW64 p = false) (h : d.mgmtAllowed p = true)
    (hrange : mOffset p < 0x4000000) : d.mgmtStatus p = none := by
  simp [Dev.mgmtStatus, firstFailing, halign, hnarrow, h, Nat.not_le.mpr hrange]

end

/-- Settles O49: the graph that a CENSUS packet names is loaded; SPACE and the checks of its kind decide what a management request
is answered. -/
theorem remoteCensusAndManagementAreAnswered : Obligations.RemoteCensusAndManagementAreAnswered := by
  intro s p hhub hhere d becomes
  refine ⟨fun x htype hg => ?census, fun htype => ?read, fun htype => ?write⟩
  case census =>
    intro g
    refine ⟨fun hop => ?wave, ?sums, fun hop hfresh hload => ?done⟩
    case wave => exact exec_census hhub hhere htype hg hop rfl rfl
    case sums =>
      intro w hop hwave hnumber hchild hnew sums below w'
      refine exec_census hhub hhere htype hg hop rfl ?_
      have hchild' : (x.children (withoutFob s.dev p).fbn.nodeId).contains (pSrc p) = true := hchild
      have hfirst : (w.childs.any fun a => decide (a.1 = pSrc p)) = false :=
        List.any_eq_false.mpr fun a ha => by simpa using hnew a ha
      rw [hwave]
      refine if_neg ?_
      rw [hnumber, hchild', hfirst]
      simp
    case done =>
      obtain ⟨ns, hends⟩ := declare_graph (d := d) (g := g) hfresh hload
      exact ⟨_, exec_census hhub hhere htype hg hop rfl rfl, rfl, rfl, _, hends, rfl, rfl, rfl, rfl⟩
  case read =>
    have reads {f : Dev → Dev} {e : Dev}
        (hexec : exec (.mgmtRd p) s = onHub (fun d => d.onFob p (fun p => p.ptype = ptMgmtRd) f) s) (hf : f d = e) :
        becomes (.mgmtRd p) e := exec_hub_delivered hhub hhere (decide_eq_true htype) hexec hf
    refine ⟨fun hspace hnarrow => ?identity, fun hspace => ?none, fun hspace halign hdenied => ?denied,
      fun hspace hodd => ?unaligned, ?register⟩
    case identity =>
      have answers {v : Reg} (h : d.identity (mOffset p) = v) : becomes (.mgmtRd p) (d.answerFob p stOk 0 [(0 : Reg) ++ v]) := by
        refine reads rfl ?_
        simp only [hspace, hnarrow, h]
        rfl
      exact ⟨fun h => answers (v := 0x1D9C7A18) (congrArg d.identity h),
        fun h => answers (v := 0x00400207) (congrArg d.identity h), fun h => answers (v := 98304) (congrArg d.identity h),
        fun h => answers (identity_reserved h)⟩
    case none =>
      obtain ⟨n, hn⟩ := Nat.exists_eq_add_of_le' hspace
      refine reads rfl ?_
      rw [hn]
      rfl
    case denied =>
      refine reads rfl ?_
      rw [hspace]
      dsimp only
      rw [mgmtStatus_denied (d := d) halign hdenied]
      rfl
    case unaligned =>
      refine reads rfl ?_
      rw [hspace]
      dsimp only
      rw [mgmtStatus_unaligned hodd]
      rfl
    case register =>
      intro hspace hallowed hrange halign hnarrow x hok
      refine reads rfl ?_
      rw [hspace]
      dsimp only
      rw [mgmtStatus_passes (d := d) halign hnarrow hallowed hrange, hnarrow]
      refine (if_neg Bool.false_ne_true).trans ?_
      change x.1.answerFob p x.2.2 0 (if x.2.2 = stOk then [x.2.1.setWidth 64] else []) = _
      rw [hok, if_pos rfl]
  case write =>
    have writes {f : Dev → Dev} {e : Dev}
        (hexec : exec (.mgmtWr p) s = onHub (fun d => d.onFob p (fun p => p.ptype = ptMgmtWr) f) s) (hf : f d = e) :
        becomes (.mgmtWr p) e := exec_hub_delivered hhub hhere (decide_eq_true htype) hexec hf
    refine ⟨fun hspace => ?identity, fun hspace => ?none, ?register⟩
    case identity =>
      refine writes rfl ?_
      rw [hspace]
      rfl
    case none =>
      obtain ⟨n, hn⟩ := Nat.exists_eq_add_of_le' hspace
      refine writes rfl ?_
      rw [hn]
      rfl
    case register =>
      intro hspace hallowed hrange halign hnarrow x
      refine writes rfl ?_
      rw [hspace]
      dsimp only
      rw [mgmtStatus_passes (d := d) halign hnarrow hallowed hrange, hnarrow]
      rfl

end Sys2Proof.Machine
end

section
/-! The domain that a command acts in: which commands can stop, which touch HBM, and what a freeze holds. Settles
StepRunsFrontCommand, ResetHbmFormAndQueue, CommandsStopOnlyForNoRequester, OnlyStoresChangeHbm, HbmFormKept and
FreezeHoldsItsScope. -/

namespace Sys2Proof.Machine

open Sys2Proof.Claims

/-! ### Domains -/

/-- The domain of the device that a command acts in: it decides what stops the command. -/
inductive Domain where
  | dies | mem | hub | always | supply | access

/-- The access that a command of the register bus is (R386, R411). -/
def accessOf (c : Instr) : Option HostTlp :=
  match c with
  | .sqtailDoorbell req r v => some (bar2Write req (64 * r.toNat) v)
  | .cqheadDoorbell req r v => some (bar2Write req (64 * r.toNat + 4) v)
  | .oheadDoorbell req o v => some (bar2Write req (0x40000 + 64 * o.toNat) v)
  | .wakeGo req v => some (regWrite req rWake v)
  | .ringEnable req ring v | .ringDisable req ring v => some (regWrite req (ringCfg ring) v)
  | .fltAck req v => some (regWrite req rFltAck v)
  | .frzctlFreeze req v | .frzctlResume req v => some (regWrite req rFrzctl v)
  | .cellReset req v | .clusterReset req v => some (regWrite req rUnitrst v)
  | .injcmdGo req c v => some (regWrite req (rInjcmd c.toNat) v)
  | .accdataWrite req c v => some (regWrite8 req (rAccdata c.toNat) v)
  | .evtdataWrite req c v => some (regWrite8 req (rEvtdata c.toNat) v)
  | .routectlFlip req v => some (regWrite req rRoutectl v)
  | .rollctlGo req v => some (regWrite req rRollctl v)
  | .fflip req v => some (regWrite req rFlipctl v)
  | .nodeIsolate req v | .nodeRelease req v => some (regWrite req rIsodata v)
  | .nodeIdWrite req v => some (regWrite req rNodeId v)
  | .linkEnable req p v | .linkDisable req p v => some (regWrite req (rFbp p.toNat) v)
  | .cmdRetrain req p v | .cmdRestart req p v => some (regWrite req (rFbpCmd p.toNat) v)
  | .traceClear req v => some (regWrite req rTrctl v)
  | .accCountClear req off v | .statusClear req off v | .regWriteLowHalf req off v => some (regWrite req off v)
  | .statusClearOnRead req off => some (.read req .bar0 off 4)
  | .regReadLowHalf req r => some (.read req r.space r.off r.size)
  | .registerWrite req a => some (.write req a)
  | _ => none

/-- The domain of each command. -/
def domainOf (c : Instr) : Domain :=
  match c with
  | .controllerRead .. | .controllerWrite .. | .controllerAtomic .. | .controllerLds .. | .controllerSts .. | .regionInitDone
  | .hbmScrub .. | .hbmwr .. | .sclear .. | .memRd .. | .memWr .. | .atomicAadd .. | .atomicAxchg .. | .atomicAcas ..
  | .atomicAmin .. | .atomicAmax .. | .atomicAand .. | .atomicAor .. => .mem
  | .initiatorTimeout .. | .outputEntryWrite .. | .waveStart .. | .waveAbandon .. | .hubForward .. | .routeBankRetire
  | .rollCallAuto | .rollProbeTimeout | .censusWave .. | .censusSums .. | .censusDone .. | .mgmtRd .. | .mgmtWr ..
  | .hostMemRequest .. | .descriptorFetch .. | .assignRingPairs .. | .assignOutputRings .. | .assignCells ..
  | .assignHbmWindow .. | .fwpatch .. | .nvstoreRead .. | .nvstoreWrite .. | .doorbellPoll .. | .noticeWriteHeld ..
  | .msixTime .. | .governorSample .. | .governorRelease .. | .overcurrentComparator | .thermalStep ..
  | .thermalRelease .. | .tempHigh .. | .conv .. | .mgtWdog .. | .hostWriteFailed | .hbmThermalThrottle .. => .hub
  | .enumFrame .. | .enumSlot0Timeout | .enumOutFrame | .functionLevelReset .. | .perstN | .hotReset | .vfEnableClear ..
  | .freezeNLow | .freezeNHigh | .pclkLoss | .pclkRestored | .fclkLoss | .fclkRestored | .ovloRise | .thermalShutdown ..
  | .pclkArrival .. | .sensor .. | .extest | .samplePreload .. | .idcode | .tapFreeze | .tapResume | .rosel .. | .rodata ..
  | .ijtag .. | .bypass | .trstN | .entdaa .. | .rstdaa | .setdasa .. | .setnewda .. | .enec | .disec | .getpid | .getbcr
  | .getdcr | .getstatus | .setmrl .. | .getmrl | .i3cPointerWrite .. | .i3cTelemetryRead .. => .always
  | .mrstN .. | .powerOn .. | .uvloFall | .ovloFall .. | .escalationStage3 .. => .supply
  | .sqtailDoorbell .. | .cqheadDoorbell .. | .oheadDoorbell .. | .wakeGo .. | .ringEnable .. | .ringDisable ..
  | .fltAck .. | .frzctlFreeze .. | .frzctlResume .. | .cellReset .. | .clusterReset .. | .injcmdGo ..
  | .accdataWrite .. | .evtdataWrite .. | .routectlFlip .. | .rollctlGo .. | .fflip .. | .nodeIsolate ..
  | .nodeRelease .. | .nodeIdWrite .. | .linkEnable .. | .linkDisable .. | .cmdRetrain .. | .cmdRestart ..
  | .traceClear .. | .accCountClear .. | .statusClear .. | .statusClearOnRead .. | .regWriteLowHalf ..
  | .regReadLowHalf .. | .registerWrite .. => .access
  | _ => .dies

/-- How a command runs in each domain. -/
def RunsIn (c : Instr) (s : State) : Domain → Prop
  | .dies => ∃ f, exec c s = onDies f s
  | .mem => ∃ f, exec c s = onMem f s
  | .hub => ∃ f, exec c s = onHub f s
  | .always => ∃ f, exec c s = onAlways f s
  | .supply => ∃ f, exec c s = onSupply f s
  | .access => ∃ x, accessOf c = some x

/-- Every command runs as its domain does: each arm of exec is one of the six ways to run a meaning. -/
theorem exec_runsIn (c : Instr) (s : State) : RunsIn c s (domainOf c) := by
  cases c
  case uvloFall => exact ⟨fun _ d => uvloFall d, rfl⟩
  case sensor n reading =>
    exact ⟨fun d => if d.pwr.off then restReading n reading d else if d.hubRuns then sensorReading n reading d else d, rfl⟩
  case freezeNHigh => exact ⟨fun d => (freezeHigh d).drainTlps, rfl⟩
  case pclkRestored => exact ⟨fun d => (pclkRestored d).drainTlps, rfl⟩
  all_goals exact ⟨_, rfl⟩

section
variable {c : Instr} {x : HostTlp} (h : accessOf c = some x)
include h

theorem exec_of_accessOf (s : State) : exec c s = onAccess x s := by
  cases c <;> cases h <;> rfl

theorem requester_of_accessOf : c.requester = some x.req := by
  cases c <;> cases h <;> rfl

/-- A well-formed access names a requester that its space has (R411, R386). -/
theorem req_le_top_of_wf (hw : c.wf = true) : x.req.toNat ≤ x.top := by
  cases c <;> cases h
  case regReadLowHalf req r =>
    by_cases hbar : r.space = .bar0 <;> simp [Instr.wf, HostTlp.req, HostTlp.top, HostTlp.space, hbar] at hw ⊢ <;> omega
  case registerWrite req a =>
    by_cases hbar : a.space = .bar0 <;> simp [Instr.wf, HostTlp.req, HostTlp.top, HostTlp.space, hbar] at hw ⊢ <;> omega
  all_goals
    simp [Instr.wf] at hw
    simp [HostTlp.req, HostTlp.top, HostTlp.space, regWrite, regWrite8, bar2Write]
    omega

end

/-! ### What a command can stop for -/

theorem exec_next_or_refused (c : Instr) (s : State) :
    (∃ t, exec c s = .next t) ∨
      exec c s = .refused .noSuchRequester ∧ ∃ x, accessOf c = some x ∧ x.top < x.req.toNat := by
  have hruns := exec_runsIn c s
  cases hdom : domainOf c <;> rw [hdom] at hruns
  case access =>
    obtain ⟨x, hx⟩ := hruns
    rw [exec_of_accessOf hx]
    by_cases hreq : x.top < x.req.toNat
    · exact .inr ⟨if_pos hreq, x, hx, hreq⟩
    · exact .inl ⟨_, if_neg hreq⟩
  case mem =>
    obtain ⟨f, hf⟩ := hruns
    obtain ⟨h, d, hnext⟩ := onMem_next f s
    exact .inl ⟨_, hf.trans hnext⟩
  all_goals
    obtain ⟨f, hf⟩ := hruns
    exact .inl ⟨_, hf⟩

theorem HostTlp.le_top (x : HostTlp) : 63 ≤ x.top := by
  unfold HostTlp.top
  split <;> omega

/-- Settles O5: the only meaning that refuses is the access of a requester that its space does not have. -/
theorem commandsStopOnlyForNoRequester : Obligations.CommandsStopOnlyForNoRequester := by
  intro c s
  rcases exec_next_or_refused c s with hnext | ⟨hrefused, x, hx, hreq⟩
  · exact ⟨fun _ => hnext, .inl hnext⟩
  · exact ⟨fun hwf => absurd (req_le_top_of_wf hx hwf) (by omega),
      .inr ⟨hrefused, x.req, requester_of_accessOf hx, Nat.lt_of_le_of_lt x.le_top hreq⟩⟩

/-! ### What changes HBM -/

theorem onMem_keeps_hbm {f : Hbm → Dev → Hbm × Dev} {s t : State} (hf : ∀ h d, (f h d).1 = h) (e : onMem f s = .next t) :
    t.hbm = s.hbm := by
  unfold onMem at e
  split at e <;> cases e
  · rfl
  · exact hf ..

theorem controllerRead_hbm (k : DieId) (i : Nat) (u : Upset) (h : Hbm) (d : Dev) : (controllerRead k i u h d).1 = h := by
  unfold controllerRead
  split
  · rfl
  · dsimp only
    split <;> rfl

theorem onFobMem_hbm (p : FPacket) (want : FPacket → Bool) {f : Hbm → Dev → Hbm × Dev} (hf : ∀ h d, (f h d).1 = h) (h : Hbm)
    (d : Dev) : (onFobMem p want f h d).1 = h := by
  unfold onFobMem
  split
  · rfl
  · split
    · rfl
    · exact hf ..

theorem memRd_hbm (p : FPacket) (us : List Upset) (h : Hbm) (d : Dev) : (memRd p us h d).1 = h :=
  onFobMem_hbm _ _ (fun _ _ => rfl) h d

/-- Every command leaves the queue as it was, and one that does not store to HBM leaves HBM too. -/
theorem exec_keeps {c : Instr} {s t : State} (e : exec c s = .next t) :
    t.pending = s.pending ∧ (storesHbm c = false → t.hbm = s.hbm) := by
  have hruns := exec_runsIn c s
  cases hdom : domainOf c <;> rw [hdom] at hruns
  case mem =>
    obtain ⟨f, hf⟩ := hruns
    obtain ⟨h, d, hnext⟩ := onMem_next f s
    refine ⟨by cases e.symm.trans (hf.trans hnext); rfl, fun hstores => ?_⟩
    cases c <;> cases hdom <;> cases hstores
    case controllerRead k i u => exact onMem_keeps_hbm (controllerRead_hbm k i u) e
    case memRd p us => exact onMem_keeps_hbm (memRd_hbm p us) e
  case supply =>
    obtain ⟨f, hf⟩ := hruns
    refine ⟨by cases e.symm.trans hf; rfl, fun hstores => ?_⟩
    cases c <;> cases hdom <;> cases hstores
  case access =>
    obtain ⟨x, hx⟩ := hruns
    obtain ⟨hpending, hhbm⟩ := (onAccess_devOnly x s).keeps ((exec_of_accessOf hx s).symm.trans e)
    exact ⟨hpending, fun _ => hhbm⟩
  all_goals
    obtain ⟨f, hf⟩ := hruns
    cases e.symm.trans hf
    exact ⟨rfl, fun _ => rfl⟩

/-- Settles O6: only the domains of memory and of the supply hand HBM to a meaning. -/
theorem onlyStoresChangeHbm : Obligations.OnlyStoresChangeHbm := fun _ _ _ => exec_keeps

/-! ### The canonical form of HBM -/

/-- Every store of HBM keeps the canonical form. -/
theorem exec_keeps_wf {c : Instr} {s t : State} (w : s.hbm.wf = true) (e : exec c s = .next t) : t.hbm.wf = true := by
  cases hstores : storesHbm c
  case false => rwa [(exec_keeps e).2 hstores]
  case true =>
    cases c <;> cases hstores
    case controllerWrite k i u => exact onMem_wf (controllerWrite_wf k i u) w e
    case controllerAtomic k i u => exact onMem_wf (controllerAtomic_wf k i u) w e
    case controllerLds k i pres u => exact onMem_wf (controllerLds_wf k i pres u) w e
    case controllerSts k i pres => exact onMem_wf (controllerSts_wf k i pres) w e
    case regionInitDone => exact onMem_wf regionInitDone_wf w e
    case hbmScrub k u => exact onMem_wf (hbmScrub_wf k u) w e
    case memWr p u => exact onMem_wf (memWr_wf p u) w e
    case atomicAadd p u => exact onMem_wf (fobAtomic_wf _ _ p u) w e
    case atomicAxchg p u => exact onMem_wf (fobAtomic_wf _ _ p u) w e
    case atomicAcas p u => exact onMem_wf (fobAtomic_wf _ _ p u) w e
    case atomicAmin p u => exact onMem_wf (fobAtomic_wf _ _ p u) w e
    case atomicAmax p u => exact onMem_wf (fobAtomic_wf _ _ p u) w e
    case atomicAand p u => exact onMem_wf (fobAtomic_wf _ _ p u) w e
    case atomicAor p u => exact onMem_wf (fobAtomic_wf _ _ p u) w e
    case hbmwr r k data => exact onMem_wf (hbmwr_wf r k data) w e
    case sclear r k => exact onMem_wf (sclear_wf r k) w e
    case mrstN st => exact onSupply_wf (mrst_wf st) w e
    case powerOn st => exact onSupply_wf (powerOn_wf st) w e
    case uvloFall => exact onSupply_wf (f := fun _ d => uvloFall d) (fun _ _ _ => hbmEmpty_wf) w e
    case ovloFall st => exact onSupply_wf (ovloFall_wf st) w e
    case escalationStage3 st => exact onSupply_wf (stage3_wf st) w e

/-- Settles O3: a step either lets time pass, which leaves HBM, or executes a command, which keeps the form. -/
theorem hbmFormKept : Obligations.HbmFormKept := by
  intro s t w hstep
  cases hpending : s.pending with
  | nil =>
    cases hstep.symm.trans (step_nil hpending)
    exact w
  | cons c rest => exact exec_keeps_wf (s := { s with pending := rest }) w ((step_cons hpending).symm.trans hstep)

/-- Settles O1. -/
theorem stepRunsFrontCommand : Obligations.StepRunsFrontCommand := fun _ _ _ => step_cons rfl

/-- Settles O4: at reset the three tables of HBM are empty. -/
theorem resetHbmFormAndQueue : Obligations.ResetHbmFormAndQueue := ⟨rfl, hbmEmpty_wf, fun _ => ⟨rfl, rfl, rfl⟩⟩

/-! ### What a freeze holds -/

/-- The domains that stand still with the compute dies. -/
def Domain.isOfDies : Domain → Bool
  | .dies | .mem => true
  | _ => false

def Domain.isHub : Domain → Bool
  | .hub => true
  | _ => false

def Domain.isAccess : Domain → Bool
  | .access => true
  | _ => false

theorem ofDies_eq_isOfDies (c : Instr) : ofDies c = (domainOf c).isOfDies := by
  cases c <;> rfl

theorem ofHub_eq_isHub (c : Instr) : ofHub c = (domainOf c).isHub := by
  cases c <;> rfl

theorem ofHost_eq_isAccess (c : Instr) : ofHost c = (domainOf c).isAccess := by
  cases c <;> rfl

/-- While the dies stand still a command of theirs leaves the state. -/
theorem exec_ofDies_still {c : Instr} {s : State} (hc : ofDies c = true) (h : s.dev.diesStop = true) : exec c s = .next s := by
  have hruns := exec_runsIn c s
  rw [ofDies_eq_isOfDies] at hc
  cases hdom : domainOf c <;> rw [hdom] at hruns hc <;> cases hc <;> obtain ⟨f, hf⟩ := hruns
  case dies => exact hf.trans (onDies_still f h)
  case mem => exact hf.trans (onMem_still f h)

/-- While the hub stands still a command of its own leaves the state. -/
theorem exec_ofHub_still {c : Instr} {s : State} (hc : ofHub c = true) (h : s.dev.hubRuns = false) : exec c s = .next s := by
  have hruns := exec_runsIn c s
  rw [ofHub_eq_isHub] at hc
  cases hdom : domainOf c <;> rw [hdom] at hruns hc <;> cases hc
  obtain ⟨f, hf⟩ := hruns
  exact hf.trans (onHub_still f h)

/-- While the hub stands still an access waits in the queue of TLPs or has no effect (R387). -/
theorem exec_ofHost_held {c : Instr} {s : State} (hc : ofHost c = true) (hwf : c.wf = true) (h : s.dev.hubRuns = false) :
    ∃ l, exec c s = .next { s with dev := { s.dev with hif := { s.dev.hif with tlps := l } } } ∧
      (l = s.dev.hif.tlps ∨ s.dev.hif.tlps.length < 128 ∧ ∃ t : HostTlp, t.req.toNat < 64 ∧ l = s.dev.hif.tlps ++ [t]) := by
  have hruns := exec_runsIn c s
  rw [ofHost_eq_isAccess] at hc
  cases hdom : domainOf c <;> rw [hdom] at hruns hc <;> cases hc
  obtain ⟨x, hx⟩ := hruns
  have hacts : onAccess x s = .next { s with dev := s.dev.hostAccess x } :=
    if_neg (Nat.not_lt.mpr (req_le_top_of_wf hx hwf))
  rw [exec_of_accessOf hx, hacts]
  rcases hostAccess_held x h with ⟨hroom, hreq, hheld⟩ | hrests
  · exact ⟨_, by rw [hheld], .inr ⟨hroom, x, hreq, rfl⟩⟩
  · exact ⟨s.dev.hif.tlps, by rw [hrests], .inl rfl⟩

theorem hubRuns_of_frozen {d : Dev} (hfrozen : d.frozen = true) (h : d.fld rFrzcfg 0 2 ≠ 1 ∨ d.flt.clockLatch = true) :
    d.hubRuns = false := by
  rcases h with hscope | hlatch
  · simp [Dev.hubRuns, Dev.hubScope, hfrozen, hscope]
  · simp [Dev.hubRuns, hfrozen, hlatch]

/-- Settles O7: a freeze stops the dies and, in scope 0 or after a loss of PCLK, the hub. -/
theorem freezeHoldsItsScope : Obligations.FreezeHoldsItsScope := by
  refine ⟨fun c s hc hstop => exec_ofDies_still hc ?_,
    fun c s hc _ hfrozen hscope => exec_ofHub_still hc (hubRuns_of_frozen hfrozen hscope),
    fun c s hc hwf hfrozen hscope => exec_ofHost_held hc hwf (hubRuns_of_frozen hfrozen hscope),
    fun d key b source units causes hfrozen => ⟨if_pos hfrozen, if_pos hfrozen⟩⟩
  rcases hstop with h | h | h | h <;> simp [Dev.diesStop, Dev.frozen, h]

end Sys2Proof.Machine
end

section
/-! Doorbells in BAR2 and in host memory (R386, R392, R393, R429): settles DoorbellsMoveIndexes. -/

namespace Sys2Proof.Machine

open Sys2Proof.Claims

/-! ### Doorbells of BAR2 -/

theorem ofNat_mul_div (n : Nat) {k : Nat} (hk : 0 < k) (x : BitVec n) : BitVec.ofNat n (k * x.toNat / k) = x := by
  rw [Nat.mul_div_cancel_left _ hk, BitVec.ofNat_toNat, BitVec.setWidth_eq]

section
variable (r : BitVec 12) (o : BitVec 10)

theorem pageRing_pair {off : Nat} (hoff : off / 64 = r.toNat) : pageRing off = some (.pair r) := by
  have hr := r.isLt
  rw [pageRing, if_pos (by omega), hoff, BitVec.ofNat_toNat, BitVec.setWidth_eq]

theorem pageRing_output : pageRing (0x40000 + 64 * o.toNat) = some (.output o) := by
  have ho := o.isLt
  rw [pageRing, if_neg (by omega), if_pos (by omega), Nat.add_sub_cancel_left, ofNat_mul_div 10 (by decide)]

theorem doorbellAt_sqtail : doorbellAt (64 * r.toNat) = some (.pair r, false) := by
  have hr := r.isLt
  rw [doorbellAt, if_pos (by omega), if_pos (by omega), ofNat_mul_div 12 (by decide)]

theorem doorbellAt_cqhead : doorbellAt (64 * r.toNat + 4) = some (.pair r, true) := by
  have hr := r.isLt
  rw [doorbellAt, if_pos (by omega), if_neg (by omega), if_pos (by omega), show (64 * r.toNat + 4) / 64 = r.toNat by omega,
    BitVec.ofNat_toNat, BitVec.setWidth_eq]

theorem doorbellAt_ohead : doorbellAt (0x40000 + 64 * o.toNat) = some (.output o, false) := by
  have ho := o.isLt
  rw [doorbellAt, if_neg (by omega), if_pos (by omega), if_pos (by omega), Nat.add_sub_cancel_left, ofNat_mul_div 10 (by decide)]

end

section
variable {s : State} {req : Requester} {off : Nat} {v : Reg} {ring : RingName}

theorem reqFn_eq_iff {g : GraphId} (hreq : req.toNat < 64) : reqFn req = g ↔ g.toNat = req.toNat := by
  rw [reqFn, if_pos hreq, ← BitVec.toNat_inj, BitVec.toNat_setWidth, Nat.mod_eq_of_lt hreq, eq_comm]

theorem reqFn_toNat (hreq : req.toNat < 64) : (reqFn req).toNat = req.toNat := (reqFn_eq_iff hreq).mp rfl

/-- A 4-byte write of BAR2 is one unit. -/
theorem exec_bar2Write (hhub : s.dev.hubRuns = true) (hreq : req.toNat < 64) (hoff : off % 4 = 0) :
    onAccess (bar2Write req off v) s = .next { s with dev := (s.dev.write2At req off v).1 } := by
  have hform : formRefusal off 4 true = none := by simp [firstFailing_eq_none_iff, formRefusal, hoff]
  have hwords : Access.words { space := .bar2, off := off, size := 4, data := [v], fullBe := true } = [v] := by
    simp [Access.words]
  rw [onAccess_acts (bar2Write req off v) hhub hreq]
  simp only [Dev.performTlp, bar2Write, Dev.write2, hform, hwords, Dev.write2Units]

/-- A function rings the doorbell of a ring of its own. -/
theorem write2At_rings {d : Dev} {cq : Bool} (hbell : doorbellAt off = some (ring, cq)) (hpage : pageRing off = some ring)
    (h : Doorbell d req.toNat (d.ringFn ring) (d.ringEn ring) (d.ringEntries ring) v) :
    (d.write2At req off v).1 = d.ring ring cq (v.setWidth 16) := by
  obtain ⟨_, hready, hreq, hmine, hmmio, hon, hindex, hwidth⟩ := h
  have hown : d.foreignPage (reqFn req) off = false := by simp [Dev.foreignPage, hpage, (reqFn_eq_iff hreq).mpr hmine]
  have hmode : d.dbMode (reqFn req) = false := by simp [Dev.dbMode, reqFn_toNat hreq, hmmio]
  have hlow : nbits v 0 16 = v.toNat := by simpa [nbits] using Nat.mod_eq_of_lt hwidth
  have hhigh : nbits v 16 16 = 0 := by simp [nbits, Nat.shiftRight_eq_div_pow, Nat.div_eq_of_lt hwidth]
  have hpass : d.bar2Status (reqFn req) off v = none := by
    simp [Dev.bar2Status, hready, hown, hbell, firstFailing, hmode, hhigh, hlow, hon, Nat.not_le.mpr hindex]
  simp [Dev.write2At, hpass, hbell]

/-- The doorbell of another function's ring is refused (R386). -/
theorem write2At_foreign {d : Dev} (hready : d.mgt.ready = true) (hpage : pageRing off = some ring)
    (hforeign : d.ringFn ring ≠ reqFn req) :
    (d.write2At req off v).1 = d.record_ { req := req, bar2 := true, w64 := false } stNoAccess true off v := by
  have hfails : d.bar2Status (reqFn req) off v = some stNoAccess := by
    simp [Dev.bar2Status, hready, Dev.foreignPage, hpage, hforeign]
  simp [Dev.write2At, hfails, Dev.refuse]

end

theorem log_record_self (d : Dev) (a : Acss) (code : Byte) (wr : Bool) (off : Nat) (data : Reg) :
    (d.record_ a code wr off data).log a.req.toNat =
      { last := a.last code wr, offset := BitVec.ofNat 32 off, data := data
        count := if (d.log a.req.toNat).count = BitVec.allOnes 32 then (d.log a.req.toNat).count
          else (d.log a.req.toNat).count + 1 } :=
  mget_mset_self ..

/-! ### Doorbells in host memory (R393) -/

section
variable {d : Dev} {fn : GraphId}

theorem doorbellRings_eq_nil (hpairs : ∀ r, d.pairEn r = true → d.pairFn r ≠ fn)
    (horings : ∀ o, d.oringEn o = true → d.oringFn o.toNat ≠ fn) : d.doorbellRings fn = [] := by
  rw [Dev.doorbellRings, List.append_eq_nil_iff, List.filterMap_eq_nil_iff, List.filterMap_eq_nil_iff]
  refine ⟨fun r _ => if_neg ?_, fun o _ => if_neg ?_⟩
  · simpa using hpairs _
  · simpa only [Bool.and_eq_true, decide_eq_true_eq, not_and] using horings _

theorem pollDue_iff : d.pollDue fn = true ↔ d.hif.wake.contains fn = true ∨
    ∀ t, mfind d.hif.polled fn.toNat = some t → t + 1000 * d.fld (rFncfg fn.toNat) 16 10 ≤ d.clock.run := by
  rw [Dev.pollDue, Bool.or_eq_true]
  refine or_congr Iff.rfl ?_
  cases mfind d.hif.polled fn.toNat <;> simp

theorem doorbellPoll_rests (h : d.dbMode fn = false ∨ d.pollDue fn = false) (reads : List HostData) :
    doorbellPoll fn reads d = d := if_pos (by simpa using h)

theorem doorbellPoll_polls (hmode : d.dbMode fn = true) (hdue : d.pollDue fn = true) (hnone : d.doorbellRings fn = [])
    (reads : List HostData) : doorbellPoll fn reads d =
      { d with hif := { d.hif with
          wake := d.hif.wake.erase fn, polled := minsert d.hif.polled fn.toNat d.clock.run } } := by
  have hrings : Dev.doorbellRings { d with hif := { d.hif with
      wake := d.hif.wake.erase fn, polled := minsert d.hif.polled fn.toNat d.clock.run } } fn = [] := hnone
  rw [doorbellPoll, if_neg (by simp [hmode, hdue])]
  simp only [hrings, List.zip_nil_left, List.foldl_nil]

end

/-- Settles O30: a doorbell passes the checks of its page, or is another function's; a poll without an enabled ring reads nothing. -/
theorem doorbellsMoveIndexes : Obligations.DoorbellsMoveIndexes := by
  refine ⟨fun s req r v h => ⟨?sqtail, ?cqhead⟩, fun s req o v h => ?ohead, fun s req r v hhub hready hreq hforeign => ?foreign,
    fun s fn reads hhub => ⟨fun hmode => ?mmio, ?host⟩⟩
  case sqtail =>
    refine (exec_bar2Write h.hub h.function (by omega)).trans ?_
    rw [write2At_rings (ring := .pair r) (doorbellAt_sqtail r) (pageRing_pair r (by omega)) h]
    rfl
  case cqhead =>
    refine (exec_bar2Write h.hub h.function (by omega)).trans ?_
    rw [write2At_rings (ring := .pair r) (doorbellAt_cqhead r) (pageRing_pair r (by omega)) h]
    rfl
  case ohead =>
    refine (exec_bar2Write h.hub h.function (by omega)).trans ?_
    rw [write2At_rings (ring := .output o) (doorbellAt_ohead o) (pageRing_output o) h]
    rfl
  case foreign =>
    refine ⟨_, exec_bar2Write hhub hreq (by omega), rfl, ?_⟩
    have hring : s.dev.ringFn (.pair r) ≠ reqFn req := fun e => hforeign ((reqFn_eq_iff hreq).mp e.symm)
    rw [write2At_foreign hready (pageRing_pair r (by omega)) hring]
    refine ⟨⟨_, rfl⟩, ?_, ?_⟩ <;> rw [log_record_self (a := ⟨req, true, false⟩)]
    simp only [Acss.last, b2v, stNoAccess]
    ext i hi
    simp
  case mmio =>
    have hidle : s.dev.dbMode fn = false := by simp [Dev.dbMode, hmode]
    exact (onHub_acts _ hhub).trans (by rw [doorbellPoll_rests (.inl hidle)])
  case host =>
    intro hmode hpairs horings due
    refine ⟨fun hdue => (onHub_acts _ hhub).trans ?_, fun hearly => (onHub_acts _ hhub).trans ?_⟩
    · rw [doorbellPoll_polls (decide_eq_true hmode) (pollDue_iff.mpr hdue) (doorbellRings_eq_nil hpairs horings)]
      rfl
    · have hidle : s.dev.pollDue fn = false := Bool.eq_false_iff.mpr fun h => hearly (pollDue_iff.mp h)
      rw [doorbellPoll_rests (.inr hidle)]

end Sys2Proof.Machine
end

section
/-! Reads of registers, of doorbells and of configuration space, and the checks of register writes (R5, R384, R393, R414 to R416,
R422 to R430): settles HalfReadsUseTheLatch, ClearOnReadClears and RegisterWritesAreChecked. -/

namespace Sys2Proof.Machine

open Sys2Proof.Claims

/-! ### The access error log (R429, R435) -/

theorem last_bar0 (req : Requester) (code : Byte) (wr : Bool) :
    Acss.last ⟨req, false, false⟩ code wr = code ++ (0 : BitVec 7) ++ b2v wr ++ (0 : BitVec 9) ++ req := by
  ext i hi
  simp [Acss.last, b2v]
  grind

/-- A recording of a 4-byte access by BAR0 changes the log of its requester alone. -/
theorem log_record_bar0 (d : Dev) (req : Requester) (code : Byte) (wr : Bool) (off : Nat) (data : Reg) (n : Nat) :
    (d.record_ ⟨req, false, false⟩ code wr off data).log n =
      if n = req.toNat then logged (d.log n) req code (b2v wr) off data else d.log n := by
  refine (mget_mset ..).trans ?_
  split
  · next h => rw [h, last_bar0]; rfl
  · rfl

/-! ### What waking a cluster leaves (R306) -/

theorem wakeFor_tap (d : Dev) (off : Nat) : (d.wakeFor off).tap = d.tap := by
  unfold Dev.wakeFor
  split
  · dsimp only
    split <;> rfl
  · rfl

theorem wakeFor_statusReg (d : Dev) (off k : Nat) : (d.wakeFor off).statusReg k = d.statusReg k := by
  rw [Dev.statusReg, wakeFor_regs, ← Dev.statusReg]

theorem wakeFor_clearsOnRead (d : Dev) (off k : Nat) (r : RegSpec) : (d.wakeFor off).clearsOnRead k r = d.clearsOnRead k r := by
  rw [Dev.clearsOnRead, Dev.clearsOnRead, Dev.fld_congr (wakeFor_regs d off)]

theorem wakeFor_testBits (d : Dev) (off k : Nat) (r : RegSpec) : (d.wakeFor off).testBits k r = d.testBits k r := by
  rw [Dev.testBits, wakeFor_tap, ← Dev.testBits]

/-! ### A 4-byte read of BAR0 -/

section
variable {s : State} {d : Dev} {c : Instr} {req : Requester} {off low : Nat} {r : RegSpec}

theorem exec_of_isRead (h : IsRead c req off) : exec c s = onAccess (.read req .bar0 off 4) s := by
  rcases h with rfl | rfl <;> rfl

theorem exec_read (h : IsRead c req off) (hasks : Asks s.dev req off) :
    exec c s = .next { s with
      dev := Dev.emit (s.dev.read4 req off).1 (.regData req off [(s.dev.read4 req off).2.1]) } := by
  obtain ⟨hwho, hruns, hplace⟩ := hasks
  rw [exec_of_isRead h, onAccess_performs (x := .read req .bar0 off 4) hruns hwho]
  have hread : s.dev.read0 req off 4 = ((s.dev.read4 req off).1, [(s.dev.read4 req off).2.1]) := by
    simp [Dev.read0, hplace, Dev.readUnits]
  simp only [Dev.performTlp, hread]

/-- A register is seen by its requester, and its block is up (R410, R424). -/
def Visible (d : Dev) (req : Requester) (off : Nat) : Prop :=
  d.hidden req off = false ∧ (d.mgt.ready = true ∨ earlyBlock off = true)

theorem visible_iff : Visible d req off ↔ ((!d.mgt.ready && !earlyBlock off) || d.hidden req off) = false := by
  unfold Visible
  cases d.mgt.ready <;> cases earlyBlock off <;> simp

variable (hplace : off % 4 = 0)
include hplace

theorem read4_unseen (h : ¬Visible d req off) : d.read4 req off = (d, 0, stOk) := by
  rw [visible_iff, Bool.not_eq_false] at h
  rw [Dev.read4, if_neg (by omega), if_pos h]

theorem read4_fails {code : Byte} (h : Visible d req off) (hfails : d.readFails off = some code) :
    d.read4 req off = d.failRead ⟨req, false, false⟩ code off := by
  rw [Dev.read4, if_neg (by omega), if_neg (by simp [visible_iff.mp h])]
  simp only [hfails]

variable (h : Visible d req off) (hok : d.readFails off = none) (hwindow : isReadout off = false)
include h hok hwindow

theorem read4_narrow (hspec : regSpec off = some r) (hnarrow : r.wide = false) :
    d.read4 req off =
      (((d.wakeFor off).readWhole req off r).1, ((d.wakeFor off).readWhole req off r).2.setWidth 32, stOk) := by
  have hcover : regCover off = some (off, r) := by rw [regCover, hspec]
  rw [Dev.read4, if_neg (by omega), if_neg (by simp [visible_iff.mp h])]
  simp [hok, hwindow, hcover, hnarrow]

theorem read4_half (hcover : regCover off = some (low, r)) (hwide : r.wide = true) :
    d.read4 req off = (((d.wakeFor off).readHalf req low off r).1, ((d.wakeFor off).readHalf req low off r).2, stOk) := by
  rw [Dev.read4, if_neg (by omega), if_neg (by simp [visible_iff.mp h])]
  simp [hok, hwindow, hcover, hwide]

end

theorem regCover_high {low : Nat} {r : RegSpec} (hhigh : (low + 4) % 8 = 4) (hnone : regSpec (low + 4) = none)
    (hspec : regSpec low = some r) (hwide : r.wide = true) : regCover (low + 4) = some (low, r) := by
  simp [regCover, hnone, hhigh, hspec, hwide]

theorem bits_low_half (v : Word) : bits v 0 32 = v.setWidth 32 := by
  ext i hi
  simp [bits]

/-- Settles O57: a read of the low half leaves the high one in its requester's latch, and a read of the high half looks there. -/
theorem halfReadsUseTheLatch : Obligations.HalfReadsUseTheLatch := by
  intro s c req off low r hread hasks hseen hok hup hwindow hspec hwide d v
  have hplace := hasks.place
  refine ⟨fun hlow => ?low, fun hhigh hmod hnone => ?high⟩
  case low =>
    subst hlow
    have hcover : regCover off = some (off, r) := by rw [regCover, hspec]
    refine ⟨minsert d.regs.latch req.toNat (off, bits v 32 32), ?_, mfind_minsert_self .., fun k hk => ?_⟩
    case' refine_2 => rw [mfind_minsert_ne _ _ _ _ hk, wakeFor_regs]
    rw [exec_read hread hasks, read4_half hplace ⟨hseen, hup⟩ hok hwindow hcover hwide]
    simp only [Dev.readHalf, if_true, bits_low_half]
    rfl
  case high =>
    subst hhigh
    rw [exec_read hread hasks, read4_half hplace ⟨hseen, hup⟩ hok hwindow (regCover_high hmod hnone hspec hwide) hwide]
    simp only [Dev.readHalf, if_neg (show ¬low = low + 4 by omega), wakeFor_regs]
    cases mfind s.dev.regs.latch req.toNat <;> rfl

/-! ### Status registers, doorbells and configuration space read -/

/-- What clear-on-read leaves of a register of which every bit was returned (R427). -/
theorem clear_returned (x y : Reg) : x &&& ~~~((x ||| y) &&& 0x00FFFFFF) = x &&& 0xFF000000 := by
  have hmask : ∀ m : Reg, x &&& ~~~((x ||| y) &&& m) = x &&& ~~~m := by
    intro m
    ext i hi
    simp only [BitVec.getElem_and, BitVec.getElem_not, BitVec.getElem_or]
    cases x[i] <;> simp
  exact hmask _

theorem regVal_status {d : Dev} {req : Requester} {off : Nat} {r : RegSpec} (hstatus : r.isStatus = true) :
    d.regVal req off r = (d.statusReg off).setWidth 64 ||| d.testBits off r := if_pos hstatus

section
variable {d : Dev} {req : Requester} {off : Nat}

/-- What the doorbell of a ring reads: the tail or head that the device moves (R393). -/
def Dev.bellReads (d : Dev) (cq : Bool) : RingName → Reg
  | .pair r => if cq then (d.pair r).cqTail.setWidth 32 else (d.pair r).sqHead.setWidth 32
  | .output o => (d.oring o).oTail.setWidth 32

/-- A doorbell of a function's own ring reads. -/
theorem read2_doorbell {ring : RingName} {cq : Bool} (hready : d.mgt.ready = true) (hplace : off % 4 = 0)
    (hpage : pageRing off = some ring) (hown : d.ringFn ring = reqFn req) (hbell : doorbellAt off = some (ring, cq)) :
    d.read2 req off 4 = (d, [d.bellReads cq ring]) := by
  have hmine : d.foreignPage (reqFn req) off = false := by simp [Dev.foreignPage, hpage, hown]
  have hunit : d.read2At (reqFn req) off = d.bellReads cq ring := by
    rw [Dev.read2At, if_neg (by simp [hready, hmine]), hbell]
    cases ring <;> rfl
  simp [Dev.read2, hplace, hunit]

end

section
variable {s : State} {req : Requester}

/-- A 4-byte read of a space answers what the space reads. -/
theorem exec_regRead {d : Dev} {x : List Reg} {off : Nat} (hreq : req.toNat < 64) (hhub : s.dev.hubRuns = true)
    (hread : s.dev.read2 req off 4 = (d, x)) :
    exec (.regReadLowHalf req ⟨.bar2, off, 4⟩) s = .next { s with dev := d.emit (.regData req off x) } := by
  refine (onAccess_acts (.read req .bar2 off 4) hhub hreq).trans ?_
  simp only [Dev.performTlp, hread]

end

/-- Settles O58: a status register is returned with its test bits, and cleared where the mode says so; the other spaces answer data. -/
theorem clearOnReadClears : Obligations.ClearOnReadClears := by
  refine ⟨fun s c req off hread hasks => ?bar0, fun s req sp off size hreq hhub => ⟨?answers, ?identity⟩,
    fun s req hreq hhub hready => ⟨fun r hown => ⟨?sqhead, ?cqtail⟩, fun o hown => ?otail⟩⟩
  case bar0 =>
    intro seen
    have hplace := hasks.place
    have hexec := exec_read hread hasks
    refine ⟨?unseen, ?fails, ?status⟩
    case unseen =>
      intro hunseen
      rw [hexec, read4_unseen hplace hunseen]
    case fails =>
      intro code hseen hfails
      rw [hexec, read4_fails hplace hseen hfails]
      exact ⟨_, rfl, log_record_bar0 s.dev req code false off 0⟩
    case status =>
      intro r hseen hok hwindow hspec hstatus hnarrow d told
      have hvalue : ((s.dev.wakeFor off).regVal req off r).setWidth 32 = s.dev.statusReg off ||| (s.dev.testBits off r).setWidth 32 := by
        rw [regVal_status hstatus, wakeFor_statusReg, wakeFor_testBits]
        ext i hi
        simp
      rw [hexec, read4_narrow hplace hseen hok hwindow hspec hnarrow]
      simp only [Dev.readWhole, hvalue, wakeFor_clearsOnRead]
      refine ⟨fun hkeeps => by rw [hkeeps]; rfl, fun hclears => ?_⟩
      rw [hclears, if_pos rfl]
      refine ⟨_, rfl, ?_, fun k hk => ?_⟩
      · rw [mget_mset_self, wakeFor_statusReg, clear_returned]
      · exact (mget_mset_ne _ _ _ hk).trans (wakeFor_statusReg ..)
  case answers => exact ⟨_, _, onAccess_acts (.read req sp off size) hhub hreq⟩
  case identity =>
    refine (onAccess_acts (.read req .config 0 4) hhub hreq).trans ?_
    have hread : s.dev.configReg (reqFn req) 0 = if reqFn req = 0 then 0x7A181D9C else 0x7A191D9C := by
      simp only [Dev.configReg]
      split <;> rfl
    simp only [Dev.performTlp, ← hread]
    rfl
  case sqhead =>
    exact exec_regRead hreq hhub
      (read2_doorbell hready (by omega) (pageRing_pair r (by omega)) hown (doorbellAt_sqtail r))
  case cqtail =>
    exact exec_regRead hreq hhub
      (read2_doorbell hready (by omega) (pageRing_pair r (by omega)) hown (doorbellAt_cqhead r))
  case otail =>
    exact exec_regRead hreq hhub
      (read2_doorbell hready (by omega) (pageRing_output o) hown (doorbellAt_ohead o))

/-! ### The stage of a requester (R415) -/

theorem mfind_merase_other {α : Type} {i j : Nat} (hj : j ≠ i) : ∀ m : Map α, mfind (merase m i) j = mfind m j
  | [] => rfl
  | (k, v) :: m => by
    by_cases hbefore : i < k
    · rw [merase, if_pos hbefore]
    by_cases hhere : k = i
    · rw [merase, if_neg hbefore, if_pos hhere, mfind, if_neg (by omega)]
      split
      · exact mfind_mdrop_below i j (by omega) m
      · exact mfind_mdrop_above i j (by omega) m
    · rw [merase, if_neg hbefore, if_neg hhere]
      simp only [mfind, mfind_merase_other hj m]

theorem mfind_merase {α : Type} (m : Map α) (i j : Nat) : mfind (merase m i) j = if j = i then none else mfind m j := by
  split
  · next h => rw [h, mfind_merase_self]
  · next h => exact mfind_merase_other h m

/-! ### What a 4-byte write does -/

section
variable {s : State} {d : Dev} {c : Instr} {req : Requester} {off low : Nat} {v : Reg} {w : Word} {r : RegSpec} {code : Byte}

theorem exec_write (h : IsWrite c req off v) (hasks : Asks s.dev req off) :
    exec c s = .next { s with dev := (s.dev.write4 false req off v).1 } := by
  rw [exec_of_isWrite h, onAccess_performs (x := regWrite req off v) hasks.runs hasks.who, performTlp_regWrite hasks.place]

/-- A write that is refused changes its requester's log alone. -/
theorem refuses_of_write4 (h : IsWrite c req off v) (hasks : Asks s.dev req off)
    (hwrite : s.dev.write4 false req off v = s.dev.refuse ⟨req, false, false⟩ code off v) :
    Refuses c s s.dev req off v code := by
  refine ⟨_, exec_write h hasks, ?_, fun n => ?_⟩ <;> rw [hwrite]
  · rfl
  · exact log_record_bar0 s.dev req code true off v n

theorem write4_unreached (h : d.unreached false req off = some code) :
    d.write4 false req off v = d.refuse ⟨req, false, false⟩ code off v := by
  simp only [Dev.write4, h]

theorem write4_narrow_refused (hreach : d.unreached false req off = none) (hspec : regSpec off = some r) (hnarrow : r.wide = false)
    (h : d.writeRefusal req off r (v.setWidth 64) = some code) :
    d.write4 false req off v = d.refuse ⟨req, false, false⟩ code off v := by
  have hcover : regCover off = some (off, r) := by rw [regCover, hspec]
  delta Dev.write4 Dev.writeWhole
  rw [hreach, hcover]
  dsimp only
  rw [hnarrow, if_pos (by decide), h]

theorem write4_low (hreach : d.unreached false req off = none) (hspec : regSpec off = some r) (hwide : r.wide = true)
    (haccess : d.noAccess req off r (v.setWidth 64) = false) (hlock : d.isLocked req off r (v.setWidth 64) = false)
    (hfrozen : d.frozenOut off = false) :
    (d.write4 false req off v).1 = { d with regs := { d.regs with stage := minsert d.regs.stage req.toNat (off, v) } } := by
  have hcover : regCover off = some (off, r) := by rw [regCover, hspec]
  have hnone : firstFailing [(d.noAccess req off r (v.setWidth 64), stNoAccess), (d.isLocked req off r (v.setWidth 64), stLocked),
      (d.frozenOut off, stBusy)] = none := by simp [firstFailing_eq_none_iff, haccess, hlock, hfrozen]
  delta Dev.write4 Dev.stageLow
  rw [hreach, hcover]
  dsimp only
  rw [hwide, if_neg (by decide), if_pos rfl, hnone]

/-- A write to a high half, with the low half that its requester's stage or the register gives. -/
theorem write4_high (hreach : d.unreached false req (low + 4) = none) (hcover : regCover (low + 4) = some (low, r))
    (hwide : r.wide = true) :
    d.write4 false req (low + 4) v = d.writeHigh ⟨req, false, false⟩ low r v := by
  delta Dev.write4
  rw [hreach, hcover]
  dsimp only
  rw [hwide, if_neg (by decide), if_neg (by omega)]

/-- The low half that a write to the high half goes with: the staged one if it is this register's, else the register's own. -/
def Dev.lowHalf (d : Dev) (req : Requester) (low : Nat) (r : RegSpec) : Reg :=
  match mfind d.regs.stage req.toNat with
  | some (o, x) => if o = low then x else (d.regVal req low r).setWidth 32
  | none => (d.regVal req low r).setWidth 32

/-- Both halves stored, and the stage emptied. -/
def Dev.storeBoth (d : Dev) (req : Requester) (low : Nat) (r : RegSpec) (w : Word) : Dev :=
  let e := (d.wakeFor low).writeReg req low r w
  { e with regs := { e.regs with stage := merase e.regs.stage req.toNat } }

/-- A checked write of both halves. -/
def Dev.writeBoth (d : Dev) (req : Requester) (low : Nat) (r : RegSpec) (v lo : Reg) : Dev × Byte :=
  match d.writeRefusal req low r (v ++ lo) with
  | some code => d.refuse ⟨req, false, false⟩ code (low + 4) v
  | none => (d.storeBoth req low r (v ++ lo), stOk)

theorem writeBoth_refused {lo : Reg} (h : d.writeRefusal req low r (v ++ lo) = some code) :
    d.writeBoth req low r v lo = d.refuse ⟨req, false, false⟩ code (low + 4) v := by
  delta Dev.writeBoth
  simp only [h]

theorem writeBoth_accepted {lo : Reg} (h : d.writeRefusal req low r (v ++ lo) = none) :
    d.writeBoth req low r v lo = (d.storeBoth req low r (v ++ lo), stOk) := by
  delta Dev.writeBoth
  simp only [h]

/-- The write of a high half is that of both, with the low half that goes with it. -/
theorem writeHigh_eq (d : Dev) (req : Requester) (low : Nat) (r : RegSpec) (v : Reg) :
    d.writeHigh ⟨req, false, false⟩ low r v = d.writeBoth req low r v (d.lowHalf req low r) := by
  delta Dev.writeHigh Dev.writeBoth Dev.lowHalf
  rfl

end

/-! ### What an accepted write stores (R422, R427, R435) -/

section
variable {d : Dev} {req : Requester} {off : Nat} {w : Word} {r : RegSpec}

theorem statusReg_clearSticky (d : Dev) (key : Nat) (mask : Reg) (k : Nat) :
    mget 0 (d.clearSticky key mask).regs.status k =
      if k = key then d.statusReg k &&& ~~~(mask &&& 0x00FFFFFF) else d.statusReg k := by
  refine (mget_mset ..).trans ?_
  split
  · next h => rw [h]
  · rfl

theorem isStatus_acc (hlow : 0x10000 ≤ off) (hhigh : off < 0x20000) (hspec : regSpec off = some r) : r.isStatus = false := by
  rw [regSpec, if_neg (by omega), if_pos hhigh, specAcc] at hspec
  split at hspec
  · split at hspec <;> (obtain rfl := Option.some.inj hspec; rfl)
  · cases hspec

theorem isWindow_acc (hlow : 0x10000 ≤ off) (hhigh : off < 0x20000) : isWindow off = true := by
  have hacc : (decide (0x10000 ≤ off) && decide (off < 0x20000)) = true := 
    Bool.and_eq_true_iff.mpr ⟨decide_eq_true hlow, decide_eq_true hhigh⟩
  rw [isWindow, hacc, Bool.or_true, Bool.true_or, Bool.true_or]

/-- A write of a log's COUNT empties it; the other registers of ACC cannot be written. -/
theorem writeReg_acc (hlow : 0x10000 ≤ off) (hhigh : off < 0x20000) (hspec : regSpec off = some r) :
    d.writeReg req off r w = { d with
      regs := { d.regs with
        logs := mset accReset d.regs.logs (logAt req (off - 0x10000)) { d.log (logAt req (off - 0x10000)) with count := 0 } } } := by
  rw [writeReg_plain (isStatus_acc hlow hhigh hspec) (regKey_eq_self (by omega) _), storeReg_window (isWindow_acc hlow hhigh), Dev.written,
    if_neg (by omega), if_pos hhigh]

/-- The blocks that only keep what is written: SCH, EVC and MGT. -/
theorem written_keeper (hblock : off / 0x100000 ∈ [1, 5, 8]) (old : Word) : d.written req off w old = d := by
  simp only [List.mem_cons, List.not_mem_nil, or_false] at hblock
  unfold Dev.written
  rcases hblock with h | h | h
  · rw [if_neg (by omega), if_neg (by omega), if_neg (by omega), if_pos (by omega)]
  · rw [if_neg (by omega), if_neg (by omega), if_neg (by omega), if_neg (by omega), if_neg (by omega), if_neg (by omega),
      if_neg (by omega), if_neg (by omega), if_pos (by omega)]
  · rw [if_neg (by omega), if_neg (by omega), if_neg (by omega), if_neg (by omega), if_neg (by omega), if_neg (by omega),
      if_neg (by omega), if_neg (by omega), if_neg (by omega), if_neg (by omega), if_neg (by omega), if_pos (by omega)]

theorem isWindow_keeper (hblock : off / 0x100000 ∈ [1, 5, 8]) : isWindow off = false := by
  simp only [List.mem_cons, List.not_mem_nil, or_false] at hblock
  rw [Bool.eq_false_iff]
  simp only [isWindow, Bool.or_eq_true, Bool.and_eq_true, decide_eq_true_eq, List.contains_iff_mem, List.mem_cons,
    List.not_mem_nil, or_false, ne_eq]
  omega
/-- The staged fields of a register after its write. -/
def stagedAfter (d : Dev) (off : Nat) (r : RegSpec) (w : Word) : Map Word :=
  if (r.mask fun f => f.cls = .shadow) = 0 then d.regs.staged else minsert d.regs.staged off (w &&& r.mask Field.kept)

/-- A register of SCH, EVC or MGT: STATIC and LIVE fields come into force, SHADOW ones are staged. -/
theorem writeReg_keeper (hblock : off / 0x100000 ∈ [1, 5, 8]) (hplain : r.isStatus = false) (hkept : r.mask Field.kept ≠ 0) :
    d.writeReg req off r w =
      let shadow := r.mask fun f => f.cls = .shadow
      let x := d.setReg off ((d.reg off &&& shadow) ||| (w &&& r.mask Field.kept &&& ~~~shadow))
      { x with regs := { x.regs with staged := stagedAfter d off r w } } := by
  have hplace : off ≠ rEvcfg ∧ 0x20180 ≤ off := by
    simp only [List.mem_cons, List.not_mem_nil, or_false] at hblock
    unfold rEvcfg
    omega
  have hkey := regKey_eq_self (.inr (.inr hplace.2)) (reqFn req)
  rw [writeReg_plain hplain hkey, written_keeper hblock]
  simp only [Dev.storeReg, isWindow_keeper hblock, decide_eq_false hkept, Bool.or_self, Bool.false_eq_true, if_false, hplace.1, hkey,
    stagedAfter]
  split <;> rfl

theorem mfind_stagedAfter_self (h : (r.mask fun f => f.cls = .shadow) ≠ 0) :
    mfind (stagedAfter d off r w) off = some (w &&& r.mask Field.kept) := by
  rw [stagedAfter, if_neg h, mfind_minsert_self]

theorem mfind_stagedAfter_ne {k : Nat} (h : k ≠ off) : mfind (stagedAfter d off r w) k = mfind d.regs.staged k := by
  unfold stagedAfter
  split
  · rfl
  · exact mfind_minsert_ne _ _ _ _ h

end

/-- Settles O55: the first refusal is logged, and an accepted write clears, stores or stages its own register. -/
theorem registerWritesAreChecked : Obligations.RegisterWritesAreChecked := by
  intro s c req off v hwrite hasks
  refine ⟨fun code hcode => refuses_of_write4 hwrite hasks (write4_unreached hcode), fun hreach => ?_⟩
  refine ⟨fun r hspec hnarrow => ⟨fun code hcode => ?refused, fun hok => ?accepted⟩,
    fun r hspec hwide haccess hlock hfrozen => ?low, fun low r lo hoff hmod hnone hspec hwide hlo => ?high⟩
  case refused => exact refuses_of_write4 hwrite hasks (write4_narrow_refused hreach hspec hnarrow hcode)
  case accepted =>
    have hexec := exec_write_accepted hwrite hasks hreach hspec hnarrow hok
    refine ⟨fun hstatus hread => ?keeps, fun hstatus hread => ?clears, fun hlow hhigh => ?count, fun hplain hkept hblock => ?stores⟩
    case keeps => rw [hexec, Dev.writeReg, if_pos hstatus, if_pos ((wakeFor_clearsOnRead ..).trans hread)]
    case clears =>
      rw [hexec, Dev.writeReg, if_pos hstatus, if_neg (by simp [wakeFor_clearsOnRead, hread])]
      refine ⟨_, rfl, fun k => ?_⟩
      have := statusReg_clearSticky (s.dev.wakeFor off) off
        ((v.setWidth 64 &&& r.mask fun f => f.acc = .sc).setWidth 32) k
      rwa [wakeFor_statusReg] at this
    case count =>
      rw [hexec, writeReg_acc hlow hhigh hspec]
      refine ⟨_, rfl, fun k => ?_⟩
      rw [mget_mset, Dev.log, Dev.log, wakeFor_regs]
      split
      · next h => rw [h]
      · rfl
    case stores =>
      rw [hexec, writeReg_keeper hblock hplain hkept]
      refine ⟨_, rfl, ?_, ?_, fun h => mfind_stagedAfter_self h, fun k hk => ⟨?_, ?_⟩⟩
      · rfl
      · exact (Dev.reg_setReg_self ..).trans (by rw [wakeFor_reg])
      · exact (Dev.reg_setReg_ne _ _ hk).trans (wakeFor_reg ..)
      · rw [← wakeFor_regs s.dev off]
        exact mfind_stagedAfter_ne hk
  case low =>
    rw [exec_write hwrite hasks, write4_low hreach hspec hwide haccess hlock hfrozen]
    exact ⟨_, rfl, mfind_minsert_self .., fun k hk => mfind_minsert_ne _ _ _ _ hk⟩
  case high =>
    subst hoff
    have hhigh := (write4_high (v := v) hreach (regCover_high hmod hnone hspec hwide) hwide).trans (writeHigh_eq ..)
    obtain rfl : lo = s.dev.lowHalf req low r := hlo
    refine ⟨fun code hcode => refuses_of_write4 hwrite hasks (hhigh.trans (writeBoth_refused hcode)), fun hok => ?_⟩
    rw [exec_write hwrite hasks, hhigh, writeBoth_accepted hok]
    exact ⟨_, rfl, fun k => mfind_merase ..⟩

end Sys2Proof.Machine
end

section
/-! The test access port and the I3C target (R454, R458, R461, R489, R490): settles TestPortAndI3cTargetAnswer. -/

namespace Sys2Proof.Machine

open Sys2Proof.Claims

/-! ### The test access port -/

section
variable {d : Dev}

/-- Words of free value only count up the values used. -/
theorem freeWords_dev (n : Nat) : ∀ d : Dev, (d.freeWords n).1 = { d with freeCtr := d.freeCtr + n } := by
  induction n with
  | zero => intro d; rfl
  | succ n ih =>
    intro d
    rw [Dev.freeWords, ih]
    simp only [Dev.free, Nat.add_assoc, Nat.add_comm 1 n]

theorem length_freeWords (n : Nat) : ∀ d : Dev, (d.freeWords n).2.length = n := by
  induction n with
  | zero => intro d; rfl
  | succ n ih => intro d; rw [Dev.freeWords, List.length_cons, ih]

/-- Enough words hold the bits that are shifted. -/
theorem length_ijtag (l : List Word) {n : Nat} (h : l.length = (n + 63) / 64) :
    ((l.flatMap fun w => bitList w.toNat 64).take n).length = n := by
  have hall : (l.flatMap fun w => bitList w.toNat 64).length = 64 * l.length := by
    simp [List.length_flatMap, bitList, Nat.mul_comm]
  rw [List.length_take, hall]
  omega

theorem exec_ijtag (n : Nat) (s : State) : ∃ t l, exec (.ijtag n) s = .next t ∧ l.length = n ∧ t.hbm = s.hbm ∧
    t.pending = s.pending ∧ t.dev = { Claims.scanned 0x10 l s.dev with freeCtr := t.dev.freeCtr } := by
  refine ⟨_, ((s.dev.freeWords ((n + 63) / 64)).2.flatMap fun w => bitList w.toNat 64).take n, onAlways_next rfl,
    length_ijtag _ (length_freeWords ..), rfl, rfl, ?_⟩
  simp only [ijtag, freeWords_dev]
  rfl

theorem tapFreeze_eq (d : Dev) :
    tapFreeze d = Claims.scanned 0x08 [false] { d with flt := { d.flt with freezeLatch := d.flt.freezeLatch || !d.pwr.off } } := by
  have hoff : tapFreeze d = if d.pwr.off then (d.tapIr 0x08).emit (.tdo [false])
      else { (d.tapIr 0x08).emit (.tdo [false]) with flt := { d.flt with freezeLatch := true } } := rfl
  rw [hoff]
  cases d.pwr.off
  · rw [Bool.not_false, Bool.or_true]
    rfl
  · rw [Bool.not_true, Bool.or_false]
    rfl

theorem tapResume_still (h : d.flt.freezePinLow = true ∨ d.flt.clockLatch = true ∨ d.flt.freezeLatch = false) :
    tapResume d =
      (Claims.scanned 0x09 [false] { d with flt := { d.flt with freezeLatch := false } }).drainTlps := by
  refine congrArg Dev.drainTlps (thaw_still (d := (d.tapIr 0x09).emit (.tdo [false])) ?_)
  change d.flt.freezePinLow = true ∨ d.flt.clockLatch = true ∨ d.frozen = false
  unfold Dev.frozen
  revert h
  cases d.flt.freezePinLow <;> cases d.flt.clockLatch <;> simp

theorem tapResume_resumes (hpin : d.flt.freezePinLow = false) (hclock : d.flt.clockLatch = false)
    (hlatch : d.flt.freezeLatch = true) (hnone : d.flt.resetAtResume = []) :
    tapResume d = (Dev.resumeLinks
      (Claims.scanned 0x09 [false] { d with flt := { d.flt with freezeLatch := false } })).drainTlps :=
  congrArg Dev.drainTlps (thaw_resumes (d := (d.tapIr 0x09).emit (.tdo [false])) hpin hclock hlatch hnone)

end

/-! ### The telemetry page (R490) -/

@[simp] theorem length_leBytes (v n : Nat) : (leBytes v n).length = n := by simp [leBytes]

theorem getD_leBytes {v n i : Nat} (h : i < n) : (leBytes v n).getD i 0 = BitVec.ofNat 8 (v / 256 ^ i) := by
  simp [leBytes, h]

/-- The page begins with GLB.ID and GLB.STATUS and has 0x30 bytes. -/
theorem page_eq (d : Dev) : ∃ rest, d.page = leBytes glbId.toNat 4 ++ (leBytes d.glbStatus.toNat 4 ++ rest) ∧ rest.length = 40 := by
  simp only [Dev.page, List.append_assoc]
  refine ⟨_, rfl, ?_⟩
  simp [allDies]

theorem page_id (d : Dev) {a : Nat} (h : a < 4) : d.page.getD a 0 = BitVec.ofNat 8 (0x1D9C7A18 / 256 ^ a) := by
  obtain ⟨rest, hpage, -⟩ := page_eq d
  rw [hpage, List.getD_append _ _ _ _ (by simpa using h), getD_leBytes h]
  rfl

theorem page_status (d : Dev) {a : Nat} (hlow : 4 ≤ a) (hhigh : a < 8) :
    d.page.getD a 0 = BitVec.ofNat 8 (d.glbStatus.toNat / 256 ^ (a - 4)) := by
  obtain ⟨rest, hpage, -⟩ := page_eq d
  rw [hpage, List.getD_append_right _ _ _ _ (by simpa using hlow), length_leBytes,
    List.getD_append _ _ _ _ (by simp; omega), getD_leBytes (by omega)]

theorem page_end (d : Dev) {a : Nat} (h : 0x30 ≤ a) : d.page.getD a 0 = 0 := by
  obtain ⟨rest, hpage, hrest⟩ := page_eq d
  refine List.getD_eq_default _ _ ?_
  simp [hpage, hrest]
  omega

/-! ### The I3C target (R489) -/

section
variable {d : Dev}

theorem i3cGet_without (h : d.mgt.da = none) (f : Dev → List Byte) : i3cGet f d = d := by simp [i3cGet, h]

theorem i3cGet_with {b : BitVec 7} (h : d.mgt.da = some b) (f : Dev → List Byte) : i3cGet f d = Claims.i3cTells (f d) d := by
  simp [i3cGet, h, Claims.i3cTells, Dev.emit]

end

/-- A command of the always-on part whose update leaves the device. -/
theorem onAlways_rests {s : State} {f : Dev → Dev} (h : f s.dev = s.dev) : onAlways f s = .next s := onAlways_next h

/-- Settles O60: each instruction is one update of the device, and the page is read byte by byte. -/
theorem testPortAndI3cTargetAnswer : Obligations.TestPortAndI3cTargetAnswer := by
  refine ⟨fun s => ⟨rfl, fun pins => rfl, rfl, rfl, fun v => rfl, fun n => rfl, fun n => exec_ijtag n s, rfl, ?freeze, ?still,
    ?resumes⟩, fun s => ⟨?without, ?held, rfl, rfl, rfl, fun n => rfl, fun p l => rfl, rfl, ?telemetry⟩⟩
  case freeze => exact onAlways_next (tapFreeze_eq s.dev)
  case still => exact fun h => onAlways_next (tapResume_still h)
  case resumes => exact fun hpin hclock hlatch hnone => onAlways_next (tapResume_resumes hpin hclock hlatch hnone)
  case without =>
    intro hnone
    have hno : s.dev.mgt.da.isSome = false := by rw [hnone]; rfl
    refine ⟨fun a => ⟨onAlways_next ?_, onAlways_next ?_, onAlways_rests ?_⟩, ?_⟩
    · simp only [entdaa, hno, Bool.false_eq_true, if_false]
      rfl
    · simp only [setdasa, hno, Bool.false_eq_true, if_false]
      rfl
    · simp only [setnewda, hno, Bool.false_eq_true, if_false]
    · simp only [List.forall_mem_cons, List.not_mem_nil, false_implies, implies_true, and_true]
      exact ⟨onAlways_rests (i3cGet_without hnone _), onAlways_rests (i3cGet_without hnone _),
        onAlways_rests (i3cGet_without hnone _), onAlways_rests (i3cGet_without hnone _), onAlways_rests (i3cGet_without hnone _)⟩
  case held =>
    intro b hsome
    have hyes : s.dev.mgt.da.isSome = true := by rw [hsome]; rfl
    refine ⟨fun a => ⟨onAlways_rests ?_, onAlways_rests ?_, onAlways_next ?_⟩, ?_⟩
    · simp only [entdaa, hyes, if_true]
    · simp only [setdasa, hyes, if_true]
    · simp only [setnewda, hyes, if_true]
      rfl
    · simp only [List.forall_mem_cons, List.not_mem_nil, false_implies, implies_true, and_true]
      exact ⟨onAlways_next (i3cGet_with hsome _), onAlways_next (i3cGet_with hsome _), onAlways_next (i3cGet_with hsome _),
        onAlways_next (i3cGet_with hsome _), onAlways_next (i3cGet_with hsome _)⟩
  case telemetry =>
    intro n
    refine ⟨(List.range n).map fun i => s.dev.page.getD ((s.dev.mgt.ptr.toNat + i) % 256) 0, rfl, by simp, fun i hi => ?_⟩
    have hread : ((List.range n).map fun i => s.dev.page.getD ((s.dev.mgt.ptr.toNat + i) % 256) 0)[i]? =
        some (s.dev.page.getD ((s.dev.mgt.ptr.toNat + i) % 256) 0) := by simp [hi]
    simp only [hread]
    exact ⟨fun h => congrArg some (page_id _ h), fun hlow hhigh => congrArg some (page_status _ hlow hhigh),
      fun h => congrArg some (page_end _ h)⟩

end Sys2Proof.Machine
end

section
/-! Descriptors that pass their checks, the NV store and the patch (R396 to R398, R479 to R487): settles NonVolatileStoreAndPatch. -/

namespace Sys2Proof.Machine

open Sys2Proof.Claims

/-! ### A started descriptor -/

section
variable {d : Dev} {r : BitVec 12} {k n : Nat} {x : Desc} {h : HostData}

theorem opc_of_started (hx : Started d r k x n) : x.opc = BitVec.ofNat 8 n := BitVec.eq_of_toNat_eq (by
  rw [BitVec.toNat_ofNat, ← hx.opc, Nat.mod_eq_of_lt x.opc.isLt])

/-- A started descriptor of the opcode wanted whose checks pass acts. -/
theorem perform_acts {want : Desc → Bool} {checks : Desc → List (Bool × Byte)} {body : Desc → Dev → Dev}
    (hx : Started d r k x n) (hwant : want x = true) (hok : firstFailing (checks x) = none) :
    d.perform r k want checks body = body x d := by
  simp [Dev.perform, Dev.pick, hx.here, hx.idle, hwant, hok]

theorem dataStatus_ok (hstatus : h.status = .ok) (hclean : h.poisoned = []) : dataStatus h = stOk := by
  simp [dataStatus, hstatus, hclean, hostStatusByte]

theorem checks_append {l m : List (Bool × Byte)} (h : firstFailing (l ++ m) = none) :
    firstFailing l = none ∧ ∀ y ∈ m, y.1 = false := by
  simp only [firstFailing_eq_none_iff, List.mem_append] at h ⊢
  exact ⟨fun y hy => h y (.inl hy), fun y hy => h y (.inr hy)⟩

theorem park_mgt (d : Dev) (r : BitVec 12) (x : Desc) : (d.park r x).mgt = d.mgt := by
  unfold Dev.park
  split <;> rfl

end

/-! ### The NV store (R479, R480) -/

section
variable {d e : Dev} {a n : Nat}

theorem nvByte_congr (h : e.mgt.nv = d.mgt.nv) : e.nvByte = d.nvByte := by
  funext i
  rw [Dev.nvByte, Dev.nvByte, h]

theorem nvNat_congr (h : e.mgt.nv = d.mgt.nv) : e.nvNat = d.nvNat := by
  funext i m
  rw [Dev.nvNat, Dev.nvNat, nvByte_congr h]

theorem generation_congr (h : e.mgt.nv = d.mgt.nv) : e.generation = d.generation := by
  funext half
  rw [Dev.generation, Dev.generation, Dev.commitWord, Dev.commitWord, nvNat_congr h]

theorem halfValid_congr (h : e.mgt.nv = d.mgt.nv) : e.halfValid = d.halfValid := by
  funext half
  simp only [Dev.halfValid, Dev.halfImage, Dev.commitWord, Dev.nvBytes, nvNat_congr h, nvByte_congr h]

theorem liveHalf_congr (h : e.mgt.nv = d.mgt.nv) : e.liveHalf = d.liveHalf := by
  rw [Dev.liveHalf, Dev.liveHalf, halfValid_congr h]
  unfold Dev.pickHalf
  rw [generation_congr h]

theorem readHost_mgt (fn : GraphId) (addr : Word) (st : HostStatus) (p : Bool) : (d.readHost fn addr n st p).mgt = d.mgt := rfl

theorem liveHalf_readHost (fn : GraphId) (addr : Word) (st : HostStatus) (p : Bool) :
    (d.readHost fn addr n st p).liveHalf = d.liveHalf :=
  liveHalf_congr rfl

theorem generation_readHost (fn : GraphId) (addr : Word) (st : HostStatus) (p : Bool) :
    (d.readHost fn addr n st p).generation = d.generation := generation_congr rfl

theorem nvPut_eq_foldl : ∀ (bs : List Byte) (m : Map Byte) (a : Nat),
    nvPut m a bs = (bs.zipIdx a).foldl (fun m b => mset 0 m b.2 b.1) m
  | [], _, _ => rfl
  | b :: bs, m, a => by rw [nvPut, nvPut_eq_foldl bs, List.zipIdx_cons, List.foldl_cons]

/-- Bytes put stand from their address on; no other byte changes. -/
theorem mget_nvPut (m : Map Byte) (a : Nat) (bs : List Byte) (i : Nat) :
    mget 0 (nvPut m a bs) i = if a ≤ i ∧ i < a + bs.length then bs.getD (i - a) 0 else mget 0 m i := by
  rw [nvPut_eq_foldl, mget_foldl_mset_zipIdx]

theorem length_bytesOf (ws : List Word) (n : Nat) : (bytesOf ws n).length = n := by simp [bytesOf]

theorem getD_bytesOf (ws : List Word) {i : Nat} (h : i < n) : (bytesOf ws n).getD i 0 = byteAt ws i := by
  simp [bytesOf, h]

/-- The words that an NVSTORE_READ finds from an address. -/
def Dev.nvRead (d : Dev) (a n : Nat) : List Word := (List.range n).map fun i => BitVec.ofNat 64 (d.nvNat (a + 8 * i) 8)

theorem nvRead_congr (h : e.mgt.nv = d.mgt.nv) (a n : Nat) : e.nvRead a n = d.nvRead a n := by
  rw [Dev.nvRead, Dev.nvRead, nvNat_congr h]

theorem nvRead_succ (d : Dev) (a n : Nat) : d.nvRead a (n + 1) = BitVec.ofNat 64 (d.nvNat a 8) :: d.nvRead (a + 8) n := by
  simp only [Dev.nvRead, List.range_succ_eq_map, List.map_cons, List.map_map, Nat.mul_zero, Nat.add_zero, List.cons.injEq, true_and]
  exact List.map_congr_left fun i _ => by simp only [Function.comp, Nat.mul_succ, Nat.add_comm (8 * i) 8, Nat.add_assoc]

theorem nvWords_clean (d : Dev) : ∀ n a, Dev.nvWords a [] n d = (d, d.nvRead a n)
  | 0, a => rfl
  | n + 1, a => by
    rw [nvRead_succ]
    simp only [Dev.nvWords, List.headD_nil, List.tail_nil, Dev.nvFault, reduceCtorEq, if_false, nvWords_clean d n (a + 8)]

theorem nvWords_corrected (d : Dev) (n a : Nat) :
    Dev.nvWords a [.corrected] (n + 1) d = (d.fault rMgtErr 0 104 [] [], d.nvRead a (n + 1)) := by
  have hnv : (d.fault rMgtErr 0 104 [] []).mgt.nv = d.mgt.nv := by rw [(fault_frame ..).mgt]
  rw [nvRead_succ, ← nvRead_congr hnv]
  simp only [Dev.nvWords, List.headD_cons, List.tail_cons, Dev.nvFault, reduceCtorEq, if_false, nvWords_clean]

theorem nvWords_uncorrectable (d : Dev) (n a : Nat) :
    Dev.nvWords a [.uncorrectable] (n + 1) d =
      (d.free.2.fault rMgtErr 1 105 [] [], d.free.1 :: (d.nvRead a (n + 1)).drop 1) := by
  have hnv : (d.free.2.fault rMgtErr 1 105 [] []).mgt.nv = d.mgt.nv := by
    rw [(fault_frame ..).mgt]
    rfl
  rw [nvRead_succ, List.drop_one, List.tail_cons, ← nvRead_congr hnv]
  simp only [Dev.nvWords, List.headD_cons, List.tail_cons, Dev.nvFault, nvWords_clean, if_true]

end

section
variable {d : Dev} {r : BitVec 12} {k : Nat} {x : Desc} {h : HostData}

/-- NVSTORE_READ of a descriptor that passes its checks. -/
theorem nvstoreRead_acts (hx : Started d r k x 0x44) (hok : firstFailing (nvChecks r x) = none) (hread : x.isWrite = false)
    {us : List Upset} {st : Byte} {e : Dev} {l : List Word} (hwords : Dev.nvWords x.nvAddr us (x.nvLen / 8) d = (e, l))
    (hst : (if (us.take (x.nvLen / 8)).contains .uncorrectable then stPoisoned else stOk) = st) :
    nvstoreRead r k us d =
      (e.emit (.hostWrite (d.pairFn r) (x.w 3) x.nvLen l [])).finish r x st (BitVec.ofNat 64 x.nvLen) := by
  refine (perform_acts hx (by simp [opc_of_started hx, hread]) hok).trans ?_
  simp only [hwords, hst]

theorem nvWords_count (hok : firstFailing (nvChecks r x) = none) : x.nvLen % 8 = 0 := by
  have hunits := (checks_append hok).2 (x.nvOff % 8 ≠ 0 || x.nvLen % 8 ≠ 0, stUnaligned) (by simp)
  simpa using (Bool.or_eq_false_iff.mp hunits).2

theorem nvstoreWrite_acts (hx : Started d r k x 0x44) (hok : firstFailing (nvChecks r x) = none) (hwrite : x.isWrite = true)
    (hstatus : h.status = .ok) (hclean : h.poisoned = []) :
    nvstoreWrite r k h d =
      ((d.readHost (d.pairFn r) (x.w 3) x.nvLen .ok false).putNv x.nvAddr (bytesOf h.words x.nvLen)).finish r x stOk
        (BitVec.ofNat 64 x.nvLen) := by
  refine (perform_acts hx (by simp [opc_of_started hx, hwrite]) hok).trans ?_
  simp only [dataStatus_ok hstatus hclean, ne_eq, not_true_eq_false, if_false, hstatus, hclean, List.isEmpty_nil, Bool.not_true]

end

/-! ### The patch (R484 to R486) -/

section
variable {d : Dev} {r : BitVec 12} {k : Nat} {x : Desc} {h : HostData}

theorem length_wordBytes (w : Word) : (wordBytes w).length = 8 := by simp [wordBytes]

/-- The bytes of a word from byte k on are its number without the bytes below. -/
theorem leNat_of_bytes {f : Nat → Byte} {w : Word} :
    ∀ (n o k : Nat), (∀ i, i < n → f (o + i) = bits w (8 * (k + i)) 8) → leNat f o n = w.toNat / 256 ^ k % 256 ^ n
  | 0, _, _, _ => by rw [leNat, pow_zero, Nat.mod_one]
  | n + 1, o, k, h => by
    have hrest := leNat_of_bytes n (o + 1) (k + 1) fun i hi => by
      rw [Nat.add_right_comm, Nat.add_right_comm k, Nat.add_assoc, Nat.add_assoc k]
      exact h (i + 1) (by omega)
    have hfirst : (f o).toNat = w.toNat / 256 ^ k % 256 := by
      have := h 0 (by omega)
      rw [Nat.add_zero, Nat.add_zero] at this
      rw [this, bits_toNat, nbits, Nat.shiftRight_eq_div_pow, pow_mul]
      rfl
    rw [leNat, hrest, hfirst, pow_succ 256 k, ← Nat.div_div_eq_div_mul, pow_succ', Nat.mod_mul]

/-- The eight bytes of a word are its number. -/
theorem leNat_of_wordBytes {f : Nat → Byte} {o : Nat} {w : Word} (h : ∀ i, i < 8 → f (o + i) = bits w (8 * i) 8) :
    leNat f o 8 = w.toNat := by
  rw [leNat_of_bytes 8 o 0 (by simpa using h), pow_zero, Nat.div_one]
  exact Nat.mod_eq_of_lt w.isLt

/-- The commit word of a generation: VALID, and the number in its low half. -/
theorem commit_toNat (g : Nat) : ((0x100000000#64 ||| BitVec.ofNat 64 (g % 2 ^ 32)) : Word).toNat = 0x100000000 + g % 2 ^ 32 := by
  have hg : g % 2 ^ 32 < 2 ^ 32 := Nat.mod_lt _ (by decide)
  rw [BitVec.toNat_or, BitVec.toNat_ofNat, BitVec.toNat_ofNat, Nat.mod_eq_of_lt (a := g % 2 ^ 32) (by omega)]
  exact (Nat.two_pow_add_eq_or_of_lt hg 1).symm

/-- The image that FWPATCH has read, and the half that takes it. -/
def patchImage (x : Desc) (h : HostData) : List Byte := bytesOf h.words (min (nbits (x.w 1) 0 32) 524288)

def Dev.spareHalf (d : Dev) : Bool := d.liveHalf = some false

def Dev.nextCommit (d : Dev) : Word := 0x100000000#64 ||| BitVec.ofNat 64 ((d.generation (!d.spareHalf) + 1) % 2 ^ 32)

/-- The NV store after an accepted image. -/
def Dev.patchedNv (d : Dev) (bs : List Byte) : Map Byte :=
  nvPut (nvPut d.mgt.nv (patchHalf d.spareHalf) bs) (patchHalf d.spareHalf + 0x7FFF8) (wordBytes d.nextCommit)

variable (hx : Started d r k x 0x43) (hok : firstFailing (headChecks r x true [lowMask 32, allBits]) = none)
  (hstatus : h.status = .ok) (hclean : h.poisoned = [])
include hx hok hstatus hclean

theorem fwpatch_refused {st : Byte} (hrefused : patchStatus (patchImage x h) (nbits (x.w 1) 0 32) = some st) :
    fwpatch r k h d = (d.readHost (d.pairFn r) (x.w 2) (nbits (x.w 1) 0 32) .ok false).finish r x st 0 := by
  refine (perform_acts hx (by simp [opc_of_started hx]) hok).trans ?_
  unfold patchImage at hrefused
  simp only [dataStatus_ok hstatus hclean, ne_eq, not_true_eq_false, if_false, hstatus, hclean, List.isEmpty_nil, Bool.not_true,
    hrefused]

theorem fwpatch_accepted (haccepted : patchStatus (patchImage x h) (nbits (x.w 1) 0 32) = none) :
    fwpatch r k h d =
      Dev.finish
        { d.readHost (d.pairFn r) (x.w 2) (nbits (x.w 1) 0 32) .ok false with
          mgt := { d.mgt with
            nv := d.patchedNv (patchImage x h), stored := BitVec.ofNat 16 (leAt (patchImage x h) 0xC 2) } } r x stOk 0 := by
  refine (perform_acts hx (by simp [opc_of_started hx]) hok).trans ?_
  unfold patchImage at haccepted ⊢
  simp only [dataStatus_ok hstatus hclean, ne_eq, not_true_eq_false, if_false, hstatus, hclean, List.isEmpty_nil, Bool.not_true,
    haccepted, liveHalf_readHost, generation_readHost, Dev.putNv, readHost_mgt, Dev.patchedNv, Dev.nextCommit, Dev.spareHalf]

end

/-- An accepted image fits its half below the commit word. -/
theorem length_of_patchStatus {bs : List Byte} {len : Nat} (h : patchStatus bs len = none) : len ≤ 524280 := by
  have hformed := firstFailing_eq_none_iff.mp h (!patchFormed bs len, stFormat) (by simp)
  simp only [patchFormed, Bool.not_eq_eq_eq_not, Bool.not_false, Bool.and_eq_true, decide_eq_true_eq] at hformed
  obtain ⟨⟨⟨⟨⟨-, hlen⟩, -⟩, -⟩, -⟩, -⟩ := hformed
  exact hlen

theorem restoreFactory_acts {d : Dev} {r : BitVec 12} {k : Nat} {x : Desc} (hx : Started d r k x 0x45)
    (hok : firstFailing (headChecks r x true []) = none) (hrests : d.graphsRun = false) :
    restoreFactory r k d = Dev.noteBelow (Dev.park
      { d with mgt := { d.mgt with nv := d.mgt.nv.filter fun e => !(nvRegion ≤ e.1 && e.1 < 2 * nvRegion)
                                   calUser := 0, calBad := factoryBad, cal := [], restoring := true } } r x) := by
  refine perform_acts hx (by simp [opc_of_started hx]) ?_
  rw [firstFailing_eq_none_iff] at hok ⊢
  simp only [List.mem_append, List.mem_singleton]
  rintro y (hy | rfl)
  · exact hok y hy
  · exact hrests

theorem noteBelow_mgt (d : Dev) : d.noteBelow.mgt = d.mgt := by
  unfold Dev.noteBelow
  dsimp only
  split
  · rfl
  · exact ((fault_frame ..).trans (ibiSend_frame ..)).mgt

/-- Settles O59: each command of the store is one update of its bytes, and its descriptor then completes. -/
theorem nonVolatileStoreAndPatch : Obligations.NonVolatileStoreAndPatch := by
  refine ⟨fun s r k x hhub hx hok => ⟨fun hread => ⟨?clean, ?upset⟩, ?write⟩,
    fun s r k x h hhub hx hok hstatus hclean => ⟨?refused, ?accepted⟩, ?restore, ?wdog⟩
  case clean =>
    rintro us (rfl | hnone)
    · exact onHub_next hhub (nvstoreRead_acts hx hok hread (nvWords_clean ..) (by rw [List.take_nil]; rfl))
    · have hzero : x.nvLen / 8 = 0 := by omega
      rw [hzero]
      exact onHub_next hhub (nvstoreRead_acts hx hok hread (e := s.dev) (l := []) (by rw [hzero]; rfl) (by rw [hzero]; rfl))
  case upset =>
    intro hsome
    have hunits := nvWords_count hok
    obtain ⟨n, hn⟩ : ∃ n, x.nvLen / 8 = n + 1 := ⟨x.nvLen / 8 - 1, by omega⟩
    rw [hn]
    constructor
    · exact onHub_next hhub (nvstoreRead_acts hx hok hread (by rw [hn, nvWords_corrected]; rfl) (by rw [hn]; simp))
    · exact onHub_next hhub (nvstoreRead_acts hx hok hread (by rw [hn, nvWords_uncorrectable]; rfl) (by rw [hn]; simp))
  case write =>
    intro h hwrite hstatus hclean
    refine ⟨_, onHub_next hhub (nvstoreWrite_acts hx hok hwrite hstatus hclean), fun a => ?_⟩
    refine (mget_nvPut ..).trans ?_
    rw [length_bytesOf]
    split
    · exact getD_bytesOf _ (by omega)
    · rfl
  case refused => exact fun st hst => onHub_next hhub (fwpatch_refused hx hok hstatus hclean hst)
  case accepted =>
    intro haccepted half at_
    have hlen := length_of_patchStatus haccepted
    have hat : at_ = patchHalf s.dev.spareHalf := by
      simp only [at_, half, patchHalf, Dev.spareHalf, nvRegion, decide_eq_true_eq]
    have hbytes : (patchImage x h).length = nbits (x.w 1) 0 32 := by rw [patchImage, length_bytesOf]; omega
    refine ⟨s.dev.patchedNv (patchImage x h), onHub_next hhub (fwpatch_accepted hx hok hstatus hclean haccepted), fun i hi => ?_,
      ?_, fun a ha => ?_⟩
    · rw [hat, Dev.patchedNv, mget_nvPut, if_neg (by omega), mget_nvPut, hbytes, if_pos (by omega), Nat.add_sub_cancel_left]
      rfl
    · rw [hat, leNat_of_wordBytes (w := s.dev.nextCommit) fun i hi => ?_, Dev.nextCommit, commit_toNat]
      · simp only [half, Dev.spareHalf, decide_not]
      · rw [Dev.patchedNv, mget_nvPut, length_wordBytes, if_pos (by omega), Nat.add_sub_cancel_left]
        simp [wordBytes, hi]
    · rw [hat] at ha
      rw [Dev.patchedNv, mget_nvPut, length_wordBytes, if_neg (by omega), mget_nvPut, hbytes, if_neg (by omega)]
  case restore =>
    intro s r k x hdies hx hok hdone
    have hrests : s.dev.graphsRun = false := by
      simp only [Dev.graphsRun, List.any_eq_false, Bool.and_eq_true, Bool.not_eq_eq_eq_not, Bool.not_true,
        Bool.not_eq_false, not_and]
      exact hdone
    have hmgt : ∀ d : Dev, (d.park r x).noteBelow.mgt = d.mgt := fun d => (noteBelow_mgt _).trans (park_mgt d r x)
    refine ⟨_, onDies_next hdies (restoreFactory_acts hx hok hrests), rfl, rfl, ?_, ?_, ?_, fun e => ?_⟩ <;>
      simp only [hmgt]
    rw [List.mem_filter]
    grind [nvRegion]
  case wdog =>
    intro s core hhub
    refine onHub_next hhub ?_
    cases core <;> rfl

end Sys2Proof.Machine
end

section
/-! The descriptors of the admin ring and their fetch (R90, R94, R388, R395, R398): settles AdminDescriptorsComplete. -/

namespace Sys2Proof.Machine

open Sys2Proof.Claims

/-! ### The ranges of ASSIGN (R388) -/

section
variable {d : Dev} {r : BitVec 12} {k : Nat} {x : Desc}

theorem mget_assignRange (fn : GraphId) (i : Nat) : ∀ (n first : Nat) (m : Map GraphId),
    mget 0 (assignRange m first fn n) i = if first ≤ i ∧ i < first + n then fn else mget 0 m i
  | 0, first, m => (if_neg (by omega)).symm
  | n + 1, first, m => by
    rw [assignRange, mget_assignRange fn i n (first + 1), mget_mset]
    by_cases hi : i = first
    · rw [if_neg (by omega), if_pos hi, if_pos (by omega)]
    · rw [if_neg hi]
      exact if_congr (by omega) rfl rfl

theorem inRange_eq_false {first n i : Nat} (h : ¬(first ≤ i ∧ i < first + n)) : inRange first n i = false := by
  simpa [inRange] using h

/-- No object of the range meets a test. -/
theorem anyIn_eq_false {p : Nat → Bool} (h : ∀ i, x.first ≤ i ∧ i < x.first + x.number → p i = false) : x.anyIn p = false := by
  simp only [Desc.anyIn, List.any_eq_false, List.mem_range, Bool.not_eq_true]
  exact fun i hi => h _ (by omega)

/-- The head checks of an admin descriptor on ring 0. -/
theorem headChecks_pass {masks : List Word} (hver : x.ver = 1) (hformed : x.formed masks = true) (hring : r = 0) :
    ∀ y ∈ headChecks r x true masks, y.1 = false := by
  simp [headChecks, hver, hformed, hring]

/-- An admin descriptor that its own checks pass too. -/
theorem firstFailing_admin {masks : List Word} {l : List (Bool × Byte)} (hver : x.ver = 1) (hformed : x.formed masks = true)
    (hring : r = 0) (hown : ∀ y ∈ l, y.1 = false) : firstFailing (headChecks r x true masks ++ l) = none := by
  rw [firstFailing_eq_none_iff]
  intro y hy
  exact (List.mem_append.mp hy).elim (headChecks_pass hver hformed hring y) (hown y)

/-- ASSIGN of a kind whose checks pass. -/
theorem assign_acts {kind limit : Nat} {bad busy : Desc → Bool} {set : Desc → Dev → Dev} (hx : Started d r k x 0x40)
    (hver : x.ver = 1) (hformed : x.formed [0x33F#64, allBits] = true) (hring : r = 0) (hkind : x.kind = kind)
    (hlimit : x.first + x.number ≤ limit) (hbad : bad x = false) (hbusy : busy x = false) :
    d.assign kind limit r k bad busy set = (set x d).finish r x stOk 0 := by
  refine perform_acts hx (by simp [opc_of_started hx, hkind]) (firstFailing_admin hver hformed hring ?_)
  simp only [List.forall_mem_cons, List.not_mem_nil, false_implies, implies_true, and_true, hbad, Bool.or_false, hbusy,
    decide_eq_false_iff_not]
  omega

end

/-! ### UCODE (R90, R94) -/

theorem foldl_zipIdx_shift (base : Nat) : ∀ (ws : List Word) (k : Nat) (m : Map Word),
    (ws.zipIdx k).foldl (fun m (w, i) => mset 0 m (base + i) w) m =
      (ws.zipIdx (base + k)).foldl (fun m b => mset 0 m b.2 b.1) m
  | [], _, _ => rfl
  | w :: ws, k, m => by
    rw [List.zipIdx_cons, List.zipIdx_cons, List.foldl_cons, List.foldl_cons, foldl_zipIdx_shift base ws (k + 1)]
    rfl

theorem mget_putWords (m : Map Word) (base : Nat) (ws : List Word) (i : Nat) :
    mget 0 (putWords m base ws) i = if base ≤ i ∧ i < base + ws.length then ws.getD (i - base) 0 else mget 0 m i := by
  rw [putWords, foldl_zipIdx_shift, mget_foldl_mset_zipIdx, Nat.add_zero]

/-! ### Descriptor fetch (R395) -/

section
variable {d : Dev} {r : BitVec 12}

/-- The ring served next follows after this one. -/
def Dev.served (d : Dev) (n : Nat) : Dev := { d with hif := { d.hif with rr := n } }

theorem startable_served (d : Dev) (n : Nat) : (d.served n).startable = d.startable := rfl
theorem pair_served (d : Dev) (n : Nat) : (d.served n).pair = d.pair := rfl
theorem pairFn_served (d : Dev) (n : Nat) : (d.served n).pairFn = d.pairFn := rfl
theorem reg_served (d : Dev) (n : Nat) : (d.served n).reg = d.reg := rfl
theorem pairSize_served (d : Dev) (n : Nat) : (d.served n).pairSize = d.pairSize := rfl
theorem fetchRefusal_served (d : Dev) (n : Nat) : (d.served n).fetchRefusal = d.fetchRefusal := rfl

theorem nextRing_none (h : ∀ r, d.startable r = false) : d.nextRing = none := by
  simp [Dev.nextRing, h]

theorem startable_of_nextRing (h : d.nextRing = some r) : d.startable r = true := by
  unfold Dev.nextRing at h
  split at h
  · next h0 => exact Option.some.inj h ▸ h0
  · exact List.find?_some h

/-- The entry at the head of a startable ring starts, unless it waits for a FENCE or has no opcode. -/
theorem fetchOne_starts {e : EntryRead} (hok : e.status = .ok)
    (hfence : Desc.fence { words := e.words, index := (d.pair r).fetched, waiting := false, issued := d.clock.run } = true →
      (d.pair r).started = [])
    (hknown : d.fetchRefusal r { words := e.words, index := (d.pair r).fetched, waiting := false, issued := d.clock.run } = none) :
    (d.fetchOne r e).1 =
      ((d.readHost (d.pairFn r) (d.reg (rSqbase r.toNat) + BitVec.ofNat 64 (64 * (d.pair r).sqHead.toNat)) 64 .ok false).modPair r
        fun p => { p with sqHead := nextIndex (d.pairSize r) p.sqHead, fetched := p.fetched + 1, fenced := false }).modPair r
        fun p => { p with
          started := p.started ++ [{ words := e.words, index := (d.pair r).fetched, waiting := false, issued := d.clock.run }]
          reserved := p.reserved + 1 } := by
  have hopen : (Desc.fence { words := e.words, index := (d.pair r).fetched, waiting := false, issued := d.clock.run } &&
      !(d.pair r).started.isEmpty) = false := by
    rw [Bool.and_eq_false_imp]
    intro h
    rw [hfence h]
    rfl
  simp only [Dev.fetchOne, hok, ne_eq, not_true_eq_false, if_false, hopen, Bool.false_eq_true, hknown]

theorem fetchTurn_one {e : EntryRead} (h : d.startable r = true) : d.fetchTurn r [e] = (d.fetchOne r e).1 := by
  simp [Dev.fetchTurn, h]

end

/-- Settles O40: every admin descriptor that passes its checks is one update, and a fetched entry joins the started ones. -/
theorem adminDescriptorsComplete : Obligations.AdminDescriptorsComplete := by
  refine ⟨fun s r k x hhub hx hver hformed hring => ?assign, fun s r k x hdies hx hver hring hunused => ⟨?clear, ?load⟩,
    fun s reads hhub => ⟨?none, ?fetch⟩⟩
  case assign =>
    refine ⟨fun hkind hlimit hbad hfree => ?pairs, fun hkind hlimit hfree => ?rings, fun hkind hlimit hfree => ?cells,
      fun hkind hlimit hfree => ?window⟩
    case pairs =>
      refine ⟨_, fun i => mget_assignRange x.graph i x.number x.first _,
        onHub_next hhub (assign_acts hx hver hformed hring hkind hlimit ?_ (anyIn_eq_false fun i hi => ?_))⟩
      · rcases hbad with h | h
        · simp [h]
        · simp [inRange_eq_false h]
      · obtain ⟨hoff, hidle⟩ := hfree i hi
        simp [hoff, hidle]
    case rings =>
      refine ⟨_, fun i => mget_assignRange x.graph i x.number x.first _,
        onHub_next hhub (assign_acts hx hver hformed hring hkind hlimit rfl (anyIn_eq_false fun i hi => ?_))⟩
      obtain ⟨hoff, hidle⟩ := hfree i hi
      simp [hoff, hidle]
    case cells =>
      refine ⟨_, fun i => mget_assignRange x.graph i x.number x.first _,
        onHub_next hhub (assign_acts hx hver hformed hring hkind hlimit rfl ?_)⟩
      simp only [List.any_eq_false, Bool.not_eq_true]
      exact fun g hg c hc => inRange_eq_false (hfree g hg c hc)
    case window =>
      refine onHub_next hhub (assign_acts hx hver hformed hring hkind hlimit rfl ?_)
      simpa using hfree
  case clear =>
    intro hclear hformed
    refine onDies_next hdies (perform_acts hx (by simp [opc_of_started hx, hclear]) (firstFailing_admin hver hformed hring ?_))
    simpa using hunused
  case load =>
    intro h hload hformed hentry hroom hstatus hclean n word hmicro
    refine ⟨putWords s.dev.uct.uwords (uStart x.uentry) ((List.range n).map word), fun i => ?_, onDies_next hdies ?_⟩
    · rw [mget_putWords, List.length_map, List.length_range]
      refine if_ctx_congr Iff.rfl (fun hi => ?_) fun _ => rfl
      simp [show i - uStart x.uentry < n by omega]
    · refine (perform_acts hx (by simp [opc_of_started hx, hload]) (firstFailing_admin hver hformed hring ?_)).trans ?_
      · simp [hentry, hunused, hroom]
      · simp only [dataStatus_ok hstatus hclean, ne_eq, not_true_eq_false, if_false, hstatus, hclean, List.isEmpty_nil, Bool.not_true]
        rw [if_neg (by rw [show microOk _ _ = true from hmicro]; decide)]
        rfl
  case none =>
    intro h
    refine (onHub_acts _ hhub).trans ?_
    rw [descriptorFetch, nextRing_none h]
  case fetch =>
    rintro r e hnext rfl hok p x hfence hknown
    refine onHub_next hhub ?_
    have hturn : descriptorFetch [e] s.dev = (s.dev.served (if r = 0 then s.dev.hif.rr else r.toNat)).fetchTurn r [e] := by
      rw [descriptorFetch, hnext]
      rfl
    rw [hturn, fetchTurn_one ((congrFun (startable_served ..) r).trans (startable_of_nextRing hnext)),
      fetchOne_starts hok (by rw [pair_served]; exact hfence) (by rw [pair_served, fetchRefusal_served]; exact hknown),
      pair_served, pairFn_served, reg_served, pairSize_served]
    rfl

end Sys2Proof.Machine
end

section
/-! The descriptors that move and clear words of HBM, and those of locks (R237, R244, R259, R398): settles
MemoryDescriptorsComplete. -/

namespace Sys2Proof.Machine

open Sys2Proof.Claims

/-! ### The words that HBMRD finds -/

section
variable {d : Dev} {h : Hbm}

/-- Without SPILL regions no word of HBM is a reel's. -/
theorem yoyoWord_none (hnone : ∀ j, d.spillRegion j = none) (w : Nat) (v : Word) : d.yoyoWord w v = none := by
  rw [Dev.yoyoWord, Dev.ringPlace, hnone]

theorem hostWord_plain (hnone : ∀ j, d.spillRegion j = none) (w : Nat) :
    hostWord h w .none d = ({ val := h.word w, poison := h.poisoned w, bad := false }, d) := by
  rw [hostWord, yoyoWord_none hnone]
  rfl

theorem hostWords_plain (hnone : ∀ j, d.spillRegion j = none) : ∀ n w i, hostWords h w i [] n d =
    ((List.range' w n).map h.word, (List.range' i n).filter fun j => h.poisoned (w + (j - i)), d)
  | 0, _, _ => rfl
  | n + 1, w, i => by
    have hrest : (List.range' (i + 1) n).filter (fun j => h.poisoned (w + 1 + (j - (i + 1)))) =
        (List.range' (i + 1) n).filter fun j => h.poisoned (w + (j - i)) :=
      List.filter_congr fun j hj => by
        have := (List.mem_range'_1.mp hj).1
        rw [show w + 1 + (j - (i + 1)) = w + (j - i) by omega]
    simp only [hostWords, List.headD_nil, List.tail_nil, hostWord_plain hnone, hostWords_plain hnone n (w + 1) (i + 1), hrest,
      List.range'_succ, List.map_cons, List.filter_cons, Nat.sub_self, Nat.add_zero]

theorem wakeRange_keeps {α : Type} (f : Dev → α) (hf : ∀ d s, f (Dev.wakeStack d s) = f d) (d : Dev) (a n : Nat) :
    f (d.wakeRange a n) = f d := by
  unfold Dev.wakeRange
  generalize allDies.filter _ = l
  induction l generalizing d with
  | nil => rfl
  | cons s l ih => exact (ih (d.wakeStack s)).trans (hf d s)

theorem region_wakeRange (d : Dev) (a n : Nat) : (d.wakeRange a n).region = d.region :=
  wakeRange_keeps Dev.region (fun _ _ => rfl) d a n

theorem pairFn_wakeRange (d : Dev) (a n : Nat) : (d.wakeRange a n).pairFn = d.pairFn :=
  wakeRange_keeps Dev.pairFn (fun _ _ => rfl) d a n

theorem spillRegion_wakeRange (d : Dev) (a n : Nat) : (d.wakeRange a n).spillRegion = d.spillRegion := by
  funext s
  rw [Dev.spillRegion, Dev.spillRegion, Dev.regions, Dev.regions, region_wakeRange]

end

/-! ### The words that HBMWR stores -/

section
variable (ps : List Nat) (psn : Bool) (data : List Word)

theorem word_storeWords (x : Nat) : ∀ n w i (h : Hbm), (storeWords ps psn data w i n h).word x =
    if w ≤ x ∧ x < w + n then data.getD (i + (x - w)) 0 else h.word x
  | 0, w, i, h => (if_neg (by omega)).symm
  | n + 1, w, i, h => by
    rw [storeWords, word_storeWords x n, word_putWord]
    rcases Nat.lt_trichotomy x w with hx | hx | hx
    · rw [if_neg (by omega), if_neg (by omega), if_neg (by omega)]
    · rw [if_neg (by omega), if_pos hx, if_pos (by omega), hx, Nat.sub_self, Nat.add_zero]
    · rw [if_neg (by omega : ¬x = w), show i + 1 + (x - (w + 1)) = i + (x - w) by omega]
      exact if_congr (by omega) rfl rfl

theorem poisoned_storeWords (x : Nat) : ∀ n w i (h : Hbm), (storeWords ps psn data w i n h).poisoned x =
    if w ≤ x ∧ x < w + n then psn || ps.contains (i + (x - w)) else h.poisoned x
  | 0, w, i, h => (if_neg (by omega)).symm
  | n + 1, w, i, h => by
    rw [storeWords, poisoned_storeWords x n, poisoned_putWord]
    rcases Nat.lt_trichotomy x w with hx | hx | hx
    · rw [if_neg (by omega), if_neg (by omega), if_neg (by omega)]
    · rw [if_neg (by omega), if_pos hx, if_pos (by omega), hx, Nat.sub_self, Nat.add_zero]
    · rw [if_neg (by omega : ¬x = w), show i + 1 + (x - (w + 1)) = i + (x - w) by omega]
      exact if_congr (by omega) rfl rfl

theorem isFull_storeWords (x : Nat) : ∀ n w i (h : Hbm), (storeWords ps psn data w i n h).isFull x = h.isFull x
  | 0, _, _, _ => rfl
  | n + 1, w, i, h => by rw [storeWords, isFull_storeWords x n, isFull_putWord]

end

/-! ### The commands on descriptors that pass their checks -/

section
variable {d : Dev} {h : Hbm} {r : BitVec 12} {k n : Nat} {x : Desc}

theorem pick_started {want : Desc → Bool} (hx : Started d r k x n) (hwant : want x = true) : d.pick r k want = some x := by
  simp [Dev.pick, hx.here, hx.idle, hwant]

/-- The offset that a read of poisoned words reports. -/
theorem hbmrd_acts (hx : Started d r k x 0x05)
    (hok : firstFailing (d.moveChecks r x [lowMask 48, allBits, lowMask 32] d.hostMayRead) = none)
    (hnone : ∀ j, d.spillRegion j = none) :
    let ps := (List.range (x.len / 8)).filter fun i => h.poisoned (x.addr / 8 + i)
    hbmrd r k [] h d =
      ((d.wakeRange x.addr x.len).emit (.hostWrite (d.pairFn r) (x.w 2) x.len
        ((List.range (x.len / 8)).map fun i => h.word (x.addr / 8 + i)) ps)).finish r x
          (if ps = [] then stOk else stPoisoned) (BitVec.ofNat 64 (8 * ps.headD 0)) := by
  intro ps
  refine (perform_acts hx (by simp [opc_of_started hx]) hok).trans ?_
  have hwords := hostWords_plain (h := h) (d := d.wakeRange x.addr x.len) (by rw [spillRegion_wakeRange]; exact hnone)
    (x.len / 8) (x.addr / 8) 0
  have hps : (List.range' 0 (x.len / 8)).filter (fun j => h.poisoned (x.addr / 8 + (j - 0))) = ps := by
    rw [← List.range_eq_range']
    rfl
  rw [hps, List.range'_eq_map_range, List.map_map] at hwords
  simp only [hwords, pairFn_wakeRange]
  cases hlist : ps <;> rfl

theorem lockDesc_acts {sub : Nat} {op : MemOp} (hx : Started d r k x 0x09) (hsub : x.sub = sub)
    (hok : firstFailing (d.lockChecks r x) = none) :
    lockDesc sub op r k d = (d.park r x).sendFromHub hubHost
      (.req { op := op, sz := 3, sx := false, addr := bits (x.w 1) 0 48, data := 0, cmp := 0, dpoison := false, graph := 0
              frame := 0, src := .desc r (d.pairFn r) x.index }) := by
  rw [lockDesc, pick_started hx (by simp [opc_of_started hx, hsub])]
  simp only [hok]

end

/-- Settles O39: HBM changes by its words alone, and a lock descriptor parks with its request on the way. -/
theorem memoryDescriptorsComplete : Obligations.MemoryDescriptorsComplete := by
  intro s r k x hdies fn w0 n
  refine ⟨fun hx hok hnone => onDies_next hdies (hbmrd_acts hx hok hnone), fun h hx hok hdata => ?write, fun hx hok => ?clear,
    ?lock⟩
  case write =>
    have hwhole : (decide (h.status = .ok) || decide (h.status = .poisoned)) = true := by simpa using hdata
    refine ⟨storeWords h.poisoned (bit (x.w 3) 63) h.words w0 0 n s.hbm, ?_,
      fun w => ⟨fun hw => ⟨?_, ?_⟩, fun hw => ⟨?_, ?_⟩, ?_⟩⟩
    · refine (onMem_acts _ hdies).trans ?_
      rw [hbmwr, pick_started hx (by simp [opc_of_started hx])]
      simp only [hok, hwhole, if_true]
      rfl
    · rw [word_storeWords, if_pos hw, Nat.zero_add]
    · rw [poisoned_storeWords, if_pos hw, Nat.zero_add]
    · rw [word_storeWords, if_neg hw]
    · rw [poisoned_storeWords, if_neg hw]
    · exact isFull_storeWords ..
  case clear =>
    refine ⟨s.hbm.setEmpty w0 ((x.addr + x.len) / 8), ?_, rfl, rfl, fun hwf w => isFull_setEmpty hwf ..⟩
    refine (onMem_acts _ hdies).trans ?_
    rw [sclear, pick_started hx (by simp [opc_of_started hx])]
    simp only [hok]
    rfl
  case lock =>
    simp only [List.forall_mem_cons, List.not_mem_nil, false_implies, implies_true, and_true]
    exact ⟨fun hx hsub hok => onDies_next hdies (lockDesc_acts hx hsub hok),
      fun hx hsub hok => onDies_next hdies (lockDesc_acts hx hsub hok),
      fun hx hsub hok => onDies_next hdies (lockDesc_acts hx hsub hok)⟩

end Sys2Proof.Machine
end

section
/-! What the moves of tokens, events, locks, descriptors and notices leave as it was: the time, the units that are isolated or tested, the
cells' isolation, the ring pairs that have no entry, and the outline of every graph. -/

namespace Sys2Proof.Machine

/-! ### The relation -/

/-- A graph without what goes on while it is left alone: its census counters, the stall mark and the notices it holds. -/
def Graph.outline (x : Graph) : Graph := { x with cen := censusZero, stalled := false, notices := [] }

/-- The graph slots, each with its graph's outline. -/
def Dev.outlines (d : Dev) : List (Nat × Graph) := d.graphs.map fun x => (x.1, x.2.outline)

/-- A table has an entry for a key. -/
def lists {α : Type} (m : Map α) (i : Nat) : Bool := m.any fun x => x.1 = i

/-- A ring pair has no entry: it stands at its reset values, without descriptors, and so does its RCFG, which disables it. -/
def Dev.pairClear (d : Dev) (r : BitVec 12) : Bool := !lists d.hif.pairs r.toNat && !lists d.regs.cfg (rRcfg r.toNat)

/-- What a start-up sets of the module's own state, and what it latched. -/
def Dev.boot (d : Dev) : Map Byte × Bool × BitVec 4 × Bool × Pwr × Bool :=
  (d.mgt.nv, d.mgt.ready, d.mgt.phase, d.mgt.pclk, d.pwr, d.fbn.root)

/-- From d to e nothing of this changes; graphs may. -/
structure Steady (d e : Dev) : Prop where
  clock : e.clock = d.clock
  boot : e.boot = d.boot
  isolated : e.flt.isolated = d.flt.isolated
  testing : e.flt.testing = d.flt.testing
  opened : d.flt.episode.isSome = true → e.flt.episode.isSome = true
  cells : ∀ c, (e.cell c).isolated = (d.cell c).isolated
  dead : e.fab.dead = d.fab.dead
  pairFn : e.hif.pairFn = d.hif.pairFn
  ports : ∀ p, e.portEn p = d.portEn p
  pairs : ∀ r, d.pairClear r = true → e.pairClear r = true

/-- Nor does the outline of any graph. -/
structure Calm (d e : Dev) : Prop extends Steady d e where
  graphs : e.outlines = d.outlines

section
variable {d e f : Dev}

theorem Steady.refl (d : Dev) : Steady d d := by constructor <;> simp

theorem Steady.trans (h : Steady d e) (k : Steady e f) : Steady d f where
  clock := k.clock.trans h.clock
  boot := k.boot.trans h.boot
  isolated := k.isolated.trans h.isolated
  testing := k.testing.trans h.testing
  opened := fun x => k.opened (h.opened x)
  cells := fun c => (k.cells c).trans (h.cells c)
  dead := k.dead.trans h.dead
  pairFn := k.pairFn.trans h.pairFn
  ports := fun p => (k.ports p).trans (h.ports p)
  pairs := fun r x => k.pairs r (h.pairs r x)

theorem Calm.refl (d : Dev) : Calm d d := ⟨.refl d, rfl⟩

theorem Calm.trans (h : Calm d e) (k : Calm e f) : Calm d f := ⟨h.toSteady.trans k.toSteady, k.graphs.trans h.graphs⟩

theorem Steady.foldl {α : Type} {g : Dev → α → Dev} (h : ∀ d a, Steady d (g d a)) :
    ∀ (l : List α) (d : Dev), Steady d (l.foldl g d)
  | [], d => .refl d
  | a :: l, d => (h d a).trans (Steady.foldl h l (g d a))

theorem Calm.foldl {α : Type} {g : Dev → α → Dev} (h : ∀ d a, Calm d (g d a)) : ∀ (l : List α) (d : Dev), Calm d (l.foldl g d)
  | [], d => .refl d
  | a :: l, d => (h d a).trans (Calm.foldl h l (g d a))

theorem Calm.ite {P : Prop} [Decidable P] {a b : Dev} (ha : Calm d a) (hb : Calm d b) : Calm d (if P then a else b) := by
  split
  · exact ha
  · exact hb

/-- An update of none of the fields that the relation looks at. -/
theorem Calm.of_rest (hclock : e.clock = d.clock := by rfl) (hboot : e.boot = d.boot := by rfl)
    (hisolated : e.flt.isolated = d.flt.isolated := by rfl)
    (htesting : e.flt.testing = d.flt.testing := by rfl)
    (hopened : d.flt.episode.isSome = true → e.flt.episode.isSome = true := by exact id)
    (hcells : e.cells = d.cells := by rfl) (hdead : e.fab.dead = d.fab.dead := by rfl)
    (hpairFn : e.hif.pairFn = d.hif.pairFn := by rfl)
    (hports : ∀ p, e.portEn p = d.portEn p := by exact fun _ => rfl)
    (hpairs : ∀ r, d.pairClear r = true → e.pairClear r = true := by exact fun _ h => h)
    (hgraphs : e.graphs = d.graphs := by rfl) : Calm d e where
  clock := hclock
  boot := hboot
  isolated := hisolated
  testing := htesting
  opened := hopened
  cells := fun c => by rw [Dev.cell_congr hcells]
  dead := hdead
  pairFn := hpairFn
  ports := hports
  pairs := hpairs
  graphs := by rw [Dev.outlines, hgraphs, Dev.outlines]

end

/-! ### Cells -/

section
variable {d : Dev}

theorem modCell_calm (d : Dev) (c : CellId) (f : Cell → Cell) (hf : ∀ x, (f x).isolated = x.isolated) : Calm d (d.modCell c f) where
  clock := rfl
  boot := rfl
  isolated := rfl
  testing := rfl
  opened := id
  cells := fun k => by
    rw [Dev.cell_modCell]
    split
    · next h => rw [hf, h]
    · rfl
  dead := rfl
  pairFn := rfl
  ports := fun _ => rfl
  pairs := fun _ h => h
  graphs := rfl

theorem modPipe_calm (d : Dev) (c : CellId) (f : CellPipe → CellPipe) : Calm d (d.modPipe c f) := modCell_calm d c _ fun _ => rfl
theorem modEv_calm (d : Dev) (c : CellId) (f : CellEvents → CellEvents) : Calm d (d.modEv c f) := modCell_calm d c _ fun _ => rfl
theorem modLane_calm (d : Dev) (c : CellId) (ln : BitVec 3) (f : Lane → Lane) : Calm d (d.modLane c ln f) := modPipe_calm ..
theorem sweepFreeing_calm (d : Dev) (c : CellId) : Calm d (d.sweepFreeing c) := modCell_calm d c _ fun _ => rfl

/-- Every listed cell changed, its isolation apart. -/
theorem mapCells_calm (d : Dev) (f : Cell → Cell) (hf : ∀ x, (f x).isolated = x.isolated) (hreset : f cellReset = cellReset) :
    Calm d { d with cells := d.cells.map fun x => (x.1, f x.2) } where
  clock := rfl
  boot := rfl
  isolated := rfl
  testing := rfl
  opened := id
  cells := fun k => by
    rw [Dev.cell, mget_map_snd cellReset k.toNat d.cells hreset, hf]
    rfl
  dead := rfl
  pairFn := rfl
  ports := fun _ => rfl
  pairs := fun _ h => h
  graphs := rfl

end

/-! ### Graphs -/

section
variable {d : Dev} {g : GraphId} {x y : Graph}

/-- A graph put back in its place with its outline. -/
theorem map_minsert_outline {i : Nat} (hxy : y.outline = x.outline) : ∀ {m : Map Graph}, mfind m i = some x →
    (minsert m i y).map (fun p => (p.1, p.2.outline)) = m.map fun p => (p.1, p.2.outline)
  | (k, v) :: m, h => by
    simp only [mfind] at h
    simp only [minsert]
    by_cases hk : k = i
    · rw [if_pos hk] at h
      obtain rfl := Option.some.inj h
      rw [if_neg (by omega), if_pos hk.symm, List.map_cons, List.map_cons, hxy, hk]
    · rw [if_neg hk] at h
      split at h
      · cases h
      · next hlt => rw [if_neg hlt, if_neg (by omega), List.map_cons, List.map_cons, map_minsert_outline hxy h]

theorem setGraph_steady (d : Dev) (g : GraphId) (x : Graph) : Steady d (d.setGraph g x) where
  clock := rfl
  boot := rfl
  isolated := rfl
  testing := rfl
  opened := id
  cells := fun _ => rfl
  dead := rfl
  pairFn := rfl
  ports := fun _ => rfl
  pairs := fun _ h => h

theorem setGraph_calm (hg : d.graph g = some x) (hxy : y.outline = x.outline) : Calm d (d.setGraph g y) :=
  ⟨setGraph_steady .., map_minsert_outline hxy hg⟩

theorem modGraph_steady (d : Dev) (g : GraphId) (f : Graph → Graph) : Steady d (d.modGraph g f) := by
  unfold Dev.modGraph
  split
  · exact .refl d
  · exact setGraph_steady ..

theorem modGraph_calm (d : Dev) (g : GraphId) (f : Graph → Graph) (hf : ∀ x, (f x).outline = x.outline) : Calm d (d.modGraph g f) := by
  unfold Dev.modGraph
  split
  · exact .refl d
  · next x hg => exact setGraph_calm hg (hf x)

/-- The outline of a graph is found in its slot. -/
theorem mfind_map_outline (i : Nat) : ∀ m : Map Graph,
    mfind (m.map fun p => (p.1, p.2.outline)) i = (mfind m i).map Graph.outline
  | [] => rfl
  | (k, v) :: m => by
    simp only [List.map_cons, mfind, mfind_map_outline i m]
    split
    · rfl
    · split <;> rfl

theorem Calm.graph {d e : Dev} (h : Calm d e) (g : GraphId) : (e.graph g).map Graph.outline = (d.graph g).map Graph.outline := by
  rw [Dev.graph, Dev.graph, ← mfind_map_outline, ← mfind_map_outline]
  exact congrArg (mfind · g.toNat) h.graphs

theorem unstall_calm (d : Dev) (g : GraphId) : Calm d (d.unstall g) := modGraph_calm d g _ fun _ => rfl
theorem hubConsume_calm (d : Dev) (g : GraphId) (b : Bool) : Calm d (d.hubConsume g b) :=
  (modGraph_calm d g (fun x => { x with cen := x.cen.consume b }) fun _ => rfl).trans (unstall_calm _ g)
theorem cellCreate_calm (d : Dev) (c : CellId) (g : GraphId) (b : Bool) : Calm d (d.cellCreate c g b) :=
  modCell_calm d c _ fun _ => rfl
theorem cellConsume_calm (d : Dev) (c : CellId) (g : GraphId) (b : Bool) : Calm d (d.cellConsume c g b) :=
  (modCell_calm d c (fun x => x.modCensus g fun y => y.consume b) fun _ => rfl).trans (unstall_calm _ g)

theorem hubAbsorb_calm (d : Dev) (g : GraphId) (b : Bool) : Calm d (d.hubAbsorb g b) := .ite (hubConsume_calm ..) (.refl d)

end

/-! ### Faults and interrupts -/

section
variable (d : Dev)

theorem emit_calm (o : Out) : Calm d (d.emit o) := .of_rest

theorem setVector_calm (fn : GraphId) (v : BitVec 5) (x : Vector) : Calm d (d.setVector fn v x) := .of_rest

theorem msix_calm (fn : GraphId) (v : BitVec 5) : Calm d (d.msix fn v) :=
  .ite ((setVector_calm ..).trans (emit_calm ..)) (setVector_calm ..)

theorem ibiSend_calm (b : Byte) : Calm d (d.ibiSend b) := .ite (emit_calm ..) (.refl d)

theorem episodeNotice_calm (n : Nat) : Calm d (d.episodeNotice n) := (msix_calm ..).trans (emit_calm ..)

theorem setSticky_calm (k : Nat) (m : Reg) : Calm d (d.setSticky k m) := .ite (.refl d) .of_rest

theorem onSeverity_calm (o n : Nat) : Calm d (d.onSeverity o n) := .ite .of_rest (.refl d)

/-- An occurrence opens an episode or adds to the one that is open. -/
theorem setEpisode_calm (f : Flt) (hisolated : f.isolated = d.flt.isolated) (htesting : f.testing = d.flt.testing)
    (hopen : f.episode.isSome = true) : Calm d { d with flt := f } :=
  .of_rest (hisolated := hisolated) (htesting := htesting) (hopened := fun _ => hopen)

theorem occur_calm (sev : Nat) (u : List DevUnit) (c : List AbortCause) : Calm d (d.occur sev u c) := by
  unfold Dev.occur
  split
  · refine (Calm.trans (Calm.trans ?_ (episodeNotice_calm _ 0)) (ibiSend_calm _ 1)).trans (onSeverity_calm _ 0 sev)
    exact setEpisode_calm d _ rfl rfl rfl
  · next e _ =>
    dsimp only
    split
    · refine (Calm.trans ?_ (episodeNotice_calm _ e.stage)).trans (onSeverity_calm _ e.sev.toNat sev)
      exact setEpisode_calm d _ rfl rfl rfl
    · exact setEpisode_calm d _ rfl rfl rfl

theorem faultOnly_calm (s : Nat) (u : List DevUnit) (c : List AbortCause) : Calm d (d.faultOnly s u c) :=
  .ite (.refl d) (.ite ((setSticky_calm ..).trans (occur_calm ..)) (setSticky_calm ..))

theorem fault_calm (k b s : Nat) (u : List DevUnit) (c : List AbortCause) : Calm d (d.fault k b s u c) :=
  .ite (.refl d) ((setSticky_calm ..).trans (faultOnly_calm ..))

theorem norouteFault_calm : Calm d d.norouteFault := fault_calm ..

end

/-! ### Packets on their way -/

section
variable (d : Dev)

theorem modStack_calm (s : DieId) (f : Stack → Stack) : Calm d (d.modStack s f) := .of_rest
theorem setYoyo_calm (s : DieId) (y : Yoyo) : Calm d (d.setYoyo s y) := .of_rest
theorem modLink_calm (l : LinkId) (f : Link → Link) : Calm d (d.modLink l f) := .of_rest
theorem toLink_calm (l : LinkId) (p : FPacket) : Calm d (d.toLink l p) := modLink_calm ..
theorem setCrossing_calm (k : Nat) (l : List Flit) : Calm d (d.setCrossing k l) := .of_rest

theorem loseFob_calm (p : FPacket) : Calm d (d.loseFob p) := .ite (hubAbsorb_calm ..) (.ite (hubAbsorb_calm ..) (.refl d))

theorem losePacket_calm (p : Pkt) : Calm d (d.losePacket p) := by
  unfold Dev.losePacket
  split
  · exact hubAbsorb_calm ..
  · exact hubAbsorb_calm ..
  · exact hubAbsorb_calm ..
  · exact loseFob_calm ..
  · exact .refl d

theorem absorbPacket_calm (p : Pkt) (noroute : Bool) : Calm d (d.absorbPacket p noroute) :=
  (Calm.ite (norouteFault_calm d) (.refl d)).trans (losePacket_calm ..)

theorem trySend_calm (p : FPacket) : Calm d (d.trySend p).1 := by
  unfold Dev.trySend
  split
  · exact .of_rest
  · exact toLink_calm ..
  · exact (Calm.ite (norouteFault_calm d) (.refl d)).trans (loseFob_calm ..)

theorem sendFob_calm (p : FPacket) : Calm d (d.sendFob p) := by
  have hsent := trySend_calm d p
  unfold Dev.sendFob
  split
  · next e h => rwa [h] at hsent
  · next e st h =>
    rw [h] at hsent
    exact .ite (hsent.trans (trySend_calm ..)) hsent

theorem sendFromDie_calm (s : DieId) (p : Pkt) : Calm d (d.sendFromDie s p) := by
  unfold Dev.sendFromDie
  split
  · exact setCrossing_calm ..
  · split
    · exact sendFob_calm ..
    · exact .refl d
  · exact absorbPacket_calm ..

theorem sendEv_calm (c t : CellId) (p : Pkt) : Calm d (d.sendEv c t p) := .ite (modPipe_calm ..) (modPipe_calm ..)

theorem sendRecord_calm (c t : CellId) (r : EvRec) : Calm d (d.sendRecord c t r) := sendEv_calm ..

theorem loseEvent_calm (r : EvRec) : Calm d (d.loseEvent r) := (fault_calm ..).trans (cellConsume_calm ..)

theorem redirectFault_calm (c : CellId) : Calm d (d.redirectFault c) := fault_calm ..

theorem turnRecord_calm (c : CellId) (r : EvRec) : Calm d (d.turnRecord c r) := by
  unfold Dev.turnRecord
  dsimp only
  split
  · split
    · exact (redirectFault_calm ..).trans (sendRecord_calm ..)
    · exact loseEvent_calm ..
  · exact .ite (sendRecord_calm ..) (.ite (loseEvent_calm ..) ((redirectFault_calm ..).trans (sendRecord_calm ..)))

theorem dropRecord_calm (c : CellId) (born : Nat) : Calm d (d.dropRecord c born) := by
  unfold Dev.dropRecord
  dsimp only
  split
  · exact .refl d
  · split
    · exact modEv_calm ..
    · exact (modEv_calm ..).trans (modLane_calm ..)
    · split
      · exact modEv_calm ..
      · exact ((modEv_calm ..).trans (modEv_calm ..)).trans (modLane_calm ..)

end

/-! ### Ring pairs: completions and notices -/

section
variable {d e : Dev} {r : BitVec 12}

theorem not_lists_mdrop {α : Type} {j : Nat} (i : Nat) : ∀ {m : Map α}, lists m j = false → lists (mdrop i m) j = false
  | [], h => h
  | _ :: _, h => by
    rw [mdrop]
    split
    · exact not_lists_mdrop i (Bool.or_eq_false_iff.mp h).2
    · exact h

/-- A table that does not list a key does not list it after another is set. -/
theorem not_lists_mset {α : Type} [DecidableEq α] {i j : Nat} (hj : j ≠ i) (dflt v : α) :
    ∀ {m : Map α}, lists m j = false → lists (mset dflt m i v) j = false
  | [], _ => by
    rw [mset]
    split
    · rfl
    · simp [lists, hj.symm]
  | (k, w) :: m, h => by
    obtain ⟨hk, hm⟩ := Bool.or_eq_false_iff.mp h
    rw [mset]
    split
    · split
      · exact h
      · simpa [lists, hj.symm] using h
    · split
      · split
        · exact not_lists_mdrop i hm
        · simpa [lists, hj.symm] using hm
      · exact Bool.or_eq_false_iff.mpr ⟨hk, not_lists_mset hj dflt v hm⟩

theorem mget_of_not_lists {α : Type} {dflt : α} {i : Nat} : ∀ {m : Map α}, lists m i = false → mget dflt m i = dflt
  | [], _ => rfl
  | x :: m, h => by
    obtain ⟨hx, hm⟩ := Bool.or_eq_false_iff.mp h
    rw [mget, if_neg (by simpa using hx)]
    split
    · rfl
    · exact mget_of_not_lists hm

theorem pairClear_iff : d.pairClear r = true ↔ lists d.hif.pairs r.toNat = false ∧ lists d.regs.cfg (rRcfg r.toNat) = false := by
  simp [Dev.pairClear]

theorem pair_of_pairClear (h : d.pairClear r = true) : d.pair r = pairReset :=
  mget_of_not_lists (pairClear_iff.mp h).1

theorem regReset_rRcfg (r : BitVec 12) : regReset (rRcfg r.toNat) = 4 := by
  have hr := r.isLt
  have hoff : rRcfg r.toNat = 0x30018 + 32 * r.toNat := rfl
  have hlate : ¬(0x100 ≤ rRcfg r.toNat - 0x20000 ∧ rRcfg r.toNat - 0x20000 < 0x180) := by omega
  have hpairs : 0x10000 ≤ rRcfg r.toNat - 0x20000 ∧ rRcfg r.toNat - 0x20000 < 0x30000 := by omega
  rw [regReset, Nat.mod_eq_of_lt (by omega : rRcfg r.toNat < 2 ^ 32), if_neg (by omega), if_pos (by omega), hifReset,
    if_neg (by omega), if_neg (by rwa [Bool.and_eq_true, decide_eq_true_iff, decide_eq_true_iff]),
    if_pos (by rwa [Bool.and_eq_true, decide_eq_true_iff, decide_eq_true_iff]), if_pos (by omega)]

theorem pairEn_of_pairClear (h : d.pairClear r = true) : d.pairEn r = false := by
  have hreset : d.reg (rRcfg r.toNat) = BitVec.ofNat 64 (regReset (rRcfg r.toNat)) := mget_of_not_lists (pairClear_iff.mp h).2
  rw [Dev.pairEn, Dev.fld, hreset, regReset_rRcfg]
  rfl

/-- An update of one ring pair that is on or holds descriptors. -/
theorem Calm.of_pair (hlive : (d.pair r).started ≠ [] ∨ d.pairEn r = true)
    (hpair : ∀ q, q ≠ r → lists d.hif.pairs q.toNat = false → lists e.hif.pairs q.toNat = false)
    (hclock : e.clock = d.clock) (hboot : e.boot = d.boot) (hflt : e.flt = d.flt) (hcells : e.cells = d.cells) (hfab : e.fab = d.fab)
    (hpairFn : e.hif.pairFn = d.hif.pairFn) (hregs : e.regs = d.regs) (hgraphs : e.graphs = d.graphs) : Calm d e := by
  refine .of_rest hclock hboot (by rw [hflt]) (by rw [hflt]) (by rw [hflt]; exact id) hcells (by rw [hfab]) hpairFn
    (fun p => by rw [Dev.portEn, Dev.fld_congr hregs, Dev.portEn]) (fun q hclear => ?_) hgraphs
  have hq : q ≠ r := by
    rintro rfl
    rw [pair_of_pairClear hclear, pairEn_of_pairClear hclear] at hlive
    simp [pairReset] at hlive
  obtain ⟨hpairs, hcfg⟩ := pairClear_iff.mp hclear
  exact pairClear_iff.mpr ⟨hpair q hq hpairs, hregs ▸ hcfg⟩

theorem keeps_ite {α : Type} {f : Dev → α} {P : Prop} [Decidable P] {d a b : Dev} (ha : f a = f d) (hb : f b = f d) :
    f (if P then a else b) = f d := by
  split
  · exact ha
  · exact hb

/-- What interrupts, output and one ring pair do not touch, a completion entry leaves. -/
theorem msix_keeps {α : Type} (f : Dev → α) (hvector : ∀ d fn v x, f (Dev.setVector d fn v x) = f d)
    (hemit : ∀ d o, f (Dev.emit d o) = f d) (d : Dev) (fn : GraphId) (v : BitVec 5) : f (d.msix fn v) = f d :=
  keeps_ite ((hemit ..).trans (hvector ..)) (hvector ..)

theorem signal_keeps {α : Type} (f : Dev → α) (hvector : ∀ d fn v x, f (Dev.setVector d fn v x) = f d)
    (hemit : ∀ d o, f (Dev.emit d o) = f d) (d : Dev) (fn : GraphId) (v : BitVec 5) (now : Bool) : f (d.signal fn v now) = f d :=
  keeps_ite ((msix_keeps f hvector hemit ..).trans (hvector ..)) (hvector ..)

theorem putCq_keeps {α : Type} (f : Dev → α) (hvector : ∀ d fn v x, f (Dev.setVector d fn v x) = f d)
    (hemit : ∀ d o, f (Dev.emit d o) = f d) (hpair : ∀ d x, f (Dev.modPair d r x) = f d) (d : Dev) (tag : BitVec 32) (st : Byte)
    (ty : BitVec 4) (w : Word) (irq : Bool) : f (d.putCq r tag st ty w irq) = f d :=
  (signal_keeps f hvector hemit ..).trans ((hpair ..).trans (hemit ..))

theorem not_lists_modPair {d : Dev} {q : BitVec 12} (hq : q ≠ r) (f : Pair → Pair) (h : lists d.hif.pairs q.toNat = false) :
    lists (d.modPair r f).hif.pairs q.toNat = false := not_lists_mset (fun h => hq (BitVec.eq_of_toNat_eq h)) _ _ h

/-- A completion entry is, in the ring pairs, an update of its own. -/
theorem putCq_pairs (d : Dev) (r : BitVec 12) (tag : BitVec 32) (st : Byte) (ty : BitVec 4) (w : Word) (irq : Bool) :
    ∃ f, (d.putCq r tag st ty w irq).hif.pairs = (d.modPair r f).hif.pairs :=
  ⟨fun p => { p with
      cqTail := nextIndex (d.pairSize r) (d.pair r).cqTail, phase := xor p.phase (nextIndex (d.pairSize r) (d.pair r).cqTail = 0) },
    signal_keeps (fun d => d.hif.pairs) (fun _ _ _ _ => rfl) (fun _ _ => rfl) ..⟩

theorem not_lists_putCq {d : Dev} {q : BitVec 12} (hq : q ≠ r) (tag : BitVec 32) (st : Byte) (ty : BitVec 4) (w : Word) (irq : Bool)
    (h : lists d.hif.pairs q.toNat = false) : lists (d.putCq r tag st ty w irq).hif.pairs q.toNat = false := by
  obtain ⟨f, hf⟩ := putCq_pairs d r tag st ty w irq
  rw [hf]
  exact not_lists_modPair hq f h

theorem putCq_calm (hlive : (d.pair r).started ≠ [] ∨ d.pairEn r = true) (tag : BitVec 32) (st : Byte) (ty : BitVec 4) (w : Word)
    (irq : Bool) : Calm d (d.putCq r tag st ty w irq) := by
  refine .of_pair hlive (fun q hq => not_lists_putCq hq _ _ _ _ _) ?_ ?_ ?_ ?_ ?_ ?_ ?_ ?_
  · exact putCq_keeps Dev.clock (fun _ _ _ _ => rfl) (fun _ _ => rfl) (fun _ _ => rfl) ..
  · exact putCq_keeps Dev.boot (fun _ _ _ _ => rfl) (fun _ _ => rfl) (fun _ _ => rfl) ..
  · exact putCq_keeps Dev.flt (fun _ _ _ _ => rfl) (fun _ _ => rfl) (fun _ _ => rfl) ..
  · exact putCq_keeps Dev.cells (fun _ _ _ _ => rfl) (fun _ _ => rfl) (fun _ _ => rfl) ..
  · exact putCq_keeps Dev.fab (fun _ _ _ _ => rfl) (fun _ _ => rfl) (fun _ _ => rfl) ..
  · exact putCq_keeps (fun d => d.hif.pairFn) (fun _ _ _ _ => rfl) (fun _ _ => rfl) (fun _ _ => rfl) ..
  · exact putCq_keeps Dev.regs (fun _ _ _ _ => rfl) (fun _ _ => rfl) (fun _ _ => rfl) ..
  · exact putCq_keeps Dev.graphs (fun _ _ _ _ => rfl) (fun _ _ => rfl) (fun _ _ => rfl) ..

theorem ne_nil_of_takeAt {α : Type} {l : List α} {k : Nat} {x : α × List α} (h : takeAt l k = some x) : l ≠ [] := by
  rintro rfl
  cases h

/-- A completed descriptor: its own ring pair held it. -/
theorem complete_calm (d : Dev) (r : BitVec 12) (k : Nat) (st : Byte) (w : Word) : Calm d (d.complete r k st w) := by
  unfold Dev.complete
  split
  · exact .refl d
  · next x rest htake =>
    refine .of_pair (.inl (ne_nil_of_takeAt htake)) (fun q hq => ?_) ?_ ?_ ?_ ?_ ?_ ?_ ?_ ?_
    · exact fun h => not_lists_putCq hq _ _ _ _ _ (not_lists_modPair hq _ h)
    · exact putCq_keeps Dev.clock (fun _ _ _ _ => rfl) (fun _ _ => rfl) (fun _ _ => rfl) ..
    · exact putCq_keeps Dev.boot (fun _ _ _ _ => rfl) (fun _ _ => rfl) (fun _ _ => rfl) ..
    · exact putCq_keeps Dev.flt (fun _ _ _ _ => rfl) (fun _ _ => rfl) (fun _ _ => rfl) ..
    · exact putCq_keeps Dev.cells (fun _ _ _ _ => rfl) (fun _ _ => rfl) (fun _ _ => rfl) ..
    · exact putCq_keeps Dev.fab (fun _ _ _ _ => rfl) (fun _ _ => rfl) (fun _ _ => rfl) ..
    · exact putCq_keeps (fun d => d.hif.pairFn) (fun _ _ _ _ => rfl) (fun _ _ => rfl) (fun _ _ => rfl) ..
    · exact putCq_keeps Dev.regs (fun _ _ _ _ => rfl) (fun _ _ => rfl) (fun _ _ => rfl) ..
    · exact putCq_keeps Dev.graphs (fun _ _ _ _ => rfl) (fun _ _ => rfl) (fun _ _ => rfl) ..

theorem finish_calm (d : Dev) (r : BitVec 12) (x : Desc) (st : Byte) (w : Word) : Calm d (d.finish r x st w) := by
  unfold Dev.finish
  split
  · exact .refl d
  · exact complete_calm ..

theorem notice_calm (d : Dev) (g : GraphId) (n : Notice) : Calm d (d.notice g n) := by
  unfold Dev.notice
  split
  · exact .refl d
  · next x hg =>
    split
    · exact .refl d
    · next hon =>
      split
      · exact setGraph_calm hg rfl
      · exact putCq_calm (.inr (by simpa using hon)) ..

theorem endRun_steady (d : Dev) (g : GraphId) (st : Byte) : Steady d (d.endRun g st) := by
  unfold Dev.endRun
  split
  · exact .refl d
  · split
    · exact (setGraph_steady ..).trans (notice_calm ..).toSteady
    · exact .refl d

end

/-! ### Locks -/

section
variable (d : Dev)

theorem free_calm : Calm d d.free.2 := .of_rest

theorem lockToken_calm (s : DieId) (r : MemReq) (st : Byte) : Calm d (d.lockToken s r st).1 := free_calm d

theorem lockCreate_calm (s : DieId) (g : GraphId) : Calm d (d.lockCreate s g) := modStack_calm ..

theorem grant_calm (s : DieId) (r : MemReq) (st : Byte) : Calm d (d.grant s r st) := by
  unfold Dev.grant
  split
  · split
    · exact .refl d
    · exact complete_calm ..
  · exact ((lockToken_calm d s r st).trans (lockCreate_calm ..)).trans (sendFromDie_calm ..)

theorem abandonOne_calm (s : DieId) (e : LockEnt) : Calm d (d.abandonOne s e) := by
  unfold Dev.abandonOne
  split
  · exact modStack_calm ..
  · exact (modStack_calm ..).trans (grant_calm ..)

theorem abandonAt_calm (s : DieId) (p : Owner → Bool) : Calm d (d.abandonAt s p) :=
  (modStack_calm ..).trans (.foldl (fun d e => abandonOne_calm d s e) _ _)

theorem dropLockReqs_calm (p : Owner → Bool) : Calm d (d.dropLockReqs p) :=
  (mapCells_calm d (fun x => { x with pipe := { x.pipe with egress := x.pipe.egress.filter fun o => !o.pkt.lockOf p } })
    (fun _ => rfl) rfl).trans .of_rest

theorem abandon_calm (p : Owner → Bool) : Calm d (d.abandon p) :=
  (dropLockReqs_calm d p).trans (.foldl (fun d s => abandonAt_calm d s p) _ _)

end

/-! ### A graph's items leave the device (R39, R401) -/

section
variable (d : Dev) (g : GraphId)

theorem ungrant_calm (l : List EvRec) : Calm d (d.ungrant l) := by
  refine .foldl (fun d e => ?_) l d
  split
  · exact .refl d
  · exact modEv_calm ..

theorem consumeWhere_calm (c : CellId) (p : GraphId → Bool) : Calm d (d.consumeWhere c p) :=
  .foldl (fun _ _ => .ite (cellConsume_calm ..) (hubConsume_calm ..)) _ d

theorem dropRecords_calm (c : CellId) : Calm d (d.dropRecords c g) :=
  .foldl (g := fun d (r : EvRec) => (d.dropRecord c r.born).ungrant [r])
    (fun d r => (dropRecord_calm d c r.born).trans (ungrant_calm _ [r])) _ d

theorem purgeCell_calm (unload : Bool) (c : CellId) : Calm d (d.purgeCell g unload c) := by
  unfold Dev.purgeCell
  refine Calm.trans (Calm.trans ?_ (modCell_calm _ c _ ?_)) (sweepFreeing_calm _ c)
  · exact ((Calm.ite (consumeWhere_calm ..) (.refl d)).trans (ungrant_calm _ _)).trans (dropRecords_calm _ g c)
  · exact fun _ => rfl

theorem dropDeferred_calm : Calm d (d.dropDeferred g) := .foldl (fun _ _ => modStack_calm ..) _ d

theorem consumeUncore_calm : Calm d (d.consumeUncore g) := .foldl (fun _ _ => hubConsume_calm ..) _ d

theorem setOrings_calm (l : Map ORing) : Calm d { d with hif := { d.hif with orings := l } } := .of_rest

/-- A graph's items on their way between units go. -/
def Dev.purgeTransit (d : Dev) (g : GraphId) : Dev :=
  { d with
    fab := d.fab.purge g
    links := d.links.map fun x => (x.1, x.2.purge g)
    fbn := { d.fbn with
      delivered := d.fbn.delivered.filter fun p => !fobItemOf g p
      proxyCen := d.fbn.proxyCen.filter fun x => x.1 % 64 ≠ g.toNat
      refusedOut := d.fbn.refusedOut.filter fun x => x.2.graph ≠ g }
    hif := { d.hif with orings := d.hif.orings.map fun x => (x.1, x.2.purge g) } }

theorem purgeTransit_calm : Calm d (d.purgeTransit g) := .of_rest

theorem unloadUncore_calm : Calm d (d.unloadUncore g) := by
  unfold Dev.unloadUncore
  refine Calm.trans ?_ (setOrings_calm _ _)
  exact (((dropDeferred_calm d g).trans (abandon_calm _ _)).trans (consumeUncore_calm _ g)).trans
    (.foldl (fun _ _ => setYoyo_calm ..) _ _)

theorem purgeUncore_calm : Calm d (d.purgeUncore g) := by
  unfold Dev.purgeUncore
  exact ((((dropDeferred_calm d g).trans (abandon_calm _ _)).trans
    (.foldl (fun _ _ => (modStack_calm ..).trans (setYoyo_calm ..)) _ _)).trans (ungrant_calm _ _)).trans (purgeTransit_calm _ g)

/-- A reset's work on items, between the end of the run and the graph's own record. -/
def Dev.discard (d : Dev) (g : GraphId) (unload : Bool) : Dev :=
  let d := if unload then d.unloadUncore g else d.purgeUncore g
  d.listedCells.foldl (fun d c => d.purgeCell g unload c) d

theorem discard_calm (unload : Bool) : Calm d (d.discard g unload) :=
  (Calm.ite (unloadUncore_calm d g) (purgeUncore_calm d g)).trans (.foldl (fun d c => purgeCell_calm d g unload c) _ _)

theorem resetGraph_eq (unload : Bool) : d.resetGraph g unload =
    ((d.endRun g stAborted).discard g unload).modGraph g fun x => x.reset d.clock.run unload := by
  rw [← (endRun_steady d g stAborted).clock, ← (discard_calm (d.endRun g stAborted) g unload).clock]
  rfl

theorem resetGraph_steady (unload : Bool) : Steady d (d.resetGraph g unload) := by
  rw [resetGraph_eq]
  exact ((endRun_steady ..).trans (discard_calm ..).toSteady).trans (modGraph_steady ..)

theorem abortGraph_steady : Steady d (d.abortGraph g) := by
  unfold Dev.abortGraph
  split
  · exact .refl d
  · split
    · exact .refl d
    · exact (resetGraph_steady ..).trans (modGraph_steady ..)

end

/-! ### What a reset makes of graphs (R401, R448) -/

section
variable {d : Dev} {g : GraphId} {x : Graph}

/-- The graph after its reset, up to what goes on. -/
theorem resetGraph_graph (hg : d.graph g = some x) (unload : Bool) : ∃ y, (d.resetGraph g unload).graph g = some y ∧
    y.outline = ({ x with running := false }.reset d.clock.run unload).outline := by
  obtain ⟨ns, hended⟩ := endRun_graph hg stAborted
  have hsame := (discard_calm (d.endRun g stAborted) g unload).graph g
  rw [hended] at hsame
  obtain ⟨y, hy, hyx⟩ := Option.map_eq_some_iff.mp hsame
  refine ⟨y.reset d.clock.run unload, ?_, ?_⟩
  · rw [resetGraph_eq, graph_modGraph, if_pos rfl, hy]
    rfl
  · have := congrArg (fun z : Graph => (z.reset d.clock.run unload).outline) hyx
    simpa [Graph.reset, Graph.outline] using this

theorem graph_setGraph_ne (d : Dev) {k : GraphId} (hk : k ≠ g) (y : Graph) : (d.setGraph g y).graph k = d.graph k :=
  mfind_minsert_ne _ _ _ _ fun h => hk (BitVec.eq_of_toNat_eq h)

theorem endRun_other {k : GraphId} (hk : k ≠ g) (st : Byte) :
    ((d.endRun g st).graph k).map Graph.outline = (d.graph k).map Graph.outline := by
  unfold Dev.endRun
  split
  · rfl
  · split
    · rw [(notice_calm ..).graph, graph_setGraph_ne d hk]
    · rfl

/-- A graph that is not reset keeps its outline. -/
theorem resetGraph_other {k : GraphId} (hk : k ≠ g) (unload : Bool) :
    ((d.resetGraph g unload).graph k).map Graph.outline = (d.graph k).map Graph.outline := by
  rw [resetGraph_eq, graph_modGraph, if_neg hk, (discard_calm ..).graph, endRun_other hk]

end

end Sys2Proof.Machine
end

section
/-! The descriptors of graphs (R39, R197, R398 to R403): settles GraphDescriptorsComplete. -/

namespace Sys2Proof.Machine

open Sys2Proof.Claims

/-! ### The checks of an image do not look at the reads of the host (R403) -/

section
variable {d e : Dev}

theorem FaultFrame.symm (h : FaultFrame d e) : FaultFrame e d := by
  constructor
  · exact h.clock.symm
  · exact h.cfg.symm
  · exact h.staged.symm
  · exact h.logs.symm
  · exact h.cells.symm
  · exact h.stks.symm
  · exact h.yoyos.symm
  · exact h.fab.symm
  · exact h.links.symm
  · exact h.lsym.symm
  · exact h.fbn.symm
  · exact h.graphs.symm
  · exact h.pwr.symm
  · exact h.mgt.symm
  · exact h.tap.symm
  · exact h.kal.symm
  · exact h.uct.symm
  · exact h.rgnInit.symm
  · exact h.freeCtr.symm

theorem FaultFrame.cell (h : FaultFrame d e) (c : CellId) : e.cell c = d.cell c := Dev.cell_congr h.cells c

theorem FaultFrame.fld (h : FaultFrame d e) (k lo len : Nat) : e.fld k lo len = d.fld k lo len := by
  simp only [Dev.fld, Dev.reg, h.cfg]

theorem FaultFrame.modStore (h : FaultFrame d e) (c : CellId) (f : CellStore → CellStore) :
    FaultFrame (d.modStore c f) (e.modStore c f) := by
  constructor
  case cells => simp only [Dev.modStore, Dev.modCell, Dev.setCell, h.cells, h.cell]
  case clock => exact h.clock
  case cfg => exact h.cfg
  case staged => exact h.staged
  case logs => exact h.logs
  case stks => exact h.stks
  case yoyos => exact h.yoyos
  case fab => exact h.fab
  case links => exact h.links
  case lsym => exact h.lsym
  case fbn => exact h.fbn
  case graphs => exact h.graphs
  case pwr => exact h.pwr
  case mgt => exact h.mgt
  case tap => exact h.tap
  case kal => exact h.kal
  case uct => exact h.uct
  case rgnInit => exact h.rgnInit
  case freeCtr => exact h.freeCtr

/-- Faults on both sides keep two devices alike. -/
theorem FaultFrame.fault (h : FaultFrame d e) (k b s : Nat) (u : List DevUnit) (c : List AbortCause) :
    FaultFrame (d.fault k b s u c) (e.fault k b s u c) := ((fault_frame ..).symm.trans h).trans (fault_frame ..)

theorem FaultFrame.spillFull (h : FaultFrame d e) (c : CellId) : FaultFrame (d.spillFull c) (e.spillFull c) := by
  unfold Dev.spillFull
  rw [h.cell]
  split
  · exact h
  · exact (h.modStore ..).fault ..

theorem FaultFrame.ringPut (h : FaultFrame d e) (c : CellId) (k : Nat) (b : SpillBody) :
    Option.Rel FaultFrame (d.ringPut c k b) (e.ringPut c k b) := by
  have hsize : e.ringSize = d.ringSize := by simp only [Dev.ringSize, h.fld]
  unfold Dev.ringPut
  rw [h.cell, hsize]
  split
  · exact .some (h.modStore ..)
  · exact .none

theorem FaultFrame.sweepOne (h : FaultFrame d e) (c : CellId) : FaultFrame (d.sweepOne c) (e.sweepOne c) := by
  unfold Dev.sweepOne
  rw [h.cell]
  split
  · exact h
  · next k rest _ =>
    dsimp only
    split
    · exact h.modStore ..
    · next x _ =>
      have hput := h.ringPut c k (.spilled x.tok x.sticky)
      revert hput
      generalize d.ringPut c k (.spilled x.tok x.sticky) = a
      generalize e.ringPut c k (.spilled x.tok x.sticky) = b
      rintro (hab | _)
      · exact hab.modStore ..
      · exact h.spillFull c

theorem FaultFrame.putConst (c : CellId) (g : GraphId) (r : Word × Word) : ∀ (n : Nat) {d e : Dev}, FaultFrame d e →
    Option.Rel FaultFrame (d.putConst c g r n) (e.putConst c g r n)
  | 0, _, _, _ => .none
  | n + 1, d, e, h => by
    have hstamp : e.stampNow c = d.stampNow c := by simp only [Dev.stampNow, Dev.coreNow, h.clock]
    unfold Dev.putConst
    dsimp only
    rw [h.cell, h.fbn, hstamp]
    split
    · exact .some (h.modStore ..)
    · split
      · exact .none
      · exact FaultFrame.putConst c g r n ((h.modStore ..).sweepOne c)

theorem FaultFrame.putConsts (h : FaultFrame d e) (m : Image) (g : GraphId) (c : Nat) :
    Option.Rel FaultFrame (d.putConsts m g c) (e.putConsts m g c) := by
  unfold Dev.putConsts
  dsimp only
  generalize m.constants c = l
  have hstart : Option.Rel FaultFrame (some d) (some e) := .some h
  revert hstart
  generalize some d = a
  generalize some e = b
  induction l generalizing a b with
  | nil => exact id
  | cons r l ih =>
    rintro (hab | _)
    · refine ih _ _ ?_
      dsimp only
      rw [hab.cell]
      exact FaultFrame.putConst _ g r _ hab
    · exact ih _ _ .none

theorem isSome_of_rel {α β : Type} {R : α → β → Prop} {a : Option α} {b : Option β} (h : Option.Rel R a b) :
    b.isSome = a.isSome := by
  cases h <;> rfl

theorem FaultFrame.spillRegion (h : FaultFrame d e) : e.spillRegion = d.spillRegion := by
  have hregion : e.region = d.region := by
    funext n
    simp only [Dev.region, Dev.reg, h.cfg]
  funext s
  rw [Dev.spillRegion, Dev.spillRegion, Dev.regions, Dev.regions, hregion]

theorem FaultFrame.hasRings (h : FaultFrame d e) (c : Nat) : e.hasRings c = d.hasRings c := by
  have hspill : e.spillBytes = d.spillBytes := by rw [Dev.spillBytes, h.fld, ← Dev.spillBytes]
  have hrts : e.rtsBytes = d.rtsBytes := by rw [Dev.rtsBytes, h.fld, ← Dev.rtsBytes]
  rw [Dev.hasRings, h.spillRegion, hspill, hrts, ← Dev.hasRings]

theorem FaultFrame.roomFor (h : FaultFrame d e) (m : Image) (g : GraphId) (c : Nat) : e.roomFor m g c = d.roomFor m g c := by
  have hputs : (e.putConsts m g c).isSome = (d.putConsts m g c).isSome := isSome_of_rel (h.putConsts m g c)
  have hgraphs : ∀ k, e.cellGraphs k = d.cellGraphs k := fun k => by rw [Dev.cellGraphs, h.graphs, ← Dev.cellGraphs]
  have hsum : ∀ k, e.msminSum k g = d.msminSum k g := fun k => by rw [Dev.msminSum, hgraphs, ← Dev.msminSum]
  unfold Dev.roomFor
  dsimp only
  rw [hputs, hgraphs, hsum, h.hasRings, h.cell]

theorem FaultFrame.imageStatus (h : FaultFrame d e) (hcells : e.hif.cellFn = d.hif.cellFn) (m : Image) (len : Nat) (g fn : GraphId) :
    e.imageStatus m len g fn = d.imageStatus m len g fn := by
  have hassigned : ∀ c, e.cellAssigned c fn = d.cellAssigned c fn := fun c => by
    simp only [Dev.cellAssigned, hcells, h.cell]
  unfold Dev.imageStatus
  simp only [hassigned, h.roomFor, h.fbn, h.uct]

theorem readHost_frame (d : Dev) (fn : GraphId) (addr : Word) (n : Nat) (st : HostStatus) (p : Bool) :
    FaultFrame d (d.readHost fn addr n st p) := by
  constructor <;> rfl

end

/-! ### What a completion leaves -/

theorem finish_keeps {α : Type} (f : Dev → α) (hvector : ∀ d fn v x, f (Dev.setVector d fn v x) = f d)
    (hemit : ∀ d o, f (Dev.emit d o) = f d) (hpair : ∀ d r x, f (Dev.modPair d r x) = f d)
    (d : Dev) (r : BitVec 12) (x : Desc) (st : Byte)
    (w : Word) : f (d.finish r x st w) = f d := by
  unfold Dev.finish Dev.complete
  split
  · rfl
  · split
    · rfl
    · exact (putCq_keeps f hvector hemit (fun d x => hpair d r x) ..).trans (hpair ..)

theorem finish_graph (d : Dev) (r : BitVec 12) (x : Desc) (st : Byte) (w : Word) (g : GraphId) :
    (d.finish r x st w).graph g = d.graph g :=
  finish_keeps (Dev.graph · g) (fun _ _ _ _ => rfl) (fun _ _ => rfl) (fun _ _ _ => rfl) ..

theorem finish_cell (d : Dev) (r : BitVec 12) (x : Desc) (st : Byte) (w : Word) (c : CellId) :
    (d.finish r x st w).cell c = d.cell c :=
  finish_keeps (Dev.cell · c) (fun _ _ _ _ => rfl) (fun _ _ => rfl) (fun _ _ _ => rfl) ..

/-! ### What GRESET leaves in the cells (R401) -/

section
variable {d e : Dev} {g : GraphId} {c : CellId}

/-- Cell c has the same matching-store and continuation entries. -/
def SameEntries (c : CellId) (d e : Dev) : Prop :=
  (e.cell c).store.ms = (d.cell c).store.ms ∧ (e.cell c).pipe.ct = (d.cell c).pipe.ct

/-- No entry of graph g but its constants. -/
def Cell.without (x : Cell) (g : GraphId) : Prop :=
  (∀ e ∈ x.store.ms, e.tok.graph = g → e.const = true) ∧ ∀ p ∈ x.pipe.ct, p.2.act.graph ≠ g

theorem SameEntries.refl (c : CellId) (d : Dev) : SameEntries c d d := ⟨rfl, rfl⟩

theorem SameEntries.trans {f : Dev} (h : SameEntries c d e) (k : SameEntries c e f) : SameEntries c d f :=
  ⟨k.1.trans h.1, k.2.trans h.2⟩

theorem SameEntries.foldl {α : Type} {f : Dev → α → Dev} (h : ∀ d a, SameEntries c d (f d a)) :
    ∀ (l : List α) (d : Dev), SameEntries c d (l.foldl f d)
  | [], d => .refl c d
  | a :: l, d => (h d a).trans (SameEntries.foldl h l (f d a))

theorem SameEntries.without (h : SameEntries c d e) (hw : (d.cell c).without g) : (e.cell c).without g := by
  unfold Cell.without
  rw [h.1, h.2]
  exact hw

theorem modCell_sameEntries (d : Dev) (k : CellId) (f : Cell → Cell)
    (hf : k = c → (f (d.cell k)).store.ms = (d.cell k).store.ms ∧ (f (d.cell k)).pipe.ct = (d.cell k).pipe.ct) :
    SameEntries c d (d.modCell k f) := by
  unfold SameEntries
  rw [Dev.cell_modCell]
  split
  · next h =>
    subst h
    exact hf rfl
  · exact ⟨rfl, rfl⟩

theorem modEv_sameEntries (d : Dev) (k : CellId) (f : CellEvents → CellEvents) : SameEntries c d (d.modEv k f) :=
  modCell_sameEntries d k _ fun _ => ⟨rfl, rfl⟩

theorem modLane_sameEntries (d : Dev) (k : CellId) (ln : BitVec 3) (f : Lane → Lane) : SameEntries c d (d.modLane k ln f) :=
  modCell_sameEntries d k _ fun _ => ⟨rfl, rfl⟩

theorem sweepFreeing_sameEntries (d : Dev) (k : CellId) : SameEntries c d (d.sweepFreeing k) :=
  modCell_sameEntries d k _ fun _ => ⟨by rw [CellStore.sweepFreeing], rfl⟩

theorem ungrant_sameEntries (d : Dev) (l : List EvRec) : SameEntries c d (d.ungrant l) := by
  refine .foldl (fun d e => ?_) l d
  split
  · exact .refl c d
  · exact modEv_sameEntries ..

theorem dropRecord_sameEntries (d : Dev) (k : CellId) (born : Nat) : SameEntries c d (d.dropRecord k born) := by
  unfold Dev.dropRecord
  dsimp only
  split
  · exact .refl c d
  · split
    · exact modEv_sameEntries ..
    · exact (modEv_sameEntries ..).trans (modLane_sameEntries ..)
    · split
      · exact modEv_sameEntries ..
      · exact ((modEv_sameEntries ..).trans (modEv_sameEntries ..)).trans (modLane_sameEntries ..)

theorem dropRecords_sameEntries (d : Dev) (k : CellId) (g : GraphId) : SameEntries c d (d.dropRecords k g) :=
  .foldl (f := fun d (r : EvRec) => (d.dropRecord k r.born).ungrant [r])
    (fun d r => (dropRecord_sameEntries d k r.born).trans (ungrant_sameEntries _ [r])) _ d

/-- The other cells of a purge keep their entries. -/
theorem purgeCell_sameEntries (d : Dev) (g : GraphId) {k : CellId} (hk : k ≠ c) : SameEntries c d (d.purgeCell g false k) := by
  unfold Dev.purgeCell
  refine SameEntries.trans (SameEntries.trans ?_ (modCell_sameEntries _ k _ fun h => (hk h).elim)) (sweepFreeing_sameEntries _ k)
  exact (ungrant_sameEntries d _).trans (dropRecords_sameEntries _ k g)

theorem purge_without (x : Cell) (g : GraphId) (y : Cell) (hs : y.store = x.store.purge g false) (hp : y.pipe = x.pipe.purge g false) :
    y.without g := by
  unfold Cell.without
  rw [hs, hp]
  refine ⟨fun e he hg => ?_, fun p hp => ?_⟩
  · have := (List.mem_filter.mp he).2
    simpa [hg] using this
  · simpa using (List.mem_filter.mp hp).2

theorem purgeCell_without (d : Dev) (g : GraphId) (c : CellId) : ((d.purgeCell g false c).cell c).without g := by
  unfold Dev.purgeCell
  refine (sweepFreeing_sameEntries _ c).without ?_
  rw [Dev.cell_modCell, if_pos rfl]
  exact purge_without _ g _ rfl rfl

/-- A purged cell stays so, whatever the order. -/
theorem purged_without : ∀ (l : List CellId) (d : Dev), (c ∈ l ∨ (d.cell c).without g) →
    ((l.foldl (fun d k => d.purgeCell g false k) d).cell c).without g
  | [], d, h => by simpa using h
  | k :: l, d, h => by
    refine purged_without l _ ?_
    by_cases hk : k = c
    · exact .inr (hk ▸ purgeCell_without d g k)
    · rcases h with h | h
      · exact .inl ((List.mem_cons.mp h).resolve_left fun h => hk h.symm)
      · exact .inr ((purgeCell_sameEntries d g hk).without h)

theorem mget_unlisted {α : Type} {dflt : α} {i : Nat} : ∀ {m : Map α}, (∀ p ∈ m, p.1 ≠ i) → mget dflt m i = dflt
  | [], _ => rfl
  | (k, v) :: m, h => by
    rw [mget, if_neg (h _ (.head _)), mget_unlisted fun p hp => h p (.tail _ hp)]
    split <;> rfl

theorem listed_or_without (d : Dev) (g : GraphId) (c : CellId) : c ∈ d.listedCells ∨ (d.cell c).without g := by
  by_cases hkey : ∃ p ∈ d.cells, p.1 = c.toNat
  · obtain ⟨p, hp, hpc⟩ := hkey
    refine .inl (List.mem_map.mpr ⟨p, hp, ?_⟩)
    rw [hpc, BitVec.ofNat_toNat, BitVec.setWidth_eq]
  · have hreset : d.cell c = cellReset := mget_unlisted fun p hp h => hkey ⟨p, hp, h⟩
    rw [hreset]
    exact .inr ⟨fun _ h => absurd h List.not_mem_nil, fun _ h => absurd h List.not_mem_nil⟩

theorem resetGraph_without (d : Dev) (g : GraphId) (c : CellId) : ((d.resetGraph g false).cell c).without g := by
  rw [resetGraph_eq, Dev.cell_modGraph]
  exact purged_without _ _ (listed_or_without ..)

end

/-- What two graphs of one outline share. -/
theorem eq_of_outline {α : Type} (f : Graph → α) (hf : ∀ z : Graph, f z.outline = f z) {x y : Graph} (h : y.outline = x.outline) :
    f y = f x := by
  rw [← hf y, h, hf]

/-! ### Unload (R39) -/

section
variable {d : Dev} {g : GraphId} {x : Graph}

theorem greset_graph (hg : d.graph g = some x) : ∃ z, (d.resetGraph g false).graph g = some z ∧ z.launched = false ∧
    z.running = false ∧ z.run = x.run ∧ z.mask = x.mask := by
  obtain ⟨z, hz, hout⟩ := resetGraph_graph hg false
  exact ⟨z, hz, (eq_of_outline Graph.launched (fun _ => rfl) hout).trans rfl,
    (eq_of_outline Graph.running (fun _ => rfl) hout).trans rfl, (eq_of_outline Graph.run (fun _ => rfl) hout).trans rfl,
    (eq_of_outline Graph.mask (fun _ => rfl) hout).trans rfl⟩

theorem park_graphs (d : Dev) (r : BitVec 12) (x : Desc) : (d.park r x).graphs = d.graphs := by
  unfold Dev.park
  split <;> rfl

theorem foldl_resetQmap_graph (g k : GraphId) : ∀ (l : List Nat) (d : Dev),
    (l.foldl (fun d c => d.resetQmap g (BitVec.ofNat 10 c)) d).graph k = d.graph k
  | [], _ => rfl
  | c :: l, d => foldl_resetQmap_graph g k l (d.resetQmap g (BitVec.ofNat 10 c))

theorem unloadGraph_graph (hg : d.graph g = some x) (who : Option (BitVec 12 × Nat)) :
    ∃ z, (d.unloadGraph g who).graph g = some z ∧ z.unloading = some who ∧ z.mask = x.mask := by
  obtain ⟨y, hy, hout⟩ := resetGraph_graph hg true
  have hmask : y.mask = x.mask := (eq_of_outline Graph.mask (fun _ => rfl) hout).trans rfl
  refine ⟨{ y with unloading := some who, held := false, quota := { quotaReset with msmin := 0 } }, ?_, rfl, hmask⟩
  rw [Dev.unloadGraph, hg]
  dsimp only
  rw [graph_modGraph, if_pos rfl, foldl_resetQmap_graph, hy]
  rfl

end

/-! ### INJECT (R398, R400) -/

/-- The tokens of an INJECT descriptor, and the graph of the first. -/
def Desc.hostTokens (x : Desc) (h : HostData) : List Token :=
  if x.count = 0 then tokensOf [x.w 2, x.w 3, x.w 4] 1 else tokensOf h.words (max 1 x.count)

def firstGraph (ts : List Token) : GraphId := (ts.getD 0 { w0 := 0, w1 := 0, w2 := 0 }).graph

theorem inject_acts {d : Dev} {r : BitVec 12} {k : Nat} {x : Desc} {h : HostData} (hx : Started d r k x 0x02)
    (hok : firstFailing (injectChecks r x) = none) (hdata : x.count ≠ 0 → h.status = .ok ∧ h.poisoned = [])
    (htokens : firstFailing (d.tokenChecks (d.pairFn r) (firstGraph (x.hostTokens h)) (x.hostTokens h)) = none)
    (hwaits : d.runWaits (firstGraph (x.hostTokens h)) = false) :
    inject r k h d =
      ((Dev.modGraph (if x.count = 0 then d else d.readHost (d.pairFn r) (x.w 2) (24 * max 1 x.count) .ok false)
        (firstGraph (x.hostTokens h)) fun y => y.inject d.clock.run).park r x).injectAll r x.index (x.hostTokens h) := by
  refine (perform_acts hx (by simp [opc_of_started hx]) hok).trans ?_
  unfold firstGraph Desc.hostTokens at htokens hwaits ⊢
  by_cases hcount : x.count = 0
  · simp only [hcount, if_true] at htokens hwaits
    simp only [hcount, if_true, ne_eq, not_true_eq_false, decide_false, Bool.false_and, Bool.false_eq_true, if_false, htokens, hwaits]
  · obtain ⟨hstatus, hclean⟩ := hdata hcount
    simp only [hcount, if_false] at htokens hwaits
    simp only [hcount, if_false, dataStatus_ok hstatus hclean, ne_eq, not_true_eq_false, decide_false, Bool.and_false, Bool.false_eq_true,
      htokens, hwaits, hstatus, hclean, List.isEmpty_nil, Bool.not_true]

/-- Settles O38: each descriptor that passes its checks is one update of its graph, and what it starts goes on without it. -/
theorem graphDescriptorsComplete : Obligations.GraphDescriptorsComplete := by
  intro s r k x hdies fn g
  refine ⟨?load, ?inject, fun hx hok => ?greset, fun y hx hok hg => ?unload, ?evpost, fun hx hok => ?quota⟩
  case load =>
    intro h hx hok hstatus hclean len m read himage
    have hexec : exec (.load r k h) s = .next (after s fun d => ((read d).loadGraph m g fn r).finish r x stOk 0) := by
      refine onDies_next hdies ((perform_acts hx (by simp [opc_of_started hx]) hok).trans ?_)
      simp only [dataStatus_ok hstatus hclean, ne_eq, not_true_eq_false, if_false, hstatus, hclean, List.isEmpty_nil, Bool.not_true]
      rw [show Dev.imageStatus _ _ _ _ _ = none from
        ((readHost_frame s.dev (s.dev.pairFn r) (x.w 2) len .ok false).imageStatus rfl m len g fn).trans himage]
    refine ⟨hexec, fun t ht => ?_⟩
    obtain rfl := Host.Outcome.next.inj (hexec.symm.trans ht)
    exact ⟨_, (finish_graph ..).trans (Dev.graph_setGraph_self ..), rfl, rfl, rfl, rfl, rfl, rfl⟩
  case inject =>
    intro h hx hok n ts g hdata htokens hwaits
    exact onDies_next hdies (inject_acts hx hok hdata htokens hwaits)
  case greset =>
    have hacts : greset r k s.dev = (s.dev.resetGraph g false).finish r x stOk 0 :=
      perform_acts hx (by simp [opc_of_started hx]) hok
    refine ⟨_, onDies_next hdies hacts, rfl, rfl, fun y hy => ?_, fun c => ?_⟩
    · obtain ⟨z, hz, hlaunched, hrunning, hrun, hmask⟩ := greset_graph hy
      refine ⟨z, ?_, hlaunched, hrunning, hrun, hmask⟩
      rw [finish_graph, hz]
    · rw [finish_cell]
      exact resetGraph_without s.dev g c
  case unload =>
    have hacts : unload r k s.dev = (s.dev.park r x).unloadGraph g (some (r, x.index)) :=
      perform_acts hx (by simp [opc_of_started hx]) hok
    have hparked : (s.dev.park r x).graph g = some y := (graph_congr (park_graphs ..) g).trans hg
    exact ⟨_, onDies_next hdies hacts, rfl, rfl, unloadGraph_graph hparked _⟩
  case evpost =>
    intro hx hok ev
    refine onDies_next hdies ((perform_acts hx (by simp [opc_of_started hx]) hok).trans ?_)
    dsimp only
    rw [Dev.post, hubCreate_coreNow]
  case quota =>
    exact onDies_next hdies (perform_acts hx (by simp [opc_of_started hx]) hok)

end Sys2Proof.Machine
end

section
/-! Units: which cells one holds, what its isolation changes, and which graphs an abort stops (R282, R309, R448, R476). -/

namespace Sys2Proof.Machine

/-! ### The cells of a unit -/

theorem mem_allCells (c : CellId) : c ∈ allCells :=
  List.mem_map.mpr ⟨c.toNat, List.mem_range.mpr c.isLt, BitVec.eq_of_toNat_eq (by simp)⟩

theorem mem_clusterCells {n : ClusterId} {c : CellId} : c ∈ clusterCells n ↔ cellCluster c = n := by
  simp only [clusterCells, List.mem_map, List.mem_range, ← BitVec.toNat_inj, cellCluster, bits_toNat, nbits, BitVec.toNat_ofNat,
    Nat.shiftRight_eq_div_pow]
  constructor
  · rintro ⟨i, hi, hc⟩
    omega
  · intro hc
    exact ⟨c.toNat % 16, by omega, by omega⟩

theorem mem_unitCells {u : DevUnit} {c : CellId} : c ∈ unitCells u ↔ unitHas u c = true := by
  cases u with
  | cell k => simp [unitCells, unitHas, eq_comm]
  | cluster n => simp [unitCells, unitHas, mem_clusterCells]
  | die k => simp [unitCells, unitHas, mem_allCells]
  | target t => cases t <;> simp [unitCells, unitHas, mem_clusterCells]
  | _ => simp [unitCells, unitHas]

/-! ### Isolation -/

/-- From d to e the units are added to the isolated ones, and the cells are isolated. -/
structure Isolates (us : List DevUnit) (cs : List CellId) (d e : Dev) : Prop where
  clock : e.clock = d.clock
  boot : e.boot = d.boot
  units : e.flt.isolated = d.flt.isolated ++ us
  opened : d.flt.episode.isSome = true → e.flt.episode.isSome = true
  cells : ∀ c, (e.cell c).isolated = (decide (c ∈ cs) || (d.cell c).isolated)
  dead : e.fab.dead = d.fab.dead

section
variable {d e f : Dev} {us vs : List DevUnit} {cs ds : List CellId}

theorem Steady.isolates (h : Steady d e) : Isolates [] [] d e where
  clock := h.clock
  boot := h.boot
  units := by rw [h.isolated, List.append_nil]
  opened := h.opened
  cells := fun c => by simp [h.cells c]
  dead := h.dead

theorem Isolates.trans (h : Isolates us cs d e) (k : Isolates vs ds e f) : Isolates (us ++ vs) (cs ++ ds) d f where
  clock := k.clock.trans h.clock
  boot := k.boot.trans h.boot
  units := by rw [k.units, h.units, List.append_assoc]
  opened := fun x => k.opened (h.opened x)
  cells := fun c => by
    rw [k.cells, h.cells, ← Bool.or_assoc]
    congr 1
    by_cases hc : c ∈ cs <;> simp [hc]
  dead := k.dead.trans h.dead

theorem Isolates.steady (h : Isolates us cs d e) (k : Steady e f) : Isolates us cs d f := by
  simpa using h.trans k.isolates

/-- A cell that is not isolated, isolated. -/
def Dev.markIsolated (d : Dev) (c : CellId) : Dev := d.modCell c fun x => { x with isolated := true, cen := x.lastCen }

theorem isolateCell_calm (h : (d.cell c).isolated = false) : Calm (d.markIsolated c) (d.isolateCell c) := by
  rw [Dev.isolateCell, if_neg (by simp [h])]
  exact Calm.foldl (g := fun d (r : EvRec) => (d.dropRecord c r.born).turnRecord c r)
    (fun d r => (dropRecord_calm d c r.born).trans (turnRecord_calm _ c r)) _ (d.markIsolated c)

theorem isolateCell_isolates (d : Dev) (c : CellId) : Isolates [] [c] d (d.isolateCell c) := by
  cases h : (d.cell c).isolated with
  | true =>
    rw [Dev.isolateCell, if_pos h]
    refine ⟨rfl, rfl, (List.append_nil _).symm, id, fun k => ?_, rfl⟩
    by_cases hk : k = c
    · simp [hk, h]
    · simp [hk]
  | false =>
    refine Isolates.steady (e := d.markIsolated c) ⟨rfl, rfl, (List.append_nil _).symm, id, fun k => ?_, rfl⟩
      (isolateCell_calm h).toSteady
    rw [Dev.markIsolated, Dev.cell_modCell]
    by_cases hk : k = c
    · simp [hk]
    · simp [hk]

theorem isolateCell_outlines (d : Dev) (c : CellId) : (d.isolateCell c).outlines = d.outlines := by
  cases h : (d.cell c).isolated with
  | true => rw [Dev.isolateCell, if_pos h]
  | false => exact (isolateCell_calm h).graphs

theorem isolateCells_isolates : ∀ (l : List CellId) (d : Dev), Isolates [] l d (l.foldl (fun d c => d.isolateCell c) d)
  | [], d => (Steady.refl d).isolates
  | c :: l, d => (isolateCell_isolates d c).trans (isolateCells_isolates l _)

theorem isolateCells_outlines : ∀ (l : List CellId) (d : Dev), (l.foldl (fun d c => d.isolateCell c) d).outlines = d.outlines
  | [], _ => rfl
  | c :: l, d => (isolateCells_outlines l _).trans (isolateCell_outlines d c)

theorem loseInside_calm (d : Dev) (u : DevUnit) : Calm d (d.loseInside u) := by
  unfold Dev.loseInside
  split
  · exact .of_rest
  · exact .of_rest
  · exact .of_rest
  · exact .of_rest
  · exact .of_rest
  · exact .of_rest
  · exact .refl d

/-! ### Links of an isolated unit -/

theorem setLink_calm (d : Dev) (l : LinkId) (x : Link) : Calm d (d.setLink l x) := .of_rest

/-- Up to the aborts, what a link loses with its flits. -/
def Dev.loseRetry (d : Dev) (l : LinkId) : Dev :=
  ((d.link l).retry.flatMap Sent.packets).foldl (fun d p => d.losePacket (.fob p))
    ((d.setLink l { d.link l with retry := [], replay := [] }).fault rFbnErr 3 78 [] [])

theorem loseRetry_calm (d : Dev) (l : LinkId) : Calm d (d.loseRetry l) :=
  ((setLink_calm ..).trans (fault_calm ..)).trans (.foldl (fun d p => losePacket_calm d (.fob p)) _ _)

theorem loseFlits_eq (d : Dev) (l : LinkId) : d.loseFlits l = if (d.link l).retry.isEmpty then d else
    (((d.link l).retry.flatMap Sent.packets).filterMap fobGraph).foldl (fun d g => d.abortGraph g) (d.loseRetry l) := rfl

theorem loseFlits_steady (d : Dev) (l : LinkId) : Steady d (d.loseFlits l) := by
  rw [loseFlits_eq]
  split
  · exact .refl d
  · exact (loseRetry_calm d l).toSteady.trans (.foldl abortGraph_steady _ _)

theorem linkTo_steady (d : Dev) (l : LinkId) (st : LinkState) : Steady d (d.linkTo l st) :=
  (loseFlits_steady d l).trans (modLink_calm ..).toSteady

theorem isoNotice_calm (d : Dev) (l : LinkId) : Calm d (d.isoNotice l) := by
  unfold Dev.isoNotice
  split
  · exact .refl d
  · exact sendFob_calm ..

theorem linkIsolate_steady (d : Dev) (l : LinkId) : Steady d (d.linkIsolate l) :=
  (linkTo_steady ..).trans (isoNotice_calm ..).toSteady

/-- The links of a unit enter ISOLATED. -/
def Dev.isolateLinks (d : Dev) (ls : List LinkId) : Dev :=
  ls.foldl (fun d l => if (d.link l).st = .isolated then d else d.linkIsolate l) d

theorem isolateLinks_steady (d : Dev) (ls : List LinkId) : Steady d (d.isolateLinks ls) := by
  refine .foldl (fun d l => ?_) ls d
  split
  · exact .refl d
  · exact linkIsolate_steady ..

/-! ### A unit is isolated -/

/-- A unit listed as isolated. -/
def Dev.listIsolated (d : Dev) (u : DevUnit) : Dev := { d with flt := { d.flt with isolated := d.flt.isolated ++ [u] } }

/-- The unit's cells isolated and its insides lost, before its links. -/
def Dev.isolateInside (d : Dev) (u : DevUnit) : Dev :=
  ((unitCells u).foldl (fun d c => d.isolateCell c) (d.listIsolated u)).loseInside u

theorem isolateInside_isolates (d : Dev) (u : DevUnit) : Isolates [u] (unitCells u) d (d.isolateInside u) := by
  have hlisted : Isolates [u] [] d (d.listIsolated u) := ⟨rfl, rfl, rfl, id, fun c => rfl, rfl⟩
  exact (hlisted.trans (isolateCells_isolates ..)).steady (loseInside_calm _ u).toSteady

theorem isolateInside_outlines (d : Dev) (u : DevUnit) : (d.isolateInside u).outlines = d.outlines :=
  (loseInside_calm _ u).graphs.trans (isolateCells_outlines ..)

theorem isolate_eq {u : DevUnit} (h : d.isoUnit u = false) :
    d.isolate u = (d.isolateInside u).isolateLinks ((d.isolateInside u).unitLinks u) := by
  rw [Dev.isolate, if_neg (by simp [h])]
  rfl

theorem isolate_isolates {u : DevUnit} (h : d.isoUnit u = false) : Isolates [u] (unitCells u) d (d.isolate u) := by
  rw [isolate_eq h]
  exact (isolateInside_isolates d u).steady (isolateLinks_steady _ _)

/-- A unit without links aborts no graph. -/
theorem isolate_outlines {u : DevUnit} (h : d.isoUnit u = false) (hlinks : ∀ d : Dev, d.unitLinks u = []) :
    (d.isolate u).outlines = d.outlines := by
  rw [isolate_eq h, hlinks]
  exact isolateInside_outlines d u

theorem isolate_clock (d : Dev) (u : DevUnit) : (d.isolate u).clock = d.clock := by
  cases h : d.isoUnit u with
  | true => rw [Dev.isolate, if_pos h]
  | false => exact (isolate_isolates h).clock

theorem isoUnit_eq_false {u : DevUnit} : d.isoUnit u = false ↔ u ∉ d.flt.isolated := by simp [Dev.isoUnit]

/-- Several units that are not isolated, each once. -/
theorem isolateUnits_isolates : ∀ {l : List DevUnit} {d : Dev}, l.Nodup → (∀ u ∈ l, d.isoUnit u = false) →
    Isolates l (l.flatMap unitCells) d (l.foldl (fun d u => d.isolate u) d)
  | [], d, _, _ => (Steady.refl d).isolates
  | u :: l, d, hnodup, hnone => by
    have hfirst := isolate_isolates (hnone u (by simp))
    obtain ⟨hu, hl⟩ := List.nodup_cons.mp hnodup
    refine hfirst.trans (isolateUnits_isolates hl fun v hv => ?_)
    rw [isoUnit_eq_false, hfirst.units, List.mem_append, List.mem_singleton, not_or]
    exact ⟨isoUnit_eq_false.mp (hnone v (by simp [hv])), fun huv => hu (huv ▸ hv)⟩

end

/-! ### The graphs that an abort stops (R448) -/

section
variable {d e : Dev} {g : GraphId} {x : Graph}

theorem mem_of_mfind {α : Type} {i : Nat} {y : α} : ∀ {m : Map α}, mfind m i = some y → (i, y) ∈ m
  | (k, v) :: m, h => by
    simp only [mfind] at h
    split at h
    · next hk =>
      obtain rfl := Option.some.inj h
      exact hk ▸ List.mem_cons_self
    · split at h
      · cases h
      · exact List.mem_cons_of_mem _ (mem_of_mfind h)

/-- A graph that is not held under reset, aborted. -/
theorem abortGraph_eq (hg : d.graph g = some x) (hfree : x.held = false) : d.abortGraph g =
    (d.resetGraph g false).modGraph g fun x => { x with held := (d.resetGraph g false).maskIsolated x } := by
  rw [Dev.abortGraph, hg]
  exact if_neg (by simp [hfree])

/-- What an abort leaves of a graph. -/
def Graph.aborted (x : Graph) (now : Nat) (held : Bool) : Graph := { { x with running := false }.reset now false with held := held }

theorem abortGraph_graph (hg : d.graph g = some x) (hfree : x.held = false) : ∃ y, (d.abortGraph g).graph g = some y ∧
    y.outline = (x.aborted d.clock.run (d.maskIsolated x)).outline := by
  obtain ⟨y, hy, hyx⟩ := resetGraph_graph hg false
  have hmask : y.mask = x.mask := (eq_of_outline Graph.mask (fun _ => rfl) hyx).trans rfl
  have hheld : (d.resetGraph g false).maskIsolated y = d.maskIsolated x := by
    simp only [Dev.maskIsolated, hmask, (resetGraph_steady d g false).cells]
  refine ⟨{ y with held := d.maskIsolated x }, ?_, congrArg (fun z : Graph => { z with held := d.maskIsolated x }) hyx⟩
  rw [abortGraph_eq hg hfree, graph_modGraph, if_pos rfl, hy, Option.map_some, hheld]

/-- Any other graph, and one that is held, keeps its outline. -/
theorem abortGraph_other {k : GraphId} (hk : k ≠ g) : ((d.abortGraph g).graph k).map Graph.outline = (d.graph k).map Graph.outline := by
  unfold Dev.abortGraph
  split
  · rfl
  · split
    · rfl
    · rw [graph_modGraph, if_neg hk, resetGraph_other hk]

theorem abortGraph_held (hg : d.graph g = some x) (hheld : x.held = true) : d.abortGraph g = d := by
  rw [Dev.abortGraph, hg]
  exact if_pos hheld

/-- The slot holds a graph that does not run, or that an abort stops. -/
def Dev.stoppable (d : Dev) (g : GraphId) : Prop := ∃ x, d.graph g = some x ∧ (x.held = true → x.running = false)

def Dev.stopped (d : Dev) (g : GraphId) : Prop := ∃ x, d.graph g = some x ∧ x.running = false

/-- The outline decides both. -/
theorem stoppable_of_outline (h : (e.graph g).map Graph.outline = (d.graph g).map Graph.outline) (hd : d.stoppable g) :
    e.stoppable g := by
  obtain ⟨x, hg, hx⟩ := hd
  rw [hg] at h
  obtain ⟨y, hy, hyx⟩ := Option.map_eq_some_iff.mp h
  refine ⟨y, hy, ?_⟩
  rw [eq_of_outline Graph.held (fun _ => rfl) hyx, eq_of_outline Graph.running (fun _ => rfl) hyx]
  exact hx

theorem stopped_of_outline (h : (e.graph g).map Graph.outline = (d.graph g).map Graph.outline) (hd : d.stopped g) : e.stopped g := by
  obtain ⟨x, hg, hx⟩ := hd
  rw [hg] at h
  obtain ⟨y, hy, hyx⟩ := Option.map_eq_some_iff.mp h
  exact ⟨y, hy, (eq_of_outline Graph.running (fun _ => rfl) hyx).trans hx⟩

theorem graph_of_outlines (h : e.outlines = d.outlines) (g : GraphId) :
    (e.graph g).map Graph.outline = (d.graph g).map Graph.outline := by
  rw [Dev.graph, Dev.graph, ← mfind_map_outline, ← mfind_map_outline]
  exact congrArg (mfind · g.toNat) h

/-- An abort stops its graph if anything can. -/
theorem abortGraph_stops (h : d.stoppable g) : (d.abortGraph g).stopped g := by
  obtain ⟨x, hg, hx⟩ := h
  cases hheld : x.held with
  | true =>
    rw [abortGraph_held hg hheld]
    exact ⟨x, hg, hx hheld⟩
  | false =>
    obtain ⟨y, hy, hyx⟩ := abortGraph_graph hg hheld
    exact ⟨y, hy, (eq_of_outline Graph.running (fun _ => rfl) hyx).trans rfl⟩

theorem Dev.stopped.stoppable (h : d.stopped g) : d.stoppable g := by
  obtain ⟨x, hg, hx⟩ := h
  exact ⟨x, hg, fun _ => hx⟩

theorem abortGraph_stoppable (k : GraphId) (h : d.stoppable g) : (d.abortGraph k).stoppable g := by
  by_cases hk : g = k
  · exact hk ▸ (abortGraph_stops h).stoppable
  · exact stoppable_of_outline (abortGraph_other hk) h

theorem abortGraph_stopped (k : GraphId) (h : d.stopped g) : (d.abortGraph k).stopped g := by
  by_cases hk : g = k
  · exact hk ▸ abortGraph_stops h.stoppable
  · exact stopped_of_outline (abortGraph_other hk) h

theorem abortGraphs_stop : ∀ (l : List GraphId) {d : Dev}, d.stoppable g → g ∈ l ∨ d.stopped g →
    (l.foldl (fun d g => d.abortGraph g) d).stopped g
  | [], _, _, h => h.resolve_left (by simp)
  | k :: l, d, hcan, h => by
    refine abortGraphs_stop l (abortGraph_stoppable k hcan) ?_
    rcases h with h | h
    · rcases List.mem_cons.mp h with rfl | h
      · exact .inr (abortGraph_stops hcan)
      · exact .inl h
    · exact .inr (abortGraph_stopped k h)

theorem abortGraphs_stoppable : ∀ (l : List GraphId) {d : Dev}, d.stoppable g →
    (l.foldl (fun d g => d.abortGraph g) d).stoppable g
  | [], _, h => h
  | k :: l, _, h => abortGraphs_stoppable l (abortGraph_stoppable k h)

theorem abortWhere_eq (d : Dev) (p : GraphId → Graph → Bool) : d.abortWhere p =
    (((d.graphs.filter fun x => p (BitVec.ofNat 6 x.1) x.2).map fun x => BitVec.ofNat 6 x.1).foldl (fun d g => d.abortGraph g) d) := by
  rw [List.foldl_map]
  rfl

theorem abortWhere_steady (d : Dev) (p : GraphId → Graph → Bool) : Steady d (d.abortWhere p) := by
  rw [abortWhere_eq]
  exact .foldl abortGraph_steady _ _

/-- Aborting all stops every graph that an abort can stop. -/
theorem abortWhere_all_stops (h : d.stoppable g) : (d.abortWhere fun _ _ => true).stopped g := by
  rw [abortWhere_eq]
  refine abortGraphs_stop _ h (.inl ?_)
  obtain ⟨x, hg, -⟩ := h
  refine List.mem_map.mpr ⟨(g.toNat, x), List.mem_filter.mpr ⟨mem_of_mfind hg, rfl⟩, by simp⟩

/-- The isolation of a unit leaves graphs, but for those that a link aborts. -/
theorem isolate_stoppable (u : DevUnit) (h : d.stoppable g) : (d.isolate u).stoppable g := by
  cases hu : d.isoUnit u with
  | true => rwa [Dev.isolate, if_pos hu]
  | false =>
    rw [isolate_eq hu]
    have hlink : ∀ (ls : List LinkId) {d : Dev}, d.stoppable g → (d.isolateLinks ls).stoppable g := fun ls => by
      induction ls with
      | nil => exact fun h => h
      | cons l ls ih =>
        intro d h
        refine ih ?_
        dsimp only
        split
        · exact h
        · refine stoppable_of_outline ((isoNotice_calm ..).graph g) (stoppable_of_outline ((modLink_calm ..).graph g) ?_)
          rw [loseFlits_eq]
          split
          · exact h
          · exact abortGraphs_stoppable _ (stoppable_of_outline ((loseRetry_calm d l).graph g) h)
    exact hlink _ (stoppable_of_outline (graph_of_outlines (isolateInside_outlines d u) g) h)

end

/-! ### The reset of a cell (R476) -/

section
variable (d : Dev) (c : CellId)

theorem mapPkts_calm (p : Pkt → Option Pkt) : Calm d (d.mapPkts p) :=
  (mapCells_calm d (fun x => { x with pipe := { x.pipe with
    egress := x.pipe.egress.filterMap fun o => (p o.pkt).map fun q => { o with pkt := q }
    inbox := x.pipe.inbox.filterMap p } }) (fun _ => rfl) rfl).trans .of_rest

theorem cancelPlaces_calm : Calm d (d.cancelPlaces c) := by
  unfold Dev.cancelPlaces
  exact (mapCells_calm d (fun x => { x with ev := { x.ev with recs := x.ev.recs.map (EvRec.without c) } }) (fun _ => rfl) rfl).trans
    (mapPkts_calm _ _)

theorem clearCellErrors_calm : Calm d (d.clearCellErrors c) := .foldl (fun d k => .of_rest) _ d

/-- A cell's items consumed and its places given back. -/
def Dev.releaseItems (d : Dev) (c : CellId) : Dev :=
  ((d.consumeItems c).ungrant ((d.cell c).ev.recs.filter fun r => r.granted.isSome)).cancelPlaces c

theorem releaseItems_calm : Calm d (d.releaseItems c) :=
  ((consumeWhere_calm ..).trans (ungrant_calm _ _)).trans (cancelPlaces_calm ..)

/-- A cell reset up to the cell's own contents. -/
def Dev.vacate (d : Dev) (c : CellId) : Dev := (d.releaseItems c).abandon (Owner.ofCell c)

theorem vacate_calm : Calm d (d.vacate c) := (releaseItems_calm d c).trans (abandon_calm ..)

/-- A cell without its contents. -/
def Cell.emptied (x : Cell) (now : Nat) : Cell :=
  { x with
    store := x.store.clear, pipe := x.pipe.clear
    ev := { x.ev with recs := [], stack := [], rbReq := [], rbGrant := 0 }, asleep := false, idleSince := now }

theorem resetCell_eq : d.resetCell c =
    ((d.vacate c).modCell c fun x => x.emptied ((d.releaseItems c).coreNow c)).clearCellErrors c := rfl

theorem clearCellErrors_cell (k : CellId) : (d.clearCellErrors c).cell k = d.cell k :=
  Dev.cell_congr (d := d) (e := d.clearCellErrors c) rfl k

theorem resetCell_calm : Calm d (d.resetCell c) := by
  rw [resetCell_eq]
  refine Calm.trans ((vacate_calm d c).trans (modCell_calm _ c _ ?_)) (clearCellErrors_calm ..)
  exact fun _ => rfl

theorem resetCell_cell : ∃ x : Cell, ∃ now, (d.resetCell c).cell c = x.emptied now := by
  refine ⟨(d.vacate c).cell c, (d.releaseItems c).coreNow c, ?_⟩
  rw [resetCell_eq, clearCellErrors_cell, Dev.cell_modCell_self]

end

end Sys2Proof.Machine
end

section
/-! The stages of an episode, its closing, reintegration, unit resets and dead targets: settles FaultyUnitsAreContainedAndReturn. -/

namespace Sys2Proof.Machine

open Sys2Proof.Claims

/-! ### Stages (R446, R448, R449) -/

section
variable {d e : Dev} {p : Episode} {n : Nat} {g : GraphId} {x : Graph} {c : CellId} {u : DevUnit}

theorem stageDue_eq_false (h : p.acked = true ∨ d.clock.run < p.opened + 1000000 * d.fld (rSpint n) 0 16) :
    d.stageDue p n = false := by
  rcases h with h | h
  · simp [Dev.stageDue, h]
  · simp [Dev.stageDue, h]

theorem stageDue_of_due (h : Due d p n) : d.stageDue p n = true := by
  obtain ⟨-, hbefore, hunacked, htime⟩ := h
  simp [Dev.stageDue, hbefore, hunacked, htime]

theorem episodeNotice_flt (d : Dev) (n : Nat) : (d.episodeNotice n).flt = d.flt :=
  msix_keeps Dev.flt (fun _ _ _ _ => rfl) (fun _ _ => rfl) ..

/-- The end of a stage: the episode changes and the puppeteer is told. -/
def Dev.enterStage (d : Dev) (f : Episode → Episode) (n : Nat) : Dev := (d.modEpisode f).episodeNotice n

theorem enterStage_calm (d : Dev) (f : Episode → Episode) (n : Nat) : Calm d (d.enterStage f n) := by
  refine Calm.trans ?_ (episodeNotice_calm ..)
  unfold Dev.modEpisode
  split
  · exact .refl d
  · exact setEpisode_calm d _ rfl rfl rfl

theorem enterStage_episode (f : Episode → Episode) (n : Nat) (hopen : d.flt.episode.isSome = true) :
    ∃ p, (d.enterStage f n).flt.episode = some (f p) := by
  obtain ⟨p, hp⟩ := Option.isSome_iff_exists.mp hopen
  refine ⟨p, ?_⟩
  rw [Dev.enterStage, episodeNotice_flt, Dev.modEpisode, hp]

theorem stage1_rests (hopen : d.flt.episode = some p) (h : d.stageDue p 1 = false) : stage1 d = d := by
  rw [stage1, hopen]
  exact if_neg (by simp [h])

theorem stage2_rests (hopen : d.flt.episode = some p) (h : d.stageDue p 2 = false) : stage2 d = d := by
  rw [stage2, hopen]
  exact if_neg (by simp [h])

/-- The causes of an episode are taken up once. -/
def Dev.takeCauses (d : Dev) (p : Episode) : Dev := { d with flt := { d.flt with episode := some { p with causes := [] } } }

theorem takeCauses_calm (d : Dev) (p : Episode) : Calm d (d.takeCauses p) := setEpisode_calm d _ rfl rfl rfl

theorem contain_steps (d : Dev) (p : Episode) : d.contain p =
    p.causes.foldl (fun d a => d.abortCause a)
      ((p.set_.foldl (fun d u => d.isolate u) (d.takeCauses p)).abortWhere fun _ x => p.set_.any x.touches) := rfl

theorem contain_eq (hset : p.set_ = [u]) (hcauses : p.causes = []) :
    d.contain p = ((d.takeCauses p).isolate u).abortWhere fun _ x => x.touches u := by
  rw [contain_steps, hset, hcauses]
  simp only [List.foldl_cons, List.foldl_nil, List.any_cons, List.any_nil, Bool.or_false]

theorem abortWhere_only (hgraphs : d.graphs = [(g.toNat, x)]) {t : GraphId → Graph → Bool} (ht : t g x = true) :
    d.abortWhere t = d.abortGraph g := by
  rw [abortWhere_eq, hgraphs]
  simp [ht]

/-- A contained cell; the one loaded graph has it in its mask, and the graph's abort leaves it held. -/
theorem contain_cell (hset : p.set_ = [.cell c]) (hcauses : p.causes = []) (hiso : d.isoUnit (.cell c) = false)
    (hgraphs : d.graphs = [(g.toNat, x)]) (hmask : c.toNat ∈ x.mask) (hfree : x.held = false) :
    Isolates [.cell c] [c] d (d.contain p) ∧
    ∃ y, (d.contain p).graph g = some y ∧ y.outline = (x.aborted d.clock.run true).outline := by
  rw [contain_eq hset hcauses]
  have hisolates := (takeCauses_calm d p).toSteady.isolates.trans (isolate_isolates (d := d.takeCauses p) hiso)
  have houtlines := (isolate_outlines (d := d.takeCauses p) hiso fun _ => rfl).trans (takeCauses_calm d p).graphs
  generalize (d.takeCauses p).isolate (.cell c) = e at hisolates houtlines
  refine ⟨hisolates.steady (abortWhere_steady ..), ?_⟩
  rw [Dev.outlines, Dev.outlines, hgraphs] at houtlines
  obtain ⟨⟨k, z⟩, hlist, hz⟩ := List.map_eq_singleton_iff.mp houtlines
  obtain ⟨rfl, hz⟩ := Prod.mk.inj hz
  have hsame := eq_of_outline Graph.mask (fun _ => rfl) hz
  have htouches : z.touches (.cell c) = true := by
    rw [Graph.touches, hsame]
    exact List.any_eq_true.mpr ⟨c.toNat, hmask, by simp [unitHas]⟩
  have hmasked : e.maskIsolated z = true := by
    rw [Dev.maskIsolated, hsame]
    exact List.any_eq_true.mpr ⟨c.toNat, hmask, by simp [hisolates.cells, unitCells]⟩
  have hg : e.graph g = some z := by simp [Dev.graph, hlist, mfind]
  obtain ⟨y, hy, hyz⟩ := abortGraph_graph hg ((eq_of_outline Graph.held (fun _ => rfl) hz).trans hfree)
  refine ⟨y, by rw [abortWhere_only hlist htouches, hy], ?_⟩
  rw [hyz, hmasked, hisolates.clock]
  have := congrArg (fun z : Graph => (z.aborted d.clock.run true).outline) hz
  exact this

theorem stage1_enters (hopen : d.flt.episode = some p) (hdue : d.stageDue p 1 = true) :
    stage1 d = (d.contain p).enterStage (fun p => { p with stage := 1 }) 1 := by
  rw [stage1, hopen]
  exact if_pos hdue

/-- ESCALATION_STAGE_1 with one cell to contain. -/
theorem stage1_cell (hdue : Due d p 1) (hset : p.set_ = [.cell c]) (hcauses : p.causes = []) (hiso : d.isoUnit (.cell c) = false)
    (hgraphs : d.graphs = [(g.toNat, x)]) (hmask : c.toNat ∈ x.mask) (hfree : x.held = false) :
    ((stage1 d).cell c).isolated = true ∧ (stage1 d).flt.isolated = d.flt.isolated ++ [DevUnit.cell c] ∧
    (∃ q, (stage1 d).flt.episode = some q ∧ q.stage = 1) ∧
    ∃ y, (stage1 d).graph g = some y ∧ y.held = true ∧ y.running = false ∧ y.launched = false ∧ y.run = x.run := by
  rw [stage1_enters hdue.open_ (stageDue_of_due hdue)]
  obtain ⟨hisolates, y, hy, hyx⟩ := contain_cell hset hcauses hiso hgraphs hmask hfree
  have hcalm := enterStage_calm (d.contain p) (fun p => { p with stage := 1 }) 1
  refine ⟨by rw [hcalm.cells, hisolates.cells]; simp, by rw [hcalm.isolated, hisolates.units], ?_, ?_⟩
  · obtain ⟨q, hq⟩ := enterStage_episode (fun p => { p with stage := 1 }) 1 (hisolates.opened (by simp [hdue.open_]))
    exact ⟨_, hq, rfl⟩
  · have hsame := hcalm.graph g
    rw [hy] at hsame
    obtain ⟨z, hz, hzy⟩ := Option.map_eq_some_iff.mp hsame
    have hzx := hzy.trans hyx
    exact ⟨z, hz, (eq_of_outline Graph.held (fun _ => rfl) hzx).trans rfl, (eq_of_outline Graph.running (fun _ => rfl) hzx).trans rfl,
      (eq_of_outline Graph.launched (fun _ => rfl) hzx).trans rfl, (eq_of_outline Graph.run (fun _ => rfl) hzx).trans rfl⟩

/-- All four dies isolated. -/
def Dev.isolateDies (d : Dev) : Dev := (allDies.map DevUnit.die).foldl (fun d u => d.isolate u) d

/-- The episode of a quiesced device: every die is in its set. -/
def Episode.quiesce (p : Episode) : Episode :=
  { p with stage := 2, quiesced := true, set_ := p.set_ ++ (allDies.map DevUnit.die).filter fun u => !p.set_.contains u }

theorem stage2_enters (hopen : d.flt.episode = some p) (hdue : d.stageDue p 2 = true) :
    stage2 d = (d.isolateDies.abortWhere fun _ _ => true).enterStage Episode.quiesce 2 := by
  rw [stage2, hopen]
  exact if_pos hdue

theorem isolateDies_isolates (hnone : ∀ k, d.isoUnit (.die k) = false) :
    Isolates (allDies.map DevUnit.die) ((allDies.map DevUnit.die).flatMap unitCells) d d.isolateDies := by
  refine isolateUnits_isolates (by decide) fun u hu => ?_
  obtain ⟨k, -, rfl⟩ := List.mem_map.mp hu
  exact hnone k

theorem mem_allDies (k : DieId) : k ∈ allDies := by
  revert k
  decide

theorem mem_cells_allDies (c : CellId) : c ∈ (allDies.map DevUnit.die).flatMap unitCells :=
  List.mem_flatMap.mpr ⟨.die (cellDie c), List.mem_map_of_mem (mem_allDies _), mem_unitCells.mpr (by simp [unitHas])⟩

theorem isolateDies_stoppable (h : d.stoppable g) : d.isolateDies.stoppable g := by
  unfold Dev.isolateDies
  generalize allDies.map DevUnit.die = l
  induction l generalizing d with
  | nil => exact h
  | cons u l ih => exact ih (isolate_stoppable u h)

/-- ESCALATION_STAGE_2 with no die isolated. -/
theorem stage2_quiesces (hdue : Due d p 2) (hnone : ∀ k, d.isoUnit (.die k) = false) :
    (∀ k, (stage2 d).isoUnit (.die k) = true) ∧ (∀ c, ((stage2 d).cell c).isolated = true) ∧
    (∃ q, (stage2 d).flt.episode = some q ∧ q.stage = 2 ∧ q.quiesced = true) ∧
    ∀ g x, d.graph g = some x → x.held = false → ∃ y, (stage2 d).graph g = some y ∧ y.running = false := by
  rw [stage2_enters hdue.open_ (stageDue_of_due hdue)]
  have hcalm := enterStage_calm (d.isolateDies.abortWhere fun _ _ => true) Episode.quiesce 2
  have hisolates := (isolateDies_isolates hnone).steady (abortWhere_steady _ fun _ _ => true)
  refine ⟨fun k => ?_, fun c => ?_, ?_, fun g x hg hfree => ?_⟩
  · rw [Dev.isoUnit, hcalm.isolated, hisolates.units, List.contains_iff_mem]
    exact List.mem_append_right _ (List.mem_map_of_mem (mem_allDies k))
  · rw [hcalm.cells, hisolates.cells, decide_eq_true (mem_cells_allDies c), Bool.true_or]
  · obtain ⟨q, hq⟩ := enterStage_episode Episode.quiesce 2 (hisolates.opened (by simp [hdue.open_]))
    exact ⟨_, hq, rfl, rfl⟩
  · exact stopped_of_outline (hcalm.graph g) (abortWhere_all_stops (isolateDies_stoppable ⟨x, hg, by simp [hfree]⟩))

end

/-! ### Closing and reintegration (R451, R452) -/

section
variable {d : Dev} {p : Episode} {c : CellId} {u : DevUnit}

theorem episodeClose_closes (hopen : d.flt.episode = some p) (hquiet : p.lastAt + 1000000 * d.fld rQuiet 0 16 ≤ d.clock.run)
    (hacked : p.sev = 3 → p.acked = true) : episodeClose d = d.toTest.foldl (fun d u => d.setResetting (unitCells u) true)
      { d with flt := { d.flt with
        episode := none, recov := if d.flt.recov = 0xFFFF then d.flt.recov else d.flt.recov + 1
        testing := d.flt.testing ++ d.toTest } } := by
  rw [episodeClose, hopen]
  refine if_pos ?_
  by_cases hsev : p.sev = 3
  · simp [hquiet, hacked hsev]
  · simpa [hquiet] using .inl hsev

theorem of_mem_toTest (h : u ∈ d.toTest) : u ∉ d.flt.failed ∧ (u ∈ d.flt.isolated ∨ ∃ t ∈ d.fab.dead, u = .target t) := by
  obtain ⟨hlisted, hrest⟩ := List.mem_filter.mp h
  refine ⟨by simp_all, ?_⟩
  rcases List.mem_append.mp hlisted with h | h
  · exact .inl h
  · obtain ⟨t, ht, rfl⟩ := List.mem_map.mp (List.mem_filter.mp h).1
    exact .inr ⟨t, ht, rfl⟩

/-- The isolation of a cell that has been reset ends. -/
def Dev.endIsolation (d : Dev) (c : CellId) : Dev :=
  (Dev.unisolateCells { d with flt := { d.flt with isolated := d.flt.isolated.erase (.cell c) } } (.cell c)).releaseGraphs

theorem reintegrate_cell (d : Dev) (c : CellId) : d.reintegrate (.cell c) = (d.resetCell c).endIsolation c := by
  unfold Dev.reintegrate
  simp only [unitCells, List.foldl_cons, List.foldl_nil, Dev.unitLinks]
  generalize d.resetCell c = r
  rfl

theorem endIsolation_flt (h : d.flt.isolated = [.cell c]) : (d.endIsolation c).flt = { d.flt with isolated := [] } := by
  simp [Dev.endIsolation, Dev.unisolateCells, Dev.releaseGraphs, unitCells, h, Dev.modCell, Dev.setCell]

theorem releaseGraphs_cell (d : Dev) (c : CellId) : d.releaseGraphs.cell c = d.cell c := rfl

theorem endIsolation_cell (h : d.flt.isolated = [.cell c]) :
    (d.endIsolation c).cell c = { d.cell c with isolated := false } := by
  have hnone : ({ d with flt := { d.flt with isolated := d.flt.isolated.erase (.cell c) } } : Dev).unisolateCells (.cell c) =
      ({ d with flt := { d.flt with isolated := d.flt.isolated.erase (.cell c) } } : Dev).modCell c
        fun x => { x with isolated := false } := by simp [Dev.unisolateCells, unitCells, h]
  rw [Dev.endIsolation, hnone, releaseGraphs_cell, Dev.cell_modCell_self]
  rfl

theorem endTest_cell (h : d.flt.testing = [.cell c]) :
    d.endTest (.cell c) = Dev.modCell { d with flt := { d.flt with testing := [] } } c fun x => { x with resetting := false } := by
  simp [Dev.endTest, unitCells, h]

/-- A cell back in service. -/
theorem reintegrationDone_pass (htesting : d.flt.testing = [.cell c]) (hisolated : d.flt.isolated = [.cell c]) :
    (reintegrationDone (.cell c) true d).flt.testing = [] ∧ (reintegrationDone (.cell c) true d).flt.isolated = [] ∧
    ∃ x : Cell, ∃ now, (reintegrationDone (.cell c) true d).cell c = { x.emptied now with isolated := false, resetting := false } := by
  obtain ⟨x, now, hx⟩ := resetCell_cell d c
  have hi := (resetCell_calm d c).isolated.trans hisolated
  have ht := (resetCell_calm d c).testing.trans htesting
  have hacts : reintegrationDone (.cell c) true d = (d.reintegrate (.cell c)).endTest (.cell c) := by
    simp [reintegrationDone, htesting]
  rw [hacts, reintegrate_cell]
  generalize d.resetCell c = r at hx hi ht
  have hflt := endIsolation_flt hi
  have hcell := endIsolation_cell hi
  rw [endTest_cell (by rw [hflt]; exact ht)]
  generalize r.endIsolation c = e at hflt hcell
  refine ⟨rfl, congrArg Flt.isolated hflt, x, now, ?_⟩
  rw [Dev.cell_modCell_self, ← hx]
  exact congrArg (fun x : Cell => { x with resetting := false }) hcell

theorem reintegrationDone_fail (htesting : d.flt.testing = [.cell c]) :
    reintegrationDone (.cell c) false d =
      { d with flt := { d.flt with failed := d.flt.failed ++ [DevUnit.cell c], testing := [] } }.modCell c fun x =>
        { x with resetting := false } := by
  simp [reintegrationDone, htesting, Dev.endTest, unitCells]

theorem cell_setResetting (b : Bool) (c : CellId) : ∀ (cs : List CellId) (d : Dev), (d.setResetting cs b).cell c =
    if c ∈ cs then { d.cell c with resetting := b } else d.cell c
  | [], _ => by simp [Dev.setResetting]
  | k :: cs, d => by
    rw [Dev.setResetting, List.foldl_cons, ← Dev.setResetting, cell_setResetting b c cs, Dev.cell_modCell]
    by_cases hk : c = k
    · simp [hk]
    · simp [hk]

theorem unitResetDone_cell (htesting : d.flt.testing = []) (c : CellId) : (unitResetDone u d).cell c =
    if c ∈ unitCells u then { d.cell c with resetting := false } else d.cell c := by
  rw [unitResetDone, htesting]
  exact cell_setResetting ..

end

/-! ### Dead targets (R309) -/

section
variable {d : Dev} {n : ClusterId}

theorem tgtDead_rests (h : d.targetWaits (.crossbar n) = false) : tgtDead (.crossbar n) d = d := by simp [tgtDead, h]

/-- A target listed as dead. -/
def Dev.listDead (d : Dev) (t : Target) : Dev := { d with fab := { d.fab with dead := d.fab.dead ++ [t] } }

theorem tgtDead_acts {t : Target} (hnew : d.fab.dead.contains t = false) (hwaits : d.targetWaits t = true) :
    tgtDead t d = ((d.listDead t).isolate (.target t)).fault rMshErr 4 68 [.target t] [] := by
  simp only [tgtDead, hnew, hwaits]
  rfl

theorem targetWaits_crossbar {since : Nat} (h : mfind d.fab.waits (8 * n.toNat + 4) = some since)
    (hlong : since + 10000 * d.fld rTmocfg 0 16 + 10000 ≤ d.clock.run) : d.targetWaits (.crossbar n) = true := by
  have hkey : n.toNat * 8 + 4 = 8 * n.toNat + 4 := by omega
  simp [Dev.targetWaits, targetOuts, hkey, h, hlong]

end

/-- Settles O50: each stage is the isolation of its units and the abort of the graphs that touch them, which the frame lemmas of units
and graphs follow; what closes an episode is read off its definition. -/
theorem faultyUnitsAreContainedAndReturn : Obligations.FaultyUnitsAreContainedAndReturn := by
  unfold Obligations.FaultyUnitsAreContainedAndReturn
  intro s hdies
  refine ⟨fun p hopen => ⟨fun h => exec_idle hdies rfl (stage1_rests hopen (stageDue_eq_false h)),
      fun h => exec_idle hdies rfl (stage2_rests hopen (stageDue_eq_false h))⟩, ?_, ?_, ?_, ?_, ?_, ?_, ?_⟩
  case refine_1 =>
    intro p c g x hdue hset hcauses hiso hgraphs hmask hfree
    exact ⟨_, onDies_next hdies rfl, rfl, rfl, stage1_cell hdue hset hcauses hiso hgraphs hmask hfree⟩
  case refine_2 =>
    intro p hdue hnone
    exact ⟨_, onDies_next hdies rfl, rfl, rfl, stage2_quiesces hdue hnone⟩
  case refine_3 =>
    intro p hopen hquiet hacked test recov
    exact ⟨onDies_next hdies (episodeClose_closes hopen hquiet hacked), fun u hu => of_mem_toTest hu⟩
  case refine_4 =>
    intro c htesting hisolated
    refine ⟨?_, onDies_next hdies (reintegrationDone_fail htesting)⟩
    obtain ⟨ht, hi, x, now, hx⟩ := reintegrationDone_pass htesting hisolated
    refine ⟨_, onDies_next hdies rfl, rfl, rfl, ht, hi, ?_, ?_, ?_, ?_⟩
    · rw [hx]
    · rw [hx]
    · rw [hx]
      rfl
    · rw [hx]
      exact fun e he => (List.mem_filter.mp he).2
  case refine_5 =>
    intro u htesting
    exact ⟨_, onDies_next hdies rfl, rfl, rfl, unitResetDone_cell htesting⟩
  case refine_6 =>
    exact fun n hrests => exec_idle hdies rfl (tgtDead_rests hrests)
  case refine_7 =>
    intro n since hnew hiso hwaits hlong
    refine ⟨_, onDies_next hdies (tgtDead_acts hnew (targetWaits_crossbar hwaits hlong)), rfl, rfl, ?_⟩
    have hcalm := fault_calm ((s.dev.listDead (.crossbar n)).isolate (.target (.crossbar n))) rMshErr 4 68 [.target (.crossbar n)] []
    have hisolates := (isolate_isolates (d := s.dev.listDead (.crossbar n)) hiso).steady hcalm.toSteady
    have hdead := hisolates.dead
    refine ⟨hdead, ?_, fun c => ?_⟩
    · rw [Dev.isoTarget, hdead]
      simp [Dev.listDead]
    · rw [hisolates.cells, decide_eq_decide.mpr (show c ∈ unitCells (.target (.crossbar n)) ↔ cellCluster c = n from mem_clusterCells)]
      rfl

end Sys2Proof.Machine
end

section
/-! A microsecond of time: what the device does by itself then leaves the clocks; settles EmptyQueuePassesMicrosecond. -/

namespace Sys2Proof.Machine

open Sys2Proof.Claims

/-! ### The root's commands (R350, R357) -/

section
variable (d : Dev)

theorem setRoll_calm (r : Roll) : Calm d (d.setRoll r) := .of_rest

theorem nextTag_calm : Calm d d.nextTag := .of_rest

theorem rearm_calm : Calm d d.rearm := .of_rest

theorem flip_calm : Calm d d.flip := .of_rest

theorem sendPath_calm (sub : BitVec 4) (path : List LinkId) (newId : BitVec 16) (w : Word) : Calm d (d.sendPath sub path newId w) := by
  unfold Dev.sendPath
  split
  · exact .refl d
  · next l _ => exact (Calm.ite (toLink_calm ..) (.refl d) : Calm d (d.sendId l _)).trans (nextTag_calm _)

theorem setReqs_calm (l : List FobReq) : Calm d { d with fbn := { d.fbn with reqs := l } } := .of_rest

theorem sendCmd_calm (r : Roll) (c : RouteCmd) : Calm d (d.sendCmd r c) := by
  unfold Dev.sendCmd
  exact ((setRoll_calm ..).trans (setReqs_calm _ _)).trans (.ite (sendPath_calm ..) ((nextTag_calm _).trans (sendFob_calm ..)))

theorem fobWrite_calm (bank : Bool) (first n : Nat) (e : BitVec 16) : Calm d (d.fobWrite bank first n e).1 := by
  unfold Dev.fobWrite
  split
  · exact .refl d
  · split
    · exact .refl d
    · exact .of_rest

theorem setRetireWait_calm (b : Bool) : Calm d { d with fbn := { d.fbn with retireWait := b } } := .of_rest

theorem nodeFlip_calm : Calm d d.nodeFlip.1 := by
  unfold Dev.nodeFlip
  split
  · exact .refl d
  · exact (flip_calm d).trans (setRetireWait_calm _ true)

theorem routeOp_calm (sub : Nat) (bank : Bool) (first n : Nat) (e : BitVec 16) : Calm d (d.routeOp sub bank first n e).1 := by
  unfold Dev.routeOp
  split
  · exact fobWrite_calm ..
  · exact nodeFlip_calm d
  · exact .refl d
  · exact .of_rest

theorem runLocal_calm (stage : RollStage) : ∀ (cs : List RouteCmd) (d : Dev), Calm d (d.runLocal stage cs).1
  | [], d => .refl d
  | c :: cs, d => by
    unfold Dev.runLocal
    split
    · exact .refl d
    · exact (routeOp_calm ..).trans (runLocal_calm stage cs _)

theorem rollNext_calm : ∀ (n : Nat) (d : Dev) (r : Roll), Calm d (d.rollNext r n)
  | 0, d, r => setRoll_calm d r
  | n + 1, d, r => by
    unfold Dev.rollNext
    refine (runLocal_calm r.stage r.cmds d).trans ?_
    dsimp only
    split
    · exact .ite (setRoll_calm ..) (sendCmd_calm ..)
    · split
      · exact setRoll_calm ..
      · exact rollNext_calm n ..
      · exact rollNext_calm n ..
      · exact (rearm_calm _).trans (rollNext_calm n ..)
      · exact rollNext_calm n ..
      · exact .ite (rollNext_calm n ..) (setRoll_calm ..)
      · exact .of_rest

theorem rollTick_calm : Calm d d.rollTick := by
  unfold Dev.rollTick
  split
  · exact .refl d
  · exact .ite (rollNext_calm ..) (.refl d)

end

/-! ### Restores and stalls -/

section
variable (d : Dev)

theorem finishRestore_calm : Calm d d.finishRestore := by
  unfold Dev.finishRestore
  refine .ite ?_ (.refl d)
  exact Calm.trans .of_rest (.foldl (fun d x => finish_calm d 0 x stOk 0) _ { d with mgt := { d.mgt with restoring := false } })

theorem raise_calm (c : CellId) (who : Option (BitVec 3)) (g : GraphId) (src : Nat) (k : Carried) : Calm d (d.raise c who g src k) := by
  unfold Dev.raise
  dsimp only
  split
  · have hcreated : ∀ place, Calm d ((d.addRecord c g src k none place).cellCreate c g (d.colour c g)) := fun _ =>
      (modEv_calm ..).trans (cellCreate_calm ..)
    split
    · exact (hcreated _).trans (modLane_calm ..)
    · exact hcreated _
  · exact .refl d

theorem tryRaise_calm {e : Dev} {c : CellId} {g : GraphId} {src : Nat} {k : Carried} (h : d.tryRaise c g src k = some e) : Calm d e := by
  unfold Dev.tryRaise at h
  split at h
  · cases h
  · exact Option.some.inj h ▸ raise_calm ..

theorem raiseStall_steady (g : GraphId) : Steady d (d.raiseStall g) := by
  unfold Dev.raiseStall
  split
  · exact .refl d
  · split
    · exact .refl d
    · split
      · exact .refl d
      · split
        · exact .refl d
        · next e hraise => exact (tryRaise_calm d hraise).toSteady.trans (modGraph_steady ..)

theorem raiseStalls_steady : Steady d d.raiseStalls :=
  .foldl (fun d (x : Nat × Graph) => raiseStall_steady d (BitVec.ofNat 6 x.1)) d.graphs d

theorem abortAll_steady : Steady d d.abortAll :=
  (show Calm d { d with flt := { d.flt with absorbed := [] } } from .of_rest).toSteady.trans
    (.foldl abortGraph_steady d.flt.absorbed _)

theorem abortCause_steady (a : AbortCause) : Steady d (d.abortCause a) := by
  unfold Dev.abortCause
  split
  · exact abortGraph_steady ..
  · exact abortWhere_steady ..
  · exact abortWhere_steady ..
  · exact abortWhere_steady ..

theorem isolateUnits_clock : ∀ (l : List DevUnit) (d : Dev), (l.foldl (fun d u => d.isolate u) d).clock = d.clock
  | [], _ => rfl
  | u :: l, d => (isolateUnits_clock l _).trans (isolate_clock d u)

theorem contain_clock (p : Episode) : (d.contain p).clock = d.clock := by
  rw [contain_steps]
  have haborts := (abortWhere_steady (p.set_.foldl (fun d u => d.isolate u) (d.takeCauses p)) fun _ x => p.set_.any x.touches).trans
    (.foldl abortCause_steady p.causes _)
  exact haborts.clock.trans (isolateUnits_clock p.set_ _)

theorem containNew_clock : d.containNew.clock = d.clock := by
  unfold Dev.containNew
  split
  · rfl
  · split
    · exact contain_clock ..
    · rfl

/-- What comes due by itself takes no time. -/
theorem settle_clock : d.settle.clock = d.clock := by
  unfold Dev.settle
  dsimp only
  generalize hstaged : Dev.applyStaged _ rArbcfg = e
  have hclock : e.clock = d.clock := by rw [← hstaged, applyStaged_clock]
  have hsteady := ((abortAll_steady e.containNew).trans (rollTick_calm _).toSteady).trans (finishRestore_calm _).toSteady
  exact ((hsteady.trans (raiseStalls_steady _)).clock.trans (containNew_clock e)).trans hclock


end

theorem tick_stopped {d : Dev} (h : d.diesStop = true) : d.tick = { d with clock := { d.clock with aon := d.clock.aon + 1000 } } := by
  rw [Dev.tick, if_pos h]

theorem tick_clock {d : Dev} (h : d.diesStop = false) :
    d.tick.clock = { aon := d.clock.aon + 1000, run := d.clock.run + 1000, core := d.coreTick } := by
  rw [Dev.tick, if_neg (by simp [h]), settle_clock]
  rfl

/-- Settles O2: the step with an empty queue is the device's tick, whose clocks the rest of the tick leaves. -/
theorem emptyQueuePassesMicrosecond : Obligations.EmptyQueuePassesMicrosecond := by
  unfold Obligations.EmptyQueuePassesMicrosecond
  intro s hempty
  refine ⟨_, step_nil hempty, hempty, rfl, ?_, tick_stopped, fun hruns => by rw [tick_clock hruns]⟩
  cases hstop : s.dev.diesStop with
  | true => rw [tick_stopped hstop]
  | false => rw [tick_clock hstop]

end Sys2Proof.Machine
end

section
/-! Resets of the host interface, the freeze pin and the clocks (R408, R454, R457, R458, R473): settles HostResetsFreezePinsAndClocks. -/

namespace Sys2Proof.Machine

open Sys2Proof.Claims

/-! ### The dies' part of a function reset -/

section
variable (d : Dev)

/-- A register that neither enables a ring pair nor a port. -/
theorem setReg_calm {k : Nat} (hport : ∀ p : BitVec 4, rFbp p.toNat ≠ k) (hk : ∀ r : BitVec 12, rRcfg r.toNat ≠ k) (v : Word) :
    Calm d (d.setReg k v) :=
  .of_rest (hports := fun p => by rw [Dev.portEn, Dev.fld, Dev.reg_setReg_ne d v (hport p)]; rfl) (hpairs := fun r h => by
    obtain ⟨hpairs, hcfg⟩ := pairClear_iff.mp h
    exact pairClear_iff.mpr ⟨hpairs, not_lists_mset (hk r) _ _ hcfg⟩)

theorem resetQmap_calm (g : GraphId) (c : CellId) : Calm d (d.resetQmap g c) := by
  refine .foldl (fun d i => setReg_calm d (fun p => ?_) (fun r => ?_) _) [0, 1] d
  · have hp := p.isLt
    unfold rFbp rQmap rCel
    omega
  · have hr := r.isLt
    unfold rRcfg rQmap rCel
    omega

theorem unloadGraph_steady (g : GraphId) (who : Option (BitVec 12 × Nat)) : Steady d (d.unloadGraph g who) := by
  unfold Dev.unloadGraph
  split
  · exact .refl d
  · exact ((resetGraph_steady ..).trans (.foldl (fun d c => (resetQmap_calm d g (BitVec.ofNat 10 c)).toSteady) _ _)).trans
      (modGraph_steady ..)

theorem endGraph_steady (g : GraphId) : Steady d (d.endGraph g) := (modGraph_steady ..).trans (unloadGraph_steady ..)

theorem endFn_steady (fn : GraphId) : Steady d (d.endFn fn) := by
  unfold Dev.endFn
  exact ((Steady.foldl endGraph_steady _ d).trans (.foldl (fun d k => (modStack_calm d k _).toSteady) _ _)).trans
    (abandon_calm ..).toSteady

theorem endAll_steady : Steady d d.endAll := .foldl (fun d n => endFn_steady d (BitVec.ofNat 6 n)) _ d

end

/-! ### The interface's part -/

section
variable {d : Dev} {r : BitVec 12} {fn : GraphId}

theorem not_lists_filter {α : Type} {i : Nat} {m : Map α} {p : Nat × α → Bool} (h : ∀ x ∈ m, x.1 = i → p x = false) :
    lists (m.filter p) i = false := by
  refine List.any_eq_false.mpr fun x hx => ?_
  obtain ⟨hmem, hp⟩ := List.mem_filter.mp hx
  simp only [decide_eq_true_eq]
  intro hi
  rw [h x hmem hi] at hp
  cases hp

theorem not_lists_filter_of_not {α : Type} {i : Nat} {m : Map α} (p : Nat × α → Bool) (h : lists m i = false) :
    lists (m.filter p) i = false :=
  not_lists_filter fun x hx hi => absurd (decide_eq_true hi) (List.any_eq_false.mp h x hx)

theorem offRing_rRcfg (r : BitVec 12) : offRing (rRcfg r.toNat % 2 ^ 32) = some (.pair r) := by
  have hr := r.isLt
  have hring : (0x30018 + 32 * r.toNat - 0x30000) / 32 = r.toNat := by omega
  have hpair : (decide (0x30000 ≤ 0x30018 + 32 * r.toNat) && decide (0x30018 + 32 * r.toNat < 0x50000)) = true := by
    simp
    omega
  rw [rRcfg, Nat.mod_eq_of_lt (by omega), offRing, if_pos hpair, hring, BitVec.ofNat_toNat, BitVec.setWidth_eq]

theorem fnKey_rRcfg (h : d.pairFn r = fn) : d.fnKey fn (rRcfg r.toNat) = true := by
  rw [Dev.fnKey, offRing_rRcfg]
  exact decide_eq_true h

/-- A function's reset empties its own ring pairs. -/
theorem resetFn_clears (h : d.pairFn r = fn) : (d.resetFn fn).pairClear r = true := by
  refine pairClear_iff.mpr ⟨not_lists_filter fun x _ hx => ?_, not_lists_filter fun x _ hx => ?_⟩
  · simp [hx, h]
  · simp [hx, fnKey_rRcfg h]

theorem resetFn_pairs (fn : GraphId) (h : d.pairClear r = true) : (d.resetFn fn).pairClear r = true := by
  obtain ⟨hpairs, hcfg⟩ := pairClear_iff.mp h
  exact pairClear_iff.mpr ⟨not_lists_filter_of_not _ hpairs, not_lists_filter_of_not _ hcfg⟩

theorem resetFn_pairFn (d : Dev) (fn : GraphId) : (d.resetFn fn).hif.pairFn = d.hif.pairFn := rfl

/-- What resets functions one by one: it keeps the assignments and clears the ring pairs of each. -/
structure FnReset (g : Dev → GraphId → Dev) : Prop where
  pairFn : ∀ d fn, (g d fn).hif.pairFn = d.hif.pairFn
  clears : ∀ d fn r, d.pairFn r = fn → (g d fn).pairClear r = true
  pairs : ∀ d fn r, d.pairClear r = true → (g d fn).pairClear r = true

theorem resetFn_fnReset : FnReset Dev.resetFn := ⟨resetFn_pairFn, fun _ _ _ => resetFn_clears, fun _ fn _ => resetFn_pairs fn⟩

theorem endFn_fnReset : FnReset fun d fn => (d.resetFn fn).endFn fn where
  pairFn := fun _ _ => (endFn_steady ..).pairFn
  clears := fun _ _ r h => (endFn_steady ..).pairs r (resetFn_clears h)
  pairs := fun _ fn r h => (endFn_steady ..).pairs r (resetFn_pairs fn h)

theorem FnReset.foldl_pairFn {g : Dev → GraphId → Dev} (h : FnReset g) : ∀ (l : List GraphId) (d : Dev),
    (l.foldl g d).hif.pairFn = d.hif.pairFn
  | [], _ => rfl
  | fn :: l, d => (h.foldl_pairFn l _).trans (h.pairFn d fn)

theorem FnReset.foldl_clears {g : Dev → GraphId → Dev} (h : FnReset g) : ∀ (l : List GraphId) (d : Dev),
    d.pairFn r ∈ l ∨ d.pairClear r = true → (l.foldl g d).pairClear r = true
  | [], _, hr => hr.resolve_left (by simp)
  | fn :: l, d, hr => by
    refine h.foldl_clears l (g d fn) ?_
    have hsame : (g d fn).pairFn r = d.pairFn r := by rw [Dev.pairFn, h.pairFn]; rfl
    rcases hr with hmem | hclear
    · rcases List.mem_cons.mp hmem with hfn | hmem
      · exact .inr (h.clears d fn r hfn)
      · exact .inl (hsame ▸ hmem)
    · exact .inr (h.pairs d fn r hclear)

/-- The 64 functions. -/
def allFns : List GraphId := (List.range 64).map (BitVec.ofNat 6)

theorem mem_allFns (fn : GraphId) : fn ∈ allFns :=
  List.mem_map.mpr ⟨fn.toNat, List.mem_range.mpr fn.isLt, BitVec.eq_of_toNat_eq (by simp)⟩

theorem fnResets_runs (hdies : d.diesStop = false) (l : List (Option GraphId)) :
    d.fnResets l = l.foldl (fun d fn => (d.hostPart fn).diePart fn) d := by
  obtain ⟨hfrozen, hoff⟩ := Bool.or_eq_false_iff.mp hdies
  rw [Dev.fnResets, hoff, hfrozen]
  rfl

theorem fnResets_some (hdies : d.diesStop = false) (l : List GraphId) :
    d.fnResets (l.map some) = l.foldl (fun d fn => (d.resetFn fn).endFn fn) d := by
  rw [fnResets_runs hdies, List.foldl_map]
  rfl

/-- Ring pairs of the functions reset are at their reset values, and stay assigned. -/
theorem fnResets_resets (hdies : d.diesStop = false) {l : List GraphId} (hfn : fn ∈ l) :
    (∀ r, d.pairFn r = fn → (d.fnResets (l.map some)).pair r = pairReset ∧ (d.fnResets (l.map some)).pairEn r = false) ∧
    ∀ r, (d.fnResets (l.map some)).pairFn r = d.pairFn r := by
  rw [fnResets_some hdies]
  refine ⟨fun r hr => ?_, fun r => ?_⟩
  · have hclear := endFn_fnReset.foldl_clears (r := r) l d (.inl (hr ▸ hfn))
    exact ⟨pair_of_pairClear hclear, pairEn_of_pairClear hclear⟩
  · rw [Dev.pairFn, endFn_fnReset.foldl_pairFn]
    rfl

theorem functionReset_other (hfn : fn ≠ 0) (d : Dev) : functionReset fn d = d.fnResets ([fn].map some) := by
  rw [functionReset, if_neg hfn]
  rfl

theorem hotReset_eq (d : Dev) : hotReset d = d.fnResets (allFns.map some) := by
  rw [hotReset, functionReset, if_pos rfl, allFns, List.map_map]
  rfl

theorem vfClear_one (hfn : fn ≠ 0) (d : Dev) :
    vfClear [fn] d = Dev.fnResets { d with hif := { d.hif with vfEn := false } } ([0, fn].map some) := by
  have hkept : [fn].filter (fun fn => fn ≠ 0) = [fn] := by simpa using hfn
  rw [vfClear, hkept]
  rfl

theorem resetHost_eq (d : Dev) : d.resetHost = { (allFns.foldl Dev.resetFn d).resetLog 64 with
    hif := { (allFns.foldl Dev.resetFn d).hif with pairFn := [], oringFn := [], cellFn := [], window := [], tlps := [] } } := by
  rw [allFns, List.foldl_map]
  rfl

theorem perst_eq (hdies : d.diesStop = false) : perst d = d.resetHost.endAll := by
  rw [perst, fnResets_runs hdies, List.foldl_cons, List.foldl_nil, Dev.hostPart, Dev.diePart]

theorem perst_resets (hdies : d.diesStop = false) (r : BitVec 12) :
    (perst d).pair r = pairReset ∧ (perst d).pairEn r = false ∧ (perst d).pairFn r = 0 := by
  have hclear := resetFn_fnReset.foldl_clears (r := r) allFns d (.inl (mem_allFns _))
  rw [perst_eq hdies, resetHost_eq]
  generalize allFns.foldl Dev.resetFn d = e at hclear
  have hsteady := endAll_steady { e.resetLog 64 with
    hif := { e.hif with pairFn := [], oringFn := [], cellFn := [], window := [], tlps := [] } }
  have hend := hsteady.pairs r hclear
  refine ⟨pair_of_pairClear hend, pairEn_of_pairClear hend, ?_⟩
  rw [Dev.pairFn, hsteady.pairFn]
  rfl

end

/-! ### Freezes and clocks -/

section
variable {d e : Dev}

theorem thaw_frozen {was : Bool} (h : d.frozen = true) : d.thaw was = d := by
  refine if_neg ?_
  simp [h]

/-- The end of a freeze that puts no reset off. -/
theorem thaw_released (hnow : d.frozen = false) (hnone : d.flt.resetAtResume = []) : d.thaw true = d.resumeLinks := by
  have hsame : ({ d with flt := { d.flt with resetAtResume := [] } } : Dev) = d := by rw [← hnone]
  rw [Dev.thaw, hnow]
  refine (if_pos rfl).trans ?_
  rw [hsame, hnone]
  rfl

theorem fnResets_waits (hfrozen : d.frozen = true) (hhub : d.hubRuns = false) (hon : d.pwr.off = false)
    (l : List (Option GraphId)) : d.fnResets l = { d with flt := { d.flt with
      resetAtResume := d.flt.resetAtResume ++ l.map fun fn => { fn := fn, host := true } } } := by
  simp [Dev.fnResets, hfrozen, hhub, hon]

theorem freezeHigh_frozen (h : d.flt.freezeLatch = true ∨ d.flt.clockLatch = true) :
    freezeHigh d = { d with flt := { d.flt with freezePinLow := false } } :=
  thaw_frozen (by rcases h with h | h <;> simp [Dev.frozen, h])

theorem freezeHigh_released (hlatch : d.flt.freezeLatch = false) (hclock : d.flt.clockLatch = false) (hlow : d.flt.freezePinLow = true)
    (hnone : d.flt.resetAtResume = []) :
    freezeHigh d = Dev.resumeLinks { d with flt := { d.flt with freezePinLow := false } } := by
  have hwas : d.frozen = true := by simp [Dev.frozen, hlow]
  rw [freezeHigh, hwas]
  exact thaw_released (by simp [Dev.frozen, hlatch, hclock]) hnone

theorem pclkRestored_frozen (h : d.flt.freezeLatch = true ∨ d.flt.freezePinLow = true) :
    pclkRestored d = { d with mgt := { d.mgt with pclk := true }, flt := { d.flt with clockLatch := false } } :=
  thaw_frozen (by rcases h with h | h <;> simp [Dev.frozen, h])

theorem pclkRestored_released (hlatch : d.flt.freezeLatch = false) (hpin : d.flt.freezePinLow = false) (hclock : d.flt.clockLatch = true)
    (hnone : d.flt.resetAtResume = []) :
    pclkRestored d = Dev.resumeLinks { d with mgt := { d.mgt with pclk := true }, flt := { d.flt with clockLatch := false } } := by
  have hwas : d.frozen = true := by simp [Dev.frozen, hclock]
  rw [pclkRestored, hwas]
  exact thaw_released (by simp [Dev.frozen, hlatch, hpin]) hnone

/-- A link that loses its clock. -/
def Link.unclocked (x : Link) (now : Nat) : Link :=
  if x.st = .disabled ∨ x.st = .isolated then x else x.restart .detect now

/-- FCLK_LOSS at one link. -/
def Dev.unclock (d : Dev) (l : LinkId) : Dev :=
  if (d.link l).st = .disabled || (d.link l).st = .isolated then d else d.linkTo l .detect

theorem unclock_relinked {l : LinkId} (h : (d.link l).retry = []) :
    Relinked d l (d.unclock l) ((d.link l).unclocked d.clock.run) := by
  unfold Dev.unclock Link.unclocked
  by_cases hst : (d.link l).st = .disabled ∨ (d.link l).st = .isolated
  · rw [if_pos hst, if_pos (by simpa using hst)]
    exact .refl d l
  · rw [if_neg hst, if_neg (by simpa using hst)]
    exact (Relinked.refl d l).linkTo h .detect

theorem unclock_mgt {l : LinkId} (h : (d.link l).retry = []) : (d.unclock l).mgt = d.mgt := by
  unfold Dev.unclock
  split
  · rfl
  · rw [Dev.linkTo, loseFlits_of_acked h]
    rfl

theorem foldl_unclock {k : LinkId} : ∀ {ls : List LinkId} {d : Dev}, ls.Nodup → (∀ l ∈ ls, (d.link l).retry = []) →
    (ls.foldl Dev.unclock d).mgt = d.mgt ∧
    (ls.foldl Dev.unclock d).link k = if k ∈ ls then (d.link k).unclocked d.clock.run else d.link k
  | [], _, _, _ => ⟨rfl, rfl⟩
  | l :: ls, d, hnodup, hretry => by
    obtain ⟨hl, hls⟩ := List.nodup_cons.mp hnodup
    have hfirst := unclock_relinked (hretry l (by simp))
    obtain ⟨hmgt, hlink⟩ := foldl_unclock (k := k) (d := d.unclock l) hls fun m hm => by
      rw [hfirst.others m fun h => hl (h ▸ hm)]
      exact hretry m (by simp [hm])
    rw [List.foldl_cons, hlink]
    refine ⟨hmgt.trans (unclock_mgt (hretry l (by simp))), ?_⟩
    by_cases hk : k = l
    · rw [if_neg (hk ▸ hl), if_pos (by simp [hk]), hk, hfirst.link]
    · simp only [hfirst.others k hk, hfirst.clock, List.mem_cons, hk, false_or]

theorem mem_allLinks (l : LinkId) : l ∈ allLinks :=
  List.mem_map.mpr ⟨l.toNat, List.mem_range.mpr l.isLt, BitVec.eq_of_toNat_eq (by simp)⟩

theorem nodup_allLinks : allLinks.Nodup := by
  refine List.nodup_range.map_on fun i hi j hj h => ?_
  have := congrArg BitVec.toNat h
  simp only [BitVec.toNat_ofNat] at this
  rw [List.mem_range] at hi hj
  omega

theorem fclkLoss_runs (hdies : d.diesStop = false) :
    fclkLoss d = allLinks.foldl Dev.unclock { d with mgt := { d.mgt with fclk := false } } := by
  refine if_neg ?_
  rw [show ({ d with mgt := { d.mgt with fclk := false } } : Dev).diesStop = d.diesStop from rfl, hdies]
  exact Bool.false_ne_true

theorem fclkLoss_stopped (hdies : d.diesStop = true) : fclkLoss d = { d with mgt := { d.mgt with fclk := false } } := if_pos hdies

end

/-- A command that resets some functions, as one of them sees it. -/
theorem exec_fnResets {s : State} {c : Instr} {e : Dev} {fn : GraphId} {l : List GraphId}
    (hexec : exec c s = .next { s with dev := e.fnResets (l.map some) }) (hdies : e.diesStop = false)
    (hsame : e.hif.pairFn = s.dev.hif.pairFn) (hfn : fn ∈ l) :
    ∃ t, exec c s = .next t ∧ t.hbm = s.hbm ∧ t.pending = s.pending ∧
      (∀ r, s.dev.pairFn r = fn → t.dev.pair r = pairReset ∧ t.dev.pairEn r = false) ∧
      ∀ r, t.dev.pairFn r = s.dev.pairFn r := by
  have hfns : ∀ r, e.pairFn r = s.dev.pairFn r := fun r => by rw [Dev.pairFn, hsame]; rfl
  obtain ⟨hpairs, hkept⟩ := fnResets_resets hdies hfn
  exact ⟨_, hexec, rfl, rfl, fun r hr => hpairs r ((hfns r).trans hr), fun r => (hkept r).trans (hfns r)⟩

theorem exec_freezeNHigh {s : State} {e : Dev} (h : freezeHigh s.dev = e) :
    exec .freezeNHigh s = .next { s with dev := e.drainTlps } := h ▸ rfl

theorem exec_pclkRestored {s : State} {e : Dev} (h : pclkRestored s.dev = e) :
    exec .pclkRestored s = .next { s with dev := e.drainTlps } := h ▸ rfl

/-- Settles O53: a function reset empties the ring pairs assigned to it, and what ends its graphs and locks leaves an empty ring pair
alone; the pin and the clocks are read off their definitions. -/
theorem hostResetsFreezePinsAndClocks : Obligations.HostResetsFreezePinsAndClocks := by
  unfold Obligations.HostResetsFreezePinsAndClocks
  refine ⟨?resets, ?waits, ?pins⟩
  case resets =>
    intro s fn hfn hdies c hc
    simp only [List.mem_cons, List.not_mem_nil, or_false] at hc
    rcases hc with rfl | rfl | rfl | rfl
    · exact exec_fnResets (e := s.dev) (onAlways_next (functionReset_other hfn s.dev)) hdies rfl (by simp)
    · exact exec_fnResets (e := s.dev) (onAlways_next (hotReset_eq s.dev)) hdies rfl (mem_allFns fn)
    · exact exec_fnResets (e := { s.dev with hif := { s.dev.hif with vfEn := false } }) (onAlways_next (vfClear_one hfn s.dev))
        hdies rfl (by simp)
    · refine ⟨_, rfl, rfl, rfl, fun r _ => ?_, fun r => ?_⟩
      · obtain ⟨hpair, hen, -⟩ := perst_resets hdies r
        exact ⟨hpair, hen⟩
      · exact (perst_resets hdies r).2.2
  case waits =>
    intro s fn hfn hfrozen hhub hon
    exact ⟨onAlways_next ((functionReset_other hfn s.dev).trans (fnResets_waits hfrozen hhub hon _)),
      onAlways_next (fnResets_waits hfrozen hhub hon [none])⟩
  case pins =>
    intro s f pin clock
    refine ⟨rfl, fun h => ?_, fun hlatch hclock hlow hnone => ?_, rfl, fun h => ?_, fun hlatch hpin hclock hnone => ?_, rfl,
      fun hstop => onAlways_next (fclkLoss_stopped hstop), fun hdies hretry => ?_⟩
    · exact exec_freezeNHigh (freezeHigh_frozen h)
    · exact exec_freezeNHigh (freezeHigh_released hlatch hclock hlow hnone)
    · exact exec_pclkRestored (pclkRestored_frozen h)
    · exact exec_pclkRestored (pclkRestored_released hlatch hpin hclock hnone)
    · have hlinks := fun l => foldl_unclock (k := l) (d := { s.dev with mgt := { s.dev.mgt with fclk := false } }) nodup_allLinks
        fun l _ => hretry l
      refine ⟨_, onAlways_next (fclkLoss_runs hdies), rfl, rfl, ?_, fun l => ?_⟩
      · rw [(hlinks 0).1]
      · rw [(hlinks l).2, if_pos (mem_allLinks l)]
        rfl

end Sys2Proof.Machine
end

section
/-! Supply, module resets and start-up (R450, R462, R463, R470, R475, R478): settles SupplyEventsStopAndRestart. -/

namespace Sys2Proof.Machine

open Sys2Proof.Claims

/-! ### What a start-up leaves -/

/-- The module's own counts: self-resets, and recoveries. -/
def Dev.counts (d : Dev) : BitVec 16 × BitVec 16 := (d.flt.selfRst, d.flt.recov)

/-- A start-up with no flits on links leaves these as they were. -/
structure StartKeeps (d e : Dev) : Prop where
  graphs : e.graphs = d.graphs
  cells : e.cells = d.cells
  cfg : e.regs.cfg = d.regs.cfg
  fbn : e.fbn = d.fbn
  tshut : e.pwr.tshut = d.pwr.tshut
  ovlo : e.pwr.ovlo = d.pwr.ovlo
  nv : e.mgt.nv = d.mgt.nv
  da : e.mgt.da = d.mgt.da
  counts : e.counts = d.counts

section
variable {d e f : Dev} {g : Hbm}

theorem StartKeeps.trans (h : StartKeeps d e) (k : StartKeeps e f) : StartKeeps d f where
  graphs := k.graphs.trans h.graphs
  cells := k.cells.trans h.cells
  cfg := k.cfg.trans h.cfg
  fbn := k.fbn.trans h.fbn
  tshut := k.tshut.trans h.tshut
  ovlo := k.ovlo.trans h.ovlo
  nv := k.nv.trans h.nv
  da := k.da.trans h.da
  counts := k.counts.trans h.counts

theorem FaultFrame.startKeeps (h : FaultFrame d e) (hcounts : e.counts = d.counts) : StartKeeps d e :=
  ⟨h.graphs, h.cells, h.cfg, h.fbn, by rw [h.pwr], by rw [h.pwr], by rw [h.mgt], by rw [h.mgt], hcounts⟩

theorem setSticky_counts (d : Dev) (k : Nat) (m : Reg) : (d.setSticky k m).counts = d.counts := keeps_ite rfl rfl

theorem ibiSend_counts (d : Dev) (b : Byte) : (d.ibiSend b).counts = d.counts := keeps_ite rfl rfl

theorem episodeNotice_counts (d : Dev) (n : Nat) : (d.episodeNotice n).counts = d.counts :=
  msix_keeps Dev.counts (fun _ _ _ _ => rfl) (fun _ _ => rfl) ..

theorem onSeverity_counts (d : Dev) (o n : Nat) : (d.onSeverity o n).counts = d.counts := keeps_ite rfl rfl

theorem occur_counts (d : Dev) (sev : Nat) (u : List DevUnit) (c : List AbortCause) : (d.occur sev u c).counts = d.counts := by
  unfold Dev.occur
  split
  · exact (((onSeverity_counts ..).trans (ibiSend_counts ..)).trans (episodeNotice_counts ..)).trans rfl
  · dsimp only
    split
    · exact ((onSeverity_counts ..).trans (episodeNotice_counts ..)).trans rfl
    · rfl

theorem faultOnly_counts (d : Dev) (s : Nat) (u : List DevUnit) (c : List AbortCause) : (d.faultOnly s u c).counts = d.counts :=
  keeps_ite rfl (keeps_ite ((occur_counts ..).trans (setSticky_counts ..)) (setSticky_counts ..))

theorem fault_counts (d : Dev) (k b s : Nat) (u : List DevUnit) (c : List AbortCause) : (d.fault k b s u c).counts = d.counts :=
  keeps_ite rfl ((faultOnly_counts ..).trans (setSticky_counts ..))

theorem fault_startKeeps (d : Dev) (k b s : Nat) (u : List DevUnit) (c : List AbortCause) : StartKeeps d (d.fault k b s u c) :=
  (fault_frame ..).startKeeps (fault_counts ..)

/-- Only the management core's own state changes. -/
theorem setMgt_startKeeps (d : Dev) (m : Mgt) (hnv : m.nv = d.mgt.nv) (hda : m.da = d.mgt.da) : StartKeeps d { d with mgt := m } :=
  ⟨rfl, rfl, rfl, rfl, rfl, rfl, hnv, hda, rfl⟩

theorem selectPatch_startKeeps (d : Dev) (l : List (Nat × Upset)) : StartKeeps d (d.selectPatch l) := by
  unfold Dev.selectPatch
  split
  · exact setMgt_startKeeps d _ rfl rfl
  · dsimp only
    split
    · exact setMgt_startKeeps d _ rfl rfl
    · refine StartKeeps.trans (setMgt_startKeeps d _ ?_ ?_) (fault_startKeeps ..)
      · rfl
      · rfl

theorem selectPatch_links (d : Dev) (l : List (Nat × Upset)) : (d.selectPatch l).links = d.links := by
  unfold Dev.selectPatch
  split
  · rfl
  · dsimp only
    split
    · rfl
    · exact (fault_frame ..).links

theorem selectCal_links (d : Dev) (l : List (Nat × Upset)) : (d.selectCal l).links = d.links := by
  unfold Dev.selectCal
  rfl

theorem selectCal_startKeeps (d : Dev) (l : List (Nat × Upset)) : StartKeeps d (d.selectCal l) := setMgt_startKeeps d _ rfl rfl

/-! ### Start-up (R478) -/

/-- The device at the end of a smooth start-up, before its ports are enabled. -/
def Dev.started (d : Dev) : Dev :=
  { d with
    mgt := { d.mgt with
      phase := 10, pclk := true, fclk := true, ready := true, readyAt := d.clock.aon, ucfgErr := true, ucfgIdx := BitVec.allOnes 32 }
    pwr := { d.pwr with off := false } }

/-- The enabled ports' links leave DISABLED. -/
def Dev.enablePorts (d : Dev) : Dev := (((List.range 16).map (BitVec.ofNat 4)).filter d.portEn).foldl (fun d p => d.enableLinks p) d

theorem startRest_eq {st : Startup} (hst : Smooth st) (hucfg : d.ucfgOk = false) : d.startRest st =
    { d.started.enablePorts.ibiSend 2 with
      flt := { (d.started.enablePorts.ibiSend 2).flt with freezePinLow := st.freezeLow } } := by
  obtain ⟨hpclk, hfclk, hdies, hnv⟩ := hst
  have hpass : (allDies.filter fun k => bit st.failedDies k.toNat) = [] := by
    rw [hdies]
    decide
  have huser : ∀ e : Dev, e.ucfgOk = false → e.applyUser [] =
      { e with mgt := { e.mgt with ucfgErr := true, ucfgIdx := BitVec.allOnes 32 } } := fun e h => by simp [Dev.applyUser, h]
  unfold Dev.startRest
  rw [hpass, hnv, hfclk]
  simp only [List.foldl_nil, List.filter_nil, Dev.nvFaults]
  rw [huser]
  · rfl
  · exact hucfg

theorem enableLinks_steady (d : Dev) (p : BitVec 4) : Steady d (d.enableLinks p) := by
  refine .foldl (fun d l => ?_) _ d
  split
  · exact linkTo_steady ..
  · exact .refl d

theorem enablePorts_steady (d : Dev) : Steady d d.enablePorts := .foldl enableLinks_steady _ d

/-- Links that hold no flits; enabling them changes links alone. -/
def Dev.noFlits (d : Dev) : Prop := ∀ l, (d.link l).retry = []

def OnlyLinks (d e : Dev) : Prop := e.noFlits ∧ ∃ ls, e = { d with links := ls }

theorem OnlyLinks.trans (h : OnlyLinks d e) (k : OnlyLinks e f) : OnlyLinks d f := by
  obtain ⟨-, ls, rfl⟩ := h
  obtain ⟨hnone, ms, rfl⟩ := k
  exact ⟨hnone, ms, rfl⟩

theorem OnlyLinks.foldl {α : Type} {g : Dev → α → Dev} (h : ∀ d a, d.noFlits → OnlyLinks d (g d a)) :
    ∀ (l : List α) {d : Dev}, d.noFlits → OnlyLinks d (l.foldl g d)
  | [], d, hd => ⟨hd, d.links, rfl⟩
  | a :: l, d, hd => (h d a hd).trans (OnlyLinks.foldl h l (h d a hd).1)

theorem linkTo_onlyLinks (h : d.noFlits) (l : LinkId) (st : LinkState) : OnlyLinks d (d.linkTo l st) := by
  have hlinks := (Relinked.refl d l).linkTo (h l) st
  refine ⟨fun k => ?_, ?_⟩
  · by_cases hk : k = l
    · rw [hk, hlinks.link]
      rfl
    · rw [hlinks.others k hk]
      exact h k
  · rw [Dev.linkTo, loseFlits_of_acked (h l)]
    exact ⟨_, rfl⟩

theorem enablePorts_onlyLinks (h : d.noFlits) : OnlyLinks d d.enablePorts := by
  refine OnlyLinks.foldl (fun d p hd => OnlyLinks.foldl (fun d l hd => ?_) _ hd) _ h
  split
  · exact linkTo_onlyLinks hd ..
  · exact ⟨hd, d.links, rfl⟩

/-- A smooth start-up from step 3 on. -/
theorem startRest_starts {st : Startup} (hst : Smooth st) (hucfg : d.ucfgOk = false) :
    (d.startRest st).boot = (d.mgt.nv, true, 10, true, { d.pwr with off := false }, d.fbn.root) ∧
    (d.startRest st).flt.freezePinLow = st.freezeLow := by
  rw [startRest_eq hst hucfg]
  exact ⟨((ibiSend_calm ..).boot.trans (enablePorts_steady _).boot : (d.started.enablePorts.ibiSend 2).boot = d.started.boot), rfl⟩

theorem startRest_startKeeps {st : Startup} (hst : Smooth st) (hucfg : d.ucfgOk = false) (hnone : d.noFlits) :
    StartKeeps d (d.startRest st) := by
  rw [startRest_eq hst hucfg]
  have hstarted : StartKeeps d d.started := ⟨rfl, rfl, rfl, rfl, rfl, rfl, rfl, rfl, rfl⟩
  have hports : StartKeeps d.started d.started.enablePorts := by
    obtain ⟨-, ls, h⟩ := enablePorts_onlyLinks (d := d.started) hnone
    rw [h]
    exact ⟨rfl, rfl, rfl, rfl, rfl, rfl, rfl, rfl, rfl⟩
  have hibi := (ibiSend_frame d.started.enablePorts 2).startKeeps (ibiSend_counts ..)
  exact ((hstarted.trans hports).trans hibi).trans ⟨rfl, rfl, rfl, rfl, rfl, rfl, rfl, rfl, rfl⟩

/-- Before step 3: the clocks seen, the patch and the calibration selected. -/
def Dev.warmed (d : Dev) (st : Startup) : Dev :=
  (Dev.selectPatch { d with
    mgt := { d.mgt with phase := 2, pclk := st.pclk, fclk := st.fclk }, pwr := { d.pwr with hotHold := false } } []).selectCal []

theorem startUp_eq {st : Startup} (hst : Smooth st) (d : Dev) : d.startUp st = (d.warmed st).startRest st := by
  unfold Dev.startUp
  rw [hst.nv]
  exact if_pos hst.pclk

theorem warmed_startKeeps (d : Dev) (st : Startup) : StartKeeps d (d.warmed st) := by
  refine (StartKeeps.trans ?_ (selectPatch_startKeeps ..)).trans (selectCal_startKeeps ..)
  exact ⟨rfl, rfl, rfl, rfl, rfl, rfl, rfl, rfl, rfl⟩

theorem warmed_links (d : Dev) (st : Startup) : (d.warmed st).links = d.links :=
  (selectCal_links ..).trans (selectPatch_links ..)

theorem ucfgOk_congr (h : e.mgt.nv = d.mgt.nv) : e.ucfgOk = d.ucfgOk := by
  rw [Dev.ucfgOk, nvNat_congr h, Dev.nvBytes, nvByte_congr h]
  rfl

/-- A smooth start-up. -/
theorem startUp_starts {st : Startup} (hst : Smooth st) (hucfg : d.ucfgOk = false) :
    (∃ p : Pwr, p.off = false ∧ (d.startUp st).boot = (d.mgt.nv, true, 10, true, p, d.fbn.root)) ∧
    (d.startUp st).flt.freezePinLow = st.freezeLow := by
  have hwarm := warmed_startKeeps d st
  rw [startUp_eq hst, ← hwarm.nv, ← hwarm.fbn]
  obtain ⟨hboot, hpin⟩ := startRest_starts hst ((ucfgOk_congr hwarm.nv).trans hucfg)
  exact ⟨⟨_, rfl, hboot⟩, hpin⟩

theorem startUp_startKeeps {st : Startup} (hst : Smooth st) (hucfg : d.ucfgOk = false) (hnone : d.noFlits) :
    StartKeeps d (d.startUp st) := by
  have hwarm := warmed_startKeeps d st
  rw [startUp_eq hst]
  refine hwarm.trans (startRest_startKeeps hst ((ucfgOk_congr hwarm.nv).trans hucfg) fun l => ?_)
  rw [link_congr (warmed_links d st)]
  exact hnone l

/-- What the boot fields say of a module that has started. -/
theorem started_of_boot {t : State} {st : Startup} {nv : Map Byte} {p : Pwr} {root : Bool}
    (hoff : p.off = false) (hboot : t.dev.boot = (nv, true, 10, true, p, root)) (hpin : t.dev.flt.freezePinLow = st.freezeLow) :
    Started_ t st ∧ t.dev.mgt.nv = nv ∧ t.dev.fbn.root = root := by
  simp only [Dev.boot, Prod.mk.injEq] at hboot
  obtain ⟨hnv, hready, hphase, hpclk, hpwr, hroot⟩ := hboot
  exact ⟨⟨hready, hphase, by rw [hpwr, hoff], hpclk, hpin⟩, hnv, hroot⟩

theorem hbmEmpty_lost : Lost hbmEmpty := fun _ => ⟨rfl, rfl, rfl⟩

/-- The rules of the supply: HBM is lost and the device starts. -/
theorem onSupply_next {s : State} {f : Hbm → Dev → Hbm × Dev} (h : f s.hbm s.dev = (g, e)) :
    onSupply f s = .next { s with hbm := g, dev := e } := by
  rw [onSupply, h]

end

/-! ### The events -/

section
variable {d : Dev} {st : Startup}

theorem heldHot_of_cool (h : d.pwr.hotHold = false) : d.heldHot = false := by simp [Dev.heldHot, h]

theorem powerOn_starts (hphase : d.mgt.phase = 1) (hcool : d.pwr.hotHold = false) (h : Hbm) :
    powerOn st h d = (hbmEmpty, (d.latchStrap st).startUp st) := by
  refine if_pos ?_
  simp [hphase, heldHot_of_cool hcool]

theorem mrst_starts (hphase : d.mgt.phase ≠ 1) (hcool : d.pwr.hotHold = false) (hlow : d.pwr.ovlo = false) (h : Hbm) :
    mrst st h d = (hbmEmpty, (d.moduleReset.latchStrap st).startUp st) := by
  rw [mrst, if_neg (by simpa [heldHot_of_cool hcool] using hphase), if_neg (by simp [hlow])]
  rfl

theorem ovloFall_starts (hhigh : d.pwr.ovlo = true) (hcool : d.pwr.hotHold = false) (h : Hbm) : ovloFall st h d =
    (hbmEmpty, (Dev.railReset { d with pwr := { d.pwr with ovlo := false } }).startUp st) := by
  rw [ovloFall, if_neg (by simp [hhigh])]
  exact if_neg (fun h => Bool.false_ne_true (hcool.symm.trans h))

theorem stage3_starts {p : Episode} (hdue : Due d p 3) (hon : d.fld (rSpint 3) 31 1 = 1) (hdies : d.diesStop = false) (h : Hbm) :
    stage3 st h d = (hbmEmpty, ((d.selfReset.latchStrap st).faultOnly 109 [] []).startUp st) := by
  rw [stage3, hdue.open_]
  refine if_pos ?_
  simp [stageDue_of_due hdue, hon, hdies]

theorem pclkArrival_starts (hphase : d.mgt.phase = 3) (hlow : d.pwr.ovlo = false) (hcool : d.pwr.hotHold = false) :
    pclkArrival st d = d.startRest st := by
  refine if_pos ?_
  simp [hphase, hlow, hcool]

theorem ovloRise_stops (hphase : d.mgt.phase ≠ 1) : ovloRise d =
    { d with pwr := { d.pwr with off := true, ovlo := true }, mgt := { d.mgt with phase := 2, ready := false } } := by
  rw [ovloRise, if_neg hphase, Dev.railsOff, if_neg hphase]

theorem thermalShutdown_rests {n : BitVec 5} {t : BitVec 16} (h : t.toInt < 1840) : thermalShutdown n t d = d := if_neg (by omega)

theorem thermalShutdown_stops {n : BitVec 5} {t : BitVec 16} (h : 1840 ≤ t.toInt) : thermalShutdown n t d =
    { (d.setTemp n t).railsOff with pwr := { (d.setTemp n t).railsOff.pwr with tshut := true, hotHold := true } } := if_pos h

theorem temp_setTemp (n : BitVec 5) (t : BitVec 16) : (d.setTemp n t).temp n.toNat = t.toInt := by
  rw [Dev.temp, Dev.setTemp, mget_mset_self]

/-- The registers that R450 keeps are among those that a self-reset does. -/
theorem selfKept_of_named {k : Nat} (h : k = rLock ∨ k = rFltCfg ∨ k = rQuiet ∨ (∃ n, 1 ≤ n ∧ n ≤ 3 ∧ k = rSpint n) ∨
    ∃ n, n < 8 ∧ k = rFltSev n) : selfKept k = true := by
  rcases h with rfl | rfl | rfl | ⟨n, hlow, hhigh, rfl⟩ | ⟨n, hn, rfl⟩
  · rfl
  · rfl
  · rfl
  · have hcfg : rFltCfg ≤ rSpint n := by unfold rFltCfg rSpint; omega
    have hquiet : rSpint n ≤ rQuiet := by unfold rQuiet rSpint; omega
    simp [selfKept, hcfg, hquiet]
  · have hlow : rFltSev 0 ≤ rFltSev n := by unfold rFltSev; omega
    have hhigh : rFltSev n < rFltSev 8 := by unfold rFltSev; omega
    simp [selfKept, hlow, hhigh]

end

/-- A command of the supply that starts the device; p is what it says of the device beyond that. -/
theorem restarts_of {s : State} {st : Startup} {c : Instr} {f : Hbm → Dev → Hbm × Dev} {d : Dev} {root : Bool} {p : State → Prop}
    (hst : Smooth st) (hucfg : s.dev.ucfgOk = false) (hexec : exec c s = onSupply f s)
    (hf : f s.hbm s.dev = (hbmEmpty, d.startUp st)) (hnv : d.mgt.nv = s.dev.mgt.nv) (hroot : d.fbn.root = root)
    (hp : ∀ t : State, t.dev = d.startUp st → t.dev.fbn.root = root → p t) :
    ∃ t, exec c s = .next t ∧ t.pending = s.pending ∧ Lost t.hbm ∧ t.dev.mgt.nv = s.dev.mgt.nv ∧ Started_ t st ∧ p t := by
  obtain ⟨⟨q, hoff, hboot⟩, hpin⟩ := startUp_starts hst ((ucfgOk_congr hnv).trans hucfg)
  obtain ⟨hstarted, hkept, hlatched⟩ := started_of_boot (t := { s with hbm := hbmEmpty, dev := d.startUp st }) hoff hboot hpin
  exact ⟨_, hexec.trans (onSupply_next hf), rfl, hbmEmpty_lost, hkept.trans hnv, hstarted, hp _ rfl (hlatched.trans hroot)⟩

/-- Settles O52: a start-up keeps what its steps name, and the reset before it has emptied links and graphs. -/
theorem supplyEventsStopAndRestart : Obligations.SupplyEventsStopAndRestart := by
  unfold Obligations.SupplyEventsStopAndRestart
  refine ⟨?starts, ?stops⟩
  case starts =>
    intro s st hst hucfg hcool restarts
    refine ⟨fun hphase => ?_, fun hphase hlow => ?_, fun hhigh => ?_, fun p hdue hon hdies => ?_, fun hphase hlow => ?_⟩
    · exact restarts_of hst hucfg rfl (powerOn_starts hphase hcool s.hbm) rfl rfl fun _ _ hroot => hroot
    · refine restarts_of hst hucfg rfl (mrst_starts hphase hcool hlow s.hbm) rfl rfl fun t ht hroot => ?_
      have hkeeps := startUp_startKeeps (d := s.dev.moduleReset.latchStrap st) hst hucfg fun _ => rfl
      rw [← ht] at hkeeps
      exact ⟨hkeeps.graphs, hkeeps.cells, hroot, hkeeps.tshut, congrArg Fbn.nodeHeld hkeeps.fbn⟩
    · refine restarts_of hst hucfg rfl (ovloFall_starts hhigh hcool s.hbm) rfl rfl fun t ht hroot => ?_
      have hkeeps := startUp_startKeeps (d := Dev.railReset { s.dev with pwr := { s.dev.pwr with ovlo := false } }) hst hucfg
        fun _ => rfl
      rw [← ht] at hkeeps
      exact ⟨hkeeps.graphs, hkeeps.ovlo, (congrArg Fbn.slot hkeeps.fbn).trans rfl, hroot, hkeeps.da⟩
    · have hframe := faultOnly_frame (s.dev.selfReset.latchStrap st) 109 [] []
      have hfault := hframe.startKeeps (faultOnly_counts ..)
      refine restarts_of hst hucfg rfl (stage3_starts hdue hon hdies s.hbm) hfault.nv (congrArg Fbn.root hfault.fbn) fun t ht _ => ?_
      have hkeeps := hfault.trans (startUp_startKeeps hst ((ucfgOk_congr hfault.nv).trans hucfg) fun l => by
        rw [link_congr hframe.links]
        rfl)
      rw [← ht] at hkeeps
      refine ⟨hkeeps.graphs, congrArg Prod.fst hkeeps.counts, congrArg Prod.snd hkeeps.counts, fun x hx hkey => ?_⟩
      rw [hkeeps.cfg]
      exact List.mem_filter.mpr ⟨hx, selfKept_of_named hkey⟩
    · obtain ⟨hboot, hpin⟩ := startRest_starts hst hucfg
      obtain ⟨hstarted, hkept, -⟩ := started_of_boot (t := { s with dev := s.dev.startRest st }) rfl hboot hpin
      exact ⟨_, onAlways_next (pclkArrival_starts hphase hlow hcool), rfl, rfl, hstarted, hkept⟩
  case stops =>
    intro s
    refine ⟨⟨_, rfl, rfl, hbmEmpty_lost, rfl, rfl, rfl, rfl, rfl, rfl, rfl, rfl⟩, fun hphase => onAlways_next (ovloRise_stops hphase),
      fun n temp hcool => onAlways_next (thermalShutdown_rests hcool), fun n temp hhot => ?_⟩
    exact ⟨_, onAlways_next (thermalShutdown_stops hhot), rfl, rfl, rfl, rfl, rfl, temp_setTemp n temp⟩

end Sys2Proof.Machine
end

section
/-! The governor's levers, temperatures, sensors and converter phases (R464 to R471, R474): settles GovernorAndSensorsAct. -/

namespace Sys2Proof.Machine

open Sys2Proof.Claims

/-! ### A link's last flits -/

section
variable (d : Dev) (l : LinkId)

theorem sendCodeword_calm (cw : List Nat) : Calm d (d.sendCodeword l cw) := (modLink_calm ..).trans (emit_calm ..)

theorem intoCodeword_calm (f : RawFlit) : Calm d (d.intoCodeword l f) := by
  unfold Dev.intoCodeword
  exact (Calm.ite (sendCodeword_calm ..) (.refl d)).trans
    (.ite (modLink_calm ..) ((sendCodeword_calm ..).trans (modLink_calm ..)))

theorem sendFlit_calm (hdr : Word) (s : List RawSlot) : Calm d (d.sendFlit l hdr s) :=
  ((setLink_calm ..).trans (emit_calm ..)).trans (intoCodeword_calm ..)

theorem fillCodeword_calm : ∀ (n : Nat) (d : Dev), Calm d (d.fillCodeword l n)
  | 0, d => .refl d
  | n + 1, d => .ite (.refl d) ((sendFlit_calm ..).trans (fillCodeword_calm n _))

theorem sendDown_calm : Calm d (d.sendDown l) := (sendFlit_calm ..).trans (fillCodeword_calm ..)

theorem disableLinks_steady (p : BitVec 4) : Steady d (d.disableLinks p) := by
  refine .foldl (fun d l => Steady.trans ?_ (linkTo_steady ..)) _ d
  exact (Calm.ite (sendDown_calm ..) (.refl d)).toSteady

end

/-! ### Levers (R464 to R466) -/

section
variable {d e : Dev} {vin iin : BitVec 16}

theorem fault_pwr (d : Dev) (k b s : Nat) (u : List DevUnit) (c : List AbortCause) : (d.fault k b s u c).pwr = d.pwr :=
  (fault_frame ..).pwr

/-- The dies noted as running below their points. -/
theorem noteBelow_pwr (d : Dev) : d.noteBelow.pwr = { d.pwr with below := dieMask d.isBelow } := by
  unfold Dev.noteBelow
  dsimp only
  split
  · rfl
  · rw [(ibiSend_frame ..).pwr, fault_pwr]

theorem noteLever_pwr (d : Dev) : ∃ b, d.noteLever.pwr = { d.pwr with capSeen := b } := by
  unfold Dev.noteLever
  split
  · exact ⟨true, fault_pwr ..⟩
  · exact ⟨d.pwr.capSeen, rfl⟩

/-- What is noted after a lever is neither a lever nor a sample. -/
theorem noted_pwr (d : Dev) : ∃ b m, d.noteLever.noteBelow.pwr = { d.pwr with capSeen := b, below := m } := by
  obtain ⟨b, hb⟩ := noteLever_pwr d
  exact ⟨b, _, by rw [noteBelow_pwr, hb]⟩

theorem noteBelow_cfg (d : Dev) : d.noteBelow.regs.cfg = d.regs.cfg := by
  unfold Dev.noteBelow
  dsimp only
  split
  · rfl
  · rw [(ibiSend_frame ..).cfg, (fault_frame ..).cfg]

theorem noteLever_cfg (d : Dev) : d.noteLever.regs.cfg = d.regs.cfg := by
  unfold Dev.noteLever
  split
  · exact (fault_frame ..).cfg
  · rfl

theorem noted_portEn (d : Dev) (p : BitVec 4) : d.noteLever.noteBelow.portEn p = d.portEn p := by
  rw [Dev.portEn, Dev.fld, Dev.reg, noteBelow_cfg, noteLever_cfg]
  rfl

/-- The sample taken, before any lever. -/
def Dev.sampled (d : Dev) (vin iin : BitVec 16) : Dev :=
  if Dev.vincap { d with pwr := { d.pwr with vin := vin, iin := iin } } then { d with pwr := { d.pwr with vin := vin, iin := iin } }
  else { d with pwr := { d.pwr with vin := vin, iin := iin, capSeen := false } }

theorem sampled_eq (d : Dev) (vin iin : BitVec 16) :
    ∃ b, d.sampled vin iin = { d with pwr := { d.pwr with vin := vin, iin := iin, capSeen := b } } := by
  unfold Dev.sampled
  split
  · exact ⟨d.pwr.capSeen, rfl⟩
  · exact ⟨false, rfl⟩

theorem sampled_pwr (d : Dev) (vin iin : BitVec 16) :
    ∃ b, (d.sampled vin iin).pwr = { d.pwr with vin := vin, iin := iin, capSeen := b } := by
  obtain ⟨b, h⟩ := sampled_eq d vin iin
  exact ⟨b, congrArg Dev.pwr h⟩

theorem governorSample_eq (vin iin : BitVec 16) (d : Dev) : governorSample vin iin d =
    if (d.sampled vin iin).inputPower ≤ (d.sampled vin iin).capTenMicro then d.sampled vin iin
    else match (d.sampled vin iin).lever with
      | none => d.sampled vin iin
      | some e => e.noteLever.noteBelow := by
  unfold governorSample Dev.sampled
  rfl

theorem overcurrent_pwr (d : Dev) : ∃ b, (overcurrent d).pwr = { d.pwr with duty := min 4 (d.pwr.duty + 1), capSeen := b } :=
  noteLever_pwr _

/-- One lever taken back: the HBM rate, then the duty, then the ceiling. -/
def Pwr.eased (p : Pwr) : Pwr :=
  if p.hbmStep ≠ 0 then { p with hbmStep := p.hbmStep - 1 }
  else if p.duty ≠ 0 then { p with duty := p.duty - 1 }
  else { p with ceiling := min 6 (p.ceiling + 1) }

theorem governorRelease_rests {est : Nat} (h : ¬est * 10000 * 100 ≤ d.capTenMicro * 97) : governorRelease est d = d :=
  if_pos (by omega)

theorem governorRelease_pwr {est : Nat} (h : est * 10000 * 100 ≤ d.capTenMicro * 97) :
    ∃ m, (governorRelease est d).pwr = { d.pwr.eased with below := m } := by
  have hacts : governorRelease est d = Dev.noteBelow { d with pwr := d.pwr.eased } := if_neg (by omega)
  exact ⟨_, by rw [hacts, noteBelow_pwr]⟩

/-- The cap for a sampled input voltage, in units of 10 µW. -/
def Dev.capAt (d : Dev) (vin : BitVec 16) : Nat :=
  if vin ≠ 0 ∧ vin.toNat * 9500 < d.fld rPwrCfg 16 9 * 100000 then vin.toNat * 9500 else d.fld rPwrCfg 16 9 * 100000

theorem capTenMicro_eq (d : Dev) : d.capTenMicro = d.capAt d.pwr.vin := by
  unfold Dev.capTenMicro Dev.capAt Dev.vincap Dev.budget
  simp only [Bool.and_eq_true, decide_eq_true_eq]

theorem capTenMicro_sampled (d : Dev) (vin iin : BitVec 16) : (d.sampled vin iin).capTenMicro = d.capAt vin := by
  obtain ⟨b, h⟩ := sampled_eq d vin iin
  rw [h, capTenMicro_eq]
  rfl

theorem inputPower_sampled (d : Dev) (vin iin : BitVec 16) : (d.sampled vin iin).inputPower = vin.toNat * iin.toNat := by
  obtain ⟨b, h⟩ := sampled_eq d vin iin
  rw [h]
  rfl

theorem portEn_sampled (d : Dev) (vin iin : BitVec 16) (p : BitVec 4) : (d.sampled vin iin).portEn p = d.portEn p := by
  obtain ⟨b, h⟩ := sampled_eq d vin iin
  rw [h]
  rfl

theorem topPoint_sampled (d : Dev) (vin iin : BitVec 16) : (d.sampled vin iin).topPoint = d.topPoint := by
  obtain ⟨b, h⟩ := sampled_eq d vin iin
  rw [h]
  rfl

/-- Below the cap no lever moves. -/
theorem governorSample_rests (h : vin.toNat * iin.toNat ≤ d.capAt vin) : governorSample vin iin d = d.sampled vin iin := by
  rw [governorSample_eq, inputPower_sampled, capTenMicro_sampled]
  exact if_pos h

/-- Above it the next one does. -/
theorem governorSample_acts (h : d.capAt vin < vin.toNat * iin.toNat) (hlever : (d.sampled vin iin).lever = some e) :
    governorSample vin iin d = e.noteLever.noteBelow := by
  rw [governorSample_eq, inputPower_sampled, capTenMicro_sampled, if_neg (by omega), hlever]

theorem lever_point (h : d.topPoint ≠ 0) : d.lever = some { d with pwr := { d.pwr with ceiling := d.topPoint - 1 } } := if_pos h

theorem lever_duty (h : d.topPoint = 0) (hduty : d.pwr.duty < 4) :
    d.lever = some { d with pwr := { d.pwr with duty := d.pwr.duty + 1 } } := by
  rw [Dev.lever, if_neg (by simp [h]), if_pos hduty]

theorem lever_rate (h : d.topPoint = 0) (hduty : 4 ≤ d.pwr.duty) (hrate : d.pwr.hbmStep < 3) :
    d.lever = some { d with pwr := { d.pwr with hbmStep := d.pwr.hbmStep + 1 } } := by
  rw [Dev.lever, if_neg (by simp [h]), if_neg (by omega), if_pos hrate]

theorem lever_port {p : BitVec 4} (h : d.topPoint = 0) (hduty : 4 ≤ d.pwr.duty) (hrate : 3 ≤ d.pwr.hbmStep)
    (hport : d.topPort = some p) : d.lever = some (d.shedPort p) := by
  rw [Dev.lever, if_neg (by simp [h]), if_neg (by omega), if_neg (by omega), hport]
  rfl

/-- The ports, highest number first. -/
def portsDown : List (BitVec 4) := (List.range 16).reverse.map (BitVec.ofNat 4)

theorem portsDown_split : ∀ p : BitVec 4, portsDown =
    portsDown.takeWhile (fun m => p.toNat < m.toNat) ++ p :: (portsDown.dropWhile fun m => p.toNat < m.toNat).tail := by
  decide

/-- The enabled port above which none is. -/
theorem topPort_eq {p : BitVec 4} (hen : d.portEn p = true) (hnone : ∀ m : BitVec 4, p.toNat < m.toNat → d.portEn m = false) :
    d.topPort = some p := by
  refine List.find?_eq_some_iff_append.mpr ⟨hen, _, _, portsDown_split p, fun m hm => ?_⟩
  have habove := List.mem_takeWhile_imp hm
  simp [hnone m (by simpa using habove)]

theorem Steady.pwr (h : Steady d e) : e.pwr = d.pwr := by
  have hboot := h.boot
  simp only [Dev.boot, Prod.mk.injEq] at hboot
  exact hboot.2.2.2.2.1

/-- A port shed: its EN cleared, and its links disabled. -/
def Dev.unport (d : Dev) (p : BitVec 4) : Dev :=
  (d.setReg (rFbp p.toNat) (setBits (d.reg (rFbp p.toNat)) 0 1 0)).disableLinks p

theorem shedPort_eq (d : Dev) (p : BitVec 4) : d.shedPort p = { d.unport p with pwr := { (d.unport p).pwr with
    shed := if (d.unport p).pwr.shed.contains p.toNat then (d.unport p).pwr.shed else (d.unport p).pwr.shed ++ [p.toNat] } } := rfl

theorem nbits_setBits_zero (w : Word) : nbits (setBits w 0 1 0) 0 1 = 0 := by
  have hw := w.isLt
  simp only [nbits, setBits, BitVec.toNat_ofNat, Nat.shiftRight_eq_div_pow, Nat.shiftLeft_eq]
  omega

theorem portEn_shedPort (d : Dev) (p : BitVec 4) : (d.shedPort p).portEn p = false := by
  have hen : (d.shedPort p).portEn p = (d.unport p).portEn p := rfl
  rw [hen, Dev.unport, (disableLinks_steady ..).ports, Dev.portEn, Dev.fld, Dev.reg_setReg_self, nbits_setBits_zero]
  rfl

theorem shedPort_pwr (d : Dev) (p : BitVec 4) : ∃ l, (d.shedPort p).pwr = { d.pwr with shed := l } ∧ p.toNat ∈ l := by
  have hpwr : (d.unport p).pwr = d.pwr := (disableLinks_steady ..).pwr
  rw [shedPort_eq, hpwr]
  refine ⟨_, rfl, ?_⟩
  split
  · next h => exact List.contains_iff_mem.mp h
  · simp

end

/-! ### Temperatures (R468 to R471) -/

section
variable {d e : Dev} {n : BitVec 5} {t : BitVec 16} {k : DieId}

theorem temp_setTemp_ne (d : Dev) {m : Nat} (hm : m ≠ n.toNat) (t : BitVec 16) : (d.setTemp n t).temp m = d.temp m := by
  rw [Dev.temp, Dev.setTemp, mget_mset_ne _ _ _ hm]
  rfl

/-- A die one thermal step slower: its point, at P0 its duty. -/
def Pwr.heated (p : Pwr) (k : DieId) : Pwr :=
  if mget 0 p.thermal k.toNat < 6 then { p with thermal := mset 0 p.thermal k.toNat (mget 0 p.thermal k.toNat + 1) }
  else { p with thermalDuty := mset 0 p.thermalDuty k.toNat (min 4 (mget 0 p.thermalDuty k.toNat + 1)) }

theorem thermalStep_eq (hdie : n.toNat < 24) (hworks : bit d.pwr.fails n.toNat = false) : thermalStep n t d =
    if t.toInt < 1600 then d.setTemp n t
    else Dev.noteBelow { d.setTemp n t with pwr := (d.setTemp n t).pwr.heated (sensorDie n) } := by
  have hread : (d.setTemp n t).dieTemp (sensorDie n) n.toNat = t.toInt := by
    rw [Dev.dieTemp, if_neg (by simpa [Dev.setTemp] using hworks), temp_setTemp]
  rw [thermalStep, if_neg (by omega)]
  simp only [hworks, Bool.false_eq_true, if_false, hread]
  rfl

theorem thermal_heated (p : Pwr) (k : DieId) : mget 0 (p.heated k).thermal k.toNat =
    if mget 0 p.thermal k.toNat < 6 then mget 0 p.thermal k.toNat + 1 else mget 0 p.thermal k.toNat := by
  unfold Pwr.heated
  split
  · rw [mget_mset_self]
  · rfl

theorem thermalDuty_heated (p : Pwr) (k : DieId) : mget 0 (p.heated k).thermalDuty k.toNat =
    if mget 0 p.thermal k.toNat < 6 then mget 0 p.thermalDuty k.toNat else min 4 (mget 0 p.thermalDuty k.toNat + 1) := by
  unfold Pwr.heated
  split
  · rfl
  · rw [mget_mset_self]

theorem temps_heated (p : Pwr) (k : DieId) : (p.heated k).temps = p.temps := by
  unfold Pwr.heated
  split <;> rfl

/-- Readings taken one after another. -/
def Dev.readings (d : Dev) (l : List (Nat × BitVec 16)) : Dev :=
  l.foldl (fun d x => if bit d.pwr.fails x.1 then d else d.setTemp (BitVec.ofNat 5 x.1) x.2) d

/-- Below a limit, readings of working sensors leave no listed sensor above it. -/
theorem readings_below {limit : Int} : ∀ (l : List (Nat × BitVec 16)) (d : Dev),
    (∀ x ∈ l, x.1 < 32 ∧ bit d.pwr.fails x.1 = false ∧ x.2.toInt < limit) →
    (∃ m, (d.readings l).pwr = { d.pwr with temps := m }) ∧
    ∀ i, i ∈ l.map Prod.fst ∨ d.temp i < limit → (d.readings l).temp i < limit
  | [], d, _ => ⟨⟨d.pwr.temps, rfl⟩, fun _ h => h.resolve_left (by simp)⟩
  | x :: l, d, h => by
    obtain ⟨hlt, hworks, hx⟩ := h x (by simp)
    obtain ⟨hpwr, hbelow⟩ := readings_below l (d.setTemp (BitVec.ofNat 5 x.1) x.2) fun y hy => h y (by simp [hy])
    have hstep : d.readings (x :: l) = (d.setTemp (BitVec.ofNat 5 x.1) x.2).readings l := by
      rw [Dev.readings, List.foldl_cons, if_neg (by simp [hworks])]
      rfl
    have hn : (BitVec.ofNat 5 x.1).toNat = x.1 := by simpa using hlt
    rw [hstep]
    refine ⟨hpwr, fun i hi => hbelow i ?_⟩
    by_cases hix : i = x.1
    · right
      have hread := temp_setTemp (d := d) (BitVec.ofNat 5 x.1) x.2
      rw [hn] at hread
      rwa [hix, hread]
    · rw [temp_setTemp_ne d (by rwa [hn])]
      simpa [hix] using hi

theorem hottest_below {limit : Int} (hpos : 0 < limit) : ∀ {l : List Int}, (∀ x ∈ l, x < limit) → (hottest l).getD 0 < limit
  | [], _ => hpos
  | a :: l, h => by
    have hfold : ∀ (l : List Int) (a : Int), a < limit → (∀ x ∈ l, x < limit) → l.foldl max a < limit := fun l => by
      induction l with
      | nil => exact fun a ha _ => ha
      | cons b l ih => exact fun a ha h => ih _ (max_lt ha (h b (by simp))) fun x hx => h x (by simp [hx])
    exact hfold l a (h a (by simp)) fun x hx => h x (by simp [hx])

/-- A die one thermal step faster: its duty, then its point. -/
def Pwr.cooled (p : Pwr) (k : DieId) : Pwr :=
  if mget 0 p.thermalDuty k.toNat ≠ 0 then { p with thermalDuty := mset 0 p.thermalDuty k.toNat (mget 0 p.thermalDuty k.toNat - 1) }
  else { p with thermal := mset 0 p.thermal k.toNat (mget 0 p.thermal k.toNat - 1) }

theorem thermalDuty_cooled (p : Pwr) (k : DieId) :
    mget 0 (p.cooled k).thermalDuty k.toNat = mget 0 p.thermalDuty k.toNat - 1 := by
  unfold Pwr.cooled
  split
  · rw [mget_mset_self]
  · next h =>
    show mget 0 p.thermalDuty k.toNat = _
    omega

theorem thermal_cooled (p : Pwr) (k : DieId) : mget 0 (p.cooled k).thermal k.toNat =
    if mget 0 p.thermalDuty k.toNat ≠ 0 then mget 0 p.thermal k.toNat else mget 0 p.thermal k.toNat - 1 := by
  unfold Pwr.cooled
  split
  · rfl
  · rw [mget_mset_self]

theorem thermalRelease_eq (k : DieId) (temps : List (BitVec 16)) (d : Dev) : thermalRelease k temps d =
    if (d.readings ((dieSensors k).zip temps)).tmax k < 1552 then
      Dev.noteBelow { d.readings ((dieSensors k).zip temps) with pwr := (d.readings ((dieSensors k).zip temps)).pwr.cooled k }
    else d.readings ((dieSensors k).zip temps) := rfl

/-- All sensors of a die read below 97.0 °C. -/
theorem thermalRelease_acts {temps : List (BitVec 16)} (hlen : temps.length = 6) (hcool : ∀ x ∈ temps, BitVec.toInt x < 1552)
    (hworks : ∀ i < 6, bit d.pwr.fails (6 * k.toNat + i) = false) :
    ∃ m b, (thermalRelease k temps d).pwr = { Pwr.cooled { d.pwr with temps := m } k with below := b } := by
  have hk := k.isLt
  have hsensors : ((dieSensors k).zip temps).map Prod.fst = dieSensors k := List.map_fst_zip (by simp [dieSensors, hlen])
  have hsensor : ∀ i ∈ dieSensors k, i < 32 ∧ bit d.pwr.fails i = false := fun i hi => by
    obtain ⟨j, hj, rfl⟩ := List.mem_map.mp hi
    rw [List.mem_range] at hj
    exact ⟨by omega, hworks j hj⟩
  obtain ⟨⟨m, hpwr⟩, hbelow⟩ := readings_below (limit := 1552) ((dieSensors k).zip temps) d fun x hx => by
    obtain ⟨hfst, hsnd⟩ := List.of_mem_zip hx
    exact ⟨(hsensor _ hfst).1, (hsensor _ hfst).2, hcool _ hsnd⟩
  have htmax : (d.readings ((dieSensors k).zip temps)).tmax k < 1552 := by
    refine hottest_below (by decide) fun x hx => ?_
    obtain ⟨i, hi, rfl⟩ := List.mem_map.mp hx
    rw [Dev.dieTemp, if_neg (by rw [hpwr]; simp [(hsensor i hi).2])]
    exact hbelow i (.inl (by rwa [hsensors]))
  exact ⟨m, _, by rw [thermalRelease_eq, if_pos htmax, noteBelow_pwr, hpwr]⟩

/-! ### Stacks and sensors (R468, R471) -/

/-- A stack's mark of a halved rate by its temperature. -/
def Pwr.stackAt (p : Pwr) (k : DieId) (t : Int) : BitVec 4 :=
  if 1520 ≤ t then p.hbmHot ||| (1#4 <<< k.toNat) else if t < 1472 then p.hbmHot &&& ~~~(1#4 <<< k.toNat) else p.hbmHot

theorem hbmThermal_eq (k : DieId) (t : BitVec 16) (d : Dev) : hbmThermal (BitVec.ofNat 5 (24 + k.toNat)) t d =
    { d with pwr := { (d.setTemp (BitVec.ofNat 5 (24 + k.toNat)) t).pwr with hbmHot := d.pwr.stackAt k t.toInt } } := by
  have hk := k.isLt
  have hn : (BitVec.ofNat 5 (24 + k.toNat)).toNat = 24 + k.toNat := by
    rw [BitVec.toNat_ofNat]
    omega
  have hmark : 24 + k.toNat - 24 = k.toNat := by omega
  have hstack : (decide (24 + k.toNat < 24) || decide (28 ≤ 24 + k.toNat)) = false := by
    simp
    omega
  unfold hbmThermal Pwr.stackAt
  rw [hn, hstack, hmark]
  simp only [Bool.false_eq_true, if_false]
  split
  · rfl
  · split <;> rfl

theorem bit_dieMark : ∀ k j : DieId, (1#4 <<< k.toNat).getLsbD j.toNat = decide (j = k) := by decide

theorem stackAt_bit (p : Pwr) (k j : DieId) (t : Int) : bit (p.stackAt k t) j.toNat =
    if j ≠ k then bit p.hbmHot j.toNat else if 1520 ≤ t then true else if t < 1472 then false else bit p.hbmHot j.toNat := by
  have hj : j.toNat < 4 := j.isLt
  have hset : (p.hbmHot ||| (1#4 <<< k.toNat)).getLsbD j.toNat = (p.hbmHot.getLsbD j.toNat || decide (j = k)) := by
    rw [BitVec.getLsbD_or, bit_dieMark]
  have hclear : (p.hbmHot &&& ~~~(1#4 <<< k.toNat)).getLsbD j.toNat = (p.hbmHot.getLsbD j.toNat && !decide (j = k)) := by
    rw [BitVec.getLsbD_and, BitVec.getLsbD_not, bit_dieMark, decide_eq_true hj, Bool.true_and]
  unfold Pwr.stackAt bit
  by_cases hhot : 1520 ≤ t
  · rw [if_pos hhot, hset]
    by_cases hjk : j = k <;> simp [hjk, hhot]
  · rw [if_neg hhot]
    by_cases hcool : t < 1472
    · rw [if_pos hcool, hclear]
      by_cases hjk : j = k <;> simp [hjk, hhot, hcool]
    · rw [if_neg hcool]
      by_cases hjk : j = k <;> simp [hjk, hhot, hcool]

/-- A sensor's mark of a failure cleared, or set. -/
theorem bit_clearMark : ∀ (x : BitVec 32) (n : BitVec 5), bit (x &&& ~~~(1#32 <<< n.toNat)) n.toNat = false := by
  intro x n
  simp [bit, BitVec.getLsbD_and, BitVec.getLsbD_not]

theorem sensorReading_good (h : -640 ≤ t.toInt ∧ t.toInt ≤ 2400) : sensorReading n (some t) d =
    Dev.setTemp { d with pwr := { d.pwr with fails := d.pwr.fails &&& ~~~(1#32 <<< n.toNat) } } n t := by
  obtain ⟨hlow, hhigh⟩ := h
  refine if_neg ?_
  simp
  omega

theorem sensorReading_bad {r : Option (BitVec 16)} (h : ∀ t, r = some t → ¬(-640 ≤ t.toInt ∧ t.toInt ≤ 2400)) :
    sensorReading n r d =
      Dev.fault { d with pwr := { d.pwr with fails := d.pwr.fails ||| (1#32 <<< n.toNat) } } rPwrErr 2 101 [] [] := by
  cases r with
  | none => rfl
  | some t =>
    have hbad := h t rfl
    refine if_pos ?_
    simp
    omega

theorem off_of_hubRuns (h : d.hubRuns = true) : d.pwr.off = false := by
  simp only [Dev.hubRuns, Bool.and_eq_true, Bool.not_eq_true'] at h
  exact h.1

/-- A die's rails off. -/
def Dev.cutDie (d : Dev) (k : DieId) : Dev := { d with pwr := { d.pwr with dieOff := d.pwr.dieOff ||| (1#4 <<< k.toNat) } }

theorem Isolates.pwr {us : List DevUnit} {cs : List CellId} (h : Isolates us cs d e) : e.pwr = d.pwr := by
  have hboot := h.boot
  simp only [Dev.boot, Prod.mk.injEq] at hboot
  exact hboot.2.2.2.2.1

/-- CONV of a die. -/
theorem converter_die (h : d.isoUnit (.die k) = false) :
    Isolates [.die k] (unitCells (.die k)) (d.cutDie k) (converter (.die k) d) :=
  (isolate_isolates (d := d.cutDie k) h).steady (fault_calm ..).toSteady

theorem dieOff_cutDie (d : Dev) (k : DieId) : bit (d.cutDie k).pwr.dieOff k.toNat = true := by
  rw [bit, Dev.cutDie, BitVec.getLsbD_or, bit_dieMark]
  simp

end

/-! ### Running -/

section
variable {s : State} {c : Instr} {f : Dev → Dev}

theorem governs_of {q : State → Prop} (hhub : s.dev.hubRuns = true) (hexec : exec c s = onHub f s)
    (hq : q { s with dev := f s.dev }) : Governs s c q := ⟨_, hexec.trans (onHub_acts f hhub), rfl, rfl, hq⟩

/-- GOVERNOR_SAMPLE with a lever to apply: what holds of the sample and of the levers after it. -/
theorem governs_lever {vin iin : BitVec 16} {e : Dev} {q : State → Prop} (hhub : s.dev.hubRuns = true)
    (habove : s.dev.capAt vin < vin.toNat * iin.toNat) (hlever : (s.dev.sampled vin iin).lever = some e)
    (hvin : e.pwr.vin = vin) (hiin : e.pwr.iin = iin)
    (hq : ∀ t : State, t.dev = e.noteLever.noteBelow → t.dev.pwr.ceiling = e.pwr.ceiling → t.dev.pwr.duty = e.pwr.duty →
      t.dev.pwr.hbmStep = e.pwr.hbmStep → t.dev.pwr.shed = e.pwr.shed → q t) :
    Governs s (.governorSample vin iin) fun t => t.dev.pwr.vin = vin ∧ t.dev.pwr.iin = iin ∧ q t := by
  refine governs_of hhub rfl ?_
  rw [governorSample_acts habove hlever]
  obtain ⟨b, m, hpwr⟩ := noted_pwr e
  exact ⟨by rw [hpwr, ← hvin], by rw [hpwr, ← hiin], hq _ rfl (by rw [hpwr]) (by rw [hpwr]) (by rw [hpwr]) (by rw [hpwr])⟩

theorem exec_sensor {n : BitVec 5} {r : Option (BitVec 16)} (hhub : s.dev.hubRuns = true) :
    exec (.sensor n r) s = .next { s with dev := sensorReading n r s.dev } := by
  have hexec : exec (.sensor n r) s = execSensor n r s := rfl
  rw [hexec, execSensor]
  refine onAlways_next ?_
  rw [off_of_hubRuns hhub, if_neg Bool.false_ne_true, if_pos hhub]

end

/-- Settles O54: each command's power state is read off its lever or step; what it notes afterwards is neither a lever nor a reading. -/
theorem governorAndSensorsAct : Obligations.GovernorAndSensorsAct := by
  unfold Obligations.GovernorAndSensorsAct
  intro s hhub hdies p kept
  refine ⟨?sample, ?release, ?comparator, ?dies, ?cooling, ?stack, ?sensors, ?converters, onHub_next hhub rfl⟩
  case sample =>
    intro vin iin budget cap top does
    obtain ⟨b, hsampled⟩ := sampled_pwr s.dev vin iin
    have htop := topPoint_sampled s.dev vin iin
    have hceiling : (s.dev.sampled vin iin).pwr.ceiling = p.ceiling := by rw [hsampled]
    have hduty : (s.dev.sampled vin iin).pwr.duty = p.duty := by rw [hsampled]
    have hrate : (s.dev.sampled vin iin).pwr.hbmStep = p.hbmStep := by rw [hsampled]
    refine ⟨fun hlow => ?_, fun habove => ⟨fun h => ?_, fun h hd => ?_, fun h hd hr => ?_, fun n h hd hr hen hnone => ?_⟩⟩
    · refine governs_of hhub rfl ?_
      rw [governorSample_rests hlow]
      exact ⟨by rw [hsampled], by rw [hsampled], by rw [hsampled], by rw [hsampled], by rw [hsampled]⟩
    · exact governs_lever hhub habove (lever_point (htop ▸ h)) (by rw [hsampled]) (by rw [hsampled])
        fun t _ hc hd hr _ => ⟨hc.trans (congrArg (· - 1) htop), hd.trans hduty, hr.trans hrate⟩
    · exact governs_lever hhub habove (lever_duty (htop.trans h) (hduty.trans_lt hd)) (by rw [hsampled]) (by rw [hsampled])
        fun t _ hc hd hr _ => ⟨hc.trans hceiling, hd.trans (congrArg (· + 1) hduty), hr.trans hrate⟩
    · exact governs_lever hhub habove (lever_rate (htop.trans h) (hd.trans_eq hduty.symm) (hrate.trans_lt hr))
        (by rw [hsampled]) (by rw [hsampled])
        fun t _ hc hd hr _ => ⟨hc.trans hceiling, hd.trans hduty, hr.trans (congrArg (· + 1) hrate)⟩
    · have hport := topPort_eq (d := s.dev.sampled vin iin) ((portEn_sampled ..).trans hen) fun m hm =>
        (portEn_sampled ..).trans (hnone m hm)
      obtain ⟨l, hpwr, hshed⟩ := shedPort_pwr (s.dev.sampled vin iin) n
      refine governs_lever hhub habove (lever_port (htop.trans h) (hd.trans_eq hduty.symm) (hr.trans_eq hrate.symm) hport)
        (by rw [hpwr, hsampled]) (by rw [hpwr, hsampled]) fun t ht hc hd hr hs => ⟨⟨hc.trans ?_, hd.trans ?_, hr.trans ?_⟩, ?_, ?_⟩
      · rw [hpwr, hsampled]
      · rw [hpwr, hsampled]
      · rw [hpwr, hsampled]
      · rw [ht, noted_portEn, portEn_shedPort]
      · rw [hs, hpwr]
        exact hshed
  case release =>
    intro est low
    refine ⟨fun h => onHub_next hhub (governorRelease_rests h), fun h => governs_of hhub rfl ?_⟩
    obtain ⟨m, hpwr⟩ := governorRelease_pwr h
    simp only [levers, hpwr, Pwr.eased]
    split
    · exact ⟨rfl, rfl, rfl⟩
    · split
      · exact ⟨rfl, rfl, rfl⟩
      · exact ⟨rfl, rfl, rfl⟩
  case comparator =>
    refine governs_of hhub rfl ?_
    obtain ⟨b, hpwr⟩ := overcurrent_pwr s.dev
    exact ⟨by rw [hpwr], by rw [hpwr], by rw [hpwr]⟩
  case dies =>
    intro n temp hdie hworks k steps
    refine ⟨fun hcool => ?_, fun hhot => ?_, fun hhot => ?_, fun hcool => ?_⟩
    · refine governs_of hhub rfl ?_
      rw [thermalStep_eq hdie hworks, if_pos hcool]
      exact ⟨temp_setTemp n temp, rfl, rfl⟩
    · refine governs_of hhub rfl ?_
      rw [thermalStep_eq hdie hworks, if_neg (by omega)]
      have hpwr := noteBelow_pwr { s.dev.setTemp n temp with pwr := (s.dev.setTemp n temp).pwr.heated k }
      refine ⟨?_, ?_, ?_⟩
      · rw [Dev.temp, hpwr]
        exact (congrArg (fun m => (mget 0 m n.toNat).toInt) (temps_heated ..)).trans (temp_setTemp (d := s.dev) n temp)
      · rw [hpwr]
        exact thermal_heated ..
      · rw [hpwr]
        exact thermalDuty_heated ..
    · refine onHub_next hhub (if_neg ?_)
      simp
      omega
    · refine onHub_next hhub (if_pos ?_)
      simp
      omega
  case cooling =>
    intro k temps hlen hcool hworks
    obtain ⟨m, b, hpwr⟩ := thermalRelease_acts hlen hcool hworks
    refine governs_of hhub rfl ?_
    rw [hpwr]
    exact ⟨thermalDuty_cooled { s.dev.pwr with temps := m } k, thermal_cooled { s.dev.pwr with temps := m } k⟩
  case stack =>
    intro k temp n
    refine governs_of hhub rfl ?_
    rw [hbmThermal_eq]
    exact ⟨temp_setTemp (d := s.dev) n temp, fun j => stackAt_bit s.dev.pwr k j temp.toInt⟩
  case sensors =>
    intro n r good
    refine ⟨fun temp hr hgood => ?_, fun hbad => ?_⟩
    case refine_2 =>
      rw [exec_sensor hhub, sensorReading_bad hbad]
      rfl
    subst hr
    refine ⟨_, exec_sensor hhub, rfl, rfl, ?_⟩
    rw [sensorReading_good hgood]
    exact ⟨temp_setTemp n temp, bit_clearMark s.dev.pwr.fails n⟩
  case converters =>
    intro k hiso
    refine governs_of hhub rfl ?_
    have hisolates := converter_die hiso
    have hoff : bit (converter (.die k) s.dev).pwr.dieOff k.toNat = true := by rw [hisolates.pwr, dieOff_cutDie]
    refine ⟨hoff, ?_, ?_, fun c hc => ?_⟩
    · rw [Dev.isoUnit, hisolates.units, List.contains_iff_mem]
      exact List.mem_append_right _ (List.mem_singleton.mpr rfl)
    · rw [Dev.stackIso, hoff, Bool.or_true]
    · rw [hisolates.cells, decide_eq_true (mem_unitCells.mpr (by simpa [unitHas] using hc)), Bool.true_or]

end Sys2Proof.Machine
end
